-- ==== Sys2Proof/Word.lean ====
section
/-! DEFINITION. The word types of the part and the plainest arithmetic on them: 32-bit registers (R4), bytes,
48-byte digests (R372), and the sparse sorted tables in which the model keeps maps by number. -/

namespace Sys2Proof

/-- A register of the BAR0 space is 32 bits wide. -/
abbrev Word := BitVec 32
/-- A byte. -/
abbrev Byte := BitVec 8
/-- A SHA-384 digest, 48 bytes. -/
abbrev Digest := BitVec 384

/-- A table kept by number: strictly rising keys. -/
abbrev Tab (α : Type) := List (Nat × α)

/-- The entry of key `k`, if the table lists one. -/
def tget {α : Type} : Tab α → Nat → Option α
  | [], _ => none
  | (a, x) :: r, k => if a = k then some x else tget r k

/-- The entry of key `k`, or `d`. -/
def tgetD {α : Type} (t : Tab α) (k : Nat) (d : α) : α := (tget t k).getD d

/-- Set the entry of key `k`, keeping the keys in rising order. -/
def tput {α : Type} : Tab α → Nat → α → Tab α
  | [], k, v => [(k, v)]
  | (a, x) :: r, k, v =>
    if k < a then (k, v) :: (a, x) :: r
    else if k = a then (k, v) :: r
    else (a, x) :: tput r k v

/-- Remove the entry of key `k`. -/
def tdel {α : Type} : Tab α → Nat → Tab α
  | [], _ => []
  | (a, x) :: r, k => if a = k then tdel r k else (a, x) :: tdel r k

/-- Set an entry, or remove it when the new value is the one an unlisted key stands for. -/
def tputD {α : Type} [DecidableEq α] (t : Tab α) (k : Nat) (v d : α) : Tab α :=
  if v = d then tdel t k else tput t k v

/-- Bit `i` of a natural number. -/
def bit (v i : Nat) : Bool := v / 2 ^ i % 2 = 1

/-- Set bit `i`. -/
def setBit (v i : Nat) : Nat := if bit v i then v else v + 2 ^ i

/-- Clear bit `i`. -/
def clrBit (v i : Nat) : Nat := if bit v i then v - 2 ^ i else v

/-- Write bit `i`. -/
def putBit (v i : Nat) (b : Bool) : Nat := if b then setBit v i else clrBit v i

/-- A Boolean as a one-bit number. -/
def b2n (b : Bool) : Nat := if b then 1 else 0

/-- The bits `hi … lo` of a number. -/
def bits (v lo w : Nat) : Nat := v / 2 ^ lo % 2 ^ w

/-- How many of bits 0 to `n - 1` are set. -/
def popcount (v : Nat) : Nat → Nat
  | 0 => 0
  | n + 1 => popcount v n + b2n (bit v n)

/-- The numbers below `n` whose bit is set, rising. -/
def bitList (v n : Nat) : List Nat := (List.range n).filter (bit v)

/-- A number from the bits a predicate sets, below `n`. -/
def maskOf (n : Nat) (p : Nat → Bool) : Nat :=
  (List.range n).foldl (fun m i => if p i then m + 2 ^ i else m) 0

/-- Little-endian bytes of a number. -/
def leBytes : Nat → Nat → List Byte
  | 0, _ => []
  | n + 1, v => BitVec.ofNat 8 v :: leBytes n (v / 256)

/-- Big-endian bytes of a number. -/
def beBytes (n v : Nat) : List Byte := (leBytes n v).reverse

/-- The number little-endian bytes spell. -/
def leNat : List Byte → Nat
  | [] => 0
  | b :: r => b.toNat + 256 * leNat r

/-- Byte `i` of a byte string, 0 beyond its end. -/
def byteAt (l : List Byte) (i : Nat) : Nat := (l.getD i 0).toNat

/-- The little-endian number of `n` bytes at offset `i`. -/
def leAt (l : List Byte) (i n : Nat) : Nat := leNat ((l.drop i).take n)

/-- Add, stopping at the largest 32-bit value. -/
def satAdd32 (a b : Nat) : Nat := if a + b < 2 ^ 32 then a + b else 2 ^ 32 - 1

/-- The signed value of a `w`-bit number. -/
def signedOf (w v : Nat) : Int := if v < 2 ^ (w - 1) then (v : Int) else (v : Int) - (2 ^ w : Nat)

/-- The `w`-bit two's-complement code of an integer. -/
def codeOf (w : Nat) (i : Int) : Nat := (i % ((2 ^ w : Nat) : Int)).toNat

/-- Add an element to a list that holds no repeats. -/
def addNew (l : List Nat) (x : Nat) : List Nat := if x ∈ l then l else l ++ [x]

/-- Remove an element from a list. -/
def dropEl (l : List Nat) (x : Nat) : List Nat := l.filter (· ≠ x)

end Sys2Proof
end

