-- ==== Sys2Proof/Syntax/Values.lean ====
section
/-! DEFINITION. The values that commands carry and the state keeps: access paths, stored blocks with their 64 bytes
of metadata (R78, R79), host commands (R29), and the results other agents return. -/

namespace Sys2Proof

/-- The access paths of R319; firmware has its own internal path. -/
inductive Path where
  | e | s | v | fw
  deriving DecidableEq, Repr

/-- The location seal of a stored block, field by field (R79). -/
structure Seal where
  member : Nat
  stripe : Nat
  pos : Nat
  kind : Nat
  block : Nat
  fmt : Nat
  /-- Byte 25, and bit 7 of byte 23: reserved. -/
  rsvd : Nat
  rsvd7 : Bool
  nsid : Nat
  gen : Nat
  lba : Nat
  deriving DecidableEq, Repr

/-- A stored block: 4,096 data bytes, the 16-byte HOST_PI, the seal, for a P or Q block the syndrome of the data
blocks' member-free SEAL_CRC (bytes 40 to 47), and the block's own SEAL_CRC (R78). -/
structure Blk where
  data : List Byte
  pi : List Byte
  tag : Seal
  syn : BitVec 64
  crc : BitVec 64
  deriving DecidableEq, Repr

/-- A block of host data as it crosses the fabric: 4,096 bytes and its protection information (R28). -/
structure HostBlk where
  data : List Byte
  pi : List Byte
  deriving DecidableEq, Repr

/-- The I/O commands of R29. -/
inductive IoOp where
  | read | write | append | writeZeroes | dsm | flush | zoneSend | zoneReceive
  deriving DecidableEq, Repr

/-- The Zone Management Send actions (R33). -/
inductive ZAct where
  | zopen | zclose | zfinish | zreset | zoffline
  deriving DecidableEq, Repr

/-- The fields of an I/O command capsule that the part acts on. -/
structure IoCmd where
  op : IoOp
  nsid : Nat
  slba : Nat
  nlb : Nat
  ranges : List (Nat × Nat)
  pract : Bool
  prchk : Nat
  appTag : Nat
  appMask : Nat
  refTag : Nat
  zact : ZAct
  selAll : Bool
  /-- SGL1's descriptor: type in [7:4], sub-type in [3:0] (R178). -/
  sgl : Nat
  rkey : Nat
  addr : Nat
  len : Nat
  deriving DecidableEq, Repr

/-- SGL1's descriptor of an admin command that moves data: type in [7:4] and sub-type in [3:0] of `ty`, key, address (R178). -/
structure Sgl where
  ty : Nat
  key : Nat
  addr : Nat
  deriving DecidableEq, Repr

/-- A submitted capsule: its queue, its command identifier, its I/O command (none for an admin command) and, for an
admin command, its opcode. -/
structure Capsule where
  cntlid : Nat
  qid : Nat
  cid : Nat
  io : Option IoCmd
  opcode : Nat
  deriving DecidableEq, Repr

/-- A RoCEv2 packet on its way through the switch, by what R181 tells apart. -/
inductive RocePkt where
  | ack | nak | cnp | response | writeData | readResp | capsule | readReq | windowWrite
  deriving DecidableEq, Repr

/-- The dependency class of a RoCEv2 packet (R181). -/
def RocePkt.cls (p : RocePkt) : Nat :=
  match p with
  | .ack | .nak | .cnp => 1
  | .response => 2
  | .writeData | .readResp => 3
  | .capsule | .readReq | .windowWrite => 4

/-- What an inter-device frame carries, as far as the model follows it: an identity (BOARD_ID, device, port, devices, R209), a
command that the standby passes to the owner, the data of a read that the owner returns, a completion (R43). -/
inductive InterMsg where
  | opaque
  | identity (board dev port devices : Nat)
  | command (cap : Capsule)
  | data (cntlid qid cid : Nat) (blks : List HostBlk)
  | completion (cntlid qid cid status : Nat) (dnr : Bool) (dw0 dw1 : Nat)
  deriving DecidableEq, Repr

/-- What a frame carries, as the switch tells frames apart (R171, R196, R200, R208). -/
inductive FrameKind where
  | roce (pkt : RocePkt)
  /-- An inter-device frame: the fields of its header (R208). -/
  | inter (version kind dst src cls hops : Nat) (pin : Bool) (msg : InterMsg)
  /-- An ARP request or neighbour solicitation for an address (R172). -/
  | resolve (target : Nat)
  /-- An IEEE 802.3x pause frame (R174). -/
  | pause
  | other
  deriving DecidableEq, Repr

/-- An Ethernet frame as the switch sees it.  `len` counts bytes with FCS; `hdrLen` is the frame length that its IP or
inter-device header states; addresses are numbers in network order, an IPv4 address in its mapped form (R212); `ecn` is
the ECN field; `egress` is the port that the sender of a frame from INT names (R200). -/
structure EthFrame where
  len : Nat
  hdrLen : Nat
  fcsOk : Bool
  vid : Option Nat
  opts : Bool
  dmac : Nat
  smac : Nat
  srcIp : Option Nat
  dstIp : Option Nat
  ipv6 : Bool
  dscp : Option Nat
  ecn : Nat
  kind : FrameKind
  egress : Option Nat
  deriving DecidableEq, Repr

/-- A received RC request by its opcode (R175). -/
inductive RcOp where
  /-- SEND First or Middle, or (the flag) Last or Only, carrying a capsule. -/
  | send (last : Bool) (cap : Capsule)
  /-- RDMA WRITE: First or Only, Last or Only, the RETH of its message, this packet's data. -/
  | write (first last : Bool) (key addr len : Nat) (data : List Byte)
  /-- RDMA READ Request and its RETH. -/
  | readReq (key addr len : Nat)
  /-- An RC opcode outside the table of R175. -/
  | unsupported
  /-- A packet of a transport other than RC. -/
  | notRc
  deriving DecidableEq, Repr

/-- A received request packet: its PSN, AckReq, ECN-CE mark and bytes. -/
structure RcPkt where
  psn : Nat
  ackReq : Bool
  ce : Bool
  bytes : Nat
  op : RcOp
  deriving DecidableEq, Repr

/-- What a drive's identification shows to the checks of R146 and R110. -/
structure DriveId where
  serial : Nat
  nguidCrc : Nat
  fmtOk : Bool
  blocks : Nat
  resvOk : Bool
  zoned : Bool
  zoneCap : Nat
  zones : Nat
  morMar : Nat
  /-- Its non-operational power states: number and exit latency in µs (R103). -/
  lowStates : List (Nat × Nat)
  rtd3Ms : Nat
  /-- The most blocks one of its I/O commands carries, after its MDTS (R274); 0 without a limit. -/
  mdts : Nat
  deriving DecidableEq, Repr

/-- What the members answer to the Background requests of one step (R54, R157): the strips read, by position, each from the place
that R151 names (a block past the end of a strip's list could not be read); the columns of the drives on which a write of the step
ended with an error (R148), and of those whose write met a Reservation Conflict (R142); the member time that a request took, in µs;
and the lines of Garnet whose read for the step needed a 2-bit correction (R117). -/
structure BgIo where
  strips : List (Nat × List Blk)
  wrBad : List Nat
  conflict : List Nat
  us : Nat
  fixed : List Nat
  deriving DecidableEq, Repr

/-- The fuse array of R357. -/
structure Fuses where
  grade : Nat
  uid : Nat
  mac : Nat
  phyLat : List Nat
  secret : List Byte
  cert : List Byte
  rootHash : Digest
  ownerHash : Option Digest
  svnFloor : Nat
  vendorId : Nat
  deriving DecidableEq, Repr

/-- What the fitted configuration flash holds (R358): both directory sectors and both image copies, as bytes. -/
structure FlashImage where
  dir0 : List Byte
  dir1 : List Byte
  imgA : List Byte
  imgB : List Byte
  deriving DecidableEq, Repr

/-- A column: its member and its state (R145 to R149, R157, R165). -/
structure Column where
  /-- 0 Vacant, 2 Online, 3 Absent, 4 Failed, 5 Rebuilt, 6 Copyback (R147). -/
  st : Nat
  inc : Nat
  cause : Nat
  refused : Bool
  serial : Nat
  nguidCrc : Nat
  /-- Set group bits of the missed-stripe bitmap (R153), rising. -/
  groups : List Nat
  /-- A rebuild context is open, and its place in failure order (R157). -/
  ctx : Option Nat
  cursor : Nat
  crit : Nat
  copyCur : Nat
  deriving DecidableEq, Repr

/-- A data-loss descriptor (R163). -/
structure Loss where
  zone : Nat
  cause : Nat
  off : Nat
  count : Nat
  time : Nat
  deriving DecidableEq, Repr

/-- The payload of a journal record (R120 to R122, R168, R169). -/
inductive RecBody where
  | pad
  | wpAdvance (zone slot flags gen newWp oldWp : Nat) (skips : List (Nat × Nat × Nat))
  /-- `staging` is the index of the 2 KiB staging entry of R40. -/
  | mapSwap (nsid count lba stripe block oldStripe oldBlock : Nat) (cond dealloc : Bool) (staging : Nat)
      (skips : List (Nat × Nat × Nat))
  | zoneState (entries : List (Nat × Nat))
  /-- `size` is NS_SIZE, which R120 gives no bytes (log entry 151). -/
  | nspace (nsid op cfg size : Nat) (zones : List Nat) (last : Bool)
  /-- `flags` as R168 has them: keeper, spare holder, bitmap not empty. -/
  | member (col flags : Nat) (c : Column)
  | stripeBits (op col parity first count grp rank holder ext t : Nat)
  /-- A data-loss descriptor with its index and the next of its zone (R163). -/
  | loss (l : Loss) (idx next : Nat)
  | darkTime (mins : List Nat)
  | layout (d : Digest)
  | checkpoint (num seq : Nat)
  /-- The keepers' columns, slots and member identities (SERIAL, NGUID_CRC). -/
  | keepers (ks : List Nat) (slots : List Nat) (ids : List (Nat × Nat))
  | owner (dev key : Nat)
  /-- A record of a type outside the table of R120: a bad record. -/
  | unknown (code : Nat)
  deriving DecidableEq, Repr

/-- A mirror record as the receiver keeps it (R136). -/
inductive MirBody where
  /-- A ring record: its line in the sender's ring, its lines, its JSEQ. -/
  | ring (line n jseq : Nat) (b : RecBody)
  | tail (slot idx : Nat) (b : Blk)
  | release (upTo : Nat)
  | verify (m : Nat) (digest : BitVec 64)
  deriving DecidableEq, Repr

/-- An SPDM request (R374). -/
inductive SpdmReq where
  | getVersion
  | getCapabilities
  | negotiate (p384 sha384 : Bool)
  | getDigests
  | getCertificate (slot off len : Nat)
  | challenge (slot : Nat) (nonce : List Byte)
  | getMeasurements (index : Nat) (sign : Bool) (nonce : List Byte)
  deriving DecidableEq, Repr

end Sys2Proof
end

