-- ==== Sys2Proof/Syntax.lean ====
section
/-! DEFINITION. The commands of the block: one constructor per row of spec/opcode_table.json, in its order. -/

namespace Sys2Proof

/-- The commands. -/
inductive Instr where
  /-- REF_MEASURE (R9): Every 1 ms, CLK measures the reference offset and clears REF_IN_RANGE and raises CLK_REF_RANGE when the offset exceeds ±50 ppm. -/
  | refMeasure (off : Int)
  /-- REF_LOST (R9): No reference edge has arrived for 1 µs, so REF_PRESENT is cleared and REF_LOST is set. -/
  | refLost
  /-- CLK_LOCK_LOST (R10): The root PLL loses lock, which raises a class B fault. -/
  | clkLockLost
  /-- ALWAYS_ON_RELEASE (R355): The always-on domain is released once VDD_AON is in range and PORST_N is high. -/
  | alwaysOnRelease
  /-- PORST_ASSERT (R356): PORST_N goes low and resets both domains, which also cuts short a dump in progress. -/
  | porstAssert
  /-- SUPPLY_OUT_OF_RANGE (R356): A supply leaves its range; outside a dump this holds the core in reset, and during a dump a supply below its dump minimum ends the dump. -/
  | supplyOutOfRange (supply : Nat)
  /-- CORE_RESET_RELEASE (R355): The core reset is released after all supplies have been in range for 1 ms, and the start sequence begins. -/
  | coreResetRelease
  /-- FUSE_LOAD_DONE (R357): The fuse load completes; FUSE_DONE is set and MSL0 and MSL2 are extended. -/
  | fuseLoadDone (fuses : Fuses) (flash : FlashImage)
  /-- IMAGE_VERIFIED (R364): Streaming of the image completes, its CRCs and signatures are checked, and the measurement slots are extended. -/
  | imageVerified
  /-- DDR_TRAINING_DONE (R364): DDR-5 training completes, the firmware is copied to DRAM and the cores are released; a second training failure leads to failsafe. -/
  | ddrTrainingDone (ok : Bool) (mib us : Nat)
  /-- IMAGE_APPLY (R364): The records are checked, the base section and the default overlay are applied, and the DRAM budget is computed. -/
  | imageApply (strips : Nat) (waitsMet : Bool)
  /-- SEAL_GO (R368): A write to TOP.SEAL.GO under HOLD_SEAL sets the seal and lets start-up continue. -/
  | sealGo
  /-- SLOT_DISCOVERY (R285): After debounce, DRP reports the present slots to MBR, and the keepers are switched on. -/
  | slotDiscovery (present : List Nat)
  /-- REPLAY (R134): The table store is loaded, the ring is replayed, tails and slots are restored, and REPLAY_DONE is set. -/
  | replay (readable holds : Bool) (fixed bad : List Nat)
  /-- PFAIL_FALL (R127): PFAIL_N falls: GNT_PFAIL is raised, acceptance stops, SerDes are squelched, the P/Q dump starts and LAST_JSEQ is latched. -/
  | pfailFall
  /-- PFAIL_RISE (R129): PFAIL_N rises during the sequence; the sequence completes to step 7 and then a core reset follows. -/
  | pfailRise
  /-- DUMP_COMPLETE (R127): The P/Q partition and the slot states have been written and the dump header is written. -/
  | dumpComplete (us : Nat) (bad : List Nat)
  /-- CFG_STAGE (R371): CFG.CMD STAGE checks an image in DRAM or in the staging buffer and starts writing it to the copy that is not running. -/
  | cfgStage
  /-- STAGE_COMPLETE (R371): Flash programming ends and the new directory is written to both directory copies. -/
  | stageComplete (ok : Bool)
  /-- CFG_ACTIVATE (R371): CFG.CMD ACTIVATE causes a core reset with cause 5 and a start from the preferred copy. -/
  | cfgActivate
  /-- CFG_RAISE_SVN (R371): CFG.CMD RAISE_SVN fuses the SVN floor up to the running firmware's SVN. -/
  | cfgRaiseSvn
  /-- CFG_OWNER_FUSE (R371): CFG.CMD OWNER_FUSE fuses CFG.DATA as the owner key hash unless the hash is already set. -/
  | cfgOwnerFuse
  /-- CFG_EXTEND (R373): CFG.CMD EXTEND extends slot MSL12 to MSL15 with the digest in CFG.DATA. -/
  | cfgExtend (arg : Nat)
  /-- OVL_REQUEST (R369): A write to TOP.OVL_REQ requests an overlay, or is refused when the overlay is invalid. -/
  | ovlRequest (ovl : Nat)
  /-- OVERLAY_APPLY (R369): At its boundary, the requested overlay takes effect in one pass: the old overlay's registers are restored and the new records are applied. -/
  | overlayApply
  /-- GET_VERSION (R377): The SPDM GET_VERSION request resets its context and returns version 1.2. -/
  | getVersion (carrier sender : Nat)
  /-- GET_CAPABILITIES (R374): The SPDM GET_CAPABILITIES request returns the responder's capabilities. -/
  | getCapabilities (carrier sender : Nat)
  /-- NEGOTIATE_ALGORITHMS (R374): The SPDM NEGOTIATE_ALGORITHMS request selects P-384 and SHA-384 and marks the carrier as negotiated. -/
  | negotiateAlgorithms (carrier sender : Nat) (p384 sha384 : Bool)
  /-- GET_DIGESTS (R374): The SPDM GET_DIGESTS request returns the digest of the slot 0 certificate chain. -/
  | getDigests (carrier sender : Nat)
  /-- GET_CERTIFICATE (R375): The SPDM GET_CERTIFICATE request returns the slot 0 certificate chain. -/
  | getCertificate (carrier sender slot off len : Nat)
  /-- CHALLENGE (R375): The SPDM CHALLENGE request is answered with CHALLENGE_AUTH, signed by the device identity key. -/
  | challenge (carrier sender slot : Nat) (nonce : List Byte)
  /-- GET_MEASUREMENTS (R377): The SPDM GET_MEASUREMENTS request copies the measurement slots at one instant and returns them signed. -/
  | getMeasurements (carrier sender index : Nat) (sign : Bool) (nonce : List Byte)
  /-- SET_ENDPOINT_ID (R376): The MCTP Set Endpoint ID command accepts an endpoint ID from the bus owner. -/
  | setEndpointId (carrier eid : Nat)
  /-- GET_ENDPOINT_ID (R376): The MCTP Get Endpoint ID command returns the endpoint ID. -/
  | getEndpointId (carrier : Nat)
  /-- GET_ENDPOINT_UUID (R376): The MCTP Get Endpoint UUID command returns the endpoint UUID. -/
  | getEndpointUuid (carrier : Nat)
  /-- GET_MCTP_VERSION_SUPPORT (R376): The MCTP Get MCTP Version Support command returns the supported versions. -/
  | getMctpVersionSupport (carrier msgType : Nat)
  /-- GET_MESSAGE_TYPE_SUPPORT (R376): The MCTP Get Message Type Support command reports message types 0x00 and 0x05. -/
  | getMessageTypeSupport (carrier : Nat)
  /-- SECURITY_SEND (R377): Security Send with protocol E8h carries an SPDM request on the NVMe carrier, taking a context if needed. -/
  | securitySend (cntlid cid : Nat) (sgl : Sgl) (req : SpdmReq)
  /-- SECURITY_RECEIVE (R377): Security Receive returns the SPDM response, or a zero-length response when none is ready. -/
  | securityReceive (cntlid cid alloc : Nat) (sgl : Sgl)
  /-- FABRICS_CONNECT (R24): Fabrics Connect creates a controller or an I/O queue, or is refused under the checks of R24 in order. -/
  | fabricsConnect (conn port qid cntlid sqsize hsqsize kato cid : Nat) (nqn : List Nat)
  /-- PROPERTY_GET (R29): Property Get returns a controller property. -/
  | propertyGet (cntlid cid off : Nat)
  /-- PROPERTY_SET (R53): Property Set writes a controller property; writing CC.EN enables the controller or resets it. -/
  | propertySet (cntlid cid off value : Nat)
  /-- FABRICS_DISCONNECT (R29): Fabrics Disconnect removes the queue or the controller. -/
  | fabricsDisconnect (cntlid qid cid : Nat)
  /-- IDENTIFY (R27): Identify returns the controller or namespace structure with the values of R27. -/
  | identify (cntlid cid cns csi nsid : Nat) (sgl : Sgl)
  /-- GET_LOG_PAGE (R29): Get Log Page returns a supported log page, including the vendor pages C1h and C2h. -/
  | getLogPage (cntlid cid lid nsid off len : Nat) (sgl : Sgl)
  /-- SET_FEATURES (R52): Set Features sets a supported feature; an Arbitration change is allowed only for VENDOR_ADMIN hosts. -/
  | setFeatures (cntlid cid fid value : Nat)
  /-- GET_FEATURES (R52): Get Features returns a feature value. -/
  | getFeatures (cntlid cid fid : Nat)
  /-- ASYNC_EVENT_REQUEST (R50): An Asynchronous Event Request is kept in a per-controller list of at most 4 entries, without a tag. -/
  | asyncEventRequest (cntlid cid : Nat)
  /-- KEEP_ALIVE (R26): Keep Alive restarts the controller's keep-alive timer. -/
  | keepAlive (cntlid cid : Nat)
  /-- KEEP_ALIVE_EXPIRY (R26): The keep-alive timer expires and the controller and its queues are deleted. -/
  | keepAliveExpiry (cntlid : Nat)
  /-- ABORT (R61): Abort looks for the named command and claims its completion slot if it can. -/
  | abort (cntlid cid sqid target : Nat)
  /-- SELFTEST_SHORT (R65): Device Self-test with STC 1h starts the three-segment short test. -/
  | selftestShort (cntlid cid nsid : Nat) (partnerBusy : Bool)
  /-- SELFTEST_EXTENDED (R66): Device Self-test with STC 2h starts the extended test, a scrub pass over every stripe. -/
  | selftestExtended (cntlid cid nsid : Nat) (partnerBusy : Bool)
  /-- SELFTEST_ABORT (R67): Device Self-test with STC Fh ends the operation in progress with result 1h. -/
  | selftestAbort (cntlid cid stc : Nat)
  /-- SELFTEST_SEGMENT_DONE (R65): A short-test segment completes, and the test moves to the next segment or ends. -/
  | selftestSegmentDone (failed : Bool)
  /-- VENDOR_REGISTER_READ (R322): Vendor admin command C0h reads a register or a 64-bit pair. -/
  | vendorRegisterRead (cntlid cid off : Nat) (pair : Bool)
  /-- VENDOR_REGISTER_WRITE (R322): Vendor admin command C1h writes a register. -/
  | vendorRegisterWrite (cntlid cid off value : Nat)
  /-- READ (R18): Read fetches the strips, served directly, by activation or by reconstruction, and returns the data by RDMA WRITE. -/
  | read (tag : Nat)
  /-- FLUSH (R29): Flush completes at once, because there is no volatile write cache. -/
  | flush (tag : Nat)
  /-- WRITE (R17): Write reserves the zone range or the map range and runs the write path of R17. -/
  | write (tag : Nat)
  /-- WRITE_ZEROES (R41): Write Zeroes deallocates conventional blocks through a MAP_SWAP record. -/
  | writeZeroes (tag : Nat)
  /-- DATASET_MANAGEMENT (R41): Dataset Management deallocate clears MAPPED through a MAP_SWAP record. -/
  | datasetManagement (tag : Nat)
  /-- ZONE_APPEND (R36): Zone Append is given the reservation pointer as its LBA and runs the write path. -/
  | zoneAppend (tag : Nat)
  /-- ZONE_OPEN (R33): Zone Management Send Open makes a zone Explicitly Opened. -/
  | zoneOpen (tag : Nat)
  /-- ZONE_CLOSE (R33): Zone Management Send Close makes an opened zone Closed, and the zone keeps its slot. -/
  | zoneClose (tag : Nat)
  /-- ZONE_FINISH (R34): Zone Management Send Finish pads and closes the open stripe and makes the zone Full. -/
  | zoneFinish (tag : Nat)
  /-- ZONE_RESET (R34): Zone Management Send Reset increments the generation, frees the slot and makes the zone Empty, or Offline when the generation would wrap. -/
  | zoneReset (tag : Nat)
  /-- ZONE_OFFLINE (R33): Zone Management Send Offline moves a Read Only zone to Offline. -/
  | zoneOffline (tag : Nat)
  /-- ZONE_MGMT_RECEIVE (R55): Zone Management Receive reports the committed zone state. -/
  | zoneMgmtReceive (tag : Nat)
  /-- COMMAND_ACCEPT (R49): Arbitration selects a Received capsule and assigns it a tag, and the command enters the overlap tracker. -/
  | commandAccept (fixed : List Nat)
  /-- BACKGROUND_WINDOW_END (R54): A 100 ms window of a drive port's Background floor accounting ends. -/
  | backgroundWindowEnd (slot : Nat)
  /-- NS_CREATE (R45): A write of ZMP.NS_COMMIT with OP 1 creates the selected namespace after the checks of R45, or queues the commit before replay. -/
  | nsCreate
  /-- NS_DELETE (R45): A write of ZMP.NS_COMMIT with OP 2 withdraws the namespace and starts ending its commands. -/
  | nsDelete
  /-- NS_DELETE_COMPLETE (R45): The deleted namespace's commands have ended; its key slot is zeroised, its zones are returned and BUSY clears. -/
  | nsDeleteComplete
  /-- FAILBACK_REQUEST (R44): A write of ZMP.ANA.FAILBACK starts failback, or is refused and sets FAILBACK_REFUSED. -/
  | failbackRequest
  /-- FAILBACK_OWNERSHIP_PASS (R44): The owner has completed its held commands; ownership passes and the ANA states swap. -/
  | failbackOwnershipPass (fixed bad : List Nat)
  /-- ZONE_SELECT_LOAD (R46): A write of ZMP.ZONE_SELECT latches the selected zone map entry into ZONE_ENTRY. -/
  | zoneSelectLoad (zone : Nat)
  /-- HOST_INVALIDATE (R46): Clearing HOST_PERM.VALID deletes every controller of that host. -/
  | hostInvalidate (host : Nat)
  /-- HOST_ACCESS_MAP_WRITE (R25): A change to a host access map raises Namespace Attribute Changed on each affected controller. -/
  | hostAccessMapWrite (host m value : Nat)
  /-- STR_PROBE (R73): A write of STR.PROBE_POS translates the probe stripe and position into row, column, slot and index. -/
  | strProbe (pos : Nat)
  /-- SLOT_RECOMPUTE_DONE (R87): The rebuild of a zone's slot completes, and the zone's folds and member writes resume. -/
  | slotRecomputeDone (slot : Nat) (io : BgIo)
  /-- RECONSTRUCTION_START (R92): A reconstruction obtains a free job, once its sources are available and readable. -/
  | reconstructionStart (job : Nat)
  /-- RECONSTRUCTION_DONE (R92): A reconstruction job completes; each recovered block passes the reconstruction check or is retried once. -/
  | reconstructionDone (job : Nat)
  /-- BERYL_SHARE_WINDOW_END (R93): A 1 ms window of Beryl's background share accounting ends. -/
  | berylShareWindowEnd
  /-- DARK_EPOCH_BOUNDARY (R98): At a dark epoch boundary, MBR chooses a new dark set. -/
  | darkEpochBoundary
  /-- IDLE_TIMEOUT (R102): A member has had no request for IDLE_AFTER ms and goes to Idle. -/
  | idleTimeout (slot : Nat)
  /-- ACTIVATION_DONE (R103): An Idle member is back in power state 0, becomes Active, and its requests are issued. -/
  | activationDone (slot : Nat)
  /-- MEMBER_SHUTDOWN_COMPLETE (R109): CSTS.SHST reaches 10b; PERST is asserted and the slot is switched off, completing Darkening. -/
  | memberShutdownComplete (slot : Nat)
  /-- SHUTDOWN_WAIT_TIMEOUT (R109): The shutdown wait runs out, so the slot is switched off anyway and ABRUPT_OFF is set. -/
  | shutdownWaitTimeout (slot waitMs : Nat)
  /-- WAKE_COMPLETE (R110): A wake finishes with CSTS.RDY and the identity and seal checks, and the member becomes Idle. -/
  | wakeComplete (slot : Nat) (drive : DriveId) (sealOk : Bool) (ms : Nat)
  /-- WAKE_TIMEOUT (R110): A wake has not finished within WAKE_CFG.TIMEOUT; WAKE_FAIL is set and the member fails. -/
  | wakeTimeout (slot : Nat)
  /-- DEFER_EXPIRY (R101): A member request has waited DEFER_MAX seconds; it is abandoned and its command completes with Namespace Not Ready. -/
  | deferExpiry (req : Nat)
  /-- PWR_CONFIG_WRITE (R114): A write to the MBR power configuration takes effect at once; a lower LIMIT, ACTIVE_MAX or epoch length acts at once. -/
  | pwrConfigWrite (which value : Nat)
  /-- DARK_TIME_RECORD (R120): Every 15 minutes a DARK_TIME record of the accumulated dark minutes is written. -/
  | darkTimeRecord
  /-- JOURNAL_RECORD_WRITTEN (R123): A record has passed its verify, every lower JSEQ is written and the mirror has acknowledged it, so the record commits. -/
  | journalRecordWritten (jseq : Nat) (bad staged : List Nat)
  /-- TAIL_WRITE_COMPLETE (R125): A zone tail block's write to Garnet passes its verify. -/
  | tailWriteComplete (slot idx tag : Nat) (bad : List Nat)
  /-- CHUNK_WEAR_COPY (R116): A chunk's wear exceeds the least-worn free chunk by 2^30 writes, so it is copied and the map switched. -/
  | chunkWearCopy (chunk free : Nat) (fixed : List Nat)
  /-- CHECKPOINT_START (R131): Ring use, the checkpoint interval or a keeper replacement starts a checkpoint, which latches CKPT_SEQ and the dirty pages. -/
  | checkpointStart
  /-- CHECKPOINT_COMMIT (R131): The COMMIT is on every in-step keeper; the ring is reclaimed and a CHECKPOINT record is written. -/
  | checkpointCommit (io : BgIo)
  /-- RING_COPY_STREAM (R131): Every STREAM_MS, the records written since the last copy are appended to the keepers' logs. -/
  | ringCopyStream (io : BgIo)
  /-- KEEPER_COPY_DONE (R132): A new keeper completes its copy; its IN_STEP bit is set. -/
  | keeperCopyDone (io : BgIo)
  /-- MIRROR_RECORD_RECEIVE (R139): A mirror record arrives and is applied, held, dropped, or acknowledged again according to its MSEQ. -/
  | mirrorRecordReceive (path mseq : Nat) (body : MirBody) (bad : List Nat)
  /-- MIRROR_ACK_RECEIVE (R138): A cumulative mirror acknowledgement advances MSEQ_ACKED and may commit records or complete a resynchronisation. -/
  | mirrorAckReceive (path upTo : Nat) (out : Bool)
  /-- MIRROR_RETX_TIMEOUT (R138): A mirror record has not been acknowledged within RETX_US and is sent again on both paths. -/
  | mirrorRetxTimeout (mseq : Nat)
  /-- MIRROR_PATH_DOWN (R138): A mirror path has carried nothing for 3 ms and is marked down. -/
  | mirrorPathDown (path : Nat)
  /-- HEARTBEAT_SEND (R142): Every 1 ms, a heartbeat is sent on both mirror paths. -/
  | heartbeatSend
  /-- HEARTBEAT_RECEIVE (R137): A partner heartbeat arrives; its KEY_WAIT state may clear IN_STEP or start a resynchronisation. -/
  | heartbeatReceive (path sent role : Nat) (keyWait : Bool)
  /-- PARTNER_SILENT (R142): Nothing has arrived from the partner for LOSS_MS, so the reservation contest on the keeper starts. -/
  | partnerSilent
  /-- RESERVATION_RESULT (R142): The keeper's reservation command completes and decides which device stays owner. -/
  | reservationResult (first : Bool) (fixed bad : List Nat)
  /-- VERIFY_RECORD_SEND (R144): Every 10 s, the owner sends a verify record with its digest. -/
  | verifyRecordSend
  /-- LINK_DOWN_ABSENT (R147): A member's link has been down for more than 2 s, so the column becomes Absent, or Failed in Copyback. -/
  | linkDownAbsent (slot : Nat)
  /-- ABSENT_HOLD_EXPIRY (R147): An absence has lasted HOLD seconds with no drive waiting for its probe, so the column becomes Failed. -/
  | absentHoldExpiry (col : Nat)
  /-- DRIVE_ADMISSION_CHECK (R146): A probe completes; the drive is checked under R146 and refused, returned or adopted. -/
  | driveAdmissionCheck (slot : Nat) (drive : DriveId)
  /-- MEMBER_FAIL_CMD (R148): MBR.MCMD FAIL fails the column, unless a stripe would be left with more than two lacking positions. -/
  | memberFailCmd (slot : Nat)
  /-- MEMBER_ADOPT (R147): MBR.MCMD ADOPT adopts the drive in the slot and starts copyback. -/
  | memberAdopt (slot : Nat)
  /-- MEMBER_CLEAR_REFUSED (R146): MBR.MCMD CLEAR_REFUSED lifts the refusal of the drive in the slot. -/
  | memberClearRefused (slot : Nat)
  /-- SCRUB_START (R166): MBR.MCMD SCRUB_START starts a new scrub pass from stripe 0. -/
  | scrubStart
  /-- SCRUB_STOP (R166): MBR.MCMD SCRUB_STOP stops the scrub. -/
  | scrubStop
  /-- REBUILD_STRIPE (R157): A rebuild sweep takes its next stripe; the strip is probed, recovered, or recorded as lost. -/
  | rebuildStripe (col : Nat) (io : BgIo)
  /-- RESYNC_STRIP (R154): A stale strip of a returning member is rebuilt and written, and group bits are cleared. -/
  | resyncStrip (col : Nat) (io : BgIo)
  /-- COPYBACK_STRIPE (R165): Copyback fills the next stripe of the new member from spare, from repair, or by rebuild. -/
  | copybackStripe (col : Nat) (io : BgIo)
  /-- SCRUB_STRIPE (R166): Scrub reads a stripe, recomputes P and Q, and repairs or defers as needed. -/
  | scrubStripe (io : BgIo)
  /-- REPAIR_DONE (R160): The write of a repair extent completes, and reads of the strip move to the repair location. -/
  | repairDone (col stripe : Nat) (io : BgIo)
  /-- FRAME_ARRIVAL (R200): A received frame is checked, policed, classified, charged to a pool or dropped, and forwarded. -/
  | frameArrival (port : Nat) (f : EthFrame)
  /-- RC_REQUEST_RECEIVE (R184): An RC request packet is executed, NAKed, or acknowledged again according to its PSN. -/
  | rcRequestReceive (conn port : Nat) (pkt : RcPkt)
  /-- ACK_RECEIVE (R183): An Acknowledge frees acknowledged packets and may release held completions. -/
  | ackReceive (conn psn : Nat) (ce : Bool)
  /-- NAK_SEQUENCE_ERROR_RECEIVE (R183): A NAK Sequence Error starts a go-back-N retransmission from the named PSN. -/
  | nakSequenceErrorReceive (conn psn : Nat) (ce : Bool)
  /-- NAK_ERROR_RECEIVE (R185): A NAK Remote Access Error, Remote Operational Error or Invalid Request puts the connection into Error. -/
  | nakErrorReceive (conn kind : Nat) (ce : Bool)
  /-- RNR_NAK_RECEIVE (R177): An RNR NAK for one of the part's SENDs starts the RNR retry timer. -/
  | rnrNakReceive (conn psn : Nat) (ce : Bool)
  /-- RNR_RETRY_TIMER_EXPIRY (R177): The RNR timer expires and the SEND is retried, up to RNR_RETRY times. -/
  | rnrRetryTimerExpiry (conn : Nat)
  /-- ACK_TIMEOUT (R183): The ACK timeout expires and the part retransmits from the oldest unacknowledged PSN, or fails the connection. -/
  | ackTimeout (conn : Nat)
  /-- ACK_COALESCE_EXPIRY (R184): 16 packets or 2 µs have passed since the oldest unacknowledged packet, and an Acknowledge is sent. -/
  | ackCoalesceExpiry (conn : Nat)
  /-- READ_RESPONSE_RECEIVE (R179): RDMA READ response data arrives in its reserved cells and enters the storage lane. -/
  | readResponseReceive (conn psn : Nat) (ce : Bool) (blks : List HostBlk)
  /-- RDMA_READ_ISSUE (R179): An RDMA READ request for write data is issued once pool cells are reserved and ORD allows it. -/
  | rdmaReadIssue (tag : Nat)
  /-- WINDOW_WRITE_RECEIVE (R192): An RDMA WRITE to an inbound window is translated and checked, and served or NAKed. -/
  | windowWriteReceive (conn psn : Nat) (first last ackReq ce : Bool) (key addr len : Nat) (data : List Byte)
  /-- WINDOW_READ_REQUEST (R193): An RDMA READ Request to an inbound window is served under the window set in force. -/
  | windowReadRequest (conn psn : Nat) (ce : Bool) (key addr len : Nat)
  /-- CNP_RECEIVE (R186): A received CNP halves the connection's transmit rate. -/
  | cnpReceive (conn : Nat)
  /-- CC_RATE_INCREASE (R186): INC_US passes without a CNP and the connection's rate rises by RAI. -/
  | ccRateIncrease (conn : Nat)
  /-- CM_REQ (R176): A CM REQ is accepted into a setup context with a REP, or rejected. -/
  | cmReq (port peer privLen recfmt hsqsize ird dscp pmtu psn : Nat) (host : Option Nat)
  /-- CM_DREQ_RECEIVE (R191): A disconnect completes and the connection's context is released. -/
  | cmDreqReceive (conn : Nat)
  /-- SETUP_TIMEOUT (R187): No Connect has arrived within 5 s of the REP, so the connection is disconnected. -/
  | setupTimeout (conn : Nat)
  /-- CONTEXT_FETCH_DONE (R190): A context fetch completes and the held packets are processed in order. -/
  | contextFetchDone (conn ns : Nat)
  /-- DEADLINE_SCAN (R183): Every 64 µs, Jasper fetches spilled contexts whose timeout deadline has passed. -/
  | deadlineScan
  /-- WIN_COMMIT (R193): A write of FAB.WIN_COMMIT.GO checks the shadow window set and makes it current, or leaves it pending. -/
  | winCommit
  /-- WIN_OLD_RELEASE (R193): OLD_IN_FLIGHT clears; the old window set is discarded and a pending commit takes effect. -/
  | winOldRelease
  /-- RESPONDER_RESOURCE_TIMEOUT (R193): A responder resource is released 500 ms after its response completed. -/
  | responderResourceTimeout (conn psn : Nat)
  /-- PFC_FRAME_RECEIVE (R174): A PFC frame pauses or resumes a priority of the egress port. -/
  | pfcFrameReceive (port enable : Nat) (quanta : List Nat)
  /-- PFC_WATCHDOG_EXPIRY (R174): A priority has been paused for WD_MS, so its pauses are ignored and PFC_STORM is set. -/
  | pfcWatchdogExpiry (port prio : Nat)
  /-- PFC_STORM_END (R174): No pause has arrived for WD_MS, so pauses for the priority are honoured again. -/
  | pfcStormEnd (port prio : Nat)
  /-- PORT_LINK_UP (R209): An Ethernet link comes up; cascade ports start sending identity frames. -/
  | portLinkUp (port : Nat)
  /-- PORT_LINK_DOWN (R207): An egress link goes down, its queued frames are dropped and routes switch. -/
  | portLinkDown (port : Nat)
  /-- FORWARDED_COMMAND_RECEIVE (R43): The owner receives a command passed over the cascade by the standby and accepts it in its NVQ. -/
  | forwardedCommandReceive (cap : Capsule) (blks : List HostBlk)
  /-- EGRESS_FRAME_START (R228): The egress scheduler starts an eligible frame and the frame's cells are read out. -/
  | egressFrameStart (port : Nat)
  /-- FRAME_AGE_DROP (R199): A frame that has waited more than 250 ms is dropped at the head of its queue. -/
  | frameAgeDrop (port tc : Nat)
  /-- PFC_XOFF_REFRESH (R198): Every 40 µs above XON, the PFC pause frame is repeated. -/
  | pfcXoffRefresh (port prio : Nat)
  /-- NEIGH_AGE_OUT (R201): A neighbour entry not refreshed for 300 s becomes invalid. -/
  | neighAgeOut (index : Nat)
  /-- TBL_COMMIT_ENTRY (R206): SWC.TBL_COMMIT with table 0, 1 or 2 replaces the entry and increments the generation. -/
  | tblCommitEntry
  /-- TBL_COMMIT_ADDRESS (R212): SWC.TBL_COMMIT with table 3 or 4 stages an address for the next entry commit. -/
  | tblCommitAddress
  /-- TBL_SELECT_LOAD (R212): A write of SWC.TBL_SELECT loads the current entry or address into TBL_DATA. -/
  | tblSelectLoad (value : Nat)
  /-- IDENTITY_FRAME_SEND (R209): Every 1 ms, an enabled cascade port sends an identity frame. -/
  | identityFrameSend (port : Nat)
  /-- IDENTITY_FRAME_RECEIVE (R210): An identity frame sets the port's topology result. -/
  | identityFrameReceive (port board dev peerPort devices smac : Nat)
  /-- TOPO_NO_PEER_TIMEOUT (R210): No identity frame arrives within 10 ms of link-up, so the result is NO_PEER. -/
  | topoNoPeerTimeout (port : Nat)
  /-- PTP_MESSAGE_RECEIVE (R216): A PTP message is time-stamped and terminated, or dropped when it is addressed to another device. -/
  | ptpMessageReceive (port kind : Nat) (mine : Bool) (offset : Option Int) (state : Option Nat) (parent : Nat)
  /-- SYNC_LOSS_TIMEOUT (R217): No Sync or PPS edge has arrived for the loss time, so the servo enters Holdover. -/
  | syncLossTimeout
  /-- PTP_SYNC_SEND (R214): At each sync interval, a master port sends a two-step Sync. -/
  | ptpSyncSend (port : Nat)
  /-- PPS_IN_EDGE (R218): A PPS_IN rising edge is time-stamped and, in IN_MODE 2, disciplines the clock. -/
  | ppsInEdge
  /-- PPS_IN_LOST (R218): No PPS_IN edge has arrived for 1.5 s in IN_MODE 2. -/
  | ppsInLost
  /-- PPS_OUT_RISE (R218): PPS_OUT rises at a second boundary of PTP time. -/
  | ppsOutRise
  /-- PPS_OUT_FALL (R218): PPS_OUT falls after OUT_WIDTH_MS. -/
  | ppsOutFall
  /-- PTP_SET_GO (R219): A write of PTP.SET_GO schedules setting the time at the next whole microsecond, unless a port is SLAVE. -/
  | ptpSetGo
  /-- PTP_TIME_SET (R219): PTP time is set to SET_TIME and STEPPED is set. -/
  | ptpTimeSet
  /-- GATE_ENTRY_START (R221): A gate-list entry starts and its gates take effect. -/
  | gateEntryStart (list : Nat)
  /-- LIST_COMMIT (R223): A write of TGS.L_COMMIT checks the shadow list and makes it pending with a start time. -/
  | listCommit
  /-- LIST_START (R223): A pending list reaches its start time and replaces the list in force. -/
  | listStart (list : Nat)
  /-- SHAPER_REFILL (R229): Each 1 µs tick refills shaper credit up to the burst ceiling. -/
  | shaperRefill
  /-- POLICER_REFILL (R231): Each 1 µs tick refills policer credit. -/
  | policerRefill
  /-- DMA_DOORBELL (R248): A write of DMA_Cn.DOORBELL increments DB_COUNT and starts an Idle channel or triggers a refetch of the tail. -/
  | dmaDoorbell (path : Path) (ch : Nat)
  /-- DMA_STOP (R246): DMA_Cn.CTRL.STOP stops issuing bursts and the channel goes to Stopping or Idle. -/
  | dmaStop (path : Path) (ch : Nat)
  /-- DMA_RESET (R247): DMA_Cn.CTRL.RESET returns a channel in Error to Idle. -/
  | dmaReset (path : Path) (ch : Nat)
  /-- DESC_FETCH_DONE (R251): A descriptor read completes; the channel enters Barrier wait, Active or Waiting, or Error. -/
  | descFetchDone (ch : Nat) (ecc : Bool)
  /-- DMA_READ_BURST (R235): The read engine grants a ready channel one burst into its buffer share. -/
  | dmaReadBurst (data : List Byte) (err : Nat)
  /-- DMA_WRITE_BURST (R233): The write engine writes a complete burst to its destination. -/
  | dmaWriteBurst (err : Nat)
  /-- DMA_WRITE_COMPLETE (R240): A descriptor's writes are complete at the destination. -/
  | dmaWriteComplete (ch err : Nat)
  /-- TAIL_REFETCH (R250): A reread of the tail descriptor completes, and the channel follows NEXT or rests at END. -/
  | tailRefetch (ch : Nat) (ecc : Bool)
  /-- PERIPH_REQUEST_CHANGE (R242): A peripheral request line is asserted or withdrawn. -/
  | periphRequestChange (line : Nat) (asserted : Bool)
  /-- PERIPH_FINAL_REQUEST (R244): A final short request moves its count and completes the descriptor with SHORT. -/
  | periphFinalRequest (line count : Nat) (data : List Byte)
  /-- KEY_IMPORT (R261): A write of KEY.IMP_GO starts unwrapping a key into the target slot. -/
  | keyImport
  /-- KEY_IMPORT_DONE (R263): An import completes with the code of R263. -/
  | keyImportDone
  /-- KEY_ZEROISE_SLOT (R264): KEY.ZEROISE with SLOT empties the named slot. -/
  | keyZeroiseSlot (slot : Nat)
  /-- KEY_ZEROISE_ALL (R264): KEY.ZEROISE with ALL empties every slot. -/
  | keyZeroiseAll
  /-- ZEROISE_DONE (R264): Every copy of the zeroised keys is cleared; ZEROISING clears and ZEROISED is set. -/
  | zeroiseDone
  /-- TAMPER_ALARM (R266): A tamper detector fires; keys are zeroised and the data path is halted within 2 µs. -/
  | tamperAlarm (detector : Nat)
  /-- AES_FLOOR_WINDOW_END (R253): A 1 ms window of the descriptor floor accounting ends. -/
  | aesFloorWindowEnd
  /-- PERST_RELEASE (R270): 100 ms after power-good, SLn_PERST_N rises and the port starts Training. -/
  | perstRelease (slot : Nat)
  /-- LINK_L0_REACHED (R272): The port reaches L0 and starts Configuring, or returns from Recovering. -/
  | linkL0Reached (slot speed width : Nat)
  /-- TRAINING_TIMEOUT (R272): No L0 within 1 s; the port resets once, and on a second failure goes Off. -/
  | trainingTimeout (slot : Nat)
  /-- PORT_CONFIGURED (R273): The function is set up and the member queues are created; the port is Up. -/
  | portConfigured (slot critWarn : Nat)
  /-- LINK_LEAVES_L0 (R272): An Up link leaves L0 and the port enters Recovering. -/
  | linkLeavesL0 (slot : Nat)
  /-- RECOVERY_TIMEOUT (R272): No L0 within 2 s of Recovering; the slot is switched off. -/
  | recoveryTimeout (slot : Nat)
  /-- PORT_QUIESCED (R272): Commands have ended and shutdown is done; the port goes Off. -/
  | portQuiesced (slot : Nat)
  /-- MEMBER_REQUEST_ISSUE (R273): A member request obtains a port tag and is issued as an NVMe command after the member-write check. -/
  | memberRequestIssue (slot : Nat)
  /-- MEMBER_COMPLETION (R278): A member completion queue entry arrives; it is matched to its live tag or discarded as late. -/
  | memberCompletion (slot tag status : Nat) (blks : List Blk)
  /-- COMPLETION_TIMEOUT (R277): A member command's timer expires; an Abort is sent, the tag is quarantined and the read is reconstructed or the column failed. -/
  | completionTimeout (slot tag : Nat)
  /-- TAG_QUARANTINE_END (R277): A quarantined tag becomes free again. -/
  | tagQuarantineEnd (slot tag : Nat)
  /-- MEMBER_INBOUND_WRITE (R274): A member's posted write is accepted into a live tag's buffer, or discarded. -/
  | memberInboundWrite (slot addr : Nat) (bytes : List Byte)
  /-- MEMBER_INBOUND_READ (R274): A member's memory read is served from a live tag's buffer, or answered with Unsupported Request. -/
  | memberInboundRead (slot addr len : Nat)
  /-- MEMBER_ASYNC_EVENT (R273): A member's SMART asynchronous event causes the log page to be read again. -/
  | memberAsyncEvent (slot critWarn : Nat)
  /-- PRESENCE_CHANGE (R279): A debounced presence change is counted, and loss of presence takes the port Off. -/
  | presenceChange (slot : Nat) (present : Bool)
  /-- BUTTON_PRESS (R281): A counted button press opens or closes the 5 s button window. -/
  | buttonPress (slot : Nat)
  /-- BUTTON_WINDOW_EXPIRY (R281): The button window runs out and removal is requested. -/
  | buttonWindowExpiry (slot : Nat)
  /-- SLOT_REMOVE_REQUEST (R282): SLOT_CTRL.REMOVE requests removal, which is refused or quiesces the slot. -/
  | slotRemoveRequest (slot : Nat)
  /-- MI_POLL (R283): Every PERIOD seconds, the NVMe-MI health structure of a powered slot is read. -/
  | miPoll (slot : Nat) (sample : Option (Nat × Nat × Nat))
  /-- MI_BUS_STUCK (R284): A sideband bus is held low for 35 ms; recovery clocks are sent and the chain's polls may be suspended. -/
  | miBusStuck (chain : Nat) (stillHeld : Bool)
  /-- MI_SUSPEND_END (R284): The 10 s suspension of a chain's polls ends. -/
  | miSuspendEnd (chain : Nat)
  /-- PORT_ENABLE_WRITE (R286): A write of DRP_Pn.CTRL.ENABLE quiesces the port or latches a pending enable. -/
  | portEnableWrite (slot : Nat) (enable : Bool)
  /-- MEMBER_CFG_READ (R287): DRP_Pn.CFG_CMD read issues a configuration read to the member's function 0. -/
  | memberCfgRead (slot : Nat)
  /-- MEMBER_CFG_WRITE (R287): DRP_Pn.CFG_CMD write issues a configuration write, or refuses it with RESULT 6. -/
  | memberCfgWrite (slot : Nat)
  /-- MEMBER_CFG_DONE (R287): A member configuration request completes and CFG_STATUS shows the result. -/
  | memberCfgDone (slot result data : Nat)
  /-- DCLK_STOP (R271): A clock output stops 10 µs after the last of its slots is off. -/
  | dclkStop (k : Nat)
  /-- SLOT_DEMAND (R294): A drive port asks for slot power and the channel enters Queued, or is latched as pending. -/
  | slotDemand (slot : Nat)
  /-- RAMP_GRANT (R295): A ramp place becomes free and the open-sense check passes, so the channel starts Ramping. -/
  | rampGrant (slot senseMv : Nat)
  /-- RAMP_COMPLETE (R295): The output reaches the bus, the gate is fully enhanced and power-good is given, unless a fault wins. -/
  | rampComplete (slot us : Nat) (bad : Bool)
  /-- INRUSH_TIMER_EXPIRY (R295): The inrush timer expires before the ramp completes; cause 2 and Back-off. -/
  | inrushTimerExpiry (slot : Nat)
  /-- FAST_TRIP (R291): The shunt voltage crosses FAST; the gate is pulled down in hardware and SLP_FAST_TRIP is raised. -/
  | fastTrip (slot : Nat)
  /-- DIODE_MEASURE (R292): Every 250 µs, the sense diode is measured or found faulty. -/
  | diodeMeasure (slot : Nat) (temp16 : Int)
  /-- THERMAL_MODEL_UPDATE (R293): Every 1 µs, the two-pole thermal model advances. -/
  | thermalModelUpdate (slot powerMw : Nat)
  /-- OVERLOAD_ENTRY (R296): A bad sample in On starts the fault timer and withdraws power-good. -/
  | overloadEntry (slot curMa voutMv : Nat) (limiting : Bool)
  /-- PG_RETURN (R297): After 1 ms of good samples, power-good returns and the fault timer clears. -/
  | pgReturn (slot : Nat)
  /-- FAULT_TIMER_EXPIRY (R296): The fault timer reaches FAULT_T; cause 4 and Back-off. -/
  | faultTimerExpiry (slot : Nat)
  /-- BACKOFF_EXPIRY (R298): The back-off has passed, the temperature is at or below 130 °C and demand remains, so the retry queues. -/
  | backoffExpiry (slot : Nat)
  /-- ATTEMPT_RESET (R298): After 10 s of continuous power-good, ATTEMPT returns to 0. -/
  | attemptReset (slot : Nat)
  /-- SLOT_DEMAND_WITHDRAWN (R300): Demand is withdrawn and the gate is discharged in a controlled way. -/
  | slotDemandWithdrawn (slot : Nat)
  /-- SHUTDOWN_COMPLETE (R300): The output falls below 1 V or 50 ms pass, and the channel enters Minimum off. -/
  | shutdownComplete (slot : Nat)
  /-- MIN_OFF_EXPIRY (R301): The 200 ms minimum off time passes; the channel goes Off, or Queued when demand is pending. -/
  | minOffExpiry (slot : Nat)
  /-- SLOT_CLEAR (R298): SLP_Cn.CTRL.CLEAR takes a Latched channel to Minimum off. -/
  | slotClear (slot : Nat)
  /-- OPEN_SENSE_INJECTION (R305): Every 10 ms, bias current is injected to find open sense wires. -/
  | openSenseInjection (slotMv : List (Nat × Nat)) (feedMv : List (Nat × Nat))
  /-- FEED_UNUSABLE (R303): 25 out-of-range samples make the selected feed unusable and start a switchover. -/
  | feedUnusable (feed : Nat) (mv : Int)
  /-- FEED_QUALIFIED (R303): A feed stays in range for QUAL_MS and becomes usable. -/
  | feedQualified (feed : Nat) (mv : Int)
  /-- FEED_DEAD_TIME_EXPIRY (R303): The dead time passes and the new feed gate is driven. -/
  | feedDeadTimeExpiry
  /-- FEED_SWITCH_COMPLETE (R303): The new feed gate is fully driven and SWITCHING clears. -/
  | feedSwitchComplete
  /-- FEED_UV_MASK_END (R296): 100 µs after a switchover, slot undervoltage samples count again. -/
  | feedUvMaskEnd
  /-- FEED_REVERT (R303): The primary has been usable for RETURN_S with REVERT set, so the selector switches back. -/
  | feedRevert
  /-- FEED_REVERSED (R304): A feed below −0.3 V is marked reversed and its gate is held low. -/
  | feedReversed (feed : Nat) (mv : Int)
  /-- FEED_REVERSE_CLEAR (R304): A reversed feed has stayed at or above 0 V for 1 s and becomes a candidate again. -/
  | feedReverseClear (feed : Nat)
  /-- SHELF_STOP_CMD (R306): SLP.CMD.SHELF_STOP starts a shelf-stop. -/
  | shelfStopCmd
  /-- SHELF_RESUME (R306): SLP.CMD.RESUME ends a shelf-stop and channels with demand queue. -/
  | shelfResume
  /-- EP_PERST_CHANGE (R314): EP_PERST_N changes; a fall resets the function or enters D3cold, and a rise allows training. -/
  | epPerstChange (high : Bool)
  /-- EP_LINK_UP (R316): The endpoint reaches L0 and becomes Ready or Not ready. -/
  | epLinkUp (speed width : Nat)
  /-- EP_LINK_DOWN (R316): A hot reset or link down starts a function reset with the link lost. -/
  | epLinkDown
  /-- FUNCTION_LEVEL_RESET (R317): A Function Level Reset starts a function reset with the link kept. -/
  | functionLevelReset
  /-- EP_ENABLE_WRITE (R318): A write of EPF.CTRL.ENABLE starts training, disables the function, or is latched as pending. -/
  | epEnableWrite (enable : Bool)
  /-- FUNC_RESET_DONE (R317): A function reset completes and any pending enable is carried out. -/
  | funcResetDone
  /-- EP_CONFIG_REQUEST (R309): A configuration request is served, or answered with Request Retry Status. -/
  | epConfigRequest (write : Bool) (off value : Nat)
  /-- BAR2_READ (R312): A BAR2 read is served from DRAM below DRAM_FITTED, or answered with Unsupported Request. -/
  | bar2Read (off len : Nat) (uncorrectable : Bool)
  /-- BAR2_WRITE (R312): A BAR2 write reaches DRAM, or is discarded as protected or out of range. -/
  | bar2Write (off : Nat) (bytes : List Byte) (poisoned : Bool)
  /-- MSIX_TABLE_WRITE (R313): A BAR4 write changes an MSI-X entry, and unmasking sends a pending message. -/
  | msixTableWrite (off value : Nat)
  /-- EP_COMPLETION_TIMEOUT (R308): An endpoint-space request of the DMA engine times out and its descriptor ends with EP_ERROR. -/
  | epCompletionTimeout (ch : Nat)
  /-- SB_REGISTER_READ (R321): Sideband command 0x10 reads a BAR0 register. -/
  | sbRegisterRead (off : Nat) (pecOk : Bool)
  /-- SB_REGISTER_WRITE (R321): Sideband command 0x11 writes a BAR0 register. -/
  | sbRegisterWrite (off value : Nat) (pecOk : Bool)
  /-- SB_STATUS_READ (R321): Sideband command 0x12 returns the status of the last write. -/
  | sbStatusRead
  /-- LOCK_WRITE (R320): A write of EPF.LOCK.OWNER claims or releases the write lock, or is ignored. -/
  | lockWrite (path : Path) (value : Nat)
  /-- LOCK_TIMEOUT (R320): The lock owner has made no access for TIMEOUT_S, so the lock is released. -/
  | lockTimeout
  /-- TOCSIN_PULSE_END (R338): PULSE_MS passes and TOCSIN returns to LEVEL. -/
  | tocsinPulseEnd
  /-- TOCSIN_RESTART (R337): FLT.TOCSIN_CTRL.RESTART restarts the alive wave unless a TOCSIN fault is pending. -/
  | tocsinRestart
  /-- PEND_CLEAR (R325): A W1C write to EVC.PEND clears pending bits, which are set again within 1 µs while the source stays asserted. -/
  | pendClear (m value : Nat)
  /-- FLT_CLEAR_FIRST (R328): FLT.CLEAR.FIRST clears FIRST, FIRST_TIME and OVERFLOW. -/
  | fltClearFirst
  /-- CORE_RESET_CMD (R332): FLT.CMD.CORE_RESET performs a core reset. -/
  | coreResetCmd
  /-- HALT_HOLD_EXPIRY (R332): HALT_HOLD_S seconds after a halt, the part performs a core reset. -/
  | haltHoldExpiry
  /-- CORE_WATCHDOG_MISS (R331): A management core misses its 100 ms watchdog and raises class B. -/
  | coreWatchdogMiss
  /-- CARILLON_RECORD_WRITE (R342): The next queued record is written to its Carillon slot. -/
  | carillonRecordWrite (lineBad : Bool)
  /-- EVR_FREEZE_WRITE (R343): A write of EVR.CTRL.FREEZE freezes Carillon, or releases the held records. -/
  | evrFreezeWrite (value : Nat)
  /-- FREEZE_EXPIRY (R343): FREEZE_S seconds pass and the freeze clears. -/
  | freezeExpiry
  /-- CARILLON_CLEAR (R344): EVR.CLEAR.GO invalidates the region, restarts SEQ and writes CLEARED. -/
  | carillonClear (path : Path)
  /-- USER_RECORD (R340): EVR.SW_GO makes a USER record. -/
  | userRecord (tag : Nat)
  /-- RECORD_LATCH (R345): A write of EVR.RSEL latches a record into RDATA. -/
  | recordLatch (slot : Nat)
  /-- COUNTER_CLEAR_SEL (R349): PMC.CMD.CLEAR_SEL clears the selected counter and its OVF bit. -/
  | counterClearSel
  /-- COUNTER_CLEAR_ALL (R349): PMC.CMD.CLEAR_ALL clears every counter and OVF bit. -/
  | counterClearAll
  /-- BW_WINDOW_END (R353): A bandwidth window ends; all ports' counts are latched and BW_SEQ increments. -/
  | bwWindowEnd
  /-- REGISTER_WRITE (R4): A write to a register without behaviour of its own sets its fields by their access codes.
  `len` is the request's length in bytes on path E. -/
  | registerWrite (path : Path) (off value len : Nat)
  /-- RC_REGISTER_READ (R394): A read of an RC register returns its value and clears it.  `len` is the request's length in bytes on
  path E. -/
  | rcRegisterRead (path : Path) (off len : Nat)
  /-- PAIR_LOW_READ (R392): A read of a pair's low word latches its high word for the path. -/
  | pairLowRead (path : Path) (off : Nat)
  /-- PAIR_LOW_WRITE_TIMEOUT (R393): A held low-word write takes effect alone after 10 µs without a further access. -/
  | pairLowWriteTimeout (path : Path)
  /-- DRAM_ECC_CORRECTED (R398): A correctable DRAM error is corrected, written back and counted. -/
  | dramEccCorrected (ch addr devs : Nat)
  /-- DRAM_ECC_UNCORRECTABLE (R398): An uncorrectable DRAM error fails the requester or starts a reload of the table page. -/
  | dramEccUncorrectable (ch addr devs requester : Nat)
  /-- TABLE_PAGE_RELOAD_DONE (R398): A table page has been reloaded from the table store and the ring, and the waiting commands resume. -/
  | tablePageReloadDone (page : Nat)
  /-- PATROL_PASS_DONE (R398): A DRAM patrol pass ends and DDC_PATROL is raised. -/
  | patrolPassDone (ch : Nat)
  /-- DRAM_HOT (R399): A DRAM device reaches 85 °C and the channel refreshes at double rate. -/
  | dramHot (ch temp : Nat)
  /-- DRAM_COOL (R399): The device falls below 80 °C and the normal refresh rate returns. -/
  | dramCool (ch temp : Nat)
  /-- SIDEBAND_XFER_START (R401): SIO_Mk.GO starts a management sideband transfer after the current poll ends. -/
  | sidebandXferStart (k : Nat)
  /-- SIDEBAND_XFER_DONE (R401): A management sideband transfer ends with a RESULT code. -/
  | sidebandXferDone (k result : Nat) (bytes : List Byte)
  /-- REF_RETURN (R9): Reference edges arrive again on REFCLK_P/N after a loss, and CLK.STATUS.REF_PRESENT reads 1 again. -/
  | refReturn
  /-- ROOT_PLL_RELOCK (R333): The root PLL locks again once the reference is in range, ROOT_LOCK rises, and a class B dump that waited for the lock starts. -/
  | rootPllRelock
  /-- CONTROLLER_FATAL_STATUS (R148): A member reports CSTS.CFS = 1, and MBR clears and sets CC.EN once to try to bring it ready again. -/
  | controllerFatalStatus (slot : Nat)
  /-- CONTROLLER_READY_TIMEOUT (R148): After the CC.EN toggle, CSTS.RDY has not returned within the member's CAP.TO, so the column becomes Failed with CAUSE 0x02. -/
  | controllerReadyTimeout (slot : Nat)
  /-- GATE_CHARGE_PUMP_UV (R331): The gate charge pump stays below 19 V for 10 µs, or VDD_ANA stays below 2.9 V for 10 µs, which raises SLP_CPUMP_UV or SLP_ANA_UV, class A, and a shelf-stop. -/
  | gateChargePumpUv (ana : Bool)
  /-- ANNOUNCE_RECEIPT_TIMEOUT (R219): The IEEE 1588 announce receipt timeout expires and moves a port out of SLAVE, so PTP.SET_GO becomes effective again. -/
  | announceReceiptTimeout (port newState : Nat)
  /-- TOCSIN_ALIVE_EDGE (R337): Each half period of the 1 kHz alive wave toggles TOCSIN, and a fault latched while the wave was high holds the pin low from this falling edge. -/
  | tocsinAliveEdge
  /-- PFC_PAUSE_EXPIRY (R174): The pause quanta of a received PFC frame run out without a refresh, and the paused priority of the egress port may send again. -/
  | pfcPauseExpiry (port prio : Nat)
  /-- FIRMWARE_SOURCE_RAISE (R323): Firmware raises one of the firmware-raised event sources 1,424 to 1,535 to report a condition of its own. -/
  | firmwareSourceRaise (source : Nat)
  deriving DecidableEq, Repr

end Sys2Proof
end

