-- ==== Sys2Proof/Config.lean ====
section
/-! DEFINITION. What an implementation fixes and what the spec leaves open.

The cryptographic primitives (SHA-384, ECDSA, ECDH, AES, key unwrapping) are named by the spec and
defined in documents outside it, so they are opaque: nothing in Lean can evaluate one, and every statement holds
whatever they are (log entry 7).  The free values stand where the spec states no result (log entries 8 and 9). -/

namespace Sys2Proof

/-- SHA-384 of a byte string (R71, R360, R372). -/
opaque Config.sha384 : List Byte → Digest

/-- ECDSA P-384 verification of a 96-byte signature over a digest under a 96-byte public key (R360, R361). -/
opaque Config.ecdsaVerify : List Byte → Digest → List Byte → Bool

/-- ECDSA P-384 signature of a message by the device identity key derived from the device secret (R375). -/
opaque Config.deviceSign : List Byte → List Byte → List Byte

/-- The DER bytes of the certificate chain of SPDM slot 0: firmware payload, then device certificate (R375). -/
opaque Config.certChain : List Byte → List Byte → List Byte

/-- The boot ROM's digest (R372, MSL0). -/
opaque Config.bootRomDigest : Digest

/-- AES encryption of one block under a key of 16 or 32 bytes (R252). -/
opaque Config.aesEncrypt : List Byte → BitVec 128 → BitVec 128
/-- AES decryption of one block. -/
opaque Config.aesDecrypt : List Byte → BitVec 128 → BitVec 128

/-- Unwrapping a wrapped key under a key-encryption key; none when the integrity check fails (R261, R263). -/
opaque Config.keyUnwrap : List Byte → List Byte → Option (List Byte)
/-- The ECDH shared secret Z, 48 bytes, of the device identity key (derived from the device secret) and an ephemeral
public key; none when the point is not on the curve (R262). -/
opaque Config.ecdhSecret : List Byte → List Byte → Option (List Byte)

/-- The subsystem NQN that a configuration image gives (R23): the spec does not say where in the image it lies. -/
opaque Config.imageNqn : List Byte → List Byte

/-- Where the capabilities of R308 lie in the endpoint's configuration space, which the spec does not say: 1 Power
Management, 2 PCI Express, 3 MSI-X, 4 AER, 5 Device Serial Number (log entry 9). -/
opaque Config.epCap : Nat → Nat

/-- Do Not Retry with a status for which the spec states no value of that bit (log entry 9). -/
opaque Config.dnr : Nat → Bool

/-- The bytes of the directory of a strip of a keeper's log, which the spec does not lay out (R130; log entry 147): the table
pages with the JSEQ of the last record applied to each, the JSEQ ranges of the ring-copy blocks, the checkpoint number and
COMMIT. -/
opaque Config.dirBytes : List (Nat × Nat) → List (Nat × Nat) → Nat → Bool → List Byte

/-- A value the spec leaves open: the first argument says which, the second is the model's counter of free values
taken so far (log entry 8). -/
opaque Config.freeNat : Nat → Nat → Nat

/-- A free value that is a byte string. -/
opaque Config.freeBytes : Nat → Nat → List Byte

end Sys2Proof
end

