-- ==== Sys2Proof/Machine/Store.lean ====
section
/-! DEFINITION. Byte-addressed memory in one canonical form, and the cyclic redundancy checks of R80 and R119. -/

namespace Sys2Proof.Machine
open Sys2Proof

/-- A byte memory: (address, byte) pairs, strictly rising, none equal to what an unlisted address reads as. -/
abbrev Memory := List Host.Cell

/-- What an address that nothing has written reads as: the spec gives DRAM no power-on content (log entry 2). -/
def memFill : Byte := 0

/-- The byte at an address. -/
def memGet (m : Memory) (a : Nat) : Byte := tgetD m a memFill

/-- Write one byte; writing the fill value removes the entry. -/
def memPut (m : Memory) (a : Nat) (b : Byte) : Memory := if b = memFill then tdel m a else tput m a b

/-- Write consecutive bytes. -/
def memPutAll (m : Memory) (a : Nat) : List Byte → Memory
  | [] => m
  | b :: r => memPutAll (memPut m a b) (a + 1) r

/-- Read `n` consecutive bytes. -/
def memGetAll (m : Memory) (a n : Nat) : List Byte := (List.range n).map fun i => memGet m (a + i)

/-- Strictly rising keys, all above a bound. -/
def risingFrom {α : Type} : Nat → List (Nat × α) → Bool
  | _, [] => true
  | lo, (a, _) :: r => decide (lo ≤ a) && risingFrom (a + 1) r

/-- The canonical form of a byte memory. -/
def Memory.wf (m : Memory) : Bool := risingFrom 0 m && m.all fun c => c.2 ≠ memFill

/-- One bit step of a most-significant-bit-first CRC-64. -/
def crc64Bit (c : BitVec 64) : BitVec 64 :=
  if c.msb then (c <<< 1) ^^^ 0x42F0E1EBA9EA3693#64 else c <<< 1

/-- CRC-64 of a byte string: polynomial 0x42F0_E1EB_A9EA_3693, initial value 0, not reflected, no final XOR (R80). -/
def crc64From (c : BitVec 64) : List Byte → BitVec 64
  | [] => c
  | b :: r =>
    let x := c ^^^ ((b.zeroExtend 64) <<< 56)
    crc64From (crc64Bit (crc64Bit (crc64Bit (crc64Bit (crc64Bit (crc64Bit (crc64Bit (crc64Bit x)))))))) r

/-- CRC-64 of R80. -/
def crc64 (l : List Byte) : BitVec 64 := crc64From 0 l

/-- One bit step of a most-significant-bit-first CRC-16. -/
def crc16Bit (c : BitVec 16) : BitVec 16 := if c.msb then (c <<< 1) ^^^ 0x8BB7#16 else c <<< 1

/-- CRC-16 of a byte string with the polynomial 0x8BB7, initial value 0, not reflected: the NVMe 16-bit guard (R82). (PRESUMED,
log entry 152.) -/
def crc16From (c : BitVec 16) : List Byte → BitVec 16
  | [] => c
  | b :: r =>
    let x := c ^^^ ((b.zeroExtend 16) <<< 8)
    crc16From (crc16Bit (crc16Bit (crc16Bit (crc16Bit (crc16Bit (crc16Bit (crc16Bit (crc16Bit x)))))))) r

/-- One bit step of the reflected CRC-64 of the NVMe 64-bit guard: polynomial 0xAD93_D235_94C9_3659 (R82). -/
def crc64RBit (c : BitVec 64) : BitVec 64 :=
  if c.getLsbD 0 then (c >>> 1) ^^^ 0x9A6C9329AC4BC9B5#64 else c >>> 1

/-- The running part of the NVMe 64-bit guard. -/
def crc64RFrom (c : BitVec 64) : List Byte → BitVec 64
  | [] => c
  | b :: r =>
    let x := c ^^^ b.zeroExtend 64
    crc64RFrom (crc64RBit (crc64RBit (crc64RBit (crc64RBit (crc64RBit (crc64RBit (crc64RBit (crc64RBit x)))))))) r

/-- The host guard of a plaintext block for LBA format 1 (16-bit guard) or 2 (64-bit guard, all-ones initial value and final XOR)
(R28, R82). (PRESUMED, log entry 152.) -/
def hostGuard (f : Nat) (data : List Byte) : Nat :=
  if f = 1 then (crc16From 0 data).toNat
  else (crc64RFrom 0xFFFFFFFFFFFFFFFF#64 data ^^^ 0xFFFFFFFFFFFFFFFF#64).toNat

/-- One bit step of a reflected CRC-32C. -/
def crc32cBit (c : BitVec 32) : BitVec 32 :=
  if c.getLsbD 0 then (c >>> 1) ^^^ 0x82F63B78#32 else c >>> 1

/-- The running part of CRC-32C. -/
def crc32cFrom (c : BitVec 32) : List Byte → BitVec 32
  | [] => c
  | b :: r =>
    let x := c ^^^ b.zeroExtend 32
    crc32cFrom (crc32cBit (crc32cBit (crc32cBit (crc32cBit (crc32cBit (crc32cBit (crc32cBit (crc32cBit x)))))))) r

/-- CRC-32C: Castagnoli polynomial 0x1EDC_6F41, reflected, initial and final XOR 0xFFFF_FFFF (R119). -/
def crc32c (l : List Byte) : BitVec 32 := crc32cFrom 0xFFFFFFFF#32 l ^^^ 0xFFFFFFFF#32

/-- Multiplication by g = 2 in GF(2^8) with reduction polynomial 0x11D (R76). -/
def gdouble (a : Byte) : Byte := if a.msb then (a <<< 1) ^^^ 0x1D#8 else a <<< 1

/-- The product of two field elements, over the bits of the second from the highest of `n`. -/
def gmulBits (a b : Byte) : Nat → Byte
  | 0 => 0
  | n + 1 => gdouble (gmulBits a (b >>> 1) n) ^^^ (if b.getLsbD 0 then a else 0)

/-- The product in GF(2^8) (R76). -/
def gmul (a b : Byte) : Byte := gmulBits a b 8

/-- g^i (R76). -/
def gexp : Nat → Byte
  | 0 => 1
  | n + 1 => gdouble (gexp n)

/-- The multiplicative inverse: a^254. -/
def ginv (a : Byte) : Byte :=
  let a2 := gmul a a
  let a4 := gmul a2 a2
  let a8 := gmul a4 a4
  let a16 := gmul a8 a8
  let a32 := gmul a16 a16
  let a64 := gmul a32 a32
  let a128 := gmul a64 a64
  gmul a128 (gmul a64 (gmul a32 (gmul a16 (gmul a8 (gmul a4 a2)))))

/-- Bytewise XOR of two byte strings; the longer one's rest is kept (a missing byte counts as zero). -/
def xorBytes : List Byte → List Byte → List Byte
  | [], l => l
  | l, [] => l
  | a :: r, b :: q => (a ^^^ b) :: xorBytes r q

/-- Multiply every byte by a coefficient. -/
def scaleBytes (c : Byte) (l : List Byte) : List Byte := l.map (gmul c)

/-- A digest as 48 bytes, big-endian. -/
def digBytes (d : Digest) : List Byte := beBytes 48 d.toNat

/-- ASCII text as bytes. -/
def ascii (s : String) : List Byte := s.toList.map fun c => BitVec.ofNat 8 c.toNat

end Sys2Proof.Machine
end

