-- ==== Sys2Proof/Machine/Modes.lean ====
section
/-! DEFINITION. The modes of the cipher engine over the AES block functions (R254, R256 to R258): CBC, CFB-128, CTR and
XTS.  AES itself, of one block, is opaque (log entry 7). -/

namespace Sys2Proof.Machine
open Sys2Proof

/-- Sixteen bytes as an AES block, the first byte the most significant; missing bytes count as zero. -/
def blockOf (b : List Byte) : BitVec 128 := BitVec.ofNat 128 (leNat ((b ++ List.replicate 16 0).take 16).reverse)

/-- The bytes of an AES block. -/
def blockBytes (x : BitVec 128) : List Byte := beBytes 16 x.toNat

/-- Data with a block of key stream; no more bytes than the data has. -/
def mask16 (d : List Byte) (k : BitVec 128) : List Byte := List.zipWith (· ^^^ ·) d (blockBytes k)

/-- CBC encryption of the first `n` blocks (mode 1). -/
def cbcEncrypt (key : List Byte) : Nat → BitVec 128 → List Byte → List Byte
  | 0, _, _ => []
  | n + 1, iv, d =>
    let c := Config.aesEncrypt key (blockOf d ^^^ iv)
    blockBytes c ++ cbcEncrypt key n c (d.drop 16)

/-- CBC decryption of the first `n` blocks. -/
def cbcDecrypt (key : List Byte) : Nat → BitVec 128 → List Byte → List Byte
  | 0, _, _ => []
  | n + 1, iv, d => blockBytes (Config.aesDecrypt key (blockOf d) ^^^ iv) ++ cbcDecrypt key n (blockOf d) (d.drop 16)

/-- CFB-128 of the first `n` blocks in either direction (mode 2): the next block is fed with the ciphertext. -/
def cfbCrypt (dec : Bool) (key : List Byte) : Nat → BitVec 128 → List Byte → List Byte
  | 0, _, _ => []
  | n + 1, iv, d =>
    let out := mask16 (d.take 16) (Config.aesEncrypt key iv)
    out ++ cfbCrypt dec key n (blockOf (if dec then d else out)) (d.drop 16)

/-- The next counter block: the low 32 bits increment, the other 96 never change (R258). -/
def ctrNext (c : Nat) : Nat := c / 2 ^ 32 * 2 ^ 32 + (c + 1) % 2 ^ 32

/-- CTR of the first `n` blocks (mode 3): its two directions are the same (R256). -/
def ctrCrypt (key : List Byte) : Nat → Nat → List Byte → List Byte
  | 0, _, _ => []
  | n + 1, c, d => mask16 (d.take 16) (Config.aesEncrypt key (BitVec.ofNat 128 c)) ++ ctrCrypt key n (ctrNext c) (d.drop 16)

/-- A tweak multiplied by the primitive element of IEEE 1619, as a little-endian number. -/
def xtsNext (t : Nat) : Nat := if t < 2 ^ 127 then 2 * t else (2 * t - 2 ^ 128) ^^^ 0x87

/-- XTS of `n` blocks of one data unit from the tweak of the block at hand on; the block index never wraps (R257). -/
def xtsBlocks (aes : BitVec 128 → BitVec 128) : Nat → Nat → List Byte → List Byte
  | 0, _, _ => []
  | n + 1, t, d =>
    let m := blockOf (leBytes 16 t)
    blockBytes (aes (blockOf d ^^^ m) ^^^ m) ++ xtsBlocks aes n (xtsNext t) (d.drop 16)

/-- XTS of one data unit: the key is the data key followed by the tweak key (R261); the tweak is a 128-bit little-endian
integer (R254, R256). -/
def xtsUnit (dec : Bool) (key : List Byte) (tweak : Nat) (d : List Byte) : List Byte :=
  let k := key.take (key.length / 2)
  let t := Config.aesEncrypt (key.drop (key.length / 2)) (blockOf (leBytes 16 tweak))
  xtsBlocks (fun b => if dec then Config.aesDecrypt k b else Config.aesEncrypt k b) (d.length / 16) (leNat (blockBytes t)) d

/-- XTS of `n` data units: the tweak increments by 1, modulo 2^128, for each (R257). -/
def xtsUnits (dec : Bool) (key : List Byte) (unit : Nat) : Nat → Nat → List Byte → List Byte
  | 0, _, _ => []
  | n + 1, t, d => xtsUnit dec key (t % 2 ^ 128) (d.take unit) ++ xtsUnits dec key unit n (t + 1) (d.drop unit)

/-- The data of a descriptor through the cipher, from its first byte on (R239, R256 to R258): `iv` is the IV field with its
first byte the most significant; of a last block that is not whole (R244) only CFB-128 and CTR give bytes. -/
def descCrypt (key : List Byte) (mode : Nat) (dec : Bool) (unit iv : Nat) (d : List Byte) : List Byte :=
  let whole := d.length / 16
  let all := (d.length + 15) / 16
  match mode with
  | 1 => if dec then cbcDecrypt key whole (BitVec.ofNat 128 iv) d else cbcEncrypt key whole (BitVec.ofNat 128 iv) d
  | 2 => cfbCrypt dec key all (BitVec.ofNat 128 iv) d
  | 3 => ctrCrypt key all iv d
  | 4 => xtsUnits dec key unit ((d.length + unit - 1) / unit) (leNat (beBytes 16 iv)) d
  | _ => d

end Sys2Proof.Machine
end

