-- ==== Sys2Proof/Machine/RegMap.lean ====
section
/-! DEFINITION. The register map of the part, from the block summaries of spec/: the base of every block
(R386), the instance bases and strides (R387), every register's offset, its access codes (R4) and the bits each
code covers, every named field, and the reset values other than zero.

`Reg.B.R` is the absolute BAR0 offset of register R of block B; a replicated block takes its instance number `n`
first, a multi-word register its word number `m` (or class number) last.  `Fld.B.R.X` is field X of that register.
A register whose summary gives one unnamed value has the field `V`.
The rows of `regRows` that give the access masks follow the field tables; reserved bits belong to no mask. -/

namespace Sys2Proof.Machine

/-- A field of a register: the register's BAR0 offset, its lowest bit and its width. -/
structure FieldAt where
  reg : Nat
  lo : Nat
  w : Nat
  deriving DecidableEq, Repr

/-- One line of a block summary: `icount` instances `istride` apart, each of `span` consecutive words, and the bits
of each word under each access code of R4. -/
structure RegRow where
  base : Nat
  istride : Nat
  icount : Nat
  span : Nat
  rw : Nat
  rws : Nat
  w1c : Nat
  w1s : Nat
  wo : Nat
  rc : Nat
  deriving DecidableEq, Repr

namespace Reg

/-! CLK: spec/01_shelf_model.md -/
def CLK.STATUS : Nat := 0x10000
def CLK.REF_OFFSET : Nat := 0x10004
def CLK.EVENT : Nat := 0x10008
def CLK.LOCK_COUNT : Nat := 0x1000c

/-! ZMP: spec/02_namespaces_and_zones.md -/
def ZMP.CAP : Nat := 0x180000
def ZMP.ACTIVE : Nat := 0x180004
def ZMP.ZONE_GEOM : Nat := 0x180008
def ZMP.ANA : Nat := 0x18000c
def ZMP.EVENT : Nat := 0x180010
def ZMP.NS_SELECT : Nat := 0x180014
def ZMP.NS_CFG : Nat := 0x180018
def ZMP.NS_COMMIT : Nat := 0x18001c
def ZMP.NS_RESULT : Nat := 0x180020
def ZMP.NS_SIZE_LO : Nat := 0x180028
def ZMP.NS_SIZE_HI : Nat := 0x18002c
def ZMP.ZONE_COUNT_LO : Nat := 0x180030
def ZMP.ZONE_COUNT_HI : Nat := 0x180034
def ZMP.ZONE_FREE_LO : Nat := 0x180038
def ZMP.ZONE_FREE_HI : Nat := 0x18003c
def ZMP.HOST_SELECT : Nat := 0x180040
def ZMP.HOST_PERM : Nat := 0x180044
def ZMP.ZONE_SELECT : Nat := 0x180048
def ZMP.HOST_NQN (m : Nat) : Nat := 0x180100 + 4 * m
def ZMP.HOST_NS_ACCESS (m : Nat) : Nat := 0x180200 + 4 * m
def ZMP.ZONE_ENTRY (m : Nat) : Nat := 0x180300 + 4 * m

/-! NVQ: spec/03_command_queueing.md -/
def NVQ.CAP : Nat := 0x140000
def NVQ.TAG_MAX : Nat := 0x140004
def NVQ.TAG_USE : Nat := 0x140008
def NVQ.TAG_PEAK : Nat := 0x14000c
def NVQ.TAG_RESERVE : Nat := 0x140010
def NVQ.TRACK_ENTRIES : Nat := 0x140014
def NVQ.TRACK_WAITING : Nat := 0x140018
def NVQ.TRACK_MAX_WAIT : Nat := 0x14001c
def NVQ.CAPSULE_SLOTS : Nat := 0x140020
def NVQ.CAPSULE_GRANTED : Nat := 0x140024
def NVQ.ARB : Nat := 0x140028
def NVQ.BG : Nat := 0x14002c
def NVQ.QC_SELECT : Nat := 0x140030
def NVQ.QCLASS (m : Nat) : Nat := 0x140034 + 4 * m
def NVQ.SELFTEST : Nat := 0x140044
def NVQ.EDSTT : Nat := 0x140048
def NVQ.ABORT_COUNT : Nat := 0x14004c
def NVQ.EVENT : Nat := 0x140050

/-! STR: spec/04_stripes_and_syndromes.md -/
def STR.GEOM : Nat := 0x1c0000
def STR.ROWS : Nat := 0x1c0004
def STR.STATUS : Nat := 0x1c0008
def STR.MEMBER_STRIPS_LO : Nat := 0x1c0010
def STR.MEMBER_STRIPS_HI : Nat := 0x1c0014
def STR.DATA_STRIPS_LO : Nat := 0x1c0018
def STR.DATA_STRIPS_HI : Nat := 0x1c001c
def STR.SPARE_STRIPS_LO : Nat := 0x1c0020
def STR.SPARE_STRIPS_HI : Nat := 0x1c0024
def STR.STRIPES_LO : Nat := 0x1c0028
def STR.STRIPES_HI : Nat := 0x1c002c
def STR.ROT_SELECT : Nat := 0x1c0030
def STR.ROT_ROW (m : Nat) : Nat := 0x1c0040 + 4 * m
def STR.COLMAP (m : Nat) : Nat := 0x1c0060 + 4 * m
def STR.PROBE_STRIPE_LO : Nat := 0x1c00a0
def STR.PROBE_STRIPE_HI : Nat := 0x1c00a4
def STR.PROBE_POS : Nat := 0x1c00a8
def STR.PROBE_RESULT : Nat := 0x1c00ac
def STR.PROBE_INDEX_LO : Nat := 0x1c00b0
def STR.PROBE_INDEX_HI : Nat := 0x1c00b4

/-! BRL: spec/04_stripes_and_syndromes.md -/
def BRL.PARTIAL_SLOTS : Nat := 0x1e0000
def BRL.PARTIAL_USE : Nat := 0x1e0004
def BRL.RECON_BYTES : Nat := 0x1e0008
def BRL.RECON_JOBS : Nat := 0x1e000c
def BRL.ARB : Nat := 0x1e0010
def BRL.EVENT : Nat := 0x1e0014
def BRL.ERR_INGRESS : Nat := 0x1e0020
def BRL.ERR_FOLD : Nat := 0x1e0024
def BRL.ERR_MWRITE : Nat := 0x1e0028
def BRL.ERR_MREAD : Nat := 0x1e002c
def BRL.ERR_RECON : Nat := 0x1e0030
def BRL.ERR_EGRESS : Nat := 0x1e0034
def BRL.SLOT_SELECT : Nat := 0x1e0040
def BRL.SLOT_STATE : Nat := 0x1e0044
def BRL.SLOT_STRIPE_LO : Nat := 0x1e0048
def BRL.SLOT_STRIPE_HI : Nat := 0x1e004c
def BRL.RECON_BLOCKS_LO : Nat := 0x1e0050
def BRL.RECON_BLOCKS_HI : Nat := 0x1e0054

/-! MBR: spec/05_dark_members.md -/
def MBR.PWR_CFG : Nat := 0x240200
def MBR.DARK_EPOCH : Nat := 0x240204
def MBR.IDLE_CFG : Nat := 0x240208
def MBR.WAKE_CFG : Nat := 0x24020c
def MBR.PWR_STATUS : Nat := 0x240210
def MBR.DARK_MAX : Nat := 0x240214
def MBR.DARK_SET_LO : Nat := 0x240218
def MBR.DARK_SET_HI : Nat := 0x24021c
def MBR.WAKE_PENDING_LO : Nat := 0x240220
def MBR.WAKE_PENDING_HI : Nat := 0x240224
def MBR.PWR_EVENT : Nat := 0x240228
def MBR.SKIP_COUNT : Nat := 0x24022c
def MBR.PSEL : Nat := 0x240230
def MBR.MPWR : Nat := 0x240234
def MBR.DARK_MINUTES : Nat := 0x240238
def MBR.WAKE_LAST : Nat := 0x24023c
def MBR.PWR_DOMAIN (m : Nat) : Nat := 0x240240 + 4 * m
def MBR.DOMAIN_GATE : Nat := 0x240258
def MBR.DEFERRED : Nat := 0x24025c

/-! GNT: spec/06_garnet_journal.md -/
def GNT.CAP : Nat := 0x200000
def GNT.STATUS : Nat := 0x200004
def GNT.EVENT : Nat := 0x200008
def GNT.JSEQ_LO : Nat := 0x200010
def GNT.JSEQ_HI : Nat := 0x200014
def GNT.CKPT_SEQ_LO : Nat := 0x200018
def GNT.CKPT_SEQ_HI : Nat := 0x20001c
def GNT.RING_USE : Nat := 0x200020
def GNT.CKPT_CFG : Nat := 0x200024
def GNT.KEEPERS : Nat := 0x200028
def GNT.CKPT_NUM : Nat := 0x20002c
def GNT.WEAR : Nat := 0x200030
def GNT.SPARE_LINES : Nat := 0x200034
def GNT.DUMP : Nat := 0x200038
def GNT.MIRROR_CFG : Nat := 0x200040
def GNT.MIRROR_TIME : Nat := 0x200044
def GNT.MIRROR : Nat := 0x200048
def GNT.MSEQ_SENT_LO : Nat := 0x200050
def GNT.MSEQ_SENT_HI : Nat := 0x200054
def GNT.MSEQ_ACKED_LO : Nat := 0x200058
def GNT.MSEQ_ACKED_HI : Nat := 0x20005c
def GNT.MSEQ_APPLIED_LO : Nat := 0x200060
def GNT.MSEQ_APPLIED_HI : Nat := 0x200064
def GNT.VERIFY : Nat := 0x200068
def GNT.DUP_COUNT : Nat := 0x20006c
def GNT.RETX_COUNT : Nat := 0x200070

/-! MBR: spec/07_failure_and_rebuild.md -/
def MBR.CAP : Nat := 0x240000
def MBR.STATUS : Nat := 0x240004
def MBR.EVENT : Nat := 0x240008
def MBR.FAIL_CFG : Nat := 0x24000c
def MBR.ABSENT_CFG : Nat := 0x240010
def MBR.REBUILD_CFG : Nat := 0x240014
def MBR.SCRUB_CFG : Nat := 0x240018
def MBR.MSEL : Nat := 0x24001c
def MBR.MSTATE : Nat := 0x240020
def MBR.MCMD : Nat := 0x240024
def MBR.MCMD_RESULT : Nat := 0x240028
def MBR.CURSOR_LO : Nat := 0x240030
def MBR.CURSOR_HI : Nat := 0x240034
def MBR.LEFT_LO : Nat := 0x240038
def MBR.LEFT_HI : Nat := 0x24003c
def MBR.MISSED : Nat := 0x240040
def MBR.MISMATCH_COUNT : Nat := 0x240044
def MBR.TIMEOUT_COUNT : Nat := 0x240048
def MBR.SCRUB_CURSOR_LO : Nat := 0x240050
def MBR.SCRUB_CURSOR_HI : Nat := 0x240054
def MBR.SCRUB_PASS : Nat := 0x240058
def MBR.SCRUB_REPAIRS : Nat := 0x24005c
def MBR.LOSS_COUNT : Nat := 0x240060
def MBR.SPARE_FREE : Nat := 0x240064
def MBR.REPAIR_USE : Nat := 0x240068
def MBR.FAILED_SET_LO : Nat := 0x240070
def MBR.FAILED_SET_HI : Nat := 0x240074
def MBR.ABSENT_SET_LO : Nat := 0x240078
def MBR.ABSENT_SET_HI : Nat := 0x24007c
def MBR.MISSED_SET_LO : Nat := 0x240080
def MBR.MISSED_SET_HI : Nat := 0x240084
def MBR.SPARE_HOLDER_LO : Nat := 0x240088
def MBR.SPARE_HOLDER_HI : Nat := 0x24008c
def MBR.LOSS_SELECT : Nat := 0x240090
def MBR.LOSS_ENTRY (m : Nat) : Nat := 0x240100 + 4 * m

/-! FAB: spec/08_fabric_transport.md -/
def FAB.CAP : Nat := 0xc0000
def FAB.EVENT : Nat := 0xc0004
def FAB.RC_CFG : Nat := 0xc0008
def FAB.RD_POOL : Nat := 0xc000c
def FAB.CC_CFG : Nat := 0xc0010
def FAB.WIN_SELECT : Nat := 0xc0020
def FAB.WIN_CTRL : Nat := 0xc0024
def FAB.WIN_KEY : Nat := 0xc0028
def FAB.WIN_BASE_LO : Nat := 0xc0030
def FAB.WIN_BASE_HI : Nat := 0xc0034
def FAB.WIN_LEN_LO : Nat := 0xc0038
def FAB.WIN_LEN_HI : Nat := 0xc003c
def FAB.WIN_COMMIT : Nat := 0xc0040
def FAB.WIN_STATUS : Nat := 0xc0044
def FAB.RETX_COUNT : Nat := 0xc0050
def FAB.NAK_SENT : Nat := 0xc0054
def FAB.NAK_RCVD : Nat := 0xc0058
def FAB.DUP_RX : Nat := 0xc005c
def FAB.CONN_FAILED : Nat := 0xc0060
def FAB.BAD_RX : Nat := 0xc0064
def FAB.GID (m : Nat) : Nat := 0xc0100 + 4 * m

/-! FAB_E: spec/08_fabric_transport.md -/
def FAB_E.PORT_CFG (n : Nat) : Nat := 0xc1000 + 0x400 * n
def FAB_E.PORT_STATUS (n : Nat) : Nat := 0xc1004 + 0x400 * n
def FAB_E.PFC_CFG (n : Nat) : Nat := 0xc1008 + 0x400 * n
def FAB_E.DSCP_MAP (n : Nat) (m : Nat) : Nat := 0xc1010 + 0x400 * n + 4 * m
def FAB_E.FEC_CORR (n : Nat) : Nat := 0xc1030 + 0x400 * n
def FAB_E.FEC_UNCORR (n : Nat) : Nat := 0xc1034 + 0x400 * n
def FAB_E.RX_DROP (n : Nat) : Nat := 0xc1038 + 0x400 * n
def FAB_E.PAUSE_RX (n : Nat) : Nat := 0xc103c + 0x400 * n
def FAB_E.MAC_LO (n : Nat) : Nat := 0xc1040 + 0x400 * n
def FAB_E.MAC_HI (n : Nat) : Nat := 0xc1044 + 0x400 * n

/-! QPC: spec/08_fabric_transport.md -/
def QPC.CONN_MAX : Nat := 0x100000
def QPC.RESIDENT_MAX : Nat := 0x100004
def QPC.MISS_BUF_BYTES : Nat := 0x100008
def QPC.STATUS : Nat := 0x10000c
def QPC.CONN_USE : Nat := 0x100010
def QPC.FETCH : Nat := 0x100014
def QPC.FETCH_LAT_MAX : Nat := 0x100018
def QPC.HITS_LO : Nat := 0x100020
def QPC.HITS_HI : Nat := 0x100024
def QPC.MISSES_LO : Nat := 0x100028
def QPC.MISSES_HI : Nat := 0x10002c
def QPC.DROP_LIMIT : Nat := 0x100030
def QPC.DROP_FULL : Nat := 0x100034
def QPC.MISS_PEAK : Nat := 0x100038
def QPC.EVENT : Nat := 0x10003c
def QPC.CSEL : Nat := 0x100040
def QPC.CINFO : Nat := 0x100044
def QPC.CHOST : Nat := 0x100048

/-! SWC: spec/09_switch_and_cascade.md -/
def SWC.CAP : Nat := 0xa0000
def SWC.BUF_CELLS : Nat := 0xa0004
def SWC.BUF_USE : Nat := 0xa0008
def SWC.SHARED_FREE : Nat := 0xa000c
def SWC.EVENT : Nat := 0xa0010
def SWC.GEN : Nat := 0xa0014
def SWC.GEN_DRAIN : Nat := 0xa0018
def SWC.Q_MAX : Nat := 0xa001c
def SWC.PFC_THRESH : Nat := 0xa0020
def SWC.CT_CFG0 : Nat := 0xa0024
def SWC.CT_CFG1 : Nat := 0xa0028
def SWC.TOPO_CFG : Nat := 0xa0030
def SWC.TOPO_STATUS : Nat := 0xa0034
def SWC.DEV_ROUTE : Nat := 0xa0038
def SWC.BOARD_ID : Nat := 0xa003c
def SWC.TBL_SELECT : Nat := 0xa0040
def SWC.TBL_DATA (m : Nat) : Nat := 0xa0044 + 4 * m
def SWC.TBL_COMMIT : Nat := 0xa0054
def SWC.TBL_STATUS : Nat := 0xa0058
def SWC.DROP_LOSSY : Nat := 0xa0060
def SWC.DROP_HEADROOM : Nat := 0xa0064
def SWC.DROP_NOROUTE : Nat := 0xa0068
def SWC.DROP_AGED : Nat := 0xa006c
def SWC.DROP_EGRESS_DOWN : Nat := 0xa0070
def SWC.MC_DROP : Nat := 0xa0074
def SWC.STOMPED : Nat := 0xa0078

/-! PTP: spec/10_time_gates_and_shaping.md -/
def PTP.CFG : Nat := 0x60000
def PTP.STATUS : Nat := 0x60004
def PTP.EVENT : Nat := 0x60008
def PTP.TIME_LO : Nat := 0x60010
def PTP.TIME_HI : Nat := 0x60014
def PTP.ADJ_RATE : Nat := 0x60018
def PTP.SET_TIME_LO : Nat := 0x60020
def PTP.SET_TIME_HI : Nat := 0x60024
def PTP.SET_GO : Nat := 0x60028
def PTP.SERVO : Nat := 0x6002c
def PTP.OFFSET_LO : Nat := 0x60030
def PTP.OFFSET_HI : Nat := 0x60034
def PTP.PORT_STATE : Nat := 0x60038
def PTP.PPS : Nat := 0x6003c
def PTP.PPS_IN_TS_LO : Nat := 0x60040
def PTP.PPS_IN_TS_HI : Nat := 0x60044
def PTP.RX_DROP : Nat := 0x60048

/-! TGS: spec/10_time_gates_and_shaping.md -/
def TGS.CAP : Nat := 0x80000
def TGS.CFG : Nat := 0x80004
def TGS.STATUS : Nat := 0x80008
def TGS.EVENT : Nat := 0x8000c
def TGS.LSEL : Nat := 0x80010
def TGS.L_BASE_LO : Nat := 0x80018
def TGS.L_BASE_HI : Nat := 0x8001c
def TGS.L_CYCLE_LO : Nat := 0x80020
def TGS.L_CYCLE_HI : Nat := 0x80024
def TGS.L_LEN : Nat := 0x80028
def TGS.L_ESEL : Nat := 0x8002c
def TGS.L_GATES : Nat := 0x80030
def TGS.L_INTERVAL : Nat := 0x80034
def TGS.L_COMMIT : Nat := 0x80038
def TGS.L_RESULT : Nat := 0x8003c
def TGS.SKIP_CYCLES_LO : Nat := 0x80040
def TGS.SKIP_CYCLES_HI : Nat := 0x80044
def TGS.L_START_LO : Nat := 0x80048
def TGS.L_START_HI : Nat := 0x8004c
def TGS.PORT_GATES0 : Nat := 0x80050
def TGS.PORT_GATES1 : Nat := 0x80054
def TGS.CAL_BASE_LO : Nat := 0x80060
def TGS.CAL_BASE_HI : Nat := 0x80064
def TGS.CAL_CFG : Nat := 0x80068
def TGS.CAL_ESEL : Nat := 0x8006c
def TGS.CAL_TIME : Nat := 0x80070
def TGS.CAL_ACTION : Nat := 0x80074
def TGS.OVL_STATUS : Nat := 0x80078
def TGS.CAL_CURRENT : Nat := 0x8007c

/-! TGS_P: spec/10_time_gates_and_shaping.md -/
def TGS_P.SCHED (n : Nat) : Nat := 0x81000 + 0x100 * n
def TGS_P.WEIGHT0 (n : Nat) : Nat := 0x81004 + 0x100 * n
def TGS_P.WEIGHT1 (n : Nat) : Nat := 0x81008 + 0x100 * n
def TGS_P.SHAPE_RATE (n : Nat) (m : Nat) : Nat := 0x81010 + 0x100 * n + 4 * m
def TGS_P.SHAPE_BURST (n : Nat) (m : Nat) : Nat := 0x81030 + 0x100 * n + 4 * m
def TGS_P.SHAPE_CREDIT (n : Nat) (m : Nat) : Nat := 0x81050 + 0x100 * n + 4 * m
def TGS_P.POLICE (n : Nat) (m : Nat) : Nat := 0x81070 + 0x100 * n + 4 * m
def TGS_P.POLICE_BURST (n : Nat) (m : Nat) : Nat := 0x81090 + 0x100 * n + 4 * m
def TGS_P.POLICE_DROP (n : Nat) : Nat := 0x810b0 + 0x100 * n
def TGS_P.POLICE_MARK (n : Nat) : Nat := 0x810b4 + 0x100 * n

/-! DMA: spec/11_dma_engine.md -/
def DMA.CAP : Nat := 0x340000
def DMA.BUF_BYTES : Nat := 0x340004
def DMA.STATUS : Nat := 0x340008
def DMA.EVENT : Nat := 0x34000c
def DMA.ERR_CHANNELS : Nat := 0x340010
def DMA.LINES : Nat := 0x340014
def DMA.BYTES_LO : Nat := 0x340018
def DMA.BYTES_HI : Nat := 0x34001c

/-! DMA_C: spec/11_dma_engine.md -/
def DMA_C.CTRL (n : Nat) : Nat := 0x341000 + 0x100 * n
def DMA_C.CFG (n : Nat) : Nat := 0x341004 + 0x100 * n
def DMA_C.HEAD_LO (n : Nat) : Nat := 0x341008 + 0x100 * n
def DMA_C.HEAD_HI (n : Nat) : Nat := 0x34100c + 0x100 * n
def DMA_C.DOORBELL (n : Nat) : Nat := 0x341010 + 0x100 * n
def DMA_C.DB_COUNT (n : Nat) : Nat := 0x341014 + 0x100 * n
def DMA_C.STATUS (n : Nat) : Nat := 0x341018 + 0x100 * n
def DMA_C.CUR_DESC_LO (n : Nat) : Nat := 0x341020 + 0x100 * n
def DMA_C.CUR_DESC_HI (n : Nat) : Nat := 0x341024 + 0x100 * n
def DMA_C.EVENT (n : Nat) : Nat := 0x341028 + 0x100 * n
def DMA_C.DONE_COUNT (n : Nat) : Nat := 0x34102c + 0x100 * n
def DMA_C.BUF_USE (n : Nat) : Nat := 0x341030 + 0x100 * n

/-! AES: spec/12_cipher_and_keys.md -/
def AES.CAP : Nat := 0x380000
def AES.ARB : Nat := 0x380004
def AES.STATUS : Nat := 0x380008
def AES.EVENT : Nat := 0x38000c
def AES.TAMPER : Nat := 0x380010
def AES.WRAP_COUNT : Nat := 0x380014
def AES.BYTES_STORAGE_LO : Nat := 0x380020
def AES.BYTES_STORAGE_HI : Nat := 0x380024
def AES.BYTES_DESC_LO : Nat := 0x380028
def AES.BYTES_DESC_HI : Nat := 0x38002c

/-! KEY: spec/12_cipher_and_keys.md -/
def KEY.CAP : Nat := 0x3c0000
def KEY.STATUS : Nat := 0x3c0004
def KEY.EVENT : Nat := 0x3c0008
def KEY.IMP_CTRL : Nat := 0x3c000c
def KEY.IMP_GO : Nat := 0x3c0010
def KEY.IMP_RESULT : Nat := 0x3c0014
def KEY.ZEROISE : Nat := 0x3c0018
def KEY.SLOT_SELECT : Nat := 0x3c001c
def KEY.SLOT_INFO : Nat := 0x3c0020
def KEY.IMP_DATA (m : Nat) : Nat := 0x3c0040 + 4 * m
def KEY.EPHEM (m : Nat) : Nat := 0x3c0100 + 4 * m

/-! DRP: spec/13_drive_ports.md -/
def DRP.CAP : Nat := 0x2b0000
def DRP.MODE : Nat := 0x2b0004
def DRP.CPL_TIMEOUT : Nat := 0x2b0008
def DRP.EVENT : Nat := 0x2b000c
def DRP.MI_CFG : Nat := 0x2b0010
def DRP.ZONED : Nat := 0x2b0014
def DRP.PRESENT_LO : Nat := 0x2b0018
def DRP.PRESENT_HI : Nat := 0x2b001c
def DRP.UP_LO : Nat := 0x2b0020
def DRP.UP_HI : Nat := 0x2b0024
def DRP.DCLK_EN : Nat := 0x2b0028

/-! DRP_P: spec/13_drive_ports.md -/
def DRP_P.CTRL (n : Nat) : Nat := 0x280000 + 0x1000 * n
def DRP_P.STATUS (n : Nat) : Nat := 0x280004 + 0x1000 * n
def DRP_P.SLOT_CAP (n : Nat) : Nat := 0x280008 + 0x1000 * n
def DRP_P.SLOT_CTRL (n : Nat) : Nat := 0x28000c + 0x1000 * n
def DRP_P.SLOT_STATUS (n : Nat) : Nat := 0x280010 + 0x1000 * n
def DRP_P.TAGS (n : Nat) : Nat := 0x280014 + 0x1000 * n
def DRP_P.TIMEOUTS (n : Nat) : Nat := 0x280018 + 0x1000 * n
def DRP_P.LATE_CPL (n : Nat) : Nat := 0x28001c + 0x1000 * n
def DRP_P.LATE_DATA (n : Nat) : Nat := 0x280020 + 0x1000 * n
def DRP_P.MI_STATUS (n : Nat) : Nat := 0x280024 + 0x1000 * n
def DRP_P.LINK_ERR (n : Nat) : Nat := 0x280028 + 0x1000 * n
def DRP_P.CFG_ADDR (n : Nat) : Nat := 0x28002c + 0x1000 * n
def DRP_P.CFG_DATA (n : Nat) : Nat := 0x280030 + 0x1000 * n
def DRP_P.CFG_CMD (n : Nat) : Nat := 0x280034 + 0x1000 * n
def DRP_P.CFG_STATUS (n : Nat) : Nat := 0x280038 + 0x1000 * n

/-! SLP: spec/14_slot_power.md -/
def SLP.CAP : Nat := 0x300000
def SLP.CFG : Nat := 0x300004
def SLP.STATUS : Nat := 0x300008
def SLP.EVENT : Nat := 0x30000c
def SLP.CMD : Nat := 0x300010
def SLP.TREF : Nat := 0x300014
def SLP.PG_SET_LO : Nat := 0x300018
def SLP.PG_SET_HI : Nat := 0x30001c
def SLP.LATCHED_LO : Nat := 0x300020
def SLP.LATCHED_HI : Nat := 0x300024
def SLP.FEED_CFG : Nat := 0x300100
def SLP.FEED_LIMITS : Nat := 0x300104
def SLP.FEED_STATUS : Nat := 0x300108
def SLP.FEED_V : Nat := 0x30010c
def SLP.FEED_SWITCHES : Nat := 0x300110

/-! SLP_C: spec/14_slot_power.md -/
def SLP_C.CTRL (n : Nat) : Nat := 0x301000 + 0x40 * n
def SLP_C.CFG (n : Nat) : Nat := 0x301004 + 0x40 * n
def SLP_C.RAMP (n : Nat) : Nat := 0x301008 + 0x40 * n
def SLP_C.TIMER (n : Nat) : Nat := 0x30100c + 0x40 * n
def SLP_C.SHUNT (n : Nat) : Nat := 0x301010 + 0x40 * n
def SLP_C.MODEL0 (n : Nat) : Nat := 0x301014 + 0x40 * n
def SLP_C.MODEL1 (n : Nat) : Nat := 0x301018 + 0x40 * n
def SLP_C.STATUS (n : Nat) : Nat := 0x30101c + 0x40 * n
def SLP_C.MEAS (n : Nat) : Nat := 0x301020 + 0x40 * n
def SLP_C.TEMP (n : Nat) : Nat := 0x301024 + 0x40 * n
def SLP_C.EVENT (n : Nat) : Nat := 0x301028 + 0x40 * n
def SLP_C.TRIPS (n : Nat) : Nat := 0x30102c + 0x40 * n
def SLP_C.LAST_RAMP (n : Nat) : Nat := 0x301030 + 0x40 * n

/-! EPF: spec/15_management_endpoint.md -/
def EPF.CAP : Nat := 0x400000
def EPF.ID : Nat := 0x400004
def EPF.CTRL : Nat := 0x400008
def EPF.STATUS : Nat := 0x40000c
def EPF.EVENT : Nat := 0x400010
def EPF.BAR2_CFG : Nat := 0x400014
def EPF.BAR2_MAP_LO : Nat := 0x400018
def EPF.BAR2_MAP_HI : Nat := 0x40001c
def EPF.LOCK : Nat := 0x400020
def EPF.LOCK_DISCARDS : Nat := 0x400024
def EPF.BAR2_DISCARDS : Nat := 0x400028
def EPF.SB_CFG : Nat := 0x40002c

/-! FLT: spec/16_faults_and_events.md -/
def FLT.CFG : Nat := 0x30000
def FLT.STATUS : Nat := 0x30004
def FLT.FIRST : Nat := 0x30008
def FLT.FIRST_TIME_LO : Nat := 0x30010
def FLT.FIRST_TIME_HI : Nat := 0x30014
def FLT.OVERFLOW : Nat := 0x30018
def FLT.CLEAR : Nat := 0x3001c
def FLT.TOCSIN_CTRL : Nat := 0x30020
def FLT.CMD : Nat := 0x30024
def FLT.RESET_CAUSE : Nat := 0x30028
def FLT.STICKY (m : Nat) : Nat := 0x30100 + 4 * m

/-! EVC: spec/16_faults_and_events.md -/
def EVC.CAP : Nat := 0x38000
def EVC.SRC_SELECT : Nat := 0x38004
def EVC.SRC_INFO : Nat := 0x38008
def EVC.SRC_CFG : Nat := 0x3800c
def EVC.SRC_STATE : Nat := 0x38010
def EVC.BLOCK_PEND : Nat := 0x38014
def EVC.PEND (m : Nat) : Nat := 0x38100 + 4 * m

/-! EVR: spec/16_faults_and_events.md -/
def EVR.CAP : Nat := 0x40000
def EVR.CTRL : Nat := 0x40004
def EVR.STATUS : Nat := 0x40008
def EVR.NEXT_SEQ : Nat := 0x4000c
def EVR.LOST : Nat := 0x40010
def EVR.CLEAR : Nat := 0x40014
def EVR.RSEL : Nat := 0x40018
def EVR.RDATA (m : Nat) : Nat := 0x40020 + 4 * m
def EVR.SW_P (m : Nat) : Nat := 0x40040 + 4 * m
def EVR.SW_GO : Nat := 0x4004c

/-! PMC: spec/17_performance_counters.md -/
def PMC.CAP : Nat := 0x50000
def PMC.CTRL : Nat := 0x50004
def PMC.EVENT : Nat := 0x50008
def PMC.CSEL : Nat := 0x5000c
def PMC.CCFG : Nat := 0x50010
def PMC.CMASTER : Nat := 0x50014
def PMC.CADDR : Nat := 0x50018
def PMC.CFIRST_LO : Nat := 0x50020
def PMC.CFIRST_HI : Nat := 0x50024
def PMC.CLAST_LO : Nat := 0x50028
def PMC.CLAST_HI : Nat := 0x5002c
def PMC.CVAL_LO : Nat := 0x50030
def PMC.CVAL_HI : Nat := 0x50034
def PMC.CSTAT : Nat := 0x50038
def PMC.CMD : Nat := 0x5003c
def PMC.LAST_GAP : Nat := 0x50040
def PMC.OVF (m : Nat) : Nat := 0x50044 + 4 * m
def PMC.SMP_CFG : Nat := 0x50080
def PMC.SMP_N : Nat := 0x50084
def PMC.SMP_BASE_LO : Nat := 0x50088
def PMC.SMP_BASE_HI : Nat := 0x5008c
def PMC.SMP_RECORDS : Nat := 0x50090
def PMC.SMP_HEAD : Nat := 0x50094
def PMC.SMP_TAIL : Nat := 0x50098
def PMC.SMP_LOST : Nat := 0x5009c
def PMC.SMP_SEEN_LO : Nat := 0x500a0
def PMC.SMP_SEEN_HI : Nat := 0x500a4
def PMC.BW_CFG : Nat := 0x500c0
def PMC.BW_SEQ : Nat := 0x500c4
def PMC.BW_SEL : Nat := 0x500c8
def PMC.BW_RX : Nat := 0x500cc
def PMC.BW_TX : Nat := 0x500d0

/-! TOP: spec/18_startup_configuration_trust.md -/
def TOP.ID : Nat := 0x0
def TOP.STATUS : Nat := 0x4
def TOP.EVENT : Nat := 0x8
def TOP.SUPPLY : Nat := 0xc
def TOP.DRAM_REQUIRED : Nat := 0x10
def TOP.DRAM_FITTED : Nat := 0x14
def TOP.SEAL : Nat := 0x18
def TOP.OVL_REQ : Nat := 0x1c
def TOP.OVL_VALID : Nat := 0x20

/-! CFG: spec/18_startup_configuration_trust.md -/
def CFG.STATUS : Nat := 0x20000
def CFG.SVN : Nat := 0x20004
def CFG.COPY : Nat := 0x20008
def CFG.UID_LO : Nat := 0x20010
def CFG.UID_HI : Nat := 0x20014
def CFG.IMAGE_GEN_LO : Nat := 0x20018
def CFG.IMAGE_GEN_HI : Nat := 0x2001c
def CFG.MSL_SELECT : Nat := 0x20020
def CFG.MSL_DATA (m : Nat) : Nat := 0x20040 + 4 * m
def CFG.DATA (m : Nat) : Nat := 0x20080 + 4 * m
def CFG.UPD_ADDR_LO : Nat := 0x200b0
def CFG.UPD_ADDR_HI : Nat := 0x200b4
def CFG.UPD_LEN : Nat := 0x200b8
def CFG.CMD : Nat := 0x200bc
def CFG.CMD_RESULT : Nat := 0x200c0
def CFG.SPDM : Nat := 0x200c4

/-! TOP: spec/20_register_index.md -/
def TOP.BAD_ADDR : Nat := 0x24
def TOP.BAD_INFO : Nat := 0x28

/-! DDC: spec/20_register_index.md -/
def DDC.CAP : Nat := 0x440000
def DDC.STATUS : Nat := 0x440004
def DDC.EVENT : Nat := 0x440008
def DDC.SIZE : Nat := 0x44000c
def DDC.CE_TOTAL : Nat := 0x440010
def DDC.UE_TOTAL : Nat := 0x440014

/-! DDC_C: spec/20_register_index.md -/
def DDC_C.CFG (n : Nat) : Nat := 0x441000 + 0x1000 * n
def DDC_C.STATUS (n : Nat) : Nat := 0x441004 + 0x1000 * n
def DDC_C.EVENT (n : Nat) : Nat := 0x441008 + 0x1000 * n
def DDC_C.TIM (n : Nat) (m : Nat) : Nat := 0x441010 + 0x1000 * n + 4 * m
def DDC_C.CE_COUNT (n : Nat) : Nat := 0x441050 + 0x1000 * n
def DDC_C.UE_COUNT (n : Nat) : Nat := 0x441054 + 0x1000 * n
def DDC_C.ERR_ADDR_LO (n : Nat) : Nat := 0x441058 + 0x1000 * n
def DDC_C.ERR_ADDR_HI (n : Nat) : Nat := 0x44105c + 0x1000 * n
def DDC_C.ERR_SYN (n : Nat) : Nat := 0x441060 + 0x1000 * n
def DDC_C.PATROL_CFG (n : Nat) : Nat := 0x441064 + 0x1000 * n
def DDC_C.PATROL_POS_LO (n : Nat) : Nat := 0x441068 + 0x1000 * n
def DDC_C.PATROL_POS_HI (n : Nat) : Nat := 0x44106c + 0x1000 * n
def DDC_C.REFRESH (n : Nat) : Nat := 0x441070 + 0x1000 * n
def DDC_C.TRAIN_RESULT (n : Nat) : Nat := 0x441074 + 0x1000 * n
def DDC_C.DQ_R0 (n : Nat) (m : Nat) : Nat := 0x441100 + 0x1000 * n + 4 * m
def DDC_C.DQ_R1 (n : Nat) (m : Nat) : Nat := 0x441300 + 0x1000 * n + 4 * m
def DDC_C.VREF_R0 (n : Nat) (m : Nat) : Nat := 0x441500 + 0x1000 * n + 4 * m
def DDC_C.VREF_R1 (n : Nat) (m : Nat) : Nat := 0x441540 + 0x1000 * n + 4 * m

/-! SIO: spec/20_register_index.md -/
def SIO.CAP : Nat := 0x480000
def SIO.STATUS : Nat := 0x480004
def SIO.EVENT : Nat := 0x480008
def SIO.SPI_STATUS : Nat := 0x480100
def SIO.SPI_ID : Nat := 0x480104
def SIO.SPI_SIZE : Nat := 0x480108
def SIO.SPI_ERR : Nat := 0x48010c
def SIO.MGT_CFG : Nat := 0x480200
def SIO.MGT_STATUS : Nat := 0x480204

/-! SIO_M: spec/20_register_index.md -/
def SIO_M.XFER (n : Nat) : Nat := 0x481000 + 0x100 * n
def SIO_M.GO (n : Nat) : Nat := 0x481004 + 0x100 * n
def SIO_M.STATUS (n : Nat) : Nat := 0x481008 + 0x100 * n
def SIO_M.EVENT (n : Nat) : Nat := 0x48100c + 0x100 * n
def SIO_M.NACK_COUNT (n : Nat) : Nat := 0x481010 + 0x100 * n
def SIO_M.TX (n : Nat) (m : Nat) : Nat := 0x481020 + 0x100 * n + 4 * m
def SIO_M.RX (n : Nat) (m : Nat) : Nat := 0x481030 + 0x100 * n + 4 * m

/-! SIO_G: spec/20_register_index.md -/
def SIO_G.RAW (n : Nat) : Nat := 0x482000 + 0x100 * n
def SIO_G.OUT (n : Nat) : Nat := 0x482004 + 0x100 * n
def SIO_G.ATTN (n : Nat) : Nat := 0x482008 + 0x100 * n

end Reg

namespace Fld

/-! fields of CLK -/
def CLK.STATUS.REF_PRESENT : FieldAt := ⟨Reg.CLK.STATUS, 5, 1⟩
def CLK.STATUS.SLOW_FALLBACK : FieldAt := ⟨Reg.CLK.STATUS, 4, 1⟩
def CLK.STATUS.DDR_LOCK : FieldAt := ⟨Reg.CLK.STATUS, 3, 1⟩
def CLK.STATUS.SDS_LOCK : FieldAt := ⟨Reg.CLK.STATUS, 2, 1⟩
def CLK.STATUS.REF_IN_RANGE : FieldAt := ⟨Reg.CLK.STATUS, 1, 1⟩
def CLK.STATUS.ROOT_LOCK : FieldAt := ⟨Reg.CLK.STATUS, 0, 1⟩
def CLK.REF_OFFSET.PPB_DIV10 : FieldAt := ⟨Reg.CLK.REF_OFFSET, 0, 16⟩
def CLK.EVENT.REF_RANGE : FieldAt := ⟨Reg.CLK.EVENT, 3, 1⟩
def CLK.EVENT.FALLBACK_ENTERED : FieldAt := ⟨Reg.CLK.EVENT, 2, 1⟩
def CLK.EVENT.REF_LOST : FieldAt := ⟨Reg.CLK.EVENT, 1, 1⟩
def CLK.EVENT.LOCK_LOST : FieldAt := ⟨Reg.CLK.EVENT, 0, 1⟩
def CLK.LOCK_COUNT.COUNT : FieldAt := ⟨Reg.CLK.LOCK_COUNT, 0, 32⟩

/-! fields of ZMP -/
def ZMP.CAP.CONV_TIB_MAX : FieldAt := ⟨Reg.ZMP.CAP, 24, 8⟩
def ZMP.CAP.CONV_NS_MAX : FieldAt := ⟨Reg.ZMP.CAP, 16, 7⟩
def ZMP.CAP.NS_MAX : FieldAt := ⟨Reg.ZMP.CAP, 0, 11⟩
def ZMP.ACTIVE.CONV_RESERVED : FieldAt := ⟨Reg.ZMP.ACTIVE, 25, 3⟩
def ZMP.ACTIVE.ACTIVE_COUNT : FieldAt := ⟨Reg.ZMP.ACTIVE, 16, 9⟩
def ZMP.ACTIVE.ACTIVE_MAX : FieldAt := ⟨Reg.ZMP.ACTIVE, 0, 9⟩
def ZMP.ZONE_GEOM.STRIPES_PER_ZONE : FieldAt := ⟨Reg.ZMP.ZONE_GEOM, 16, 16⟩
def ZMP.ZONE_GEOM.ZONE_SIZE : FieldAt := ⟨Reg.ZMP.ZONE_GEOM, 0, 3⟩
def ZMP.ANA.FAILBACK : FieldAt := ⟨Reg.ZMP.ANA, 16, 1⟩
def ZMP.ANA.ANATT : FieldAt := ⟨Reg.ZMP.ANA, 8, 8⟩
def ZMP.ANA.OWNER : FieldAt := ⟨Reg.ZMP.ANA, 4, 1⟩
def ZMP.ANA.STATE : FieldAt := ⟨Reg.ZMP.ANA, 0, 4⟩
def ZMP.EVENT.FAILBACK_REFUSED : FieldAt := ⟨Reg.ZMP.EVENT, 5, 1⟩
def ZMP.EVENT.CONV_STAGING_FULL : FieldAt := ⟨Reg.ZMP.EVENT, 4, 1⟩
def ZMP.EVENT.ANA_CHANGED : FieldAt := ⟨Reg.ZMP.EVENT, 3, 1⟩
def ZMP.EVENT.ZONE_OFFLINE : FieldAt := ⟨Reg.ZMP.EVENT, 2, 1⟩
def ZMP.EVENT.ZONE_READ_ONLY : FieldAt := ⟨Reg.ZMP.EVENT, 1, 1⟩
def ZMP.EVENT.ACTIVE_EXHAUSTED : FieldAt := ⟨Reg.ZMP.EVENT, 0, 1⟩
def ZMP.NS_SELECT.V : FieldAt := ⟨Reg.ZMP.NS_SELECT, 0, 11⟩
def ZMP.NS_CFG.MAR : FieldAt := ⟨Reg.ZMP.NS_CFG, 16, 9⟩
def ZMP.NS_CFG.PI_TYPE3 : FieldAt := ⟨Reg.ZMP.NS_CFG, 4, 1⟩
def ZMP.NS_CFG.LBAF : FieldAt := ⟨Reg.ZMP.NS_CFG, 2, 2⟩
def ZMP.NS_CFG.CONVENTIONAL : FieldAt := ⟨Reg.ZMP.NS_CFG, 1, 1⟩
def ZMP.NS_CFG.VALID : FieldAt := ⟨Reg.ZMP.NS_CFG, 0, 1⟩
def ZMP.NS_COMMIT.OP : FieldAt := ⟨Reg.ZMP.NS_COMMIT, 0, 2⟩
def ZMP.NS_RESULT.BUSY : FieldAt := ⟨Reg.ZMP.NS_RESULT, 4, 1⟩
def ZMP.NS_RESULT.CODE : FieldAt := ⟨Reg.ZMP.NS_RESULT, 0, 4⟩
def ZMP.HOST_SELECT.V : FieldAt := ⟨Reg.ZMP.HOST_SELECT, 0, 10⟩
def ZMP.HOST_PERM.VENDOR_ADMIN : FieldAt := ⟨Reg.ZMP.HOST_PERM, 2, 1⟩
def ZMP.HOST_PERM.COUNTER_READ : FieldAt := ⟨Reg.ZMP.HOST_PERM, 1, 1⟩
def ZMP.HOST_PERM.VALID : FieldAt := ⟨Reg.ZMP.HOST_PERM, 0, 1⟩
def ZMP.ZONE_SELECT.V : FieldAt := ⟨Reg.ZMP.ZONE_SELECT, 0, 32⟩

/-! fields of NVQ -/
def NVQ.CAP.IOQ_DEPTH_MAX : FieldAt := ⟨Reg.NVQ.CAP, 16, 16⟩
def NVQ.CAP.ADMIN_DEPTH_MAX : FieldAt := ⟨Reg.NVQ.CAP, 8, 8⟩
def NVQ.CAP.IOQ_PER_CTRL_MAX : FieldAt := ⟨Reg.NVQ.CAP, 0, 8⟩
def NVQ.TAG_MAX.V : FieldAt := ⟨Reg.NVQ.TAG_MAX, 0, 32⟩
def NVQ.TAG_USE.V : FieldAt := ⟨Reg.NVQ.TAG_USE, 0, 17⟩
def NVQ.TAG_PEAK.V : FieldAt := ⟨Reg.NVQ.TAG_PEAK, 0, 17⟩
def NVQ.TAG_RESERVE.URGENT : FieldAt := ⟨Reg.NVQ.TAG_RESERVE, 16, 16⟩
def NVQ.TAG_RESERVE.ADMIN : FieldAt := ⟨Reg.NVQ.TAG_RESERVE, 0, 16⟩
def NVQ.TRACK_ENTRIES.V : FieldAt := ⟨Reg.NVQ.TRACK_ENTRIES, 0, 32⟩
def NVQ.TRACK_WAITING.V : FieldAt := ⟨Reg.NVQ.TRACK_WAITING, 0, 17⟩
def NVQ.TRACK_MAX_WAIT.V : FieldAt := ⟨Reg.NVQ.TRACK_MAX_WAIT, 0, 32⟩
def NVQ.CAPSULE_SLOTS.V : FieldAt := ⟨Reg.NVQ.CAPSULE_SLOTS, 0, 32⟩
def NVQ.CAPSULE_GRANTED.V : FieldAt := ⟨Reg.NVQ.CAPSULE_GRANTED, 0, 21⟩
def NVQ.ARB.HPW : FieldAt := ⟨Reg.NVQ.ARB, 24, 8⟩
def NVQ.ARB.MPW : FieldAt := ⟨Reg.NVQ.ARB, 16, 8⟩
def NVQ.ARB.LPW : FieldAt := ⟨Reg.NVQ.ARB, 8, 8⟩
def NVQ.ARB.AB : FieldAt := ⟨Reg.NVQ.ARB, 0, 3⟩
def NVQ.BG.GATE_OPEN : FieldAt := ⟨Reg.NVQ.BG, 16, 1⟩
def NVQ.BG.FLOOR : FieldAt := ⟨Reg.NVQ.BG, 0, 6⟩
def NVQ.QC_SELECT.V : FieldAt := ⟨Reg.NVQ.QC_SELECT, 0, 10⟩
def NVQ.SELFTEST.CNTLID : FieldAt := ⟨Reg.NVQ.SELFTEST, 16, 16⟩
def NVQ.SELFTEST.PERCENT : FieldAt := ⟨Reg.NVQ.SELFTEST, 8, 8⟩
def NVQ.SELFTEST.SEGMENT : FieldAt := ⟨Reg.NVQ.SELFTEST, 4, 4⟩
def NVQ.SELFTEST.OP : FieldAt := ⟨Reg.NVQ.SELFTEST, 0, 4⟩
def NVQ.EDSTT.EDSTT : FieldAt := ⟨Reg.NVQ.EDSTT, 0, 16⟩
def NVQ.ABORT_COUNT.NOT_ABORTED : FieldAt := ⟨Reg.NVQ.ABORT_COUNT, 16, 16⟩
def NVQ.ABORT_COUNT.ABORTED : FieldAt := ⟨Reg.NVQ.ABORT_COUNT, 0, 16⟩
def NVQ.EVENT.ARB_CHANGED : FieldAt := ⟨Reg.NVQ.EVENT, 4, 1⟩
def NVQ.EVENT.SELFTEST_FAILED : FieldAt := ⟨Reg.NVQ.EVENT, 3, 1⟩
def NVQ.EVENT.SELFTEST_DONE : FieldAt := ⟨Reg.NVQ.EVENT, 2, 1⟩
def NVQ.EVENT.CAPSULE_REFUSED : FieldAt := ⟨Reg.NVQ.EVENT, 1, 1⟩
def NVQ.EVENT.TAG_LOW : FieldAt := ⟨Reg.NVQ.EVENT, 0, 1⟩

/-! fields of STR -/
def STR.GEOM.SPARE : FieldAt := ⟨Reg.STR.GEOM, 16, 2⟩
def STR.GEOM.COLUMNS : FieldAt := ⟨Reg.STR.GEOM, 8, 6⟩
def STR.GEOM.WIDTH : FieldAt := ⟨Reg.STR.GEOM, 0, 6⟩
def STR.ROWS.APPEAR : FieldAt := ⟨Reg.STR.ROWS, 16, 13⟩
def STR.ROWS.ROWS : FieldAt := ⟨Reg.STR.ROWS, 0, 11⟩
def STR.STATUS.CHECK : FieldAt := ⟨Reg.STR.STATUS, 4, 4⟩
def STR.STATUS.LAYOUT_VALID : FieldAt := ⟨Reg.STR.STATUS, 0, 1⟩
def STR.ROT_SELECT.V : FieldAt := ⟨Reg.STR.ROT_SELECT, 0, 10⟩
def STR.PROBE_POS.V : FieldAt := ⟨Reg.STR.PROBE_POS, 0, 5⟩
def STR.PROBE_RESULT.DONE : FieldAt := ⟨Reg.STR.PROBE_RESULT, 31, 1⟩
def STR.PROBE_RESULT.ERROR : FieldAt := ⟨Reg.STR.PROBE_RESULT, 30, 1⟩
def STR.PROBE_RESULT.ROW : FieldAt := ⟨Reg.STR.PROBE_RESULT, 20, 10⟩
def STR.PROBE_RESULT.SLOT : FieldAt := ⟨Reg.STR.PROBE_RESULT, 8, 6⟩
def STR.PROBE_RESULT.COLUMN : FieldAt := ⟨Reg.STR.PROBE_RESULT, 0, 6⟩

/-! fields of BRL -/
def BRL.PARTIAL_SLOTS.V : FieldAt := ⟨Reg.BRL.PARTIAL_SLOTS, 0, 9⟩
def BRL.PARTIAL_USE.V : FieldAt := ⟨Reg.BRL.PARTIAL_USE, 0, 9⟩
def BRL.RECON_BYTES.V : FieldAt := ⟨Reg.BRL.RECON_BYTES, 0, 32⟩
def BRL.RECON_JOBS.IN_USE : FieldAt := ⟨Reg.BRL.RECON_JOBS, 8, 8⟩
def BRL.RECON_JOBS.MAX : FieldAt := ⟨Reg.BRL.RECON_JOBS, 0, 8⟩
def BRL.ARB.BG_SHARE : FieldAt := ⟨Reg.BRL.ARB, 0, 4⟩
def BRL.EVENT.RECOMPUTE : FieldAt := ⟨Reg.BRL.EVENT, 6, 1⟩
def BRL.EVENT.MWRITE_MISMATCH : FieldAt := ⟨Reg.BRL.EVENT, 5, 1⟩
def BRL.EVENT.FOLD_MISMATCH : FieldAt := ⟨Reg.BRL.EVENT, 4, 1⟩
def BRL.EVENT.EGRESS_MISMATCH : FieldAt := ⟨Reg.BRL.EVENT, 3, 1⟩
def BRL.EVENT.RECON_FAIL : FieldAt := ⟨Reg.BRL.EVENT, 2, 1⟩
def BRL.EVENT.MREAD_MISMATCH : FieldAt := ⟨Reg.BRL.EVENT, 1, 1⟩
def BRL.EVENT.INGRESS_MISMATCH : FieldAt := ⟨Reg.BRL.EVENT, 0, 1⟩
def BRL.ERR_INGRESS.V : FieldAt := ⟨Reg.BRL.ERR_INGRESS, 0, 32⟩
def BRL.ERR_FOLD.V : FieldAt := ⟨Reg.BRL.ERR_FOLD, 0, 32⟩
def BRL.ERR_MWRITE.V : FieldAt := ⟨Reg.BRL.ERR_MWRITE, 0, 32⟩
def BRL.ERR_MREAD.V : FieldAt := ⟨Reg.BRL.ERR_MREAD, 0, 32⟩
def BRL.ERR_RECON.V : FieldAt := ⟨Reg.BRL.ERR_RECON, 0, 32⟩
def BRL.ERR_EGRESS.V : FieldAt := ⟨Reg.BRL.ERR_EGRESS, 0, 32⟩
def BRL.SLOT_SELECT.V : FieldAt := ⟨Reg.BRL.SLOT_SELECT, 0, 8⟩
def BRL.SLOT_STATE.FOLDED : FieldAt := ⟨Reg.BRL.SLOT_STATE, 16, 9⟩
def BRL.SLOT_STATE.STATE : FieldAt := ⟨Reg.BRL.SLOT_STATE, 0, 4⟩

/-! fields of MBR -/
def MBR.PWR_CFG.LIMIT : FieldAt := ⟨Reg.MBR.PWR_CFG, 16, 2⟩
def MBR.PWR_CFG.ACTIVE_MAX : FieldAt := ⟨Reg.MBR.PWR_CFG, 0, 6⟩
def MBR.DARK_EPOCH.MINUTES : FieldAt := ⟨Reg.MBR.DARK_EPOCH, 0, 14⟩
def MBR.IDLE_CFG.EXLAT_MAX : FieldAt := ⟨Reg.MBR.IDLE_CFG, 24, 8⟩
def MBR.IDLE_CFG.IDLE_AFTER : FieldAt := ⟨Reg.MBR.IDLE_CFG, 0, 16⟩
def MBR.WAKE_CFG.DEFER_MAX : FieldAt := ⟨Reg.MBR.WAKE_CFG, 16, 16⟩
def MBR.WAKE_CFG.TIMEOUT : FieldAt := ⟨Reg.MBR.WAKE_CFG, 0, 6⟩
def MBR.PWR_STATUS.STOWED : FieldAt := ⟨Reg.MBR.PWR_STATUS, 24, 6⟩
def MBR.PWR_STATUS.DARK : FieldAt := ⟨Reg.MBR.PWR_STATUS, 16, 6⟩
def MBR.PWR_STATUS.IDLE : FieldAt := ⟨Reg.MBR.PWR_STATUS, 8, 6⟩
def MBR.PWR_STATUS.ACTIVE : FieldAt := ⟨Reg.MBR.PWR_STATUS, 0, 6⟩
def MBR.DARK_MAX.BOUND : FieldAt := ⟨Reg.MBR.DARK_MAX, 0, 6⟩
def MBR.PWR_EVENT.DEFER_EXPIRED : FieldAt := ⟨Reg.MBR.PWR_EVENT, 4, 1⟩
def MBR.PWR_EVENT.WAKE_FAIL : FieldAt := ⟨Reg.MBR.PWR_EVENT, 3, 1⟩
def MBR.PWR_EVENT.ABRUPT_OFF : FieldAt := ⟨Reg.MBR.PWR_EVENT, 2, 1⟩
def MBR.PWR_EVENT.LIMIT_FELL : FieldAt := ⟨Reg.MBR.PWR_EVENT, 1, 1⟩
def MBR.PWR_EVENT.SET_CHANGED : FieldAt := ⟨Reg.MBR.PWR_EVENT, 0, 1⟩
def MBR.SKIP_COUNT.V : FieldAt := ⟨Reg.MBR.SKIP_COUNT, 0, 32⟩
def MBR.PSEL.V : FieldAt := ⟨Reg.MBR.PSEL, 0, 6⟩
def MBR.MPWR.NO_LOW_STATE : FieldAt := ⟨Reg.MBR.MPWR, 16, 1⟩
def MBR.MPWR.CATCHING_UP : FieldAt := ⟨Reg.MBR.MPWR, 12, 1⟩
def MBR.MPWR.TARGET : FieldAt := ⟨Reg.MBR.MPWR, 8, 4⟩
def MBR.MPWR.NVME_PS : FieldAt := ⟨Reg.MBR.MPWR, 3, 5⟩
def MBR.MPWR.STATE : FieldAt := ⟨Reg.MBR.MPWR, 0, 3⟩
def MBR.DARK_MINUTES.V : FieldAt := ⟨Reg.MBR.DARK_MINUTES, 0, 32⟩
def MBR.WAKE_LAST.V : FieldAt := ⟨Reg.MBR.WAKE_LAST, 0, 16⟩
def MBR.DOMAIN_GATE.WAKE : FieldAt := ⟨Reg.MBR.DOMAIN_GATE, 8, 8⟩
def MBR.DOMAIN_GATE.ON : FieldAt := ⟨Reg.MBR.DOMAIN_GATE, 0, 8⟩
def MBR.DEFERRED.V : FieldAt := ⟨Reg.MBR.DEFERRED, 0, 17⟩

/-! fields of GNT -/
def GNT.CAP.SIZE_MIB : FieldAt := ⟨Reg.GNT.CAP, 16, 16⟩
def GNT.CAP.RING_MIB : FieldAt := ⟨Reg.GNT.CAP, 8, 8⟩
def GNT.CAP.KEEPER_GIB : FieldAt := ⟨Reg.GNT.CAP, 0, 8⟩
def GNT.STATUS.ROLE : FieldAt := ⟨Reg.GNT.STATUS, 6, 2⟩
def GNT.STATUS.RESTORED : FieldAt := ⟨Reg.GNT.STATUS, 5, 1⟩
def GNT.STATUS.CKPT_RUNNING : FieldAt := ⟨Reg.GNT.STATUS, 4, 1⟩
def GNT.STATUS.RING_FULL : FieldAt := ⟨Reg.GNT.STATUS, 3, 1⟩
def GNT.STATUS.DUMP_PENDING : FieldAt := ⟨Reg.GNT.STATUS, 2, 1⟩
def GNT.STATUS.REPLAY_DONE : FieldAt := ⟨Reg.GNT.STATUS, 1, 1⟩
def GNT.STATUS.IDENTITY_OK : FieldAt := ⟨Reg.GNT.STATUS, 0, 1⟩
def GNT.EVENT.MIRROR_KEY_MISSING : FieldAt := ⟨Reg.GNT.EVENT, 15, 1⟩
def GNT.EVENT.RESTORED : FieldAt := ⟨Reg.GNT.EVENT, 14, 1⟩
def GNT.EVENT.STOOD_DOWN : FieldAt := ⟨Reg.GNT.EVENT, 13, 1⟩
def GNT.EVENT.PARTNER_LOST : FieldAt := ⟨Reg.GNT.EVENT, 12, 1⟩
def GNT.EVENT.PARTNER_SILENT : FieldAt := ⟨Reg.GNT.EVENT, 11, 1⟩
def GNT.EVENT.VERIFY_MISMATCH : FieldAt := ⟨Reg.GNT.EVENT, 10, 1⟩
def GNT.EVENT.MIRROR_IN_STEP : FieldAt := ⟨Reg.GNT.EVENT, 9, 1⟩
def GNT.EVENT.MIRROR_OUT_OF_STEP : FieldAt := ⟨Reg.GNT.EVENT, 8, 1⟩
def GNT.EVENT.PATH_DOWN : FieldAt := ⟨Reg.GNT.EVENT, 7, 1⟩
def GNT.EVENT.TAIL_LOST : FieldAt := ⟨Reg.GNT.EVENT, 6, 1⟩
def GNT.EVENT.SPARE_LOW : FieldAt := ⟨Reg.GNT.EVENT, 5, 1⟩
def GNT.EVENT.LINE_RETIRED : FieldAt := ⟨Reg.GNT.EVENT, 4, 1⟩
def GNT.EVENT.KEEPER_IN_STEP : FieldAt := ⟨Reg.GNT.EVENT, 3, 1⟩
def GNT.EVENT.KEEPER_LOST : FieldAt := ⟨Reg.GNT.EVENT, 2, 1⟩
def GNT.EVENT.CKPT_DONE : FieldAt := ⟨Reg.GNT.EVENT, 1, 1⟩
def GNT.EVENT.RING_FULL : FieldAt := ⟨Reg.GNT.EVENT, 0, 1⟩
def GNT.RING_USE.V : FieldAt := ⟨Reg.GNT.RING_USE, 0, 20⟩
def GNT.CKPT_CFG.RING_PCT : FieldAt := ⟨Reg.GNT.CKPT_CFG, 24, 8⟩
def GNT.CKPT_CFG.STREAM_MS : FieldAt := ⟨Reg.GNT.CKPT_CFG, 16, 8⟩
def GNT.CKPT_CFG.INTERVAL : FieldAt := ⟨Reg.GNT.CKPT_CFG, 0, 12⟩
def GNT.KEEPERS.IN_STEP : FieldAt := ⟨Reg.GNT.KEEPERS, 24, 3⟩
def GNT.KEEPERS.K2 : FieldAt := ⟨Reg.GNT.KEEPERS, 16, 6⟩
def GNT.KEEPERS.K1 : FieldAt := ⟨Reg.GNT.KEEPERS, 8, 6⟩
def GNT.KEEPERS.K0 : FieldAt := ⟨Reg.GNT.KEEPERS, 0, 6⟩
def GNT.CKPT_NUM.V : FieldAt := ⟨Reg.GNT.CKPT_NUM, 0, 32⟩
def GNT.WEAR.PERMILLE : FieldAt := ⟨Reg.GNT.WEAR, 0, 10⟩
def GNT.SPARE_LINES.V : FieldAt := ⟨Reg.GNT.SPARE_LINES, 0, 17⟩
def GNT.DUMP.VALID : FieldAt := ⟨Reg.GNT.DUMP, 31, 1⟩
def GNT.DUMP.DUMP_US : FieldAt := ⟨Reg.GNT.DUMP, 0, 16⟩
def GNT.MIRROR_CFG.KEY_SLOT : FieldAt := ⟨Reg.GNT.MIRROR_CFG, 18, 12⟩
def GNT.MIRROR_CFG.ENCRYPT : FieldAt := ⟨Reg.GNT.MIRROR_CFG, 7, 1⟩
def GNT.MIRROR_CFG.ENABLE : FieldAt := ⟨Reg.GNT.MIRROR_CFG, 6, 1⟩
def GNT.MIRROR_CFG.PATH_B : FieldAt := ⟨Reg.GNT.MIRROR_CFG, 2, 2⟩
def GNT.MIRROR_CFG.PATH_A : FieldAt := ⟨Reg.GNT.MIRROR_CFG, 0, 2⟩
def GNT.MIRROR_TIME.LOSS_MS : FieldAt := ⟨Reg.GNT.MIRROR_TIME, 8, 8⟩
def GNT.MIRROR_TIME.RETX_US : FieldAt := ⟨Reg.GNT.MIRROR_TIME, 0, 8⟩
def GNT.MIRROR.KEY_WAIT : FieldAt := ⟨Reg.GNT.MIRROR, 4, 1⟩
def GNT.MIRROR.RESYNC : FieldAt := ⟨Reg.GNT.MIRROR, 3, 1⟩
def GNT.MIRROR.IN_STEP : FieldAt := ⟨Reg.GNT.MIRROR, 2, 1⟩
def GNT.MIRROR.PATH_B_UP : FieldAt := ⟨Reg.GNT.MIRROR, 1, 1⟩
def GNT.MIRROR.PATH_A_UP : FieldAt := ⟨Reg.GNT.MIRROR, 0, 1⟩
def GNT.VERIFY.LAST_OK : FieldAt := ⟨Reg.GNT.VERIFY, 31, 1⟩
def GNT.VERIFY.MISMATCHES : FieldAt := ⟨Reg.GNT.VERIFY, 16, 8⟩
def GNT.VERIFY.AGE_S : FieldAt := ⟨Reg.GNT.VERIFY, 0, 16⟩
def GNT.DUP_COUNT.V : FieldAt := ⟨Reg.GNT.DUP_COUNT, 0, 32⟩
def GNT.RETX_COUNT.V : FieldAt := ⟨Reg.GNT.RETX_COUNT, 0, 32⟩

/-! fields of MBR -/
def MBR.CAP.CONTEXTS : FieldAt := ⟨Reg.MBR.CAP, 24, 8⟩
def MBR.CAP.GROUP_LOG2 : FieldAt := ⟨Reg.MBR.CAP, 8, 8⟩
def MBR.CAP.SLOTS : FieldAt := ⟨Reg.MBR.CAP, 0, 6⟩
def MBR.STATUS.REBUILDS : FieldAt := ⟨Reg.MBR.STATUS, 21, 3⟩
def MBR.STATUS.COPYBACKS : FieldAt := ⟨Reg.MBR.STATUS, 18, 3⟩
def MBR.STATUS.SCRUB_RUNNING : FieldAt := ⟨Reg.MBR.STATUS, 17, 1⟩
def MBR.STATUS.CRITICAL : FieldAt := ⟨Reg.MBR.STATUS, 16, 1⟩
def MBR.STATUS.ABSENT : FieldAt := ⟨Reg.MBR.STATUS, 8, 6⟩
def MBR.STATUS.FAILED : FieldAt := ⟨Reg.MBR.STATUS, 0, 6⟩
def MBR.EVENT.REFUSED : FieldAt := ⟨Reg.MBR.EVENT, 14, 1⟩
def MBR.EVENT.SCRUB_PASS_DONE : FieldAt := ⟨Reg.MBR.EVENT, 13, 1⟩
def MBR.EVENT.COPYBACK_DONE : FieldAt := ⟨Reg.MBR.EVENT, 12, 1⟩
def MBR.EVENT.LOSS_FULL : FieldAt := ⟨Reg.MBR.EVENT, 11, 1⟩
def MBR.EVENT.REPAIR_FULL : FieldAt := ⟨Reg.MBR.EVENT, 10, 1⟩
def MBR.EVENT.REPAIRED : FieldAt := ⟨Reg.MBR.EVENT, 9, 1⟩
def MBR.EVENT.SPARE_EXHAUSTED : FieldAt := ⟨Reg.MBR.EVENT, 8, 1⟩
def MBR.EVENT.STRIPE_LOST : FieldAt := ⟨Reg.MBR.EVENT, 7, 1⟩
def MBR.EVENT.DATA_LOST : FieldAt := ⟨Reg.MBR.EVENT, 6, 1⟩
def MBR.EVENT.CRITICAL : FieldAt := ⟨Reg.MBR.EVENT, 5, 1⟩
def MBR.EVENT.REBUILD_DONE : FieldAt := ⟨Reg.MBR.EVENT, 4, 1⟩
def MBR.EVENT.RESYNC_DONE : FieldAt := ⟨Reg.MBR.EVENT, 3, 1⟩
def MBR.EVENT.MEMBER_RETURNED : FieldAt := ⟨Reg.MBR.EVENT, 2, 1⟩
def MBR.EVENT.MEMBER_ABSENT : FieldAt := ⟨Reg.MBR.EVENT, 1, 1⟩
def MBR.EVENT.MEMBER_FAILED : FieldAt := ⟨Reg.MBR.EVENT, 0, 1⟩
def MBR.FAIL_CFG.MISMATCH_MAX : FieldAt := ⟨Reg.MBR.FAIL_CFG, 24, 8⟩
def MBR.FAIL_CFG.TIMEOUT_MAX : FieldAt := ⟨Reg.MBR.FAIL_CFG, 16, 8⟩
def MBR.FAIL_CFG.REPAIR_MAX : FieldAt := ⟨Reg.MBR.FAIL_CFG, 8, 8⟩
def MBR.ABSENT_CFG.AUTO_ADOPT : FieldAt := ⟨Reg.MBR.ABSENT_CFG, 31, 1⟩
def MBR.ABSENT_CFG.HOLD : FieldAt := ⟨Reg.MBR.ABSENT_CFG, 0, 16⟩
def MBR.REBUILD_CFG.JOBS : FieldAt := ⟨Reg.MBR.REBUILD_CFG, 0, 8⟩
def MBR.SCRUB_CFG.ENABLE : FieldAt := ⟨Reg.MBR.SCRUB_CFG, 31, 1⟩
def MBR.SCRUB_CFG.RATE : FieldAt := ⟨Reg.MBR.SCRUB_CFG, 0, 8⟩
def MBR.MSEL.V : FieldAt := ⟨Reg.MBR.MSEL, 0, 6⟩
def MBR.MSTATE.INCARNATION : FieldAt := ⟨Reg.MBR.MSTATE, 16, 10⟩
def MBR.MSTATE.CAUSE : FieldAt := ⟨Reg.MBR.MSTATE, 8, 8⟩
def MBR.MSTATE.REFUSED : FieldAt := ⟨Reg.MBR.MSTATE, 4, 1⟩
def MBR.MSTATE.STATE : FieldAt := ⟨Reg.MBR.MSTATE, 0, 4⟩
def MBR.MCMD.SLOT : FieldAt := ⟨Reg.MBR.MCMD, 8, 6⟩
def MBR.MCMD.OP : FieldAt := ⟨Reg.MBR.MCMD, 0, 8⟩
def MBR.MCMD_RESULT.REFUSALS : FieldAt := ⟨Reg.MBR.MCMD_RESULT, 16, 16⟩
def MBR.MCMD_RESULT.BUSY : FieldAt := ⟨Reg.MBR.MCMD_RESULT, 4, 1⟩
def MBR.MCMD_RESULT.CODE : FieldAt := ⟨Reg.MBR.MCMD_RESULT, 0, 4⟩
def MBR.MISSED.V : FieldAt := ⟨Reg.MBR.MISSED, 0, 17⟩
def MBR.MISMATCH_COUNT.V : FieldAt := ⟨Reg.MBR.MISMATCH_COUNT, 0, 32⟩
def MBR.TIMEOUT_COUNT.V : FieldAt := ⟨Reg.MBR.TIMEOUT_COUNT, 0, 32⟩
def MBR.SCRUB_PASS.V : FieldAt := ⟨Reg.MBR.SCRUB_PASS, 8, 24⟩
def MBR.SCRUB_REPAIRS.V : FieldAt := ⟨Reg.MBR.SCRUB_REPAIRS, 0, 32⟩
def MBR.LOSS_COUNT.V : FieldAt := ⟨Reg.MBR.LOSS_COUNT, 0, 17⟩
def MBR.SPARE_FREE.V : FieldAt := ⟨Reg.MBR.SPARE_FREE, 0, 21⟩
def MBR.REPAIR_USE.V : FieldAt := ⟨Reg.MBR.REPAIR_USE, 0, 13⟩
def MBR.LOSS_SELECT.V : FieldAt := ⟨Reg.MBR.LOSS_SELECT, 0, 16⟩

/-! fields of FAB -/
def FAB.CAP.ORD_MAX : FieldAt := ⟨Reg.FAB.CAP, 16, 5⟩
def FAB.CAP.PORTS : FieldAt := ⟨Reg.FAB.CAP, 8, 4⟩
def FAB.CAP.WINDOWS : FieldAt := ⟨Reg.FAB.CAP, 0, 8⟩
def FAB.EVENT.RNR_SENT : FieldAt := ⟨Reg.FAB.EVENT, 4, 1⟩
def FAB.EVENT.WIN_REFUSED : FieldAt := ⟨Reg.FAB.EVENT, 3, 1⟩
def FAB.EVENT.WIN_SWITCHED : FieldAt := ⟨Reg.FAB.EVENT, 2, 1⟩
def FAB.EVENT.PFC_STORM : FieldAt := ⟨Reg.FAB.EVENT, 1, 1⟩
def FAB.EVENT.CONN_FAILED : FieldAt := ⟨Reg.FAB.EVENT, 0, 1⟩
def FAB.RC_CFG.RNR_RETRY : FieldAt := ⟨Reg.FAB.RC_CFG, 24, 3⟩
def FAB.RC_CFG.RETRY_CNT : FieldAt := ⟨Reg.FAB.RC_CFG, 21, 3⟩
def FAB.RC_CFG.ACK_TIMEOUT : FieldAt := ⟨Reg.FAB.RC_CFG, 16, 5⟩
def FAB.RC_CFG.RNR_TIMER : FieldAt := ⟨Reg.FAB.RC_CFG, 0, 5⟩
def FAB.RD_POOL.REQ_OUT : FieldAt := ⟨Reg.FAB.RD_POOL, 16, 7⟩
def FAB.RD_POOL.CELLS_FREE : FieldAt := ⟨Reg.FAB.RD_POOL, 0, 16⟩
def FAB.CC_CFG.ENABLE : FieldAt := ⟨Reg.FAB.CC_CFG, 31, 1⟩
def FAB.CC_CFG.CNP_DSCP : FieldAt := ⟨Reg.FAB.CC_CFG, 24, 6⟩
def FAB.CC_CFG.CNP_INTERVAL : FieldAt := ⟨Reg.FAB.CC_CFG, 16, 8⟩
def FAB.CC_CFG.RAI : FieldAt := ⟨Reg.FAB.CC_CFG, 8, 8⟩
def FAB.CC_CFG.INC_US : FieldAt := ⟨Reg.FAB.CC_CFG, 0, 8⟩
def FAB.WIN_SELECT.V : FieldAt := ⟨Reg.FAB.WIN_SELECT, 0, 6⟩
def FAB.WIN_CTRL.VALID : FieldAt := ⟨Reg.FAB.WIN_CTRL, 31, 1⟩
def FAB.WIN_CTRL.READ : FieldAt := ⟨Reg.FAB.WIN_CTRL, 30, 1⟩
def FAB.WIN_CTRL.WRITE : FieldAt := ⟨Reg.FAB.WIN_CTRL, 29, 1⟩
def FAB.WIN_CTRL.HOST : FieldAt := ⟨Reg.FAB.WIN_CTRL, 0, 10⟩
def FAB.WIN_KEY.V : FieldAt := ⟨Reg.FAB.WIN_KEY, 0, 32⟩
def FAB.WIN_COMMIT.GO : FieldAt := ⟨Reg.FAB.WIN_COMMIT, 0, 1⟩
def FAB.WIN_STATUS.GEN : FieldAt := ⟨Reg.FAB.WIN_STATUS, 16, 16⟩
def FAB.WIN_STATUS.ERROR : FieldAt := ⟨Reg.FAB.WIN_STATUS, 4, 4⟩
def FAB.WIN_STATUS.PENDING : FieldAt := ⟨Reg.FAB.WIN_STATUS, 1, 1⟩
def FAB.WIN_STATUS.OLD_IN_FLIGHT : FieldAt := ⟨Reg.FAB.WIN_STATUS, 0, 1⟩
def FAB.RETX_COUNT.V : FieldAt := ⟨Reg.FAB.RETX_COUNT, 0, 32⟩
def FAB.NAK_SENT.V : FieldAt := ⟨Reg.FAB.NAK_SENT, 0, 32⟩
def FAB.NAK_RCVD.V : FieldAt := ⟨Reg.FAB.NAK_RCVD, 0, 32⟩
def FAB.DUP_RX.V : FieldAt := ⟨Reg.FAB.DUP_RX, 0, 32⟩
def FAB.CONN_FAILED.V : FieldAt := ⟨Reg.FAB.CONN_FAILED, 0, 32⟩
def FAB.BAD_RX.V : FieldAt := ⟨Reg.FAB.BAD_RX, 0, 32⟩

/-! fields of FAB_E -/
def FAB_E.PORT_CFG.VID (n : Nat) : FieldAt := ⟨(Reg.FAB_E.PORT_CFG n), 20, 12⟩
def FAB_E.PORT_CFG.PMTU_MAX (n : Nat) : FieldAt := ⟨(Reg.FAB_E.PORT_CFG n), 16, 2⟩
def FAB_E.PORT_CFG.ENABLE (n : Nat) : FieldAt := ⟨(Reg.FAB_E.PORT_CFG n), 0, 1⟩
def FAB_E.PORT_STATUS.AN_DONE (n : Nat) : FieldAt := ⟨(Reg.FAB_E.PORT_STATUS n), 2, 1⟩
def FAB_E.PORT_STATUS.FEC_LOCK (n : Nat) : FieldAt := ⟨(Reg.FAB_E.PORT_STATUS n), 1, 1⟩
def FAB_E.PORT_STATUS.LINK_UP (n : Nat) : FieldAt := ⟨(Reg.FAB_E.PORT_STATUS n), 0, 1⟩
def FAB_E.PFC_CFG.WD_MS (n : Nat) : FieldAt := ⟨(Reg.FAB_E.PFC_CFG n), 16, 10⟩
def FAB_E.PFC_CFG.LOSSLESS (n : Nat) : FieldAt := ⟨(Reg.FAB_E.PFC_CFG n), 0, 8⟩
def FAB_E.FEC_CORR.V (n : Nat) : FieldAt := ⟨(Reg.FAB_E.FEC_CORR n), 0, 32⟩
def FAB_E.FEC_UNCORR.V (n : Nat) : FieldAt := ⟨(Reg.FAB_E.FEC_UNCORR n), 0, 32⟩
def FAB_E.RX_DROP.V (n : Nat) : FieldAt := ⟨(Reg.FAB_E.RX_DROP n), 0, 32⟩
def FAB_E.PAUSE_RX.V (n : Nat) : FieldAt := ⟨(Reg.FAB_E.PAUSE_RX n), 0, 32⟩

/-! fields of QPC -/
def QPC.CONN_MAX.V : FieldAt := ⟨Reg.QPC.CONN_MAX, 0, 32⟩
def QPC.RESIDENT_MAX.V : FieldAt := ⟨Reg.QPC.RESIDENT_MAX, 0, 32⟩
def QPC.MISS_BUF_BYTES.V : FieldAt := ⟨Reg.QPC.MISS_BUF_BYTES, 0, 32⟩
def QPC.STATUS.PINNED : FieldAt := ⟨Reg.QPC.STATUS, 16, 12⟩
def QPC.STATUS.RESIDENT : FieldAt := ⟨Reg.QPC.STATUS, 0, 12⟩
def QPC.CONN_USE.SETUP : FieldAt := ⟨Reg.QPC.CONN_USE, 16, 7⟩
def QPC.CONN_USE.ESTABLISHED : FieldAt := ⟨Reg.QPC.CONN_USE, 0, 15⟩
def QPC.FETCH.IN_FLIGHT : FieldAt := ⟨Reg.QPC.FETCH, 0, 7⟩
def QPC.FETCH_LAT_MAX.V : FieldAt := ⟨Reg.QPC.FETCH_LAT_MAX, 0, 16⟩
def QPC.DROP_LIMIT.V : FieldAt := ⟨Reg.QPC.DROP_LIMIT, 0, 32⟩
def QPC.DROP_FULL.V : FieldAt := ⟨Reg.QPC.DROP_FULL, 0, 32⟩
def QPC.MISS_PEAK.V : FieldAt := ⟨Reg.QPC.MISS_PEAK, 0, 19⟩
def QPC.EVENT.SETUP_EXHAUSTED : FieldAt := ⟨Reg.QPC.EVENT, 2, 1⟩
def QPC.EVENT.MISS_BUF_FULL : FieldAt := ⟨Reg.QPC.EVENT, 1, 1⟩
def QPC.EVENT.HELD_LIMIT : FieldAt := ⟨Reg.QPC.EVENT, 0, 1⟩
def QPC.CSEL.V : FieldAt := ⟨Reg.QPC.CSEL, 0, 14⟩
def QPC.CINFO.QID : FieldAt := ⟨Reg.QPC.CINFO, 16, 7⟩
def QPC.CINFO.TRANSPORT : FieldAt := ⟨Reg.QPC.CINFO, 8, 2⟩
def QPC.CINFO.HELD : FieldAt := ⟨Reg.QPC.CINFO, 4, 4⟩
def QPC.CINFO.STATE : FieldAt := ⟨Reg.QPC.CINFO, 0, 3⟩
def QPC.CHOST.V : FieldAt := ⟨Reg.QPC.CHOST, 0, 10⟩

/-! fields of SWC -/
def SWC.CAP.PORTS : FieldAt := ⟨Reg.SWC.CAP, 28, 4⟩
def SWC.CAP.TCS : FieldAt := ⟨Reg.SWC.CAP, 24, 4⟩
def SWC.CAP.GROUPS : FieldAt := ⟨Reg.SWC.CAP, 16, 8⟩
def SWC.CAP.NEIGHBOURS : FieldAt := ⟨Reg.SWC.CAP, 0, 13⟩
def SWC.BUF_CELLS.V : FieldAt := ⟨Reg.SWC.BUF_CELLS, 0, 32⟩
def SWC.BUF_USE.V : FieldAt := ⟨Reg.SWC.BUF_USE, 0, 18⟩
def SWC.SHARED_FREE.V : FieldAt := ⟨Reg.SWC.SHARED_FREE, 0, 18⟩
def SWC.EVENT.ROUTE_CHANGED : FieldAt := ⟨Reg.SWC.EVENT, 4, 1⟩
def SWC.EVENT.TOPOLOGY : FieldAt := ⟨Reg.SWC.EVENT, 3, 1⟩
def SWC.EVENT.NEIGH_FULL : FieldAt := ⟨Reg.SWC.EVENT, 2, 1⟩
def SWC.EVENT.AGED : FieldAt := ⟨Reg.SWC.EVENT, 1, 1⟩
def SWC.EVENT.HEADROOM_OVERFLOW : FieldAt := ⟨Reg.SWC.EVENT, 0, 1⟩
def SWC.GEN.CURRENT : FieldAt := ⟨Reg.SWC.GEN, 0, 32⟩
def SWC.GEN_DRAIN.OLDEST : FieldAt := ⟨Reg.SWC.GEN_DRAIN, 16, 16⟩
def SWC.GEN_DRAIN.DRAINED : FieldAt := ⟨Reg.SWC.GEN_DRAIN, 0, 1⟩
def SWC.Q_MAX.CELLS : FieldAt := ⟨Reg.SWC.Q_MAX, 0, 18⟩
def SWC.PFC_THRESH.XOFF : FieldAt := ⟨Reg.SWC.PFC_THRESH, 0, 17⟩
def SWC.TOPO_CFG.PARTNERED : FieldAt := ⟨Reg.SWC.TOPO_CFG, 7, 1⟩
def SWC.TOPO_CFG.PARTNER : FieldAt := ⟨Reg.SWC.TOPO_CFG, 4, 2⟩
def SWC.TOPO_CFG.DEV_NUM : FieldAt := ⟨Reg.SWC.TOPO_CFG, 2, 2⟩
def SWC.TOPO_CFG.DEVICES : FieldAt := ⟨Reg.SWC.TOPO_CFG, 0, 2⟩
def SWC.BOARD_ID.V : FieldAt := ⟨Reg.SWC.BOARD_ID, 0, 32⟩
def SWC.TBL_SELECT.TABLE : FieldAt := ⟨Reg.SWC.TBL_SELECT, 28, 4⟩
def SWC.TBL_SELECT.INDEX : FieldAt := ⟨Reg.SWC.TBL_SELECT, 0, 12⟩
def SWC.TBL_COMMIT.GO : FieldAt := ⟨Reg.SWC.TBL_COMMIT, 0, 1⟩
def SWC.TBL_STATUS.BUSY : FieldAt := ⟨Reg.SWC.TBL_STATUS, 0, 1⟩
def SWC.TBL_STATUS.ERROR : FieldAt := ⟨Reg.SWC.TBL_STATUS, 1, 3⟩
def SWC.TBL_STATUS.NEIGH_VALID : FieldAt := ⟨Reg.SWC.TBL_STATUS, 16, 12⟩
def SWC.DROP_LOSSY.V : FieldAt := ⟨Reg.SWC.DROP_LOSSY, 0, 32⟩
def SWC.DROP_HEADROOM.V : FieldAt := ⟨Reg.SWC.DROP_HEADROOM, 0, 32⟩
def SWC.DROP_NOROUTE.V : FieldAt := ⟨Reg.SWC.DROP_NOROUTE, 0, 32⟩
def SWC.DROP_AGED.V : FieldAt := ⟨Reg.SWC.DROP_AGED, 0, 32⟩
def SWC.DROP_EGRESS_DOWN.V : FieldAt := ⟨Reg.SWC.DROP_EGRESS_DOWN, 0, 32⟩
def SWC.MC_DROP.V : FieldAt := ⟨Reg.SWC.MC_DROP, 0, 32⟩
def SWC.STOMPED.V : FieldAt := ⟨Reg.SWC.STOMPED, 0, 32⟩

/-! fields of PTP -/
def PTP.CFG.DOMAIN : FieldAt := ⟨Reg.PTP.CFG, 24, 8⟩
def PTP.CFG.PRIORITY1 : FieldAt := ⟨Reg.PTP.CFG, 16, 8⟩
def PTP.CFG.PORTS : FieldAt := ⟨Reg.PTP.CFG, 8, 7⟩
def PTP.CFG.PROFILE : FieldAt := ⟨Reg.PTP.CFG, 5, 2⟩
def PTP.CFG.TRANSPORT : FieldAt := ⟨Reg.PTP.CFG, 3, 2⟩
def PTP.CFG.LOG_SYNC : FieldAt := ⟨Reg.PTP.CFG, 0, 3⟩
def PTP.STATUS.SLAVE_PORT : FieldAt := ⟨Reg.PTP.STATUS, 8, 4⟩
def PTP.STATUS.SERVO : FieldAt := ⟨Reg.PTP.STATUS, 4, 3⟩
def PTP.STATUS.LOCKED : FieldAt := ⟨Reg.PTP.STATUS, 0, 1⟩
def PTP.EVENT.PPS_IN_LOST : FieldAt := ⟨Reg.PTP.EVENT, 4, 1⟩
def PTP.EVENT.STEPPED : FieldAt := ⟨Reg.PTP.EVENT, 3, 1⟩
def PTP.EVENT.LOCK_LOST : FieldAt := ⟨Reg.PTP.EVENT, 2, 1⟩
def PTP.EVENT.LOCKED : FieldAt := ⟨Reg.PTP.EVENT, 1, 1⟩
def PTP.EVENT.MASTER_CHANGED : FieldAt := ⟨Reg.PTP.EVENT, 0, 1⟩
def PTP.ADJ_RATE.V : FieldAt := ⟨Reg.PTP.ADJ_RATE, 0, 32⟩
def PTP.SET_GO.GO : FieldAt := ⟨Reg.PTP.SET_GO, 0, 1⟩
def PTP.SERVO.LOCK_NS : FieldAt := ⟨Reg.PTP.SERVO, 16, 16⟩
def PTP.SERVO.STEP_US : FieldAt := ⟨Reg.PTP.SERVO, 0, 16⟩
def PTP.PPS.IN_MODE : FieldAt := ⟨Reg.PTP.PPS, 16, 2⟩
def PTP.PPS.OUT_EN : FieldAt := ⟨Reg.PTP.PPS, 9, 1⟩
def PTP.PPS.OUT_WIDTH_MS : FieldAt := ⟨Reg.PTP.PPS, 0, 9⟩
def PTP.RX_DROP.PTP : FieldAt := ⟨Reg.PTP.RX_DROP, 0, 32⟩

/-! fields of TGS -/
def TGS.CAP.PORT_LISTS : FieldAt := ⟨Reg.TGS.CAP, 24, 8⟩
def TGS.CAP.PORT_ENTRIES : FieldAt := ⟨Reg.TGS.CAP, 16, 8⟩
def TGS.CAP.POWER_ENTRIES : FieldAt := ⟨Reg.TGS.CAP, 8, 8⟩
def TGS.CAP.CAL_ENTRIES : FieldAt := ⟨Reg.TGS.CAP, 0, 8⟩
def TGS.CFG.WAIT_LOCK : FieldAt := ⟨Reg.TGS.CFG, 0, 1⟩
def TGS.STATUS.RUNNING : FieldAt := ⟨Reg.TGS.STATUS, 16, 8⟩
def TGS.STATUS.PENDING : FieldAt := ⟨Reg.TGS.STATUS, 8, 8⟩
def TGS.EVENT.TIME_STEP : FieldAt := ⟨Reg.TGS.EVENT, 4, 1⟩
def TGS.EVENT.OVL_APPLIED : FieldAt := ⟨Reg.TGS.EVENT, 3, 1⟩
def TGS.EVENT.LIST_REFUSED : FieldAt := ⟨Reg.TGS.EVENT, 2, 1⟩
def TGS.EVENT.LIST_STARTED : FieldAt := ⟨Reg.TGS.EVENT, 1, 1⟩
def TGS.EVENT.LATE_BASE : FieldAt := ⟨Reg.TGS.EVENT, 0, 1⟩
def TGS.LSEL.V : FieldAt := ⟨Reg.TGS.LSEL, 0, 3⟩
def TGS.L_LEN.V : FieldAt := ⟨Reg.TGS.L_LEN, 0, 9⟩
def TGS.L_ESEL.V : FieldAt := ⟨Reg.TGS.L_ESEL, 0, 8⟩
def TGS.L_GATES.BG : FieldAt := ⟨Reg.TGS.L_GATES, 16, 1⟩
def TGS.L_GATES.WAKE : FieldAt := ⟨Reg.TGS.L_GATES, 8, 8⟩
def TGS.L_GATES.GATES : FieldAt := ⟨Reg.TGS.L_GATES, 0, 8⟩
def TGS.L_INTERVAL.V : FieldAt := ⟨Reg.TGS.L_INTERVAL, 0, 32⟩
def TGS.L_COMMIT.GO : FieldAt := ⟨Reg.TGS.L_COMMIT, 0, 1⟩
def TGS.L_RESULT.RUNNING : FieldAt := ⟨Reg.TGS.L_RESULT, 5, 1⟩
def TGS.L_RESULT.PENDING : FieldAt := ⟨Reg.TGS.L_RESULT, 4, 1⟩
def TGS.L_RESULT.ERROR : FieldAt := ⟨Reg.TGS.L_RESULT, 0, 4⟩
def TGS.CAL_CFG.PERIOD : FieldAt := ⟨Reg.TGS.CAL_CFG, 16, 1⟩
def TGS.CAL_CFG.LEN : FieldAt := ⟨Reg.TGS.CAL_CFG, 0, 6⟩
def TGS.CAL_ESEL.V : FieldAt := ⟨Reg.TGS.CAL_ESEL, 0, 5⟩
def TGS.CAL_TIME.V : FieldAt := ⟨Reg.TGS.CAL_TIME, 0, 20⟩
def TGS.CAL_ACTION.OVL_EN : FieldAt := ⟨Reg.TGS.CAL_ACTION, 20, 1⟩
def TGS.CAL_ACTION.OVL : FieldAt := ⟨Reg.TGS.CAL_ACTION, 16, 4⟩
def TGS.CAL_ACTION.BG : FieldAt := ⟨Reg.TGS.CAL_ACTION, 8, 1⟩
def TGS.CAL_ACTION.ON : FieldAt := ⟨Reg.TGS.CAL_ACTION, 0, 8⟩
def TGS.OVL_STATUS.PENDING_VALID : FieldAt := ⟨Reg.TGS.OVL_STATUS, 15, 1⟩
def TGS.OVL_STATUS.PENDING : FieldAt := ⟨Reg.TGS.OVL_STATUS, 8, 4⟩
def TGS.OVL_STATUS.CURRENT : FieldAt := ⟨Reg.TGS.OVL_STATUS, 0, 4⟩
def TGS.CAL_CURRENT.VALID : FieldAt := ⟨Reg.TGS.CAL_CURRENT, 5, 1⟩
def TGS.CAL_CURRENT.V : FieldAt := ⟨Reg.TGS.CAL_CURRENT, 0, 5⟩

/-! fields of TGS_P -/
def TGS_P.SCHED.STRICT (n : Nat) : FieldAt := ⟨(Reg.TGS_P.SCHED n), 0, 8⟩
def TGS_P.SHAPE_RATE.ENABLE (n : Nat) (m : Nat) : FieldAt := ⟨(Reg.TGS_P.SHAPE_RATE n m), 31, 1⟩
def TGS_P.SHAPE_RATE.RATE (n : Nat) (m : Nat) : FieldAt := ⟨(Reg.TGS_P.SHAPE_RATE n m), 0, 19⟩
def TGS_P.SHAPE_BURST.V (n : Nat) (m : Nat) : FieldAt := ⟨(Reg.TGS_P.SHAPE_BURST n m), 0, 24⟩
def TGS_P.SHAPE_CREDIT.V (n : Nat) (m : Nat) : FieldAt := ⟨(Reg.TGS_P.SHAPE_CREDIT n m), 0, 32⟩
def TGS_P.POLICE.ENABLE (n : Nat) (m : Nat) : FieldAt := ⟨(Reg.TGS_P.POLICE n m), 31, 1⟩
def TGS_P.POLICE.MARK (n : Nat) (m : Nat) : FieldAt := ⟨(Reg.TGS_P.POLICE n m), 30, 1⟩
def TGS_P.POLICE.RATE (n : Nat) (m : Nat) : FieldAt := ⟨(Reg.TGS_P.POLICE n m), 0, 19⟩
def TGS_P.POLICE_BURST.V (n : Nat) (m : Nat) : FieldAt := ⟨(Reg.TGS_P.POLICE_BURST n m), 0, 24⟩
def TGS_P.POLICE_DROP.V (n : Nat) : FieldAt := ⟨(Reg.TGS_P.POLICE_DROP n), 0, 32⟩
def TGS_P.POLICE_MARK.V (n : Nat) : FieldAt := ⟨(Reg.TGS_P.POLICE_MARK n), 0, 32⟩

/-! fields of DMA -/
def DMA.CAP.CHANNELS : FieldAt := ⟨Reg.DMA.CAP, 24, 8⟩
def DMA.CAP.FW_CHANNELS : FieldAt := ⟨Reg.DMA.CAP, 16, 8⟩
def DMA.CAP.LINES : FieldAt := ⟨Reg.DMA.CAP, 8, 8⟩
def DMA.BUF_BYTES.V : FieldAt := ⟨Reg.DMA.BUF_BYTES, 0, 32⟩
def DMA.STATUS.V : FieldAt := ⟨Reg.DMA.STATUS, 0, 32⟩
def DMA.EVENT.HALTED : FieldAt := ⟨Reg.DMA.EVENT, 2, 1⟩
def DMA.EVENT.FW_WRITE : FieldAt := ⟨Reg.DMA.EVENT, 1, 1⟩
def DMA.EVENT.CH_ERROR : FieldAt := ⟨Reg.DMA.EVENT, 0, 1⟩
def DMA.ERR_CHANNELS.V : FieldAt := ⟨Reg.DMA.ERR_CHANNELS, 0, 32⟩
def DMA.LINES.V : FieldAt := ⟨Reg.DMA.LINES, 0, 10⟩

/-! fields of DMA_C -/
def DMA_C.CTRL.RESET (n : Nat) : FieldAt := ⟨(Reg.DMA_C.CTRL n), 1, 1⟩
def DMA_C.CTRL.STOP (n : Nat) : FieldAt := ⟨(Reg.DMA_C.CTRL n), 0, 1⟩
def DMA_C.CFG.PRIO (n : Nat) : FieldAt := ⟨(Reg.DMA_C.CFG n), 8, 1⟩
def DMA_C.CFG.BURST (n : Nat) : FieldAt := ⟨(Reg.DMA_C.CFG n), 0, 3⟩
def DMA_C.DB_COUNT.V (n : Nat) : FieldAt := ⟨(Reg.DMA_C.DB_COUNT n), 0, 32⟩
def DMA_C.STATUS.CODE (n : Nat) : FieldAt := ⟨(Reg.DMA_C.STATUS n), 16, 8⟩
def DMA_C.STATUS.LINE (n : Nat) : FieldAt := ⟨(Reg.DMA_C.STATUS n), 4, 4⟩
def DMA_C.STATUS.CLAIMED (n : Nat) : FieldAt := ⟨(Reg.DMA_C.STATUS n), 3, 1⟩
def DMA_C.STATUS.STATE (n : Nat) : FieldAt := ⟨(Reg.DMA_C.STATUS n), 0, 3⟩
def DMA_C.EVENT.STOPPED (n : Nat) : FieldAt := ⟨(Reg.DMA_C.EVENT n), 2, 1⟩
def DMA_C.EVENT.ERROR (n : Nat) : FieldAt := ⟨(Reg.DMA_C.EVENT n), 1, 1⟩
def DMA_C.EVENT.DESC_DONE (n : Nat) : FieldAt := ⟨(Reg.DMA_C.EVENT n), 0, 1⟩
def DMA_C.DONE_COUNT.V (n : Nat) : FieldAt := ⟨(Reg.DMA_C.DONE_COUNT n), 0, 32⟩
def DMA_C.BUF_USE.V (n : Nat) : FieldAt := ⟨(Reg.DMA_C.BUF_USE n), 0, 18⟩

/-! fields of AES -/
def AES.CAP.PIPES : FieldAt := ⟨Reg.AES.CAP, 24, 8⟩
def AES.CAP.MODES : FieldAt := ⟨Reg.AES.CAP, 8, 4⟩
def AES.CAP.SIZES : FieldAt := ⟨Reg.AES.CAP, 0, 2⟩
def AES.ARB.DESC_FLOOR : FieldAt := ⟨Reg.AES.ARB, 0, 3⟩
def AES.STATUS.HALTED : FieldAt := ⟨Reg.AES.STATUS, 31, 1⟩
def AES.STATUS.DESC_BUSY : FieldAt := ⟨Reg.AES.STATUS, 8, 5⟩
def AES.STATUS.STORAGE_BUSY : FieldAt := ⟨Reg.AES.STATUS, 0, 5⟩
def AES.EVENT.TAMPER_HALT : FieldAt := ⟨Reg.AES.EVENT, 2, 1⟩
def AES.EVENT.NS_KEY_MISSING : FieldAt := ⟨Reg.AES.EVENT, 1, 1⟩
def AES.EVENT.COUNTER_WRAP : FieldAt := ⟨Reg.AES.EVENT, 0, 1⟩
def AES.TAMPER.MESH : FieldAt := ⟨Reg.AES.TAMPER, 3, 1⟩
def AES.TAMPER.TEMP : FieldAt := ⟨Reg.AES.TAMPER, 2, 1⟩
def AES.TAMPER.CLOCK : FieldAt := ⟨Reg.AES.TAMPER, 1, 1⟩
def AES.TAMPER.SUPPLY : FieldAt := ⟨Reg.AES.TAMPER, 0, 1⟩
def AES.WRAP_COUNT.V : FieldAt := ⟨Reg.AES.WRAP_COUNT, 0, 32⟩

/-! fields of KEY -/
def KEY.CAP.V : FieldAt := ⟨Reg.KEY.CAP, 16, 16⟩
def KEY.STATUS.ZEROISING : FieldAt := ⟨Reg.KEY.STATUS, 16, 1⟩
def KEY.STATUS.USED : FieldAt := ⟨Reg.KEY.STATUS, 0, 13⟩
def KEY.EVENT.TAMPER_ZEROISED : FieldAt := ⟨Reg.KEY.EVENT, 3, 1⟩
def KEY.EVENT.ZEROISED : FieldAt := ⟨Reg.KEY.EVENT, 2, 1⟩
def KEY.EVENT.IMPORT_FAILED : FieldAt := ⟨Reg.KEY.EVENT, 1, 1⟩
def KEY.EVENT.IMPORTED : FieldAt := ⟨Reg.KEY.EVENT, 0, 1⟩
def KEY.IMP_CTRL.TRANSPORT : FieldAt := ⟨Reg.KEY.IMP_CTRL, 31, 1⟩
def KEY.IMP_CTRL.SIZE : FieldAt := ⟨Reg.KEY.IMP_CTRL, 28, 3⟩
def KEY.IMP_CTRL.KEK : FieldAt := ⟨Reg.KEY.IMP_CTRL, 16, 12⟩
def KEY.IMP_CTRL.KIND : FieldAt := ⟨Reg.KEY.IMP_CTRL, 12, 3⟩
def KEY.IMP_CTRL.TARGET : FieldAt := ⟨Reg.KEY.IMP_CTRL, 0, 12⟩
def KEY.IMP_GO.GO : FieldAt := ⟨Reg.KEY.IMP_GO, 0, 1⟩
def KEY.IMP_RESULT.BUSY : FieldAt := ⟨Reg.KEY.IMP_RESULT, 4, 1⟩
def KEY.IMP_RESULT.CODE : FieldAt := ⟨Reg.KEY.IMP_RESULT, 0, 4⟩
def KEY.ZEROISE.ALL : FieldAt := ⟨Reg.KEY.ZEROISE, 31, 1⟩
def KEY.ZEROISE.SLOT : FieldAt := ⟨Reg.KEY.ZEROISE, 0, 12⟩
def KEY.SLOT_SELECT.V : FieldAt := ⟨Reg.KEY.SLOT_SELECT, 0, 12⟩
def KEY.SLOT_INFO.TRANSPORT : FieldAt := ⟨Reg.KEY.SLOT_INFO, 31, 1⟩
def KEY.SLOT_INFO.SIZE : FieldAt := ⟨Reg.KEY.SLOT_INFO, 28, 3⟩
def KEY.SLOT_INFO.KEK : FieldAt := ⟨Reg.KEY.SLOT_INFO, 16, 12⟩
def KEY.SLOT_INFO.KIND : FieldAt := ⟨Reg.KEY.SLOT_INFO, 0, 3⟩
def KEY.IMP_DATA.V (m : Nat) : FieldAt := ⟨(Reg.KEY.IMP_DATA m), 0, 8⟩

/-! fields of DRP -/
def DRP.CAP.V : FieldAt := ⟨Reg.DRP.CAP, 24, 8⟩
def DRP.CAP.DCLK : FieldAt := ⟨Reg.DRP.CAP, 16, 8⟩
def DRP.CAP.SGPIO : FieldAt := ⟨Reg.DRP.CAP, 0, 8⟩
def DRP.MODE.X4 : FieldAt := ⟨Reg.DRP.MODE, 0, 1⟩
def DRP.CPL_TIMEOUT.V : FieldAt := ⟨Reg.DRP.CPL_TIMEOUT, 0, 10⟩
def DRP.EVENT.MI_BUS_STUCK : FieldAt := ⟨Reg.DRP.EVENT, 4, 1⟩
def DRP.EVENT.SGPIO_MISMATCH : FieldAt := ⟨Reg.DRP.EVENT, 3, 1⟩
def DRP.EVENT.TIMEOUT : FieldAt := ⟨Reg.DRP.EVENT, 2, 1⟩
def DRP.EVENT.TRAIN_FAIL : FieldAt := ⟨Reg.DRP.EVENT, 1, 1⟩
def DRP.EVENT.PRESENCE : FieldAt := ⟨Reg.DRP.EVENT, 0, 1⟩
def DRP.MI_CFG.MUX_ADDR : FieldAt := ⟨Reg.DRP.MI_CFG, 24, 7⟩
def DRP.MI_CFG.PERIOD : FieldAt := ⟨Reg.DRP.MI_CFG, 8, 8⟩
def DRP.MI_CFG.SPEED : FieldAt := ⟨Reg.DRP.MI_CFG, 0, 1⟩
def DRP.ZONED.ZONED : FieldAt := ⟨Reg.DRP.ZONED, 0, 1⟩
def DRP.ZONED.RUN_MAX : FieldAt := ⟨Reg.DRP.ZONED, 16, 16⟩
def DRP.DCLK_EN.V : FieldAt := ⟨Reg.DRP.DCLK_EN, 0, 12⟩

/-! fields of DRP_P -/
def DRP_P.CTRL.ENABLE (n : Nat) : FieldAt := ⟨(Reg.DRP_P.CTRL n), 0, 1⟩
def DRP_P.STATUS.PENDING (n : Nat) : FieldAt := ⟨(Reg.DRP_P.STATUS n), 16, 1⟩
def DRP_P.STATUS.SPEED (n : Nat) : FieldAt := ⟨(Reg.DRP_P.STATUS n), 12, 4⟩
def DRP_P.STATUS.WIDTH (n : Nat) : FieldAt := ⟨(Reg.DRP_P.STATUS n), 8, 4⟩
def DRP_P.STATUS.STATE (n : Nat) : FieldAt := ⟨(Reg.DRP_P.STATUS n), 0, 3⟩
def DRP_P.SLOT_CAP.PSN (n : Nat) : FieldAt := ⟨(Reg.DRP_P.SLOT_CAP n), 19, 13⟩
def DRP_P.SLOT_CAP.HPC (n : Nat) : FieldAt := ⟨(Reg.DRP_P.SLOT_CAP n), 6, 1⟩
def DRP_P.SLOT_CAP.HPS (n : Nat) : FieldAt := ⟨(Reg.DRP_P.SLOT_CAP n), 5, 1⟩
def DRP_P.SLOT_CAP.PIP (n : Nat) : FieldAt := ⟨(Reg.DRP_P.SLOT_CAP n), 4, 1⟩
def DRP_P.SLOT_CAP.AIP (n : Nat) : FieldAt := ⟨(Reg.DRP_P.SLOT_CAP n), 3, 1⟩
def DRP_P.SLOT_CAP.MRLSP (n : Nat) : FieldAt := ⟨(Reg.DRP_P.SLOT_CAP n), 2, 1⟩
def DRP_P.SLOT_CAP.PCP (n : Nat) : FieldAt := ⟨(Reg.DRP_P.SLOT_CAP n), 1, 1⟩
def DRP_P.SLOT_CAP.ABP (n : Nat) : FieldAt := ⟨(Reg.DRP_P.SLOT_CAP n), 0, 1⟩
def DRP_P.SLOT_CTRL.LOCATE (n : Nat) : FieldAt := ⟨(Reg.DRP_P.SLOT_CTRL n), 10, 2⟩
def DRP_P.SLOT_CTRL.PWR_IND (n : Nat) : FieldAt := ⟨(Reg.DRP_P.SLOT_CTRL n), 8, 2⟩
def DRP_P.SLOT_CTRL.ATTN_IND (n : Nat) : FieldAt := ⟨(Reg.DRP_P.SLOT_CTRL n), 6, 2⟩
def DRP_P.SLOT_CTRL.REMOVE (n : Nat) : FieldAt := ⟨(Reg.DRP_P.SLOT_CTRL n), 0, 1⟩
def DRP_P.SLOT_STATUS.DEGRADED (n : Nat) : FieldAt := ⟨(Reg.DRP_P.SLOT_STATUS n), 7, 1⟩
def DRP_P.SLOT_STATUS.REMOVAL_REFUSED (n : Nat) : FieldAt := ⟨(Reg.DRP_P.SLOT_STATUS n), 6, 1⟩
def DRP_P.SLOT_STATUS.REMOVAL_DONE (n : Nat) : FieldAt := ⟨(Reg.DRP_P.SLOT_STATUS n), 5, 1⟩
def DRP_P.SLOT_STATUS.BUTTON (n : Nat) : FieldAt := ⟨(Reg.DRP_P.SLOT_STATUS n), 4, 1⟩
def DRP_P.SLOT_STATUS.PRESENCE_CHANGED (n : Nat) : FieldAt := ⟨(Reg.DRP_P.SLOT_STATUS n), 3, 1⟩
def DRP_P.SLOT_STATUS.BUTTON_WINDOW (n : Nat) : FieldAt := ⟨(Reg.DRP_P.SLOT_STATUS n), 1, 1⟩
def DRP_P.SLOT_STATUS.PRESENT (n : Nat) : FieldAt := ⟨(Reg.DRP_P.SLOT_STATUS n), 0, 1⟩
def DRP_P.TAGS.LIVE (n : Nat) : FieldAt := ⟨(Reg.DRP_P.TAGS n), 0, 11⟩
def DRP_P.TAGS.QUARANTINED (n : Nat) : FieldAt := ⟨(Reg.DRP_P.TAGS n), 16, 12⟩
def DRP_P.TIMEOUTS.V (n : Nat) : FieldAt := ⟨(Reg.DRP_P.TIMEOUTS n), 0, 32⟩
def DRP_P.LATE_CPL.V (n : Nat) : FieldAt := ⟨(Reg.DRP_P.LATE_CPL n), 0, 32⟩
def DRP_P.LATE_DATA.V (n : Nat) : FieldAt := ⟨(Reg.DRP_P.LATE_DATA n), 0, 32⟩
def DRP_P.MI_STATUS.STALE (n : Nat) : FieldAt := ⟨(Reg.DRP_P.MI_STATUS n), 31, 1⟩
def DRP_P.MI_STATUS.AGE_S (n : Nat) : FieldAt := ⟨(Reg.DRP_P.MI_STATUS n), 24, 7⟩
def DRP_P.MI_STATUS.TEMP (n : Nat) : FieldAt := ⟨(Reg.DRP_P.MI_STATUS n), 16, 8⟩
def DRP_P.MI_STATUS.CRIT_WARN (n : Nat) : FieldAt := ⟨(Reg.DRP_P.MI_STATUS n), 8, 8⟩
def DRP_P.MI_STATUS.PDLU (n : Nat) : FieldAt := ⟨(Reg.DRP_P.MI_STATUS n), 0, 8⟩
def DRP_P.LINK_ERR.V (n : Nat) : FieldAt := ⟨(Reg.DRP_P.LINK_ERR n), 0, 32⟩
def DRP_P.CFG_ADDR.V (n : Nat) : FieldAt := ⟨(Reg.DRP_P.CFG_ADDR n), 2, 10⟩
def DRP_P.CFG_DATA.V (n : Nat) : FieldAt := ⟨(Reg.DRP_P.CFG_DATA n), 0, 32⟩
def DRP_P.CFG_CMD.V (n : Nat) : FieldAt := ⟨(Reg.DRP_P.CFG_CMD n), 0, 1⟩
def DRP_P.CFG_STATUS.BUSY (n : Nat) : FieldAt := ⟨(Reg.DRP_P.CFG_STATUS n), 4, 1⟩
def DRP_P.CFG_STATUS.RESULT (n : Nat) : FieldAt := ⟨(Reg.DRP_P.CFG_STATUS n), 0, 3⟩

/-! fields of SLP -/
def SLP.CAP.V : FieldAt := ⟨Reg.SLP.CAP, 24, 8⟩
def SLP.CAP.TLIM : FieldAt := ⟨Reg.SLP.CAP, 8, 8⟩
def SLP.CFG.RAMP_MAX : FieldAt := ⟨Reg.SLP.CFG, 0, 6⟩
def SLP.STATUS.SHELF_STOPPED : FieldAt := ⟨Reg.SLP.STATUS, 31, 1⟩
def SLP.STATUS.LATCHED : FieldAt := ⟨Reg.SLP.STATUS, 24, 6⟩
def SLP.STATUS.ON : FieldAt := ⟨Reg.SLP.STATUS, 16, 6⟩
def SLP.STATUS.QUEUED : FieldAt := ⟨Reg.SLP.STATUS, 8, 6⟩
def SLP.STATUS.RAMPING : FieldAt := ⟨Reg.SLP.STATUS, 0, 6⟩
def SLP.EVENT.SLOT_LATCHED : FieldAt := ⟨Reg.SLP.EVENT, 5, 1⟩
def SLP.EVENT.NO_FEED : FieldAt := ⟨Reg.SLP.EVENT, 4, 1⟩
def SLP.EVENT.FEED_OPEN_SENSE : FieldAt := ⟨Reg.SLP.EVENT, 3, 1⟩
def SLP.EVENT.FEED_REVERSED : FieldAt := ⟨Reg.SLP.EVENT, 2, 1⟩
def SLP.EVENT.FEED_SWITCHED : FieldAt := ⟨Reg.SLP.EVENT, 1, 1⟩
def SLP.EVENT.SHELF_STOP : FieldAt := ⟨Reg.SLP.EVENT, 0, 1⟩
def SLP.CMD.SHELF_STOP : FieldAt := ⟨Reg.SLP.CMD, 0, 1⟩
def SLP.CMD.RESUME : FieldAt := ⟨Reg.SLP.CMD, 1, 1⟩
def SLP.TREF.V : FieldAt := ⟨Reg.SLP.TREF, 0, 8⟩
def SLP.FEED_CFG.RETURN_S : FieldAt := ⟨Reg.SLP.FEED_CFG, 24, 8⟩
def SLP.FEED_CFG.DEAD_US : FieldAt := ⟨Reg.SLP.FEED_CFG, 16, 6⟩
def SLP.FEED_CFG.QUAL_MS : FieldAt := ⟨Reg.SLP.FEED_CFG, 8, 8⟩
def SLP.FEED_CFG.REVERT : FieldAt := ⟨Reg.SLP.FEED_CFG, 1, 1⟩
def SLP.FEED_CFG.PRIMARY : FieldAt := ⟨Reg.SLP.FEED_CFG, 0, 1⟩
def SLP.FEED_LIMITS.UV : FieldAt := ⟨Reg.SLP.FEED_LIMITS, 0, 8⟩
def SLP.FEED_STATUS.B_OPEN : FieldAt := ⟨Reg.SLP.FEED_STATUS, 8, 1⟩
def SLP.FEED_STATUS.A_OPEN : FieldAt := ⟨Reg.SLP.FEED_STATUS, 7, 1⟩
def SLP.FEED_STATUS.B_REVERSED : FieldAt := ⟨Reg.SLP.FEED_STATUS, 6, 1⟩
def SLP.FEED_STATUS.A_REVERSED : FieldAt := ⟨Reg.SLP.FEED_STATUS, 5, 1⟩
def SLP.FEED_STATUS.B_USABLE : FieldAt := ⟨Reg.SLP.FEED_STATUS, 4, 1⟩
def SLP.FEED_STATUS.A_USABLE : FieldAt := ⟨Reg.SLP.FEED_STATUS, 3, 1⟩
def SLP.FEED_STATUS.SWITCHING : FieldAt := ⟨Reg.SLP.FEED_STATUS, 2, 1⟩
def SLP.FEED_STATUS.SELECTED : FieldAt := ⟨Reg.SLP.FEED_STATUS, 0, 2⟩
def SLP.FEED_V.V : FieldAt := ⟨Reg.SLP.FEED_V, 0, 16⟩
def SLP.FEED_SWITCHES.V : FieldAt := ⟨Reg.SLP.FEED_SWITCHES, 0, 32⟩

/-! fields of SLP_C -/
def SLP_C.CTRL.FORCE_OFF (n : Nat) : FieldAt := ⟨(Reg.SLP_C.CTRL n), 0, 1⟩
def SLP_C.CTRL.CLEAR (n : Nat) : FieldAt := ⟨(Reg.SLP_C.CTRL n), 1, 1⟩
def SLP_C.CFG.TSRC (n : Nat) : FieldAt := ⟨(Reg.SLP_C.CFG n), 16, 1⟩
def SLP_C.CFG.RETRIES (n : Nat) : FieldAt := ⟨(Reg.SLP_C.CFG n), 13, 3⟩
def SLP_C.CFG.FAST (n : Nat) : FieldAt := ⟨(Reg.SLP_C.CFG n), 8, 5⟩
def SLP_C.CFG.ILIM (n : Nat) : FieldAt := ⟨(Reg.SLP_C.CFG n), 0, 8⟩
def SLP_C.RAMP.INRUSH_T (n : Nat) : FieldAt := ⟨(Reg.SLP_C.RAMP n), 16, 10⟩
def SLP_C.RAMP.SLEW (n : Nat) : FieldAt := ⟨(Reg.SLP_C.RAMP n), 8, 8⟩
def SLP_C.RAMP.INRUSH (n : Nat) : FieldAt := ⟨(Reg.SLP_C.RAMP n), 0, 8⟩
def SLP_C.TIMER.FAULT_T (n : Nat) : FieldAt := ⟨(Reg.SLP_C.TIMER n), 0, 10⟩
def SLP_C.TIMER.PG_V (n : Nat) : FieldAt := ⟨(Reg.SLP_C.TIMER n), 16, 8⟩
def SLP_C.SHUNT.V (n : Nat) : FieldAt := ⟨(Reg.SLP_C.SHUNT n), 0, 14⟩
def SLP_C.MODEL0.R1 (n : Nat) : FieldAt := ⟨(Reg.SLP_C.MODEL0 n), 0, 16⟩
def SLP_C.MODEL0.TAU1 (n : Nat) : FieldAt := ⟨(Reg.SLP_C.MODEL0 n), 16, 16⟩
def SLP_C.MODEL1.R2 (n : Nat) : FieldAt := ⟨(Reg.SLP_C.MODEL1 n), 0, 16⟩
def SLP_C.MODEL1.TAU2 (n : Nat) : FieldAt := ⟨(Reg.SLP_C.MODEL1 n), 16, 16⟩
def SLP_C.STATUS.CAUSE (n : Nat) : FieldAt := ⟨(Reg.SLP_C.STATUS n), 12, 4⟩
def SLP_C.STATUS.ATTEMPT (n : Nat) : FieldAt := ⟨(Reg.SLP_C.STATUS n), 8, 3⟩
def SLP_C.STATUS.TSRC_ACTIVE (n : Nat) : FieldAt := ⟨(Reg.SLP_C.STATUS n), 7, 1⟩
def SLP_C.STATUS.PENDING (n : Nat) : FieldAt := ⟨(Reg.SLP_C.STATUS n), 6, 1⟩
def SLP_C.STATUS.LIMITING (n : Nat) : FieldAt := ⟨(Reg.SLP_C.STATUS n), 5, 1⟩
def SLP_C.STATUS.PG (n : Nat) : FieldAt := ⟨(Reg.SLP_C.STATUS n), 4, 1⟩
def SLP_C.STATUS.STATE (n : Nat) : FieldAt := ⟨(Reg.SLP_C.STATUS n), 0, 4⟩
def SLP_C.MEAS.CURRENT (n : Nat) : FieldAt := ⟨(Reg.SLP_C.MEAS n), 0, 16⟩
def SLP_C.MEAS.VOUT (n : Nat) : FieldAt := ⟨(Reg.SLP_C.MEAS n), 16, 16⟩
def SLP_C.TEMP.V (n : Nat) : FieldAt := ⟨(Reg.SLP_C.TEMP n), 0, 16⟩
def SLP_C.EVENT.LATCHED (n : Nat) : FieldAt := ⟨(Reg.SLP_C.EVENT n), 8, 1⟩
def SLP_C.EVENT.DIODE_FAULT (n : Nat) : FieldAt := ⟨(Reg.SLP_C.EVENT n), 7, 1⟩
def SLP_C.EVENT.OPEN_SENSE (n : Nat) : FieldAt := ⟨(Reg.SLP_C.EVENT n), 6, 1⟩
def SLP_C.EVENT.OVERLOAD (n : Nat) : FieldAt := ⟨(Reg.SLP_C.EVENT n), 5, 1⟩
def SLP_C.EVENT.OVERTEMP (n : Nat) : FieldAt := ⟨(Reg.SLP_C.EVENT n), 4, 1⟩
def SLP_C.EVENT.INRUSH_TIMEOUT (n : Nat) : FieldAt := ⟨(Reg.SLP_C.EVENT n), 3, 1⟩
def SLP_C.EVENT.FAST_TRIP (n : Nat) : FieldAt := ⟨(Reg.SLP_C.EVENT n), 2, 1⟩
def SLP_C.EVENT.PG_LOST (n : Nat) : FieldAt := ⟨(Reg.SLP_C.EVENT n), 1, 1⟩
def SLP_C.EVENT.PG_GIVEN (n : Nat) : FieldAt := ⟨(Reg.SLP_C.EVENT n), 0, 1⟩
def SLP_C.TRIPS.V (n : Nat) : FieldAt := ⟨(Reg.SLP_C.TRIPS n), 0, 32⟩
def SLP_C.LAST_RAMP.V (n : Nat) : FieldAt := ⟨(Reg.SLP_C.LAST_RAMP n), 0, 20⟩

/-! fields of EPF -/
def EPF.CAP.V : FieldAt := ⟨Reg.EPF.CAP, 16, 16⟩
def EPF.ID.V : FieldAt := ⟨Reg.EPF.ID, 16, 16⟩
def EPF.CTRL.ENABLE : FieldAt := ⟨Reg.EPF.CTRL, 0, 1⟩
def EPF.STATUS.WIDTH : FieldAt := ⟨Reg.EPF.STATUS, 16, 4⟩
def EPF.STATUS.SPEED : FieldAt := ⟨Reg.EPF.STATUS, 12, 4⟩
def EPF.STATUS.DSTATE : FieldAt := ⟨Reg.EPF.STATUS, 8, 2⟩
def EPF.STATUS.MSIX_EN : FieldAt := ⟨Reg.EPF.STATUS, 7, 1⟩
def EPF.STATUS.BME : FieldAt := ⟨Reg.EPF.STATUS, 6, 1⟩
def EPF.STATUS.LINK_UP : FieldAt := ⟨Reg.EPF.STATUS, 5, 1⟩
def EPF.STATUS.PENDING : FieldAt := ⟨Reg.EPF.STATUS, 4, 1⟩
def EPF.STATUS.STATE : FieldAt := ⟨Reg.EPF.STATUS, 0, 3⟩
def EPF.EVENT.WAKE : FieldAt := ⟨Reg.EPF.EVENT, 5, 1⟩
def EPF.EVENT.LOCKED_WRITE : FieldAt := ⟨Reg.EPF.EVENT, 4, 1⟩
def EPF.EVENT.PARTIAL_WRITE : FieldAt := ⟨Reg.EPF.EVENT, 3, 1⟩
def EPF.EVENT.BAR2_RANGE : FieldAt := ⟨Reg.EPF.EVENT, 2, 1⟩
def EPF.EVENT.BAR2_PROTECTED : FieldAt := ⟨Reg.EPF.EVENT, 1, 1⟩
def EPF.EVENT.FUNC_RESET : FieldAt := ⟨Reg.EPF.EVENT, 0, 1⟩
def EPF.BAR2_CFG.LOG2 : FieldAt := ⟨Reg.EPF.BAR2_CFG, 0, 6⟩
def EPF.LOCK.TIMEOUT_S : FieldAt := ⟨Reg.EPF.LOCK, 8, 8⟩
def EPF.LOCK.OWNER : FieldAt := ⟨Reg.EPF.LOCK, 0, 2⟩
def EPF.LOCK_DISCARDS.V : FieldAt := ⟨Reg.EPF.LOCK_DISCARDS, 0, 32⟩
def EPF.BAR2_DISCARDS.BAR2 : FieldAt := ⟨Reg.EPF.BAR2_DISCARDS, 0, 32⟩
def EPF.SB_CFG.ENABLE : FieldAt := ⟨Reg.EPF.SB_CFG, 16, 1⟩
def EPF.SB_CFG.MODE : FieldAt := ⟨Reg.EPF.SB_CFG, 8, 2⟩
def EPF.SB_CFG.ADDR : FieldAt := ⟨Reg.EPF.SB_CFG, 0, 7⟩

/-! fields of FLT -/
def FLT.CFG.HALT_HOLD_S : FieldAt := ⟨Reg.FLT.CFG, 8, 8⟩
def FLT.CFG.TOCSIN_MODE : FieldAt := ⟨Reg.FLT.CFG, 1, 2⟩
def FLT.CFG.COMPAT : FieldAt := ⟨Reg.FLT.CFG, 0, 1⟩
def FLT.STATUS.PULSING : FieldAt := ⟨Reg.FLT.STATUS, 3, 1⟩
def FLT.STATUS.ALIVE : FieldAt := ⟨Reg.FLT.STATUS, 2, 1⟩
def FLT.STATUS.TOCSIN : FieldAt := ⟨Reg.FLT.STATUS, 1, 1⟩
def FLT.STATUS.HALTED : FieldAt := ⟨Reg.FLT.STATUS, 0, 1⟩
def FLT.FIRST.VALID : FieldAt := ⟨Reg.FLT.FIRST, 31, 1⟩
def FLT.FIRST.UNSYNC : FieldAt := ⟨Reg.FLT.FIRST, 30, 1⟩
def FLT.FIRST.CLASS : FieldAt := ⟨Reg.FLT.FIRST, 24, 3⟩
def FLT.FIRST.ACTIONS : FieldAt := ⟨Reg.FLT.FIRST, 16, 8⟩
def FLT.FIRST.SOURCE : FieldAt := ⟨Reg.FLT.FIRST, 0, 11⟩
def FLT.OVERFLOW.HIGHEST : FieldAt := ⟨Reg.FLT.OVERFLOW, 16, 3⟩
def FLT.OVERFLOW.COUNT : FieldAt := ⟨Reg.FLT.OVERFLOW, 0, 16⟩
def FLT.CLEAR.FIRST : FieldAt := ⟨Reg.FLT.CLEAR, 0, 1⟩
def FLT.TOCSIN_CTRL.RESTART : FieldAt := ⟨Reg.FLT.TOCSIN_CTRL, 16, 1⟩
def FLT.TOCSIN_CTRL.PULSE_MS : FieldAt := ⟨Reg.FLT.TOCSIN_CTRL, 8, 8⟩
def FLT.TOCSIN_CTRL.LEVEL : FieldAt := ⟨Reg.FLT.TOCSIN_CTRL, 0, 1⟩
def FLT.CMD.CORE_RESET : FieldAt := ⟨Reg.FLT.CMD, 0, 1⟩
def FLT.RESET_CAUSE.V : FieldAt := ⟨Reg.FLT.RESET_CAUSE, 0, 3⟩

/-! fields of EVC -/
def EVC.CAP.V : FieldAt := ⟨Reg.EVC.CAP, 16, 16⟩
def EVC.SRC_SELECT.V : FieldAt := ⟨Reg.EVC.SRC_SELECT, 0, 11⟩
def EVC.SRC_INFO.CONFIGURABLE : FieldAt := ⟨Reg.EVC.SRC_INFO, 31, 1⟩
def EVC.SRC_INFO.BLOCK : FieldAt := ⟨Reg.EVC.SRC_INFO, 24, 5⟩
def EVC.SRC_INFO.ACTIONS : FieldAt := ⟨Reg.EVC.SRC_INFO, 16, 8⟩
def EVC.SRC_INFO.INSTANCE : FieldAt := ⟨Reg.EVC.SRC_INFO, 0, 6⟩
def EVC.SRC_CFG.EN : FieldAt := ⟨Reg.EVC.SRC_CFG, 31, 1⟩
def EVC.SRC_CFG.CARILLON : FieldAt := ⟨Reg.EVC.SRC_CFG, 30, 1⟩
def EVC.SRC_CFG.FW : FieldAt := ⟨Reg.EVC.SRC_CFG, 29, 1⟩
def EVC.SRC_CFG.TOCSIN : FieldAt := ⟨Reg.EVC.SRC_CFG, 28, 1⟩
def EVC.SRC_CFG.CLASS : FieldAt := ⟨Reg.EVC.SRC_CFG, 24, 3⟩
def EVC.SRC_CFG.VECTOR : FieldAt := ⟨Reg.EVC.SRC_CFG, 0, 11⟩
def EVC.SRC_STATE.ASSERTED : FieldAt := ⟨Reg.EVC.SRC_STATE, 1, 1⟩
def EVC.SRC_STATE.PENDING : FieldAt := ⟨Reg.EVC.SRC_STATE, 0, 1⟩
def EVC.BLOCK_PEND.V : FieldAt := ⟨Reg.EVC.BLOCK_PEND, 0, 26⟩

/-! fields of EVR -/
def EVR.CAP.V : FieldAt := ⟨Reg.EVR.CAP, 16, 16⟩
def EVR.CTRL.FREEZE_S : FieldAt := ⟨Reg.EVR.CTRL, 8, 8⟩
def EVR.CTRL.FREEZE : FieldAt := ⟨Reg.EVR.CTRL, 0, 1⟩
def EVR.STATUS.READY : FieldAt := ⟨Reg.EVR.STATUS, 31, 1⟩
def EVR.STATUS.HELD : FieldAt := ⟨Reg.EVR.STATUS, 8, 9⟩
def EVR.STATUS.FROZEN : FieldAt := ⟨Reg.EVR.STATUS, 0, 1⟩
def EVR.NEXT_SEQ.SEQ : FieldAt := ⟨Reg.EVR.NEXT_SEQ, 0, 32⟩
def EVR.LOST.V : FieldAt := ⟨Reg.EVR.LOST, 0, 32⟩
def EVR.CLEAR.GO : FieldAt := ⟨Reg.EVR.CLEAR, 0, 1⟩
def EVR.RSEL.V : FieldAt := ⟨Reg.EVR.RSEL, 0, 16⟩
def EVR.SW_P.V (m : Nat) : FieldAt := ⟨(Reg.EVR.SW_P m), 0, 32⟩
def EVR.SW_GO.TAG : FieldAt := ⟨Reg.EVR.SW_GO, 0, 8⟩

/-! fields of PMC -/
def PMC.CAP.V : FieldAt := ⟨Reg.PMC.CAP, 16, 16⟩
def PMC.CTRL.RUN : FieldAt := ⟨Reg.PMC.CTRL, 0, 1⟩
def PMC.EVENT.OVERFLOW : FieldAt := ⟨Reg.PMC.EVENT, 0, 1⟩
def PMC.EVENT.SMP_LOST : FieldAt := ⟨Reg.PMC.EVENT, 1, 1⟩
def PMC.EVENT.BW_WINDOW : FieldAt := ⟨Reg.PMC.EVENT, 2, 1⟩
def PMC.CSEL.V : FieldAt := ⟨Reg.PMC.CSEL, 0, 8⟩
def PMC.CCFG.EN : FieldAt := ⟨Reg.PMC.CCFG, 31, 1⟩
def PMC.CCFG.PRIV : FieldAt := ⟨Reg.PMC.CCFG, 24, 3⟩
def PMC.CCFG.CLASS : FieldAt := ⟨Reg.PMC.CCFG, 16, 8⟩
def PMC.CCFG.EVENT : FieldAt := ⟨Reg.PMC.CCFG, 0, 8⟩
def PMC.CMASTER.KIND : FieldAt := ⟨Reg.PMC.CMASTER, 16, 3⟩
def PMC.CMASTER.VALUE : FieldAt := ⟨Reg.PMC.CMASTER, 0, 10⟩
def PMC.CADDR.KIND : FieldAt := ⟨Reg.PMC.CADDR, 16, 2⟩
def PMC.CADDR.NSID : FieldAt := ⟨Reg.PMC.CADDR, 0, 11⟩
def PMC.CSTAT.OVF : FieldAt := ⟨Reg.PMC.CSTAT, 0, 1⟩
def PMC.CSTAT.FILTER_VOID : FieldAt := ⟨Reg.PMC.CSTAT, 1, 1⟩
def PMC.CMD.CLEAR_SEL : FieldAt := ⟨Reg.PMC.CMD, 0, 1⟩
def PMC.CMD.CLEAR_ALL : FieldAt := ⟨Reg.PMC.CMD, 1, 1⟩
def PMC.LAST_GAP.V : FieldAt := ⟨Reg.PMC.LAST_GAP, 0, 32⟩
def PMC.SMP_CFG.EN : FieldAt := ⟨Reg.PMC.SMP_CFG, 31, 1⟩
def PMC.SMP_CFG.USE_FILTER : FieldAt := ⟨Reg.PMC.SMP_CFG, 30, 1⟩
def PMC.SMP_CFG.FILTER_CTR : FieldAt := ⟨Reg.PMC.SMP_CFG, 0, 8⟩
def PMC.SMP_N.V : FieldAt := ⟨Reg.PMC.SMP_N, 0, 24⟩
def PMC.SMP_RECORDS.V : FieldAt := ⟨Reg.PMC.SMP_RECORDS, 0, 24⟩
def PMC.SMP_HEAD.V : FieldAt := ⟨Reg.PMC.SMP_HEAD, 0, 24⟩
def PMC.SMP_TAIL.V : FieldAt := ⟨Reg.PMC.SMP_TAIL, 0, 24⟩
def PMC.SMP_LOST.V : FieldAt := ⟨Reg.PMC.SMP_LOST, 0, 32⟩
def PMC.BW_CFG.WINDOW : FieldAt := ⟨Reg.PMC.BW_CFG, 0, 14⟩
def PMC.BW_SEQ.V : FieldAt := ⟨Reg.PMC.BW_SEQ, 0, 32⟩
def PMC.BW_SEL.V : FieldAt := ⟨Reg.PMC.BW_SEL, 0, 6⟩
def PMC.BW_RX.V : FieldAt := ⟨Reg.PMC.BW_RX, 0, 32⟩
def PMC.BW_TX.V : FieldAt := ⟨Reg.PMC.BW_TX, 0, 32⟩

/-! fields of TOP -/
def TOP.ID.V : FieldAt := ⟨Reg.TOP.ID, 16, 16⟩
def TOP.STATUS.APPLYING : FieldAt := ⟨Reg.TOP.STATUS, 7, 1⟩
def TOP.STATUS.HOLD_SEAL : FieldAt := ⟨Reg.TOP.STATUS, 6, 1⟩
def TOP.STATUS.SEALED : FieldAt := ⟨Reg.TOP.STATUS, 5, 1⟩
def TOP.STATUS.PARTNER_REFUSED : FieldAt := ⟨Reg.TOP.STATUS, 4, 1⟩
def TOP.STATUS.DRAM_SHORT : FieldAt := ⟨Reg.TOP.STATUS, 3, 1⟩
def TOP.STATUS.MODE : FieldAt := ⟨Reg.TOP.STATUS, 0, 2⟩
def TOP.EVENT.OVL_REFUSED : FieldAt := ⟨Reg.TOP.EVENT, 3, 1⟩
def TOP.EVENT.SEALED : FieldAt := ⟨Reg.TOP.EVENT, 2, 1⟩
def TOP.EVENT.SUPPLY_DROP : FieldAt := ⟨Reg.TOP.EVENT, 1, 1⟩
def TOP.EVENT.DRAM_SHORT : FieldAt := ⟨Reg.TOP.EVENT, 0, 1⟩
def TOP.SUPPLY.DROPPED : FieldAt := ⟨Reg.TOP.SUPPLY, 8, 8⟩
def TOP.SUPPLY.IN_RANGE : FieldAt := ⟨Reg.TOP.SUPPLY, 0, 8⟩
def TOP.DRAM_REQUIRED.V : FieldAt := ⟨Reg.TOP.DRAM_REQUIRED, 0, 18⟩
def TOP.DRAM_FITTED.V : FieldAt := ⟨Reg.TOP.DRAM_FITTED, 0, 18⟩
def TOP.SEAL.GO : FieldAt := ⟨Reg.TOP.SEAL, 0, 1⟩
def TOP.OVL_REQ.OVL : FieldAt := ⟨Reg.TOP.OVL_REQ, 0, 4⟩
def TOP.OVL_VALID.V : FieldAt := ⟨Reg.TOP.OVL_VALID, 0, 16⟩

/-! fields of CFG -/
def CFG.STATUS.OWNER_SET : FieldAt := ⟨Reg.CFG.STATUS, 9, 1⟩
def CFG.STATUS.GRADE : FieldAt := ⟨Reg.CFG.STATUS, 8, 1⟩
def CFG.STATUS.IMAGE_APPLIED : FieldAt := ⟨Reg.CFG.STATUS, 4, 1⟩
def CFG.STATUS.OWNER_VERIFIED : FieldAt := ⟨Reg.CFG.STATUS, 3, 1⟩
def CFG.STATUS.FW_VERIFIED : FieldAt := ⟨Reg.CFG.STATUS, 2, 1⟩
def CFG.STATUS.DIR_VALID : FieldAt := ⟨Reg.CFG.STATUS, 1, 1⟩
def CFG.STATUS.FUSE_DONE : FieldAt := ⟨Reg.CFG.STATUS, 0, 1⟩
def CFG.SVN.FLOOR : FieldAt := ⟨Reg.CFG.SVN, 16, 6⟩
def CFG.SVN.FW_SVN : FieldAt := ⟨Reg.CFG.SVN, 0, 6⟩
def CFG.COPY.RUNNING : FieldAt := ⟨Reg.CFG.COPY, 8, 2⟩
def CFG.COPY.RESULT_B : FieldAt := ⟨Reg.CFG.COPY, 4, 4⟩
def CFG.COPY.RESULT_A : FieldAt := ⟨Reg.CFG.COPY, 0, 4⟩
def CFG.MSL_SELECT.V : FieldAt := ⟨Reg.CFG.MSL_SELECT, 0, 4⟩
def CFG.MSL_DATA.V (m : Nat) : FieldAt := ⟨(Reg.CFG.MSL_DATA m), 0, 8⟩
def CFG.UPD_LEN.V : FieldAt := ⟨Reg.CFG.UPD_LEN, 0, 25⟩
def CFG.CMD.OP : FieldAt := ⟨Reg.CFG.CMD, 0, 4⟩
def CFG.CMD.ARG : FieldAt := ⟨Reg.CFG.CMD, 4, 4⟩
def CFG.CMD_RESULT.BUSY : FieldAt := ⟨Reg.CFG.CMD_RESULT, 4, 1⟩
def CFG.CMD_RESULT.CODE : FieldAt := ⟨Reg.CFG.CMD_RESULT, 0, 4⟩
def CFG.SPDM.SIGNED : FieldAt := ⟨Reg.CFG.SPDM, 16, 16⟩
def CFG.SPDM.NVME_CTX : FieldAt := ⟨Reg.CFG.SPDM, 8, 4⟩
def CFG.SPDM.NEGOTIATED : FieldAt := ⟨Reg.CFG.SPDM, 0, 3⟩

/-! fields of TOP -/
def TOP.BAD_ADDR.OFFSET : FieldAt := ⟨Reg.TOP.BAD_ADDR, 2, 23⟩
def TOP.BAD_INFO.VALID : FieldAt := ⟨Reg.TOP.BAD_INFO, 31, 1⟩
def TOP.BAD_INFO.KIND : FieldAt := ⟨Reg.TOP.BAD_INFO, 28, 3⟩
def TOP.BAD_INFO.PATH : FieldAt := ⟨Reg.TOP.BAD_INFO, 26, 2⟩
def TOP.BAD_INFO.COUNT : FieldAt := ⟨Reg.TOP.BAD_INFO, 0, 16⟩

/-! fields of DDC -/
def DDC.CAP.V : FieldAt := ⟨Reg.DDC.CAP, 24, 8⟩
def DDC.STATUS.TRAINED : FieldAt := ⟨Reg.DDC.STATUS, 0, 1⟩
def DDC.STATUS.CH0_UP : FieldAt := ⟨Reg.DDC.STATUS, 1, 1⟩
def DDC.STATUS.CH1_UP : FieldAt := ⟨Reg.DDC.STATUS, 2, 1⟩
def DDC.EVENT.CE : FieldAt := ⟨Reg.DDC.EVENT, 0, 1⟩
def DDC.EVENT.UE : FieldAt := ⟨Reg.DDC.EVENT, 1, 1⟩
def DDC.EVENT.TRAIN_FAIL : FieldAt := ⟨Reg.DDC.EVENT, 2, 1⟩
def DDC.EVENT.PATROL_DONE : FieldAt := ⟨Reg.DDC.EVENT, 3, 1⟩
def DDC.SIZE.V : FieldAt := ⟨Reg.DDC.SIZE, 0, 18⟩
def DDC.CE_TOTAL.V : FieldAt := ⟨Reg.DDC.CE_TOTAL, 0, 32⟩
def DDC.UE_TOTAL.V : FieldAt := ⟨Reg.DDC.UE_TOTAL, 0, 32⟩

/-! fields of DDC_C -/
def DDC_C.CFG.RANKS (n : Nat) : FieldAt := ⟨(Reg.DDC_C.CFG n), 0, 2⟩
def DDC_C.CFG.DENSITY (n : Nat) : FieldAt := ⟨(Reg.DDC_C.CFG n), 4, 3⟩
def DDC_C.CFG.X8 (n : Nat) : FieldAt := ⟨(Reg.DDC_C.CFG n), 8, 1⟩
def DDC_C.STATUS.UP (n : Nat) : FieldAt := ⟨(Reg.DDC_C.STATUS n), 0, 1⟩
def DDC_C.STATUS.TRAINED (n : Nat) : FieldAt := ⟨(Reg.DDC_C.STATUS n), 1, 1⟩
def DDC_C.STATUS.V (n : Nat) : FieldAt := ⟨(Reg.DDC_C.STATUS n), 4, 4⟩
def DDC_C.CE_COUNT.V (n : Nat) : FieldAt := ⟨(Reg.DDC_C.CE_COUNT n), 0, 32⟩
def DDC_C.UE_COUNT.V (n : Nat) : FieldAt := ⟨(Reg.DDC_C.UE_COUNT n), 0, 32⟩
def DDC_C.ERR_SYN.V (n : Nat) : FieldAt := ⟨(Reg.DDC_C.ERR_SYN n), 0, 18⟩
def DDC_C.ERR_SYN.UE (n : Nat) : FieldAt := ⟨(Reg.DDC_C.ERR_SYN n), 31, 1⟩
def DDC_C.PATROL_CFG.HOURS (n : Nat) : FieldAt := ⟨(Reg.DDC_C.PATROL_CFG n), 0, 8⟩
def DDC_C.REFRESH.V (n : Nat) : FieldAt := ⟨(Reg.DDC_C.REFRESH n), 0, 1⟩
def DDC_C.TRAIN_RESULT.V (n : Nat) : FieldAt := ⟨(Reg.DDC_C.TRAIN_RESULT n), 0, 16⟩
def DDC_C.DQ_R0.V (n : Nat) (m : Nat) : FieldAt := ⟨(Reg.DDC_C.DQ_R0 n m), 0, 8⟩
def DDC_C.VREF_R0.DQ (n : Nat) (m : Nat) : FieldAt := ⟨(Reg.DDC_C.VREF_R0 n m), 0, 8⟩

/-! fields of SIO -/
def SIO.CAP.V : FieldAt := ⟨Reg.SIO.CAP, 24, 8⟩
def SIO.CAP.SGPIO : FieldAt := ⟨Reg.SIO.CAP, 16, 8⟩
def SIO.CAP.SPI : FieldAt := ⟨Reg.SIO.CAP, 8, 8⟩
def SIO.CAP.SGMII : FieldAt := ⟨Reg.SIO.CAP, 0, 8⟩
def SIO.STATUS.SPI_READY : FieldAt := ⟨Reg.SIO.STATUS, 0, 1⟩
def SIO.STATUS.MGT_LINK : FieldAt := ⟨Reg.SIO.STATUS, 1, 1⟩
def SIO.STATUS.V : FieldAt := ⟨Reg.SIO.STATUS, 4, 4⟩
def SIO.EVENT.SPI_ERROR : FieldAt := ⟨Reg.SIO.EVENT, 0, 1⟩
def SIO.EVENT.MGT_LINK_CHANGED : FieldAt := ⟨Reg.SIO.EVENT, 1, 1⟩
def SIO.EVENT.XFER_DONE : FieldAt := ⟨Reg.SIO.EVENT, 2, 1⟩
def SIO.EVENT.XFER_FAILED : FieldAt := ⟨Reg.SIO.EVENT, 3, 1⟩
def SIO.SPI_STATUS.READY : FieldAt := ⟨Reg.SIO.SPI_STATUS, 0, 1⟩
def SIO.SPI_STATUS.V : FieldAt := ⟨Reg.SIO.SPI_STATUS, 1, 1⟩
def SIO.SPI_STATUS.BUSY : FieldAt := ⟨Reg.SIO.SPI_STATUS, 2, 1⟩
def SIO.SPI_ID.JEDEC : FieldAt := ⟨Reg.SIO.SPI_ID, 0, 24⟩
def SIO.SPI_SIZE.V : FieldAt := ⟨Reg.SIO.SPI_SIZE, 0, 16⟩
def SIO.SPI_ERR.V : FieldAt := ⟨Reg.SIO.SPI_ERR, 0, 32⟩
def SIO.MGT_CFG.TX_POL : FieldAt := ⟨Reg.SIO.MGT_CFG, 0, 1⟩
def SIO.MGT_CFG.RX_POL : FieldAt := ⟨Reg.SIO.MGT_CFG, 1, 1⟩
def SIO.MGT_STATUS.SYNC : FieldAt := ⟨Reg.SIO.MGT_STATUS, 0, 1⟩
def SIO.MGT_STATUS.LINK : FieldAt := ⟨Reg.SIO.MGT_STATUS, 1, 1⟩

/-! fields of SIO_M -/
def SIO_M.XFER.ADDR (n : Nat) : FieldAt := ⟨(Reg.SIO_M.XFER n), 0, 7⟩
def SIO_M.XFER.READ (n : Nat) : FieldAt := ⟨(Reg.SIO_M.XFER n), 7, 1⟩
def SIO_M.XFER.LENGTH (n : Nat) : FieldAt := ⟨(Reg.SIO_M.XFER n), 8, 8⟩
def SIO_M.XFER.DMA (n : Nat) : FieldAt := ⟨(Reg.SIO_M.XFER n), 16, 1⟩
def SIO_M.XFER.PEC (n : Nat) : FieldAt := ⟨(Reg.SIO_M.XFER n), 17, 1⟩
def SIO_M.XFER.MUX (n : Nat) : FieldAt := ⟨(Reg.SIO_M.XFER n), 24, 4⟩
def SIO_M.GO.GO (n : Nat) : FieldAt := ⟨(Reg.SIO_M.GO n), 0, 1⟩
def SIO_M.STATUS.BUSY (n : Nat) : FieldAt := ⟨(Reg.SIO_M.STATUS n), 0, 1⟩
def SIO_M.STATUS.RESULT (n : Nat) : FieldAt := ⟨(Reg.SIO_M.STATUS n), 1, 3⟩
def SIO_M.STATUS.V (n : Nat) : FieldAt := ⟨(Reg.SIO_M.STATUS n), 8, 8⟩
def SIO_M.EVENT.DONE (n : Nat) : FieldAt := ⟨(Reg.SIO_M.EVENT n), 0, 1⟩
def SIO_M.EVENT.FAILED (n : Nat) : FieldAt := ⟨(Reg.SIO_M.EVENT n), 1, 1⟩
def SIO_M.NACK_COUNT.V (n : Nat) : FieldAt := ⟨(Reg.SIO_M.NACK_COUNT n), 0, 32⟩
def SIO_M.TX.V (n : Nat) (m : Nat) : FieldAt := ⟨(Reg.SIO_M.TX n m), 0, 8⟩
def SIO_M.RX.V (n : Nat) (m : Nat) : FieldAt := ⟨(Reg.SIO_M.RX n m), 0, 8⟩

/-! fields of SIO_G -/
def SIO_G.RAW.V (n : Nat) : FieldAt := ⟨(Reg.SIO_G.RAW n), 0, 12⟩
def SIO_G.OUT.V (n : Nat) : FieldAt := ⟨(Reg.SIO_G.OUT n), 0, 12⟩
def SIO_G.ATTN.V (n : Nat) : FieldAt := ⟨(Reg.SIO_G.ATTN n), 0, 12⟩

end Fld

/-- The register rows of CLK. -/
def regRows_CLK : List RegRow := [
  ⟨0x10000, 0x0, 1, 1, 0x0, 0x0, 0x0, 0x0, 0x0, 0x0⟩,
  ⟨0x10004, 0x0, 1, 1, 0x0, 0x0, 0x0, 0x0, 0x0, 0x0⟩,
  ⟨0x10008, 0x0, 1, 1, 0x0, 0x0, 0xf, 0x0, 0x0, 0x0⟩,
  ⟨0x1000c, 0x0, 1, 1, 0x0, 0x0, 0x0, 0x0, 0x0, 0xffffffff⟩]

/-- The register rows of ZMP. -/
def regRows_ZMP : List RegRow := [
  ⟨0x180000, 0x0, 1, 1, 0x0, 0x0, 0x0, 0x0, 0x0, 0x0⟩,
  ⟨0x180004, 0x0, 1, 1, 0x0, 0x0, 0x0, 0x0, 0x0, 0x0⟩,
  ⟨0x180008, 0x0, 1, 1, 0x0, 0x7, 0x0, 0x0, 0x0, 0x0⟩,
  ⟨0x18000c, 0x0, 1, 1, 0x0, 0x0, 0x0, 0x0, 0x10000, 0x0⟩,
  ⟨0x180010, 0x0, 1, 1, 0x0, 0x0, 0x3f, 0x0, 0x0, 0x0⟩,
  ⟨0x180014, 0x0, 1, 1, 0x7ff, 0x0, 0x0, 0x0, 0x0, 0x0⟩,
  ⟨0x180018, 0x0, 1, 1, 0x1ff001e, 0x0, 0x0, 0x0, 0x0, 0x0⟩,
  ⟨0x18001c, 0x0, 1, 1, 0x0, 0x0, 0x0, 0x0, 0x3, 0x0⟩,
  ⟨0x180020, 0x0, 1, 1, 0x0, 0x0, 0x0, 0x0, 0x0, 0x0⟩,
  ⟨0x180028, 0x0, 1, 1, 0xffffffff, 0x0, 0x0, 0x0, 0x0, 0x0⟩,
  ⟨0x18002c, 0x0, 1, 1, 0xffffffff, 0x0, 0x0, 0x0, 0x0, 0x0⟩,
  ⟨0x180030, 0x0, 1, 1, 0x0, 0x0, 0x0, 0x0, 0x0, 0x0⟩,
  ⟨0x180034, 0x0, 1, 1, 0x0, 0x0, 0x0, 0x0, 0x0, 0x0⟩,
  ⟨0x180038, 0x0, 1, 1, 0x0, 0x0, 0x0, 0x0, 0x0, 0x0⟩,
  ⟨0x18003c, 0x0, 1, 1, 0x0, 0x0, 0x0, 0x0, 0x0, 0x0⟩,
  ⟨0x180040, 0x0, 1, 1, 0x3ff, 0x0, 0x0, 0x0, 0x0, 0x0⟩,
  ⟨0x180044, 0x0, 1, 1, 0x7, 0x0, 0x0, 0x0, 0x0, 0x0⟩,
  ⟨0x180048, 0x0, 1, 1, 0xffffffff, 0x0, 0x0, 0x0, 0x0, 0x0⟩,
  ⟨0x180100, 0x0, 1, 56, 0xffffffff, 0x0, 0x0, 0x0, 0x0, 0x0⟩,
  ⟨0x180200, 0x0, 1, 32, 0xffffffff, 0x0, 0x0, 0x0, 0x0, 0x0⟩,
  ⟨0x180300, 0x0, 1, 16, 0x0, 0x0, 0x0, 0x0, 0x0, 0x0⟩]

/-- The register rows of NVQ. -/
def regRows_NVQ : List RegRow := [
  ⟨0x140000, 0x0, 1, 1, 0x0, 0x0, 0x0, 0x0, 0x0, 0x0⟩,
  ⟨0x140004, 0x0, 1, 1, 0x0, 0x0, 0x0, 0x0, 0x0, 0x0⟩,
  ⟨0x140008, 0x0, 1, 1, 0x0, 0x0, 0x0, 0x0, 0x0, 0x0⟩,
  ⟨0x14000c, 0x0, 1, 1, 0x0, 0x0, 0x0, 0x0, 0x0, 0x1ffff⟩,
  ⟨0x140010, 0x0, 1, 1, 0x0, 0x0, 0x0, 0x0, 0x0, 0x0⟩,
  ⟨0x140014, 0x0, 1, 1, 0x0, 0x0, 0x0, 0x0, 0x0, 0x0⟩,
  ⟨0x140018, 0x0, 1, 1, 0x0, 0x0, 0x0, 0x0, 0x0, 0x0⟩,
  ⟨0x14001c, 0x0, 1, 1, 0x0, 0x0, 0x0, 0x0, 0x0, 0xffffffff⟩,
  ⟨0x140020, 0x0, 1, 1, 0x0, 0x0, 0x0, 0x0, 0x0, 0x0⟩,
  ⟨0x140024, 0x0, 1, 1, 0x0, 0x0, 0x0, 0x0, 0x0, 0x0⟩,
  ⟨0x140028, 0x0, 1, 1, 0xffffff07, 0x0, 0x0, 0x0, 0x0, 0x0⟩,
  ⟨0x14002c, 0x0, 1, 1, 0x3f, 0x0, 0x0, 0x0, 0x0, 0x0⟩,
  ⟨0x140030, 0x0, 1, 1, 0x3ff, 0x0, 0x0, 0x0, 0x0, 0x0⟩,
  ⟨0x140034, 0x0, 1, 4, 0xffffffff, 0x0, 0x0, 0x0, 0x0, 0x0⟩,
  ⟨0x140044, 0x0, 1, 1, 0x0, 0x0, 0x0, 0x0, 0x0, 0x0⟩,
  ⟨0x140048, 0x0, 1, 1, 0x0, 0x0, 0x0, 0x0, 0x0, 0x0⟩,
  ⟨0x14004c, 0x0, 1, 1, 0x0, 0x0, 0x0, 0x0, 0x0, 0xffffffff⟩,
  ⟨0x140050, 0x0, 1, 1, 0x0, 0x0, 0x1f, 0x0, 0x0, 0x0⟩]

/-- The register rows of STR. -/
def regRows_STR : List RegRow := [
  ⟨0x1c0000, 0x0, 1, 1, 0x0, 0x33f3f, 0x0, 0x0, 0x0, 0x0⟩,
  ⟨0x1c0004, 0x0, 1, 1, 0x0, 0x7ff, 0x0, 0x0, 0x0, 0x0⟩,
  ⟨0x1c0008, 0x0, 1, 1, 0x0, 0x0, 0x0, 0x0, 0x0, 0x0⟩,
  ⟨0x1c0010, 0x0, 1, 1, 0x0, 0x0, 0x0, 0x0, 0x0, 0x0⟩,
  ⟨0x1c0014, 0x0, 1, 1, 0x0, 0x0, 0x0, 0x0, 0x0, 0x0⟩,
  ⟨0x1c0018, 0x0, 1, 1, 0x0, 0x0, 0x0, 0x0, 0x0, 0x0⟩,
  ⟨0x1c001c, 0x0, 1, 1, 0x0, 0x0, 0x0, 0x0, 0x0, 0x0⟩,
  ⟨0x1c0020, 0x0, 1, 1, 0x0, 0x0, 0x0, 0x0, 0x0, 0x0⟩,
  ⟨0x1c0024, 0x0, 1, 1, 0x0, 0x0, 0x0, 0x0, 0x0, 0x0⟩,
  ⟨0x1c0028, 0x0, 1, 1, 0x0, 0x0, 0x0, 0x0, 0x0, 0x0⟩,
  ⟨0x1c002c, 0x0, 1, 1, 0x0, 0x0, 0x0, 0x0, 0x0, 0x0⟩,
  ⟨0x1c0030, 0x0, 1, 1, 0x3ff, 0x0, 0x0, 0x0, 0x0, 0x0⟩,
  ⟨0x1c0040, 0x0, 1, 8, 0x0, 0xffffffff, 0x0, 0x0, 0x0, 0x0⟩,
  ⟨0x1c0060, 0x0, 1, 12, 0x0, 0x3f3f3f3f, 0x0, 0x0, 0x0, 0x0⟩,
  ⟨0x1c00a0, 0x0, 1, 1, 0xffffffff, 0x0, 0x0, 0x0, 0x0, 0x0⟩,
  ⟨0x1c00a4, 0x0, 1, 1, 0xffffffff, 0x0, 0x0, 0x0, 0x0, 0x0⟩,
  ⟨0x1c00a8, 0x0, 1, 1, 0x1f, 0x0, 0x0, 0x0, 0x0, 0x0⟩,
  ⟨0x1c00ac, 0x0, 1, 1, 0x0, 0x0, 0x0, 0x0, 0x0, 0x0⟩,
  ⟨0x1c00b0, 0x0, 1, 1, 0x0, 0x0, 0x0, 0x0, 0x0, 0x0⟩,
  ⟨0x1c00b4, 0x0, 1, 1, 0x0, 0x0, 0x0, 0x0, 0x0, 0x0⟩]

/-- The register rows of BRL. -/
def regRows_BRL : List RegRow := [
  ⟨0x1e0000, 0x0, 1, 1, 0x0, 0x0, 0x0, 0x0, 0x0, 0x0⟩,
  ⟨0x1e0004, 0x0, 1, 1, 0x0, 0x0, 0x0, 0x0, 0x0, 0x0⟩,
  ⟨0x1e0008, 0x0, 1, 1, 0x0, 0x0, 0x0, 0x0, 0x0, 0x0⟩,
  ⟨0x1e000c, 0x0, 1, 1, 0x0, 0x0, 0x0, 0x0, 0x0, 0x0⟩,
  ⟨0x1e0010, 0x0, 1, 1, 0xf, 0x0, 0x0, 0x0, 0x0, 0x0⟩,
  ⟨0x1e0014, 0x0, 1, 1, 0x0, 0x0, 0x7f, 0x0, 0x0, 0x0⟩,
  ⟨0x1e0020, 0x0, 1, 1, 0x0, 0x0, 0x0, 0x0, 0x0, 0xffffffff⟩,
  ⟨0x1e0024, 0x0, 1, 1, 0x0, 0x0, 0x0, 0x0, 0x0, 0xffffffff⟩,
  ⟨0x1e0028, 0x0, 1, 1, 0x0, 0x0, 0x0, 0x0, 0x0, 0xffffffff⟩,
  ⟨0x1e002c, 0x0, 1, 1, 0x0, 0x0, 0x0, 0x0, 0x0, 0xffffffff⟩,
  ⟨0x1e0030, 0x0, 1, 1, 0x0, 0x0, 0x0, 0x0, 0x0, 0xffffffff⟩,
  ⟨0x1e0034, 0x0, 1, 1, 0x0, 0x0, 0x0, 0x0, 0x0, 0xffffffff⟩,
  ⟨0x1e0040, 0x0, 1, 1, 0xff, 0x0, 0x0, 0x0, 0x0, 0x0⟩,
  ⟨0x1e0044, 0x0, 1, 1, 0x0, 0x0, 0x0, 0x0, 0x0, 0x0⟩,
  ⟨0x1e0048, 0x0, 1, 1, 0x0, 0x0, 0x0, 0x0, 0x0, 0x0⟩,
  ⟨0x1e004c, 0x0, 1, 1, 0x0, 0x0, 0x0, 0x0, 0x0, 0x0⟩,
  ⟨0x1e0050, 0x0, 1, 1, 0x0, 0x0, 0x0, 0x0, 0x0, 0x0⟩,
  ⟨0x1e0054, 0x0, 1, 1, 0x0, 0x0, 0x0, 0x0, 0x0, 0x0⟩]

/-- The register rows of MBR. -/
def regRows_MBR : List RegRow := [
  ⟨0x240200, 0x0, 1, 1, 0x3003f, 0x0, 0x0, 0x0, 0x0, 0x0⟩,
  ⟨0x240204, 0x0, 1, 1, 0x3fff, 0x0, 0x0, 0x0, 0x0, 0x0⟩,
  ⟨0x240208, 0x0, 1, 1, 0xff00ffff, 0x0, 0x0, 0x0, 0x0, 0x0⟩,
  ⟨0x24020c, 0x0, 1, 1, 0xffff003f, 0x0, 0x0, 0x0, 0x0, 0x0⟩,
  ⟨0x240210, 0x0, 1, 1, 0x0, 0x0, 0x0, 0x0, 0x0, 0x0⟩,
  ⟨0x240214, 0x0, 1, 1, 0x0, 0x0, 0x0, 0x0, 0x0, 0x0⟩,
  ⟨0x240218, 0x0, 1, 1, 0x0, 0x0, 0x0, 0x0, 0x0, 0x0⟩,
  ⟨0x24021c, 0x0, 1, 1, 0x0, 0x0, 0x0, 0x0, 0x0, 0x0⟩,
  ⟨0x240220, 0x0, 1, 1, 0x0, 0x0, 0x0, 0x0, 0x0, 0x0⟩,
  ⟨0x240224, 0x0, 1, 1, 0x0, 0x0, 0x0, 0x0, 0x0, 0x0⟩,
  ⟨0x240228, 0x0, 1, 1, 0x0, 0x0, 0x1f, 0x0, 0x0, 0x0⟩,
  ⟨0x24022c, 0x0, 1, 1, 0x0, 0x0, 0x0, 0x0, 0x0, 0xffffffff⟩,
  ⟨0x240230, 0x0, 1, 1, 0x3f, 0x0, 0x0, 0x0, 0x0, 0x0⟩,
  ⟨0x240234, 0x0, 1, 1, 0x0, 0x0, 0x0, 0x0, 0x0, 0x0⟩,
  ⟨0x240238, 0x0, 1, 1, 0x0, 0x0, 0x0, 0x0, 0x0, 0x0⟩,
  ⟨0x24023c, 0x0, 1, 1, 0x0, 0x0, 0x0, 0x0, 0x0, 0x0⟩,
  ⟨0x240240, 0x0, 1, 6, 0x0, 0x77777777, 0x0, 0x0, 0x0, 0x0⟩,
  ⟨0x240258, 0x0, 1, 1, 0x0, 0x0, 0x0, 0x0, 0x0, 0x0⟩,
  ⟨0x24025c, 0x0, 1, 1, 0x0, 0x0, 0x0, 0x0, 0x0, 0x0⟩]

/-- The register rows of GNT. -/
def regRows_GNT : List RegRow := [
  ⟨0x200000, 0x0, 1, 1, 0x0, 0x0, 0x0, 0x0, 0x0, 0x0⟩,
  ⟨0x200004, 0x0, 1, 1, 0x0, 0x0, 0x0, 0x0, 0x0, 0x0⟩,
  ⟨0x200008, 0x0, 1, 1, 0x0, 0x0, 0xffff, 0x0, 0x0, 0x0⟩,
  ⟨0x200010, 0x0, 1, 1, 0x0, 0x0, 0x0, 0x0, 0x0, 0x0⟩,
  ⟨0x200014, 0x0, 1, 1, 0x0, 0x0, 0x0, 0x0, 0x0, 0x0⟩,
  ⟨0x200018, 0x0, 1, 1, 0x0, 0x0, 0x0, 0x0, 0x0, 0x0⟩,
  ⟨0x20001c, 0x0, 1, 1, 0x0, 0x0, 0x0, 0x0, 0x0, 0x0⟩,
  ⟨0x200020, 0x0, 1, 1, 0x0, 0x0, 0x0, 0x0, 0x0, 0x0⟩,
  ⟨0x200024, 0x0, 1, 1, 0xffff0fff, 0x0, 0x0, 0x0, 0x0, 0x0⟩,
  ⟨0x200028, 0x0, 1, 1, 0x0, 0x0, 0x0, 0x0, 0x0, 0x0⟩,
  ⟨0x20002c, 0x0, 1, 1, 0x0, 0x0, 0x0, 0x0, 0x0, 0x0⟩,
  ⟨0x200030, 0x0, 1, 1, 0x0, 0x0, 0x0, 0x0, 0x0, 0x0⟩,
  ⟨0x200034, 0x0, 1, 1, 0x0, 0x0, 0x0, 0x0, 0x0, 0x0⟩,
  ⟨0x200038, 0x0, 1, 1, 0x0, 0x0, 0x0, 0x0, 0x0, 0x0⟩,
  ⟨0x200040, 0x0, 1, 1, 0x0, 0x3ffc00cf, 0x0, 0x0, 0x0, 0x0⟩,
  ⟨0x200044, 0x0, 1, 1, 0xffff, 0x0, 0x0, 0x0, 0x0, 0x0⟩,
  ⟨0x200048, 0x0, 1, 1, 0x0, 0x0, 0x0, 0x0, 0x0, 0x0⟩,
  ⟨0x200050, 0x0, 1, 1, 0x0, 0x0, 0x0, 0x0, 0x0, 0x0⟩,
  ⟨0x200054, 0x0, 1, 1, 0x0, 0x0, 0x0, 0x0, 0x0, 0x0⟩,
  ⟨0x200058, 0x0, 1, 1, 0x0, 0x0, 0x0, 0x0, 0x0, 0x0⟩,
  ⟨0x20005c, 0x0, 1, 1, 0x0, 0x0, 0x0, 0x0, 0x0, 0x0⟩,
  ⟨0x200060, 0x0, 1, 1, 0x0, 0x0, 0x0, 0x0, 0x0, 0x0⟩,
  ⟨0x200064, 0x0, 1, 1, 0x0, 0x0, 0x0, 0x0, 0x0, 0x0⟩,
  ⟨0x200068, 0x0, 1, 1, 0x0, 0x0, 0x0, 0x0, 0x0, 0x0⟩,
  ⟨0x20006c, 0x0, 1, 1, 0x0, 0x0, 0x0, 0x0, 0x0, 0xffffffff⟩,
  ⟨0x200070, 0x0, 1, 1, 0x0, 0x0, 0x0, 0x0, 0x0, 0xffffffff⟩]

/-- The register rows of MBR. -/
def regRows_MBR_2 : List RegRow := [
  ⟨0x240000, 0x0, 1, 1, 0x0, 0x0, 0x0, 0x0, 0x0, 0x0⟩,
  ⟨0x240004, 0x0, 1, 1, 0x0, 0x0, 0x0, 0x0, 0x0, 0x0⟩,
  ⟨0x240008, 0x0, 1, 1, 0x0, 0x0, 0x7fff, 0x0, 0x0, 0x0⟩,
  ⟨0x24000c, 0x0, 1, 1, 0xffffff00, 0x0, 0x0, 0x0, 0x0, 0x0⟩,
  ⟨0x240010, 0x0, 1, 1, 0x8000ffff, 0x0, 0x0, 0x0, 0x0, 0x0⟩,
  ⟨0x240014, 0x0, 1, 1, 0xff, 0x0, 0x0, 0x0, 0x0, 0x0⟩,
  ⟨0x240018, 0x0, 1, 1, 0x800000ff, 0x0, 0x0, 0x0, 0x0, 0x0⟩,
  ⟨0x24001c, 0x0, 1, 1, 0x3f, 0x0, 0x0, 0x0, 0x0, 0x0⟩,
  ⟨0x240020, 0x0, 1, 1, 0x0, 0x0, 0x0, 0x0, 0x0, 0x0⟩,
  ⟨0x240024, 0x0, 1, 1, 0x0, 0x0, 0x0, 0x0, 0x3fff, 0x0⟩,
  ⟨0x240028, 0x0, 1, 1, 0x0, 0x0, 0x0, 0x0, 0x0, 0x0⟩,
  ⟨0x240030, 0x0, 1, 1, 0x0, 0x0, 0x0, 0x0, 0x0, 0x0⟩,
  ⟨0x240034, 0x0, 1, 1, 0x0, 0x0, 0x0, 0x0, 0x0, 0x0⟩,
  ⟨0x240038, 0x0, 1, 1, 0x0, 0x0, 0x0, 0x0, 0x0, 0x0⟩,
  ⟨0x24003c, 0x0, 1, 1, 0x0, 0x0, 0x0, 0x0, 0x0, 0x0⟩,
  ⟨0x240040, 0x0, 1, 1, 0x0, 0x0, 0x0, 0x0, 0x0, 0x0⟩,
  ⟨0x240044, 0x0, 1, 1, 0x0, 0x0, 0x0, 0x0, 0x0, 0xffffffff⟩,
  ⟨0x240048, 0x0, 1, 1, 0x0, 0x0, 0x0, 0x0, 0x0, 0xffffffff⟩,
  ⟨0x240050, 0x0, 1, 1, 0x0, 0x0, 0x0, 0x0, 0x0, 0x0⟩,
  ⟨0x240054, 0x0, 1, 1, 0x0, 0x0, 0x0, 0x0, 0x0, 0x0⟩,
  ⟨0x240058, 0x0, 1, 1, 0x0, 0x0, 0x0, 0x0, 0x0, 0x0⟩,
  ⟨0x24005c, 0x0, 1, 1, 0x0, 0x0, 0x0, 0x0, 0x0, 0xffffffff⟩,
  ⟨0x240060, 0x0, 1, 1, 0x0, 0x0, 0x0, 0x0, 0x0, 0x0⟩,
  ⟨0x240064, 0x0, 1, 1, 0x0, 0x0, 0x0, 0x0, 0x0, 0x0⟩,
  ⟨0x240068, 0x0, 1, 1, 0x0, 0x0, 0x0, 0x0, 0x0, 0x0⟩,
  ⟨0x240070, 0x0, 1, 1, 0x0, 0x0, 0x0, 0x0, 0x0, 0x0⟩,
  ⟨0x240074, 0x0, 1, 1, 0x0, 0x0, 0x0, 0x0, 0x0, 0x0⟩,
  ⟨0x240078, 0x0, 1, 1, 0x0, 0x0, 0x0, 0x0, 0x0, 0x0⟩,
  ⟨0x24007c, 0x0, 1, 1, 0x0, 0x0, 0x0, 0x0, 0x0, 0x0⟩,
  ⟨0x240080, 0x0, 1, 1, 0x0, 0x0, 0x0, 0x0, 0x0, 0x0⟩,
  ⟨0x240084, 0x0, 1, 1, 0x0, 0x0, 0x0, 0x0, 0x0, 0x0⟩,
  ⟨0x240088, 0x0, 1, 1, 0x0, 0x0, 0x0, 0x0, 0x0, 0x0⟩,
  ⟨0x24008c, 0x0, 1, 1, 0x0, 0x0, 0x0, 0x0, 0x0, 0x0⟩,
  ⟨0x240090, 0x0, 1, 1, 0xffff, 0x0, 0x0, 0x0, 0x0, 0x0⟩,
  ⟨0x240100, 0x0, 1, 8, 0x0, 0x0, 0x0, 0x0, 0x0, 0x0⟩]

/-- The register rows of FAB. -/
def regRows_FAB : List RegRow := [
  ⟨0xc0000, 0x0, 1, 1, 0x0, 0x0, 0x0, 0x0, 0x0, 0x0⟩,
  ⟨0xc0004, 0x0, 1, 1, 0x0, 0x0, 0x1f, 0x0, 0x0, 0x0⟩,
  ⟨0xc0008, 0x0, 1, 1, 0x7ff001f, 0x0, 0x0, 0x0, 0x0, 0x0⟩,
  ⟨0xc000c, 0x0, 1, 1, 0x0, 0x0, 0x0, 0x0, 0x0, 0x0⟩,
  ⟨0xc0010, 0x0, 1, 1, 0xbfffffff, 0x0, 0x0, 0x0, 0x0, 0x0⟩,
  ⟨0xc0020, 0x0, 1, 1, 0x3f, 0x0, 0x0, 0x0, 0x0, 0x0⟩,
  ⟨0xc0024, 0x0, 1, 1, 0xe00003ff, 0x0, 0x0, 0x0, 0x0, 0x0⟩,
  ⟨0xc0028, 0x0, 1, 1, 0xffffffff, 0x0, 0x0, 0x0, 0x0, 0x0⟩,
  ⟨0xc0030, 0x0, 1, 1, 0xffffffff, 0x0, 0x0, 0x0, 0x0, 0x0⟩,
  ⟨0xc0034, 0x0, 1, 1, 0xffffffff, 0x0, 0x0, 0x0, 0x0, 0x0⟩,
  ⟨0xc0038, 0x0, 1, 1, 0xffffffff, 0x0, 0x0, 0x0, 0x0, 0x0⟩,
  ⟨0xc003c, 0x0, 1, 1, 0xffffffff, 0x0, 0x0, 0x0, 0x0, 0x0⟩,
  ⟨0xc0040, 0x0, 1, 1, 0x0, 0x0, 0x0, 0x0, 0x1, 0x0⟩,
  ⟨0xc0044, 0x0, 1, 1, 0x0, 0x0, 0x0, 0x0, 0x0, 0x0⟩,
  ⟨0xc0050, 0x0, 1, 1, 0x0, 0x0, 0x0, 0x0, 0x0, 0xffffffff⟩,
  ⟨0xc0054, 0x0, 1, 1, 0x0, 0x0, 0x0, 0x0, 0x0, 0xffffffff⟩,
  ⟨0xc0058, 0x0, 1, 1, 0x0, 0x0, 0x0, 0x0, 0x0, 0xffffffff⟩,
  ⟨0xc005c, 0x0, 1, 1, 0x0, 0x0, 0x0, 0x0, 0x0, 0xffffffff⟩,
  ⟨0xc0060, 0x0, 1, 1, 0x0, 0x0, 0x0, 0x0, 0x0, 0xffffffff⟩,
  ⟨0xc0064, 0x0, 1, 1, 0x0, 0x0, 0x0, 0x0, 0x0, 0xffffffff⟩,
  ⟨0xc0100, 0x0, 1, 32, 0x0, 0xffffffff, 0x0, 0x0, 0x0, 0x0⟩]

/-- The register rows of FAB_E. -/
def regRows_FAB_E : List RegRow := [
  ⟨0xc1000, 0x400, 7, 1, 0x0, 0xfff30001, 0x0, 0x0, 0x0, 0x0⟩,
  ⟨0xc1004, 0x400, 7, 1, 0x0, 0x0, 0x0, 0x0, 0x0, 0x0⟩,
  ⟨0xc1008, 0x400, 7, 1, 0x3ff00ff, 0x0, 0x0, 0x0, 0x0, 0x0⟩,
  ⟨0xc1010, 0x400, 7, 6, 0x3fffffff, 0x0, 0x0, 0x0, 0x0, 0x0⟩,
  ⟨0xc1028, 0x400, 7, 1, 0xfff, 0x0, 0x0, 0x0, 0x0, 0x0⟩,
  ⟨0xc1030, 0x400, 7, 1, 0x0, 0x0, 0x0, 0x0, 0x0, 0xffffffff⟩,
  ⟨0xc1034, 0x400, 7, 1, 0x0, 0x0, 0x0, 0x0, 0x0, 0xffffffff⟩,
  ⟨0xc1038, 0x400, 7, 1, 0x0, 0x0, 0x0, 0x0, 0x0, 0xffffffff⟩,
  ⟨0xc103c, 0x400, 7, 1, 0x0, 0x0, 0x0, 0x0, 0x0, 0xffffffff⟩,
  ⟨0xc1040, 0x400, 7, 1, 0x0, 0x0, 0x0, 0x0, 0x0, 0x0⟩,
  ⟨0xc1044, 0x400, 7, 1, 0x0, 0x0, 0x0, 0x0, 0x0, 0x0⟩]

/-- The register rows of QPC. -/
def regRows_QPC : List RegRow := [
  ⟨0x100000, 0x0, 1, 1, 0x0, 0x0, 0x0, 0x0, 0x0, 0x0⟩,
  ⟨0x100004, 0x0, 1, 1, 0x0, 0x0, 0x0, 0x0, 0x0, 0x0⟩,
  ⟨0x100008, 0x0, 1, 1, 0x0, 0x0, 0x0, 0x0, 0x0, 0x0⟩,
  ⟨0x10000c, 0x0, 1, 1, 0x0, 0x0, 0x0, 0x0, 0x0, 0x0⟩,
  ⟨0x100010, 0x0, 1, 1, 0x0, 0x0, 0x0, 0x0, 0x0, 0x0⟩,
  ⟨0x100014, 0x0, 1, 1, 0x0, 0x0, 0x0, 0x0, 0x0, 0x0⟩,
  ⟨0x100018, 0x0, 1, 1, 0x0, 0x0, 0x0, 0x0, 0x0, 0xffff⟩,
  ⟨0x100020, 0x0, 1, 1, 0x0, 0x0, 0x0, 0x0, 0x0, 0x0⟩,
  ⟨0x100024, 0x0, 1, 1, 0x0, 0x0, 0x0, 0x0, 0x0, 0x0⟩,
  ⟨0x100028, 0x0, 1, 1, 0x0, 0x0, 0x0, 0x0, 0x0, 0x0⟩,
  ⟨0x10002c, 0x0, 1, 1, 0x0, 0x0, 0x0, 0x0, 0x0, 0x0⟩,
  ⟨0x100030, 0x0, 1, 1, 0x0, 0x0, 0x0, 0x0, 0x0, 0xffffffff⟩,
  ⟨0x100034, 0x0, 1, 1, 0x0, 0x0, 0x0, 0x0, 0x0, 0xffffffff⟩,
  ⟨0x100038, 0x0, 1, 1, 0x0, 0x0, 0x0, 0x0, 0x0, 0x7ffff⟩,
  ⟨0x10003c, 0x0, 1, 1, 0x0, 0x0, 0x7, 0x0, 0x0, 0x0⟩,
  ⟨0x100040, 0x0, 1, 1, 0x3fff, 0x0, 0x0, 0x0, 0x0, 0x0⟩,
  ⟨0x100044, 0x0, 1, 1, 0x0, 0x0, 0x0, 0x0, 0x0, 0x0⟩,
  ⟨0x100048, 0x0, 1, 1, 0x0, 0x0, 0x0, 0x0, 0x0, 0x0⟩]

/-- The register rows of SWC. -/
def regRows_SWC : List RegRow := [
  ⟨0xa0000, 0x0, 1, 1, 0x0, 0x0, 0x0, 0x0, 0x0, 0x0⟩,
  ⟨0xa0004, 0x0, 1, 1, 0x0, 0x0, 0x0, 0x0, 0x0, 0x0⟩,
  ⟨0xa0008, 0x0, 1, 1, 0x0, 0x0, 0x0, 0x0, 0x0, 0x0⟩,
  ⟨0xa000c, 0x0, 1, 1, 0x0, 0x0, 0x0, 0x0, 0x0, 0x0⟩,
  ⟨0xa0010, 0x0, 1, 1, 0x0, 0x0, 0x1f, 0x0, 0x0, 0x0⟩,
  ⟨0xa0014, 0x0, 1, 1, 0x0, 0x0, 0x0, 0x0, 0x0, 0x0⟩,
  ⟨0xa0018, 0x0, 1, 1, 0x0, 0x0, 0x0, 0x0, 0x0, 0x0⟩,
  ⟨0xa001c, 0x0, 1, 1, 0x3ffff, 0x0, 0x0, 0x0, 0x0, 0x0⟩,
  ⟨0xa0020, 0x0, 1, 1, 0x1ffff, 0x0, 0x0, 0x0, 0x0, 0x0⟩,
  ⟨0xa0024, 0x0, 1, 1, 0xffffffff, 0x0, 0x0, 0x0, 0x0, 0x0⟩,
  ⟨0xa0028, 0x0, 1, 1, 0xffffffff, 0x0, 0x0, 0x0, 0x0, 0x0⟩,
  ⟨0xa0030, 0x0, 1, 1, 0x0, 0xbf, 0x0, 0x0, 0x0, 0x0⟩,
  ⟨0xa0034, 0x0, 1, 1, 0x0, 0x0, 0x0, 0x0, 0x0, 0x0⟩,
  ⟨0xa0038, 0x0, 1, 1, 0x0, 0x1f1f1f1f, 0x0, 0x0, 0x0, 0x0⟩,
  ⟨0xa003c, 0x0, 1, 1, 0x0, 0xffffffff, 0x0, 0x0, 0x0, 0x0⟩,
  ⟨0xa0040, 0x0, 1, 1, 0xf0000fff, 0x0, 0x0, 0x0, 0x0, 0x0⟩,
  ⟨0xa0044, 0x0, 1, 4, 0xffffffff, 0x0, 0x0, 0x0, 0x0, 0x0⟩,
  ⟨0xa0054, 0x0, 1, 1, 0x0, 0x0, 0x0, 0x0, 0x1, 0x0⟩,
  ⟨0xa0058, 0x0, 1, 1, 0x0, 0x0, 0x0, 0x0, 0x0, 0x0⟩,
  ⟨0xa0060, 0x0, 1, 1, 0x0, 0x0, 0x0, 0x0, 0x0, 0xffffffff⟩,
  ⟨0xa0064, 0x0, 1, 1, 0x0, 0x0, 0x0, 0x0, 0x0, 0xffffffff⟩,
  ⟨0xa0068, 0x0, 1, 1, 0x0, 0x0, 0x0, 0x0, 0x0, 0xffffffff⟩,
  ⟨0xa006c, 0x0, 1, 1, 0x0, 0x0, 0x0, 0x0, 0x0, 0xffffffff⟩,
  ⟨0xa0070, 0x0, 1, 1, 0x0, 0x0, 0x0, 0x0, 0x0, 0xffffffff⟩,
  ⟨0xa0074, 0x0, 1, 1, 0x0, 0x0, 0x0, 0x0, 0x0, 0xffffffff⟩,
  ⟨0xa0078, 0x0, 1, 1, 0x0, 0x0, 0x0, 0x0, 0x0, 0xffffffff⟩]

/-- The register rows of PTP. -/
def regRows_PTP : List RegRow := [
  ⟨0x60000, 0x0, 1, 1, 0x0, 0xffff7f7f, 0x0, 0x0, 0x0, 0x0⟩,
  ⟨0x60004, 0x0, 1, 1, 0x0, 0x0, 0x0, 0x0, 0x0, 0x0⟩,
  ⟨0x60008, 0x0, 1, 1, 0x0, 0x0, 0x1f, 0x0, 0x0, 0x0⟩,
  ⟨0x60010, 0x0, 1, 1, 0x0, 0x0, 0x0, 0x0, 0x0, 0x0⟩,
  ⟨0x60014, 0x0, 1, 1, 0x0, 0x0, 0x0, 0x0, 0x0, 0x0⟩,
  ⟨0x60018, 0x0, 1, 1, 0x0, 0x0, 0x0, 0x0, 0x0, 0x0⟩,
  ⟨0x60020, 0x0, 1, 1, 0xffffffff, 0x0, 0x0, 0x0, 0x0, 0x0⟩,
  ⟨0x60024, 0x0, 1, 1, 0xffffffff, 0x0, 0x0, 0x0, 0x0, 0x0⟩,
  ⟨0x60028, 0x0, 1, 1, 0x0, 0x0, 0x0, 0x0, 0x1, 0x0⟩,
  ⟨0x6002c, 0x0, 1, 1, 0xffffffff, 0x0, 0x0, 0x0, 0x0, 0x0⟩,
  ⟨0x60030, 0x0, 1, 1, 0x0, 0x0, 0x0, 0x0, 0x0, 0x0⟩,
  ⟨0x60034, 0x0, 1, 1, 0x0, 0x0, 0x0, 0x0, 0x0, 0x0⟩,
  ⟨0x60038, 0x0, 1, 1, 0x0, 0x0, 0x0, 0x0, 0x0, 0x0⟩,
  ⟨0x6003c, 0x0, 1, 1, 0x303ff, 0x0, 0x0, 0x0, 0x0, 0x0⟩,
  ⟨0x60040, 0x0, 1, 1, 0x0, 0x0, 0x0, 0x0, 0x0, 0x0⟩,
  ⟨0x60044, 0x0, 1, 1, 0x0, 0x0, 0x0, 0x0, 0x0, 0x0⟩,
  ⟨0x60048, 0x0, 1, 1, 0x0, 0x0, 0x0, 0x0, 0x0, 0xffffffff⟩]

/-- The register rows of TGS. -/
def regRows_TGS : List RegRow := [
  ⟨0x80000, 0x0, 1, 1, 0x0, 0x0, 0x0, 0x0, 0x0, 0x0⟩,
  ⟨0x80004, 0x0, 1, 1, 0x0, 0x1, 0x0, 0x0, 0x0, 0x0⟩,
  ⟨0x80008, 0x0, 1, 1, 0x0, 0x0, 0x0, 0x0, 0x0, 0x0⟩,
  ⟨0x8000c, 0x0, 1, 1, 0x0, 0x0, 0x1f, 0x0, 0x0, 0x0⟩,
  ⟨0x80010, 0x0, 1, 1, 0x7, 0x0, 0x0, 0x0, 0x0, 0x0⟩,
  ⟨0x80018, 0x0, 1, 1, 0xffffffff, 0x0, 0x0, 0x0, 0x0, 0x0⟩,
  ⟨0x8001c, 0x0, 1, 1, 0xffffffff, 0x0, 0x0, 0x0, 0x0, 0x0⟩,
  ⟨0x80020, 0x0, 1, 1, 0xffffffff, 0x0, 0x0, 0x0, 0x0, 0x0⟩,
  ⟨0x80024, 0x0, 1, 1, 0xffffffff, 0x0, 0x0, 0x0, 0x0, 0x0⟩,
  ⟨0x80028, 0x0, 1, 1, 0x1ff, 0x0, 0x0, 0x0, 0x0, 0x0⟩,
  ⟨0x8002c, 0x0, 1, 1, 0xff, 0x0, 0x0, 0x0, 0x0, 0x0⟩,
  ⟨0x80030, 0x0, 1, 1, 0x1ffff, 0x0, 0x0, 0x0, 0x0, 0x0⟩,
  ⟨0x80034, 0x0, 1, 1, 0xffffffff, 0x0, 0x0, 0x0, 0x0, 0x0⟩,
  ⟨0x80038, 0x0, 1, 1, 0x0, 0x0, 0x0, 0x0, 0x1, 0x0⟩,
  ⟨0x8003c, 0x0, 1, 1, 0x0, 0x0, 0x0, 0x0, 0x0, 0x0⟩,
  ⟨0x80040, 0x0, 1, 1, 0x0, 0x0, 0x0, 0x0, 0x0, 0x0⟩,
  ⟨0x80044, 0x0, 1, 1, 0x0, 0x0, 0x0, 0x0, 0x0, 0x0⟩,
  ⟨0x80048, 0x0, 1, 1, 0x0, 0x0, 0x0, 0x0, 0x0, 0x0⟩,
  ⟨0x8004c, 0x0, 1, 1, 0x0, 0x0, 0x0, 0x0, 0x0, 0x0⟩,
  ⟨0x80050, 0x0, 1, 1, 0x0, 0x0, 0x0, 0x0, 0x0, 0x0⟩,
  ⟨0x80054, 0x0, 1, 1, 0x0, 0x0, 0x0, 0x0, 0x0, 0x0⟩,
  ⟨0x80060, 0x0, 1, 1, 0xffffffff, 0x0, 0x0, 0x0, 0x0, 0x0⟩,
  ⟨0x80064, 0x0, 1, 1, 0xffffffff, 0x0, 0x0, 0x0, 0x0, 0x0⟩,
  ⟨0x80068, 0x0, 1, 1, 0x1003f, 0x0, 0x0, 0x0, 0x0, 0x0⟩,
  ⟨0x8006c, 0x0, 1, 1, 0x1f, 0x0, 0x0, 0x0, 0x0, 0x0⟩,
  ⟨0x80070, 0x0, 1, 1, 0xfffff, 0x0, 0x0, 0x0, 0x0, 0x0⟩,
  ⟨0x80074, 0x0, 1, 1, 0x1f01ff, 0x0, 0x0, 0x0, 0x0, 0x0⟩,
  ⟨0x80078, 0x0, 1, 1, 0x0, 0x0, 0x0, 0x0, 0x0, 0x0⟩,
  ⟨0x8007c, 0x0, 1, 1, 0x0, 0x0, 0x0, 0x0, 0x0, 0x0⟩]

/-- The register rows of TGS_P. -/
def regRows_TGS_P : List RegRow := [
  ⟨0x81000, 0x100, 7, 1, 0xff, 0x0, 0x0, 0x0, 0x0, 0x0⟩,
  ⟨0x81004, 0x100, 7, 1, 0x7f7f7f7f, 0x0, 0x0, 0x0, 0x0, 0x0⟩,
  ⟨0x81008, 0x100, 7, 1, 0x7f7f7f7f, 0x0, 0x0, 0x0, 0x0, 0x0⟩,
  ⟨0x81010, 0x100, 7, 8, 0x8007ffff, 0x0, 0x0, 0x0, 0x0, 0x0⟩,
  ⟨0x81030, 0x100, 7, 8, 0xffffff, 0x0, 0x0, 0x0, 0x0, 0x0⟩,
  ⟨0x81050, 0x100, 7, 8, 0x0, 0x0, 0x0, 0x0, 0x0, 0x0⟩,
  ⟨0x81070, 0x100, 7, 8, 0xc007ffff, 0x0, 0x0, 0x0, 0x0, 0x0⟩,
  ⟨0x81090, 0x100, 7, 8, 0xffffff, 0x0, 0x0, 0x0, 0x0, 0x0⟩,
  ⟨0x810b0, 0x100, 7, 1, 0x0, 0x0, 0x0, 0x0, 0x0, 0xffffffff⟩,
  ⟨0x810b4, 0x100, 7, 1, 0x0, 0x0, 0x0, 0x0, 0x0, 0xffffffff⟩]

/-- The register rows of DMA. -/
def regRows_DMA : List RegRow := [
  ⟨0x340000, 0x0, 1, 1, 0x0, 0x0, 0x0, 0x0, 0x0, 0x0⟩,
  ⟨0x340004, 0x0, 1, 1, 0x0, 0x0, 0x0, 0x0, 0x0, 0x0⟩,
  ⟨0x340008, 0x0, 1, 1, 0x0, 0x0, 0x0, 0x0, 0x0, 0x0⟩,
  ⟨0x34000c, 0x0, 1, 1, 0x0, 0x0, 0x7, 0x0, 0x0, 0x0⟩,
  ⟨0x340010, 0x0, 1, 1, 0x0, 0x0, 0x0, 0x0, 0x0, 0x0⟩,
  ⟨0x340014, 0x0, 1, 1, 0x0, 0x0, 0x0, 0x0, 0x0, 0x0⟩,
  ⟨0x340018, 0x0, 1, 1, 0x0, 0x0, 0x0, 0x0, 0x0, 0x0⟩,
  ⟨0x34001c, 0x0, 1, 1, 0x0, 0x0, 0x0, 0x0, 0x0, 0x0⟩]

/-- The register rows of DMA_C. -/
def regRows_DMA_C : List RegRow := [
  ⟨0x341000, 0x100, 32, 1, 0x0, 0x0, 0x0, 0x0, 0x3, 0x0⟩,
  ⟨0x341004, 0x100, 32, 1, 0x107, 0x0, 0x0, 0x0, 0x0, 0x0⟩,
  ⟨0x341008, 0x100, 32, 1, 0xffffffff, 0x0, 0x0, 0x0, 0x0, 0x0⟩,
  ⟨0x34100c, 0x100, 32, 1, 0xffffffff, 0x0, 0x0, 0x0, 0x0, 0x0⟩,
  ⟨0x341010, 0x100, 32, 1, 0x0, 0x0, 0x0, 0x0, 0xffffffff, 0x0⟩,
  ⟨0x341014, 0x100, 32, 1, 0x0, 0x0, 0x0, 0x0, 0x0, 0x0⟩,
  ⟨0x341018, 0x100, 32, 1, 0x0, 0x0, 0x0, 0x0, 0x0, 0x0⟩,
  ⟨0x341020, 0x100, 32, 1, 0x0, 0x0, 0x0, 0x0, 0x0, 0x0⟩,
  ⟨0x341024, 0x100, 32, 1, 0x0, 0x0, 0x0, 0x0, 0x0, 0x0⟩,
  ⟨0x341028, 0x100, 32, 1, 0x0, 0x0, 0x7, 0x0, 0x0, 0x0⟩,
  ⟨0x34102c, 0x100, 32, 1, 0x0, 0x0, 0x0, 0x0, 0x0, 0xffffffff⟩,
  ⟨0x341030, 0x100, 32, 1, 0x0, 0x0, 0x0, 0x0, 0x0, 0x0⟩]

/-- The register rows of AES. -/
def regRows_AES : List RegRow := [
  ⟨0x380000, 0x0, 1, 1, 0x0, 0x0, 0x0, 0x0, 0x0, 0x0⟩,
  ⟨0x380004, 0x0, 1, 1, 0x7, 0x0, 0x0, 0x0, 0x0, 0x0⟩,
  ⟨0x380008, 0x0, 1, 1, 0x0, 0x0, 0x0, 0x0, 0x0, 0x0⟩,
  ⟨0x38000c, 0x0, 1, 1, 0x0, 0x0, 0x7, 0x0, 0x0, 0x0⟩,
  ⟨0x380010, 0x0, 1, 1, 0x0, 0x0, 0x0, 0x0, 0x0, 0x0⟩,
  ⟨0x380014, 0x0, 1, 1, 0x0, 0x0, 0x0, 0x0, 0x0, 0xffffffff⟩,
  ⟨0x380020, 0x0, 1, 1, 0x0, 0x0, 0x0, 0x0, 0x0, 0x0⟩,
  ⟨0x380024, 0x0, 1, 1, 0x0, 0x0, 0x0, 0x0, 0x0, 0x0⟩,
  ⟨0x380028, 0x0, 1, 1, 0x0, 0x0, 0x0, 0x0, 0x0, 0x0⟩,
  ⟨0x38002c, 0x0, 1, 1, 0x0, 0x0, 0x0, 0x0, 0x0, 0x0⟩]

/-- The register rows of KEY. -/
def regRows_KEY : List RegRow := [
  ⟨0x3c0000, 0x0, 1, 1, 0x0, 0x0, 0x0, 0x0, 0x0, 0x0⟩,
  ⟨0x3c0004, 0x0, 1, 1, 0x0, 0x0, 0x0, 0x0, 0x0, 0x0⟩,
  ⟨0x3c0008, 0x0, 1, 1, 0x0, 0x0, 0xf, 0x0, 0x0, 0x0⟩,
  ⟨0x3c000c, 0x0, 1, 1, 0xffff7fff, 0x0, 0x0, 0x0, 0x0, 0x0⟩,
  ⟨0x3c0010, 0x0, 1, 1, 0x0, 0x0, 0x0, 0x0, 0x1, 0x0⟩,
  ⟨0x3c0014, 0x0, 1, 1, 0x0, 0x0, 0x0, 0x0, 0x0, 0x0⟩,
  ⟨0x3c0018, 0x0, 1, 1, 0x0, 0x0, 0x0, 0x0, 0x80000fff, 0x0⟩,
  ⟨0x3c001c, 0x0, 1, 1, 0xfff, 0x0, 0x0, 0x0, 0x0, 0x0⟩,
  ⟨0x3c0020, 0x0, 1, 1, 0x0, 0x0, 0x0, 0x0, 0x0, 0x0⟩,
  ⟨0x3c0040, 0x0, 1, 18, 0x0, 0x0, 0x0, 0x0, 0xffffffff, 0x0⟩,
  ⟨0x3c0100, 0x0, 1, 24, 0x0, 0x0, 0x0, 0x0, 0xffffffff, 0x0⟩]

/-- The register rows of DRP. -/
def regRows_DRP : List RegRow := [
  ⟨0x2b0000, 0x0, 1, 1, 0x0, 0x0, 0x0, 0x0, 0x0, 0x0⟩,
  ⟨0x2b0004, 0x0, 1, 1, 0x0, 0x1, 0x0, 0x0, 0x0, 0x0⟩,
  ⟨0x2b0008, 0x0, 1, 1, 0x3ff, 0x0, 0x0, 0x0, 0x0, 0x0⟩,
  ⟨0x2b000c, 0x0, 1, 1, 0x0, 0x0, 0x1f, 0x0, 0x0, 0x0⟩,
  ⟨0x2b0010, 0x0, 1, 1, 0x7f00ff01, 0x0, 0x0, 0x0, 0x0, 0x0⟩,
  ⟨0x2b0014, 0x0, 1, 1, 0x0, 0x0, 0x0, 0x0, 0x0, 0x0⟩,
  ⟨0x2b0018, 0x0, 1, 1, 0x0, 0x0, 0x0, 0x0, 0x0, 0x0⟩,
  ⟨0x2b001c, 0x0, 1, 1, 0x0, 0x0, 0x0, 0x0, 0x0, 0x0⟩,
  ⟨0x2b0020, 0x0, 1, 1, 0x0, 0x0, 0x0, 0x0, 0x0, 0x0⟩,
  ⟨0x2b0024, 0x0, 1, 1, 0x0, 0x0, 0x0, 0x0, 0x0, 0x0⟩,
  ⟨0x2b0028, 0x0, 1, 1, 0x0, 0x0, 0x0, 0x0, 0x0, 0x0⟩]

/-- The register rows of DRP_P. -/
def regRows_DRP_P : List RegRow := [
  ⟨0x280000, 0x1000, 48, 1, 0x1, 0x0, 0x0, 0x0, 0x0, 0x0⟩,
  ⟨0x280004, 0x1000, 48, 1, 0x0, 0x0, 0x0, 0x0, 0x0, 0x0⟩,
  ⟨0x280008, 0x1000, 48, 1, 0x0, 0x0, 0x0, 0x0, 0x0, 0x0⟩,
  ⟨0x28000c, 0x1000, 48, 1, 0xfc0, 0x0, 0x0, 0x0, 0x1, 0x0⟩,
  ⟨0x280010, 0x1000, 48, 1, 0x0, 0x0, 0xf8, 0x0, 0x0, 0x0⟩,
  ⟨0x280014, 0x1000, 48, 1, 0x0, 0x0, 0x0, 0x0, 0x0, 0x0⟩,
  ⟨0x280018, 0x1000, 48, 1, 0x0, 0x0, 0x0, 0x0, 0x0, 0xffffffff⟩,
  ⟨0x28001c, 0x1000, 48, 1, 0x0, 0x0, 0x0, 0x0, 0x0, 0xffffffff⟩,
  ⟨0x280020, 0x1000, 48, 1, 0x0, 0x0, 0x0, 0x0, 0x0, 0xffffffff⟩,
  ⟨0x280024, 0x1000, 48, 1, 0x0, 0x0, 0x0, 0x0, 0x0, 0x0⟩,
  ⟨0x280028, 0x1000, 48, 1, 0x0, 0x0, 0x0, 0x0, 0x0, 0xffffffff⟩,
  ⟨0x28002c, 0x1000, 48, 1, 0xffc, 0x0, 0x0, 0x0, 0x0, 0x0⟩,
  ⟨0x280030, 0x1000, 48, 1, 0xffffffff, 0x0, 0x0, 0x0, 0x0, 0x0⟩,
  ⟨0x280034, 0x1000, 48, 1, 0x0, 0x0, 0x0, 0x0, 0x3, 0x0⟩,
  ⟨0x280038, 0x1000, 48, 1, 0x0, 0x0, 0x0, 0x0, 0x0, 0x0⟩]

/-- The register rows of SLP. -/
def regRows_SLP : List RegRow := [
  ⟨0x300000, 0x0, 1, 1, 0x0, 0x0, 0x0, 0x0, 0x0, 0x0⟩,
  ⟨0x300004, 0x0, 1, 1, 0x3f, 0x0, 0x0, 0x0, 0x0, 0x0⟩,
  ⟨0x300008, 0x0, 1, 1, 0x0, 0x0, 0x0, 0x0, 0x0, 0x0⟩,
  ⟨0x30000c, 0x0, 1, 1, 0x0, 0x0, 0x3f, 0x0, 0x0, 0x0⟩,
  ⟨0x300010, 0x0, 1, 1, 0x0, 0x0, 0x0, 0x0, 0x3, 0x0⟩,
  ⟨0x300014, 0x0, 1, 1, 0xff, 0x0, 0x0, 0x0, 0x0, 0x0⟩,
  ⟨0x300018, 0x0, 1, 1, 0x0, 0x0, 0x0, 0x0, 0x0, 0x0⟩,
  ⟨0x30001c, 0x0, 1, 1, 0x0, 0x0, 0x0, 0x0, 0x0, 0x0⟩,
  ⟨0x300020, 0x0, 1, 1, 0x0, 0x0, 0x0, 0x0, 0x0, 0x0⟩,
  ⟨0x300024, 0x0, 1, 1, 0x0, 0x0, 0x0, 0x0, 0x0, 0x0⟩,
  ⟨0x300100, 0x0, 1, 1, 0xff3fff03, 0x0, 0x0, 0x0, 0x0, 0x0⟩,
  ⟨0x300104, 0x0, 1, 1, 0xffff, 0x0, 0x0, 0x0, 0x0, 0x0⟩,
  ⟨0x300108, 0x0, 1, 1, 0x0, 0x0, 0x0, 0x0, 0x0, 0x0⟩,
  ⟨0x30010c, 0x0, 1, 1, 0x0, 0x0, 0x0, 0x0, 0x0, 0x0⟩,
  ⟨0x300110, 0x0, 1, 1, 0x0, 0x0, 0x0, 0x0, 0x0, 0xffffffff⟩]

/-- The register rows of SLP_C. -/
def regRows_SLP_C : List RegRow := [
  ⟨0x301000, 0x40, 48, 1, 0x1, 0x0, 0x0, 0x0, 0x2, 0x0⟩,
  ⟨0x301004, 0x40, 48, 1, 0x1ffff, 0x0, 0x0, 0x0, 0x0, 0x0⟩,
  ⟨0x301008, 0x40, 48, 1, 0x3ffffff, 0x0, 0x0, 0x0, 0x0, 0x0⟩,
  ⟨0x30100c, 0x40, 48, 1, 0xff03ff, 0x0, 0x0, 0x0, 0x0, 0x0⟩,
  ⟨0x301010, 0x40, 48, 1, 0x0, 0x3fff, 0x0, 0x0, 0x0, 0x0⟩,
  ⟨0x301014, 0x40, 48, 1, 0x0, 0xffffffff, 0x0, 0x0, 0x0, 0x0⟩,
  ⟨0x301018, 0x40, 48, 1, 0x0, 0xffffffff, 0x0, 0x0, 0x0, 0x0⟩,
  ⟨0x30101c, 0x40, 48, 1, 0x0, 0x0, 0x0, 0x0, 0x0, 0x0⟩,
  ⟨0x301020, 0x40, 48, 1, 0x0, 0x0, 0x0, 0x0, 0x0, 0x0⟩,
  ⟨0x301024, 0x40, 48, 1, 0x0, 0x0, 0x0, 0x0, 0x0, 0x0⟩,
  ⟨0x301028, 0x40, 48, 1, 0x0, 0x0, 0x1ff, 0x0, 0x0, 0x0⟩,
  ⟨0x30102c, 0x40, 48, 1, 0x0, 0x0, 0x0, 0x0, 0x0, 0xffffffff⟩,
  ⟨0x301030, 0x40, 48, 1, 0x0, 0x0, 0x0, 0x0, 0x0, 0x0⟩]

/-- The register rows of EPF. -/
def regRows_EPF : List RegRow := [
  ⟨0x400000, 0x0, 1, 1, 0x0, 0x0, 0x0, 0x0, 0x0, 0x0⟩,
  ⟨0x400004, 0x0, 1, 1, 0x0, 0x0, 0x0, 0x0, 0x0, 0x0⟩,
  ⟨0x400008, 0x0, 1, 1, 0x1, 0x0, 0x0, 0x0, 0x0, 0x0⟩,
  ⟨0x40000c, 0x0, 1, 1, 0x0, 0x0, 0x0, 0x0, 0x0, 0x0⟩,
  ⟨0x400010, 0x0, 1, 1, 0x0, 0x0, 0x3f, 0x0, 0x0, 0x0⟩,
  ⟨0x400014, 0x0, 1, 1, 0x0, 0x3f, 0x0, 0x0, 0x0, 0x0⟩,
  ⟨0x400018, 0x0, 1, 1, 0x0, 0xffffffff, 0x0, 0x0, 0x0, 0x0⟩,
  ⟨0x40001c, 0x0, 1, 1, 0x0, 0xffffffff, 0x0, 0x0, 0x0, 0x0⟩,
  ⟨0x400020, 0x0, 1, 1, 0xff03, 0x0, 0x0, 0x0, 0x0, 0x0⟩,
  ⟨0x400024, 0x0, 1, 1, 0x0, 0x0, 0x0, 0x0, 0x0, 0xffffffff⟩,
  ⟨0x400028, 0x0, 1, 1, 0x0, 0x0, 0x0, 0x0, 0x0, 0xffffffff⟩,
  ⟨0x40002c, 0x0, 1, 1, 0x0, 0x1037f, 0x0, 0x0, 0x0, 0x0⟩]

/-- The register rows of FLT. -/
def regRows_FLT : List RegRow := [
  ⟨0x30000, 0x0, 1, 1, 0x0, 0xff07, 0x0, 0x0, 0x0, 0x0⟩,
  ⟨0x30004, 0x0, 1, 1, 0x0, 0x0, 0x0, 0x0, 0x0, 0x0⟩,
  ⟨0x30008, 0x0, 1, 1, 0x0, 0x0, 0x0, 0x0, 0x0, 0x0⟩,
  ⟨0x30010, 0x0, 1, 1, 0x0, 0x0, 0x0, 0x0, 0x0, 0x0⟩,
  ⟨0x30014, 0x0, 1, 1, 0x0, 0x0, 0x0, 0x0, 0x0, 0x0⟩,
  ⟨0x30018, 0x0, 1, 1, 0x0, 0x0, 0x0, 0x0, 0x0, 0x0⟩,
  ⟨0x3001c, 0x0, 1, 1, 0x0, 0x0, 0x0, 0x0, 0x1, 0x0⟩,
  ⟨0x30020, 0x0, 1, 1, 0xff01, 0x0, 0x0, 0x0, 0x10000, 0x0⟩,
  ⟨0x30024, 0x0, 1, 1, 0x0, 0x0, 0x0, 0x0, 0x1, 0x0⟩,
  ⟨0x30028, 0x0, 1, 1, 0x0, 0x0, 0x0, 0x0, 0x0, 0x0⟩,
  ⟨0x30100, 0x0, 1, 48, 0x0, 0x0, 0xffffffff, 0x0, 0x0, 0x0⟩]

/-- The register rows of EVC. -/
def regRows_EVC : List RegRow := [
  ⟨0x38000, 0x0, 1, 1, 0x0, 0x0, 0x0, 0x0, 0x0, 0x0⟩,
  ⟨0x38004, 0x0, 1, 1, 0x7ff, 0x0, 0x0, 0x0, 0x0, 0x0⟩,
  ⟨0x38008, 0x0, 1, 1, 0x0, 0x0, 0x0, 0x0, 0x0, 0x0⟩,
  ⟨0x3800c, 0x0, 1, 1, 0xf70007ff, 0x0, 0x0, 0x0, 0x0, 0x0⟩,
  ⟨0x38010, 0x0, 1, 1, 0x0, 0x0, 0x0, 0x0, 0x0, 0x0⟩,
  ⟨0x38014, 0x0, 1, 1, 0x0, 0x0, 0x0, 0x0, 0x0, 0x0⟩,
  ⟨0x38100, 0x0, 1, 48, 0x0, 0x0, 0xffffffff, 0x0, 0x0, 0x0⟩]

/-- The register rows of EVR. -/
def regRows_EVR : List RegRow := [
  ⟨0x40000, 0x0, 1, 1, 0x0, 0x0, 0x0, 0x0, 0x0, 0x0⟩,
  ⟨0x40004, 0x0, 1, 1, 0xff01, 0x0, 0x0, 0x0, 0x0, 0x0⟩,
  ⟨0x40008, 0x0, 1, 1, 0x0, 0x0, 0x0, 0x0, 0x0, 0x0⟩,
  ⟨0x4000c, 0x0, 1, 1, 0x0, 0x0, 0x0, 0x0, 0x0, 0x0⟩,
  ⟨0x40010, 0x0, 1, 1, 0x0, 0x0, 0x0, 0x0, 0x0, 0xffffffff⟩,
  ⟨0x40014, 0x0, 1, 1, 0x0, 0x0, 0x0, 0x0, 0x1, 0x0⟩,
  ⟨0x40018, 0x0, 1, 1, 0xffff, 0x0, 0x0, 0x0, 0x0, 0x0⟩,
  ⟨0x40020, 0x0, 1, 8, 0x0, 0x0, 0x0, 0x0, 0x0, 0x0⟩,
  ⟨0x40040, 0x0, 1, 3, 0xffffffff, 0x0, 0x0, 0x0, 0x0, 0x0⟩,
  ⟨0x4004c, 0x0, 1, 1, 0x0, 0x0, 0x0, 0x0, 0xff, 0x0⟩]

/-- The register rows of PMC. -/
def regRows_PMC : List RegRow := [
  ⟨0x50000, 0x0, 1, 1, 0x0, 0x0, 0x0, 0x0, 0x0, 0x0⟩,
  ⟨0x50004, 0x0, 1, 1, 0x1, 0x0, 0x0, 0x0, 0x0, 0x0⟩,
  ⟨0x50008, 0x0, 1, 1, 0x0, 0x0, 0x7, 0x0, 0x0, 0x0⟩,
  ⟨0x5000c, 0x0, 1, 1, 0xff, 0x0, 0x0, 0x0, 0x0, 0x0⟩,
  ⟨0x50010, 0x0, 1, 1, 0x87ff00ff, 0x0, 0x0, 0x0, 0x0, 0x0⟩,
  ⟨0x50014, 0x0, 1, 1, 0x703ff, 0x0, 0x0, 0x0, 0x0, 0x0⟩,
  ⟨0x50018, 0x0, 1, 1, 0x307ff, 0x0, 0x0, 0x0, 0x0, 0x0⟩,
  ⟨0x50020, 0x0, 1, 1, 0xffffffff, 0x0, 0x0, 0x0, 0x0, 0x0⟩,
  ⟨0x50024, 0x0, 1, 1, 0xffffffff, 0x0, 0x0, 0x0, 0x0, 0x0⟩,
  ⟨0x50028, 0x0, 1, 1, 0xffffffff, 0x0, 0x0, 0x0, 0x0, 0x0⟩,
  ⟨0x5002c, 0x0, 1, 1, 0xffffffff, 0x0, 0x0, 0x0, 0x0, 0x0⟩,
  ⟨0x50030, 0x0, 1, 1, 0x0, 0x0, 0x0, 0x0, 0x0, 0x0⟩,
  ⟨0x50034, 0x0, 1, 1, 0x0, 0x0, 0x0, 0x0, 0x0, 0x0⟩,
  ⟨0x50038, 0x0, 1, 1, 0x0, 0x0, 0x0, 0x0, 0x0, 0x0⟩,
  ⟨0x5003c, 0x0, 1, 1, 0x0, 0x0, 0x0, 0x0, 0x3, 0x0⟩,
  ⟨0x50040, 0x0, 1, 1, 0x0, 0x0, 0x0, 0x0, 0x0, 0x0⟩,
  ⟨0x50044, 0x0, 1, 8, 0x0, 0x0, 0x0, 0x0, 0x0, 0x0⟩,
  ⟨0x50080, 0x0, 1, 1, 0xc00000ff, 0x0, 0x0, 0x0, 0x0, 0x0⟩,
  ⟨0x50084, 0x0, 1, 1, 0xffffff, 0x0, 0x0, 0x0, 0x0, 0x0⟩,
  ⟨0x50088, 0x0, 1, 1, 0x0, 0x0, 0x0, 0x0, 0x0, 0x0⟩,
  ⟨0x5008c, 0x0, 1, 1, 0x0, 0x0, 0x0, 0x0, 0x0, 0x0⟩,
  ⟨0x50090, 0x0, 1, 1, 0x0, 0x0, 0x0, 0x0, 0x0, 0x0⟩,
  ⟨0x50094, 0x0, 1, 1, 0x0, 0x0, 0x0, 0x0, 0x0, 0x0⟩,
  ⟨0x50098, 0x0, 1, 1, 0xffffff, 0x0, 0x0, 0x0, 0x0, 0x0⟩,
  ⟨0x5009c, 0x0, 1, 1, 0x0, 0x0, 0x0, 0x0, 0x0, 0xffffffff⟩,
  ⟨0x500a0, 0x0, 1, 1, 0x0, 0x0, 0x0, 0x0, 0x0, 0x0⟩,
  ⟨0x500a4, 0x0, 1, 1, 0x0, 0x0, 0x0, 0x0, 0x0, 0x0⟩,
  ⟨0x500c0, 0x0, 1, 1, 0x3fff, 0x0, 0x0, 0x0, 0x0, 0x0⟩,
  ⟨0x500c4, 0x0, 1, 1, 0x0, 0x0, 0x0, 0x0, 0x0, 0x0⟩,
  ⟨0x500c8, 0x0, 1, 1, 0x3f, 0x0, 0x0, 0x0, 0x0, 0x0⟩,
  ⟨0x500cc, 0x0, 1, 1, 0x0, 0x0, 0x0, 0x0, 0x0, 0x0⟩,
  ⟨0x500d0, 0x0, 1, 1, 0x0, 0x0, 0x0, 0x0, 0x0, 0x0⟩]

/-- The register rows of TOP. -/
def regRows_TOP : List RegRow := [
  ⟨0x0, 0x0, 1, 1, 0x0, 0x0, 0x0, 0x0, 0x0, 0x0⟩,
  ⟨0x4, 0x0, 1, 1, 0x0, 0x0, 0x0, 0x0, 0x0, 0x0⟩,
  ⟨0x8, 0x0, 1, 1, 0x0, 0x0, 0xf, 0x0, 0x0, 0x0⟩,
  ⟨0xc, 0x0, 1, 1, 0x0, 0x0, 0xff00, 0x0, 0x0, 0x0⟩,
  ⟨0x10, 0x0, 1, 1, 0x0, 0x0, 0x0, 0x0, 0x0, 0x0⟩,
  ⟨0x14, 0x0, 1, 1, 0x0, 0x0, 0x0, 0x0, 0x0, 0x0⟩,
  ⟨0x18, 0x0, 1, 1, 0x0, 0x0, 0x0, 0x0, 0x1, 0x0⟩,
  ⟨0x1c, 0x0, 1, 1, 0x0, 0x0, 0x0, 0x0, 0xf, 0x0⟩,
  ⟨0x20, 0x0, 1, 1, 0x0, 0x0, 0x0, 0x0, 0x0, 0x0⟩]

/-- The register rows of CFG. -/
def regRows_CFG : List RegRow := [
  ⟨0x20000, 0x0, 1, 1, 0x0, 0x0, 0x0, 0x0, 0x0, 0x0⟩,
  ⟨0x20004, 0x0, 1, 1, 0x0, 0x0, 0x0, 0x0, 0x0, 0x0⟩,
  ⟨0x20008, 0x0, 1, 1, 0x0, 0x0, 0x0, 0x0, 0x0, 0x0⟩,
  ⟨0x20010, 0x0, 1, 1, 0x0, 0x0, 0x0, 0x0, 0x0, 0x0⟩,
  ⟨0x20014, 0x0, 1, 1, 0x0, 0x0, 0x0, 0x0, 0x0, 0x0⟩,
  ⟨0x20018, 0x0, 1, 1, 0x0, 0x0, 0x0, 0x0, 0x0, 0x0⟩,
  ⟨0x2001c, 0x0, 1, 1, 0x0, 0x0, 0x0, 0x0, 0x0, 0x0⟩,
  ⟨0x20020, 0x0, 1, 1, 0xf, 0x0, 0x0, 0x0, 0x0, 0x0⟩,
  ⟨0x20040, 0x0, 1, 12, 0x0, 0x0, 0x0, 0x0, 0x0, 0x0⟩,
  ⟨0x20080, 0x0, 1, 12, 0xffffffff, 0x0, 0x0, 0x0, 0x0, 0x0⟩,
  ⟨0x200b0, 0x0, 1, 1, 0xffffffff, 0x0, 0x0, 0x0, 0x0, 0x0⟩,
  ⟨0x200b4, 0x0, 1, 1, 0xffffffff, 0x0, 0x0, 0x0, 0x0, 0x0⟩,
  ⟨0x200b8, 0x0, 1, 1, 0x1ffffff, 0x0, 0x0, 0x0, 0x0, 0x0⟩,
  ⟨0x200bc, 0x0, 1, 1, 0x0, 0x0, 0x0, 0x0, 0xff, 0x0⟩,
  ⟨0x200c0, 0x0, 1, 1, 0x0, 0x0, 0x0, 0x0, 0x0, 0x0⟩,
  ⟨0x200c4, 0x0, 1, 1, 0x0, 0x0, 0x0, 0x0, 0x0, 0x0⟩]

/-- The register rows of TOP. -/
def regRows_TOP_2 : List RegRow := [
  ⟨0x24, 0x0, 1, 1, 0x0, 0x0, 0x0, 0x0, 0x0, 0x0⟩,
  ⟨0x28, 0x0, 1, 1, 0x0, 0x0, 0x80000000, 0x0, 0x0, 0x0⟩]

/-- The register rows of DDC. -/
def regRows_DDC : List RegRow := [
  ⟨0x440000, 0x0, 1, 1, 0x0, 0x0, 0x0, 0x0, 0x0, 0x0⟩,
  ⟨0x440004, 0x0, 1, 1, 0x0, 0x0, 0x0, 0x0, 0x0, 0x0⟩,
  ⟨0x440008, 0x0, 1, 1, 0x0, 0x0, 0xf, 0x0, 0x0, 0x0⟩,
  ⟨0x44000c, 0x0, 1, 1, 0x0, 0x0, 0x0, 0x0, 0x0, 0x0⟩,
  ⟨0x440010, 0x0, 1, 1, 0x0, 0x0, 0x0, 0x0, 0x0, 0xffffffff⟩,
  ⟨0x440014, 0x0, 1, 1, 0x0, 0x0, 0x0, 0x0, 0x0, 0xffffffff⟩]

/-- The register rows of DDC_C. -/
def regRows_DDC_C : List RegRow := [
  ⟨0x441000, 0x1000, 2, 1, 0x0, 0x173, 0x0, 0x0, 0x0, 0x0⟩,
  ⟨0x441004, 0x1000, 2, 1, 0x0, 0x0, 0x0, 0x0, 0x0, 0x0⟩,
  ⟨0x441008, 0x1000, 2, 1, 0x0, 0x0, 0xffffffff, 0x0, 0x0, 0x0⟩,
  ⟨0x441010, 0x1000, 2, 16, 0x0, 0xffffffff, 0x0, 0x0, 0x0, 0x0⟩,
  ⟨0x441050, 0x1000, 2, 1, 0x0, 0x0, 0x0, 0x0, 0x0, 0xffffffff⟩,
  ⟨0x441054, 0x1000, 2, 1, 0x0, 0x0, 0x0, 0x0, 0x0, 0xffffffff⟩,
  ⟨0x441058, 0x1000, 2, 1, 0x0, 0x0, 0x0, 0x0, 0x0, 0x0⟩,
  ⟨0x44105c, 0x1000, 2, 1, 0x0, 0x0, 0x0, 0x0, 0x0, 0x0⟩,
  ⟨0x441060, 0x1000, 2, 1, 0x0, 0x0, 0x0, 0x0, 0x0, 0x0⟩,
  ⟨0x441064, 0x1000, 2, 1, 0xff, 0x0, 0x0, 0x0, 0x0, 0x0⟩,
  ⟨0x441068, 0x1000, 2, 1, 0x0, 0x0, 0x0, 0x0, 0x0, 0x0⟩,
  ⟨0x44106c, 0x1000, 2, 1, 0x0, 0x0, 0x0, 0x0, 0x0, 0x0⟩,
  ⟨0x441070, 0x1000, 2, 1, 0x0, 0x0, 0x0, 0x0, 0x0, 0x0⟩,
  ⟨0x441074, 0x1000, 2, 1, 0x0, 0x0, 0x0, 0x0, 0x0, 0x0⟩,
  ⟨0x441100, 0x1000, 2, 72, 0x0, 0x0, 0x0, 0x0, 0x0, 0x0⟩,
  ⟨0x441300, 0x1000, 2, 72, 0x0, 0x0, 0x0, 0x0, 0x0, 0x0⟩,
  ⟨0x441500, 0x1000, 2, 9, 0x0, 0x0, 0x0, 0x0, 0x0, 0x0⟩,
  ⟨0x441540, 0x1000, 2, 9, 0x0, 0x0, 0x0, 0x0, 0x0, 0x0⟩]

/-- The register rows of SIO. -/
def regRows_SIO : List RegRow := [
  ⟨0x480000, 0x0, 1, 1, 0x0, 0x0, 0x0, 0x0, 0x0, 0x0⟩,
  ⟨0x480004, 0x0, 1, 1, 0x0, 0x0, 0x0, 0x0, 0x0, 0x0⟩,
  ⟨0x480008, 0x0, 1, 1, 0x0, 0x0, 0xf, 0x0, 0x0, 0x0⟩,
  ⟨0x480100, 0x0, 1, 1, 0x0, 0x0, 0x0, 0x0, 0x0, 0x0⟩,
  ⟨0x480104, 0x0, 1, 1, 0x0, 0x0, 0x0, 0x0, 0x0, 0x0⟩,
  ⟨0x480108, 0x0, 1, 1, 0x0, 0x0, 0x0, 0x0, 0x0, 0x0⟩,
  ⟨0x48010c, 0x0, 1, 1, 0x0, 0x0, 0x0, 0x0, 0x0, 0xffffffff⟩,
  ⟨0x480200, 0x0, 1, 1, 0x0, 0x3, 0x0, 0x0, 0x0, 0x0⟩,
  ⟨0x480204, 0x0, 1, 1, 0x0, 0x0, 0x0, 0x0, 0x0, 0x0⟩]

/-- The register rows of SIO_M. -/
def regRows_SIO_M : List RegRow := [
  ⟨0x481000, 0x100, 4, 1, 0xf03ffff, 0x0, 0x0, 0x0, 0x0, 0x0⟩,
  ⟨0x481004, 0x100, 4, 1, 0x0, 0x0, 0x0, 0x0, 0x1, 0x0⟩,
  ⟨0x481008, 0x100, 4, 1, 0x0, 0x0, 0x0, 0x0, 0x0, 0x0⟩,
  ⟨0x48100c, 0x100, 4, 1, 0x0, 0x0, 0x3, 0x0, 0x0, 0x0⟩,
  ⟨0x481010, 0x100, 4, 1, 0x0, 0x0, 0x0, 0x0, 0x0, 0xffffffff⟩,
  ⟨0x481020, 0x100, 4, 4, 0xffffffff, 0x0, 0x0, 0x0, 0x0, 0x0⟩,
  ⟨0x481030, 0x100, 4, 4, 0x0, 0x0, 0x0, 0x0, 0x0, 0x0⟩]

/-- The register rows of SIO_G. -/
def regRows_SIO_G : List RegRow := [
  ⟨0x482000, 0x100, 4, 1, 0x0, 0x0, 0x0, 0x0, 0x0, 0x0⟩,
  ⟨0x482004, 0x100, 4, 1, 0x0, 0x0, 0x0, 0x0, 0x0, 0x0⟩,
  ⟨0x482008, 0x100, 4, 1, 0x0, 0x0, 0x0, 0x0, 0x0, 0x0⟩]

/-- Every register of the part (3,382 of them, R386). -/
def regRows : List RegRow :=
  regRows_CLK ++ regRows_ZMP ++ regRows_NVQ ++ regRows_STR ++ regRows_BRL ++ regRows_MBR ++ regRows_GNT ++ regRows_MBR_2 ++ regRows_FAB ++ regRows_FAB_E ++ regRows_QPC ++ regRows_SWC ++ regRows_PTP ++ regRows_TGS ++ regRows_TGS_P ++ regRows_DMA ++ regRows_DMA_C ++ regRows_AES ++ regRows_KEY ++ regRows_DRP ++ regRows_DRP_P ++ regRows_SLP ++ regRows_SLP_C ++ regRows_EPF ++ regRows_FLT ++ regRows_EVC ++ regRows_EVR ++ regRows_PMC ++ regRows_TOP ++ regRows_CFG ++ regRows_TOP_2 ++ regRows_DDC ++ regRows_DDC_C ++ regRows_SIO ++ regRows_SIO_M ++ regRows_SIO_G

/-- The reset values other than zero, as the Reset columns of the block summaries give them: strictly rising
offsets.  Every register that is not listed resets to zero. -/
def regResets0 : List (Nat × Word) := [
  (0x0, 0x483200b1), (0x30020, 0xa00), (0x30028, 0x1), (0x38000, 0x6000800),
  (0x40000, 0x1000f000), (0x40004, 0xa00), (0x50000, 0x1000018), (0x50040, 0xffffffff),
  (0x60004, 0xf00), (0x80000, 0x7ff4020), (0x80050, 0xffffffff), (0x80054, 0xffffff),
  (0xa0000, 0x88401000), (0xa0004, 0x20000), (0xa000c, 0x14300), (0xa0018, 0x1),
  (0xc0000, 0x100740), (0xc000c, 0x8000), (0x100000, 0x4000), (0x100004, 0x800),
  (0x100008, 0x40000), (0x140000, 0x4004040), (0x140004, 0x10000), (0x140010, 0x4000100),
  (0x140014, 0x10000), (0x140020, 0x100000), (0x180000, 0x4400400), (0x180004, 0x100),
  (0x180008, 0x2), (0x18000c, 0xa03), (0x180014, 0x1), (0x1c0000, 0x20000),
  (0x1e0000, 0x100), (0x1e0008, 0x1000000), (0x1e000c, 0x7e), (0x200000, 0x1002020),
  (0x240000, 0x4001030), (0x280008, 0x7b), (0x280024, 0x80000000), (0x281008, 0x8007b),
  (0x281024, 0x80000000), (0x282008, 0x10007b), (0x282024, 0x80000000), (0x283008, 0x18007b),
  (0x283024, 0x80000000), (0x284008, 0x20007b), (0x284024, 0x80000000), (0x285008, 0x28007b)]

def regResets1 : List (Nat × Word) := [
  (0x285024, 0x80000000), (0x286008, 0x30007b), (0x286024, 0x80000000), (0x287008, 0x38007b),
  (0x287024, 0x80000000), (0x288008, 0x40007b), (0x288024, 0x80000000), (0x289008, 0x48007b),
  (0x289024, 0x80000000), (0x28a008, 0x50007b), (0x28a024, 0x80000000), (0x28b008, 0x58007b),
  (0x28b024, 0x80000000), (0x28c008, 0x60007b), (0x28c024, 0x80000000), (0x28d008, 0x68007b),
  (0x28d024, 0x80000000), (0x28e008, 0x70007b), (0x28e024, 0x80000000), (0x28f008, 0x78007b),
  (0x28f024, 0x80000000), (0x290008, 0x80007b), (0x290024, 0x80000000), (0x291008, 0x88007b),
  (0x291024, 0x80000000), (0x292008, 0x90007b), (0x292024, 0x80000000), (0x293008, 0x98007b),
  (0x293024, 0x80000000), (0x294008, 0xa0007b), (0x294024, 0x80000000), (0x295008, 0xa8007b),
  (0x295024, 0x80000000), (0x296008, 0xb0007b), (0x296024, 0x80000000), (0x297008, 0xb8007b),
  (0x297024, 0x80000000), (0x298008, 0xc0007b), (0x298024, 0x80000000), (0x299008, 0xc8007b),
  (0x299024, 0x80000000), (0x29a008, 0xd0007b), (0x29a024, 0x80000000), (0x29b008, 0xd8007b),
  (0x29b024, 0x80000000), (0x29c008, 0xe0007b), (0x29c024, 0x80000000), (0x29d008, 0xe8007b)]

def regResets2 : List (Nat × Word) := [
  (0x29d024, 0x80000000), (0x29e008, 0xf0007b), (0x29e024, 0x80000000), (0x29f008, 0xf8007b),
  (0x29f024, 0x80000000), (0x2a0008, 0x100007b), (0x2a0024, 0x80000000), (0x2a1008, 0x108007b),
  (0x2a1024, 0x80000000), (0x2a2008, 0x110007b), (0x2a2024, 0x80000000), (0x2a3008, 0x118007b),
  (0x2a3024, 0x80000000), (0x2a4008, 0x120007b), (0x2a4024, 0x80000000), (0x2a5008, 0x128007b),
  (0x2a5024, 0x80000000), (0x2a6008, 0x130007b), (0x2a6024, 0x80000000), (0x2a7008, 0x138007b),
  (0x2a7024, 0x80000000), (0x2a8008, 0x140007b), (0x2a8024, 0x80000000), (0x2a9008, 0x148007b),
  (0x2a9024, 0x80000000), (0x2aa008, 0x150007b), (0x2aa024, 0x80000000), (0x2ab008, 0x158007b),
  (0x2ab024, 0x80000000), (0x2ac008, 0x160007b), (0x2ac024, 0x80000000), (0x2ad008, 0x168007b),
  (0x2ad024, 0x80000000), (0x2ae008, 0x170007b), (0x2ae024, 0x80000000), (0x2af008, 0x178007b),
  (0x2af024, 0x80000000), (0x2b0000, 0x300c0404), (0x300000, 0x30029600), (0x301004, 0x6000),
  (0x301044, 0x6000), (0x301084, 0x6000), (0x3010c4, 0x6000), (0x301104, 0x6000),
  (0x301144, 0x6000), (0x301184, 0x6000), (0x3011c4, 0x6000), (0x301204, 0x6000)]

def regResets3 : List (Nat × Word) := [
  (0x301244, 0x6000), (0x301284, 0x6000), (0x3012c4, 0x6000), (0x301304, 0x6000),
  (0x301344, 0x6000), (0x301384, 0x6000), (0x3013c4, 0x6000), (0x301404, 0x6000),
  (0x301444, 0x6000), (0x301484, 0x6000), (0x3014c4, 0x6000), (0x301504, 0x6000),
  (0x301544, 0x6000), (0x301584, 0x6000), (0x3015c4, 0x6000), (0x301604, 0x6000),
  (0x301644, 0x6000), (0x301684, 0x6000), (0x3016c4, 0x6000), (0x301704, 0x6000),
  (0x301744, 0x6000), (0x301784, 0x6000), (0x3017c4, 0x6000), (0x301804, 0x6000),
  (0x301844, 0x6000), (0x301884, 0x6000), (0x3018c4, 0x6000), (0x301904, 0x6000),
  (0x301944, 0x6000), (0x301984, 0x6000), (0x3019c4, 0x6000), (0x301a04, 0x6000),
  (0x301a44, 0x6000), (0x301a84, 0x6000), (0x301ac4, 0x6000), (0x301b04, 0x6000),
  (0x301b44, 0x6000), (0x301b84, 0x6000), (0x301bc4, 0x6000), (0x340000, 0x20081000),
  (0x340004, 0x400000), (0x341004, 0x4), (0x341104, 0x4), (0x341204, 0x4),
  (0x341304, 0x4), (0x341404, 0x4), (0x341504, 0x4), (0x341604, 0x4)]

def regResets4 : List (Nat × Word) := [
  (0x341704, 0x4), (0x341804, 0x4), (0x341904, 0x4), (0x341a04, 0x4),
  (0x341b04, 0x4), (0x341c04, 0x4), (0x341d04, 0x4), (0x341e04, 0x4),
  (0x341f04, 0x4), (0x342004, 0x4), (0x342104, 0x4), (0x342204, 0x4),
  (0x342304, 0x4), (0x342404, 0x4), (0x342504, 0x4), (0x342604, 0x4),
  (0x342704, 0x4), (0x342804, 0x4), (0x342904, 0x4), (0x342a04, 0x4),
  (0x342b04, 0x4), (0x342c04, 0x4), (0x342d04, 0x4), (0x342e04, 0x4),
  (0x342f04, 0x4), (0x380000, 0x10000f03), (0x3c0000, 0x4001000), (0x400000, 0x8000508),
  (0x400020, 0xa00), (0x440000, 0x20212c0), (0x480000, 0x4040101)]

/-- The reset register file. (DESIGN CHOICE, log entry 3.) -/
def regResets : List (Nat × Word) :=
  regResets0 ++ regResets1 ++ regResets2 ++ regResets3 ++ regResets4

end Sys2Proof.Machine
end

