-- ==== Sys2Proof/Machine/State.lean ====
section
/-! DEFINITION. The state of the part: plain data.

`regs` is the home of everything a BAR0 register shows (R386), in one canonical form: strictly rising offsets, no
entry equal to zero, an unlisted register reads 0.  The other fields hold what lies behind the registers: the tables
that selectors show one entry of, the queues, the records in Garnet, the commands in flight, the pins.
What survives a core reset stands in `aon`, `fuse`, `flash` and `nv` (R355). -/

namespace Sys2Proof.Machine
open Sys2Proof

/-! ### What leaves the part -/

/-- Header fields of a packet sent on a connection: DSCP, VID (0 untagged), PCP and UDP source port (R171, R173). -/
structure PktHdr where
  dscp : Nat
  vid : Nat
  pcp : Nat
  sport : Nat
  deriving DecidableEq, Repr

/-- Header fields of another frame that the part makes: VID (0 untagged), PCP and source MAC (R171 to R173). -/
structure FrmHdr where
  vid : Nat
  pcp : Nat
  smac : Nat
  deriving DecidableEq, Repr

/-- An inter-device frame that the part sends: its port, and the fields of the header of R208. -/
structure InterHdr where
  port : Nat
  kind : Nat
  dst : Nat
  src : Nat
  cls : Nat
  pin : Bool
  hdr : FrmHdr
  deriving DecidableEq, Repr

/-- Something the part sends or drives toward another agent, in the order of time (the newest first in
`State.emitted`).  The model's own log: the spec gives the effects, the list lets statements speak of them. -/
inductive Emit where
  /-- A response capsule handed to the transport: controller, queue, command identifier, status (SCT in [10:8], SC
  in [7:0]), Do Not Retry, completion dwords 0 and 1 (R59), and SQHD (R47). -/
  | completion (cntlid qid cid status : Nat) (dnr : Bool) (dw0 dw1 sqhd : Nat)
  /-- Data returned to a host by RDMA WRITE, under the key and from the address of the command's descriptor (R178, R180). -/
  | readData (cntlid qid cid key addr : Nat) (blks : List HostBlk)
  /-- A structure or log page returned for an admin command, under the key and from the address of its descriptor (R178). -/
  | adminData (cntlid cid key addr : Nat) (bytes : List Byte)
  /-- An asynchronous event completion's type and information (R50). -/
  | asyncEvent (cntlid kind : Nat)
  /-- An RDMA READ request for write data: first block, key, address and bytes (R178, R179). -/
  | rdmaRead (cntlid qid cid off key addr bytes : Nat)
  /-- A RoCEv2 packet or message of the named kind on a connection, with its PSN, its dependency class (R181) and its header
  fields (R171, R173). -/
  | roce (kind conn psn arg cls : Nat) (hdr : PktHdr)
  /-- A connection-manager message: kind, peer identifier, argument (R176). -/
  | cm (kind peer arg : Nat)
  /-- An Ethernet frame sent on a port: port, kind (0x100 + p a PFC frame of priority p with its quanta, 0x806 an ARP and 0x86DD a
  neighbour answer for an address, which the source MAC answers), argument, header. -/
  | frame (port kind arg : Nat) (hdr : FrmHdr)
  /-- An inter-device frame other than a mirror record: its header and what it carries (R43, R208, R209). -/
  | inter (h : InterHdr) (m : InterMsg)
  /-- A command or request toward a member: slot, tag, kind, member LBA, blocks (R273).  Kinds: 1 read; 2 write, which carries FUA
  (R125); 3 Abort; 4 to 7 the steps of a member zone (R276); 8 Format NVM (R146); 10 CC.EN cleared and set (R148); 11 and 12
  configuration read and write (R287); 0x13 Set Features, with the feature identifier in
  place of the LBA and its value in place of the count (R103, R273); 0x14 the write of CC.SHN = 01b (R109); 0x15 the creation of
  an I/O queue pair, its number in place of the LBA and its depth in place of the count; 0x16 Get Log Page, its identifier in place
  of the LBA; 0x17 Asynchronous Event Request (R273). -/
  | member (slot tag kind lba n : Nat) (blks : List Blk)
  /-- A reservation command toward a member (R142), in its NVMe opcodes and actions: 0x0D Register, action 0 to register a key and 2
  to replace one; 0x11 Acquire of a Write Exclusive reservation, action 0 to acquire and 1 to preempt.  Then the current key and
  the new or the preempted key. -/
  | reserve (slot opcode action current key : Nat)
  /-- A mirror record on both paths: MSEQ, kind (0 a record, 1 an acknowledgement, 2 a heartbeat), argument (0 first sent, 1
  sent again; of an acknowledgement its traffic class; of a heartbeat the role and KEY_WAIT), and the bytes of a record, in
  the clear or encrypted (R136, R139), with the header of the frame on each path that carries it (R208, R211). -/
  | mirror (mseq kind arg : Nat) (content : List Byte) (paths : List InterHdr)
  /-- An RDMA READ Response for a window: connection, first PSN, data (R193). -/
  | windowData (conn psn : Nat) (data : List Byte)
  /-- An MSI-X message (R313). -/
  | msix (vector : Nat)
  /-- A PM_PME message, or WAKE_N driven (R315). -/
  | wake (kind : Nat)
  /-- A PCIe completion of the endpoint: kind (0 data, 1 Unsupported Request, 2 Completer Abort, 3 Request Retry
  Status), data. -/
  | pcie (kind : Nat) (data : List Byte)
  /-- A register value returned on a path (R319, R322). -/
  | regValue (path : Path) (lo hi : Nat)
  /-- A status byte of the sideband target (R321). -/
  | sideband (status value : Nat)
  /-- An SPDM or MCTP response on a carrier: response code, parameter, payload (R374). -/
  | spdm (carrier code param : Nat) (payload : List Byte)
  /-- Firmware is notified of an event source (R326). -/
  | firmware (source : Nat)
  /-- Bytes written to the configuration flash (R371). -/
  | flashWrite (copy : Nat) (bytes : List Byte)
  /-- A PTP message of the given IEEE 1588 type on a port: its time stamp, or what it announces (clockClass in [7:0], PRIORITY1 in
  [15:8], PRIORITY2 in [23:16]), its domain, its transport as PTP.CFG codes it, its header (R214). -/
  | ptp (port kind arg domain transport : Nat) (hdr : FrmHdr)
  /-- A drive-side sideband transfer: controller, target, argument (R283, R401). -/
  | smbus (ctrl target arg : Nat)
  /-- A forwarded frame leaves by a port with its rewritten header: destination and source MAC, VID and PCP; the flag
  marks one ended with an inverted FCS (R202, R205). -/
  | forward (port dmac smac vid pcp : Nat) (f : EthFrame) (stomped : Bool)
  /-- A DMA burst toward endpoint space or a peripheral: channel, space code, address or line, data. -/
  | dma (ch space addr : Nat) (data : List Byte)
  deriving DecidableEq, Repr

/-! ### Always-on domain and pins -/

/-- The always-on domain and the levels of pins the part samples or drives. -/
structure Aon where
  /-- VDD_AON in range and PORST_N high: the domain is released (R355). -/
  released : Bool
  /-- PORST_N is high. -/
  porst : Bool
  /-- PFAIL_N is high. -/
  pfail : Bool
  /-- The core domain runs: its reset is released. -/
  coreUp : Bool
  /-- SerDes transmitters are squelched (R330 class B, R334). -/
  squelched : Bool
  /-- The safe levels of the pads are held (R335). -/
  padsHeld : Bool
  /-- A TOCSIN fault has risen since the core reset released (R337). -/
  tocsinFault : Bool
  /-- TOCSIN level to take at the next falling edge or pulse end (R337, R338). -/
  tocsinHold : Bool
  /-- TOCSIN_CTRL.LEVEL has been written after replay (R338). -/
  levelSet : Bool
  /-- PPS_OUT level. -/
  ppsOut : Bool
  /-- WAKE_N is driven low. -/
  wakeLow : Bool
  /-- EP_PERST_N is high. -/
  epPerst : Bool
  /-- CK_SLOW runs on the ring oscillator. -/
  ring : Bool
  /-- The power-fail sequence: 0 none, 1 dump waits for the root PLL (R333), 2 dump running, 3 power-fail hold. -/
  dumpPhase : Nat
  /-- Outputs of slot power: gate of slot n driven, bit n. -/
  slotGates : Nat
  /-- SLn_PERST_N high, bit n (R270). -/
  slotPerst : Nat
  /-- FDA_GATE and FDB_GATE driven, bits 0 and 1. -/
  feedGates : Nat
  deriving DecidableEq, Repr

/-! ### Carillon -/

/-- A Carillon record (R339). -/
structure CarRec where
  code : Nat
  source : Nat
  fault : Bool
  first : Bool
  held : Bool
  unsync : Bool
  seq : Nat
  time : Nat
  p0 : Nat
  p1 : Nat
  p2 : Nat
  deriving DecidableEq, Repr

/-! ### Layout, members, stripes -/

/-- The layout in force (R69 to R75): geometry, rotation rows, column map. -/
structure Layout where
  width : Nat
  columns : Nat
  spare : Nat
  appear : Nat
  memberStrips : Nat
  dataStrips : Nat
  spareStrips : Nat
  stripes : Nat
  rows : List (List Nat)
  colmap : List Nat
  deriving DecidableEq, Repr

/-- A zone map entry (R46). -/
structure Zone where
  st : Nat
  loss : Bool
  log : Bool
  nsid : Nat
  gen : Nat
  wp : Nat
  rp : Nat
  slot : Nat
  lossIdx : Nat
  resets : Nat
  /-- A record of the zone has been written since it left Empty (R37). -/
  recorded : Bool
  deriving DecidableEq, Repr

/-- A namespace (R27, R32, R45). -/
structure Ns where
  cfg : Nat
  size : Nat
  zones : List Nat
  visible : Bool
  deleting : Bool
  deriving DecidableEq, Repr

/-- A placed extent key (c, g, k) and its holder (R155), or a repair extent with its valid map (R160). -/
structure Extent where
  col : Nat
  grp : Nat
  rank : Nat
  holder : Nat
  ext : Nat
  repair : Bool
  valid : List Nat
  deriving DecidableEq, Repr

/-- The tables that the keepers hold a durable copy of (R130). -/
structure Tables where
  zones : Tab Zone
  baseGen : Nat
  /-- Conventional map: NSID × 2^40 + LBA to BLOCK × 2^40 + STRIPE; an unlisted block is unmapped (R39). -/
  conv : Tab Nat
  nss : Tab Ns
  cols : List Column
  stale : List Nat
  scrubBits : List Nat
  extents : List Extent
  losses : List Loss
  darkMin : List Nat
  keepers : List Nat
  owner : Nat
  /-- The reservation key of the pair's owner, as the last OWNER record has it (R120, R142). -/
  ownerKey : Nat
  scrubPass : Nat
  scrubCur : Nat
  /-- The JSEQ of the last record applied to each page (R130, R134), by 2^40 × table + page index. -/
  pageSeq : Tab Nat
  /-- Of a copy latched by a checkpoint: JSEQs above its CKPT_SEQ whose records its pages hold already (R134). -/
  early : List Nat
  /-- The mirror sequence number as the last checkpoint latched it: the sequence counters of R130 (R136). -/
  mseq : Nat
  deriving DecidableEq, Repr

/-- A record in the ring (R118, R119). -/
structure RingRec where
  jseq : Nat
  /-- The ring line where it begins, and its lines. -/
  line : Nat
  lines : Nat
  body : RecBody
  /-- The CRC of its header (R119). -/
  crc : BitVec 32
  verified : Bool
  /-- The mirror sequence number of its copy, when mirrored. -/
  mseq : Option Nat
  /-- Mirror sequence numbers of the tail blocks its command placed: the acknowledgement must cover them (R123). -/
  tailMseq : Nat
  /-- The command whose record it is. -/
  cmd : Option Nat
  deriving DecidableEq, Repr

/-- A partial slot (R84, R89). -/
structure Slot where
  /-- 0 Free, 1 Open, 2 Closing, 3 Recomputing, 4 Dumped. -/
  st : Nat
  zone : Nat
  stripe : Nat
  folded : Nat
  p : List (List Byte)
  q : List (List Byte)
  pm : List (List Byte)
  qm : List (List Byte)
  /-- Blocks of the strip now filling, in order (their tail copies are in Garnet once a command ended in it). -/
  cur : List Blk
  /-- Commands of the blocks in `cur` that still wait for a tail write to be issued: (index, tag). -/
  tailWait : List (Nat × Nat)
  /-- Strip and parity writes of the stripe that have not completed. -/
  strips : Nat
  parity : Nat
  /-- The command that closed the stripe. -/
  closer : Option Nat
  /-- The zone becomes Full when the close completes. -/
  full : Bool
  /-- Skips of R104 and Absent writes of R152 not yet in a record: (stripe, slot, position). -/
  skips : List (Nat × Nat × Nat)
  /-- The zone left Closed, which its next WP_ADVANCE record says (R121). -/
  left : Bool
  /-- The slot has been given up; it is Free once its member writes already issued have completed (R89). -/
  freeing : Bool
  /-- The stripe had closed before the slot was given back to it: its P and Q are on members (R87). -/
  closed : Bool
  /-- While the slot is rebuilt: the blocks that its partials, still those from before, cover, and of those beyond the pointer the
  ones that the part still holds, by index in the stripe (R87). -/
  was : Nat
  kept : List (Nat × Blk)
  deriving DecidableEq, Repr

/-- A dump of the power-fail sequence (R127). -/
structure Dump where
  lastJseq : Nat
  /-- The mirror marks of R139 and R140. -/
  applied : Nat
  released : Nat
  /-- The slot states, at offset 64,512 of each slot's tail area with its partials in the dump region (R88), and the CRC-64
  of each. -/
  slots : Tab Slot
  crcs : Tab (BitVec 64)
  us : Nat
  deriving DecidableEq, Repr

/-- The directory of a strip of a keeper's log (R130): the table pages of its content blocks, by 2^40 × table + page index, each
with the JSEQ of the last record applied to it, or the JSEQ range of each ring-copy block; the checkpoint number; COMMIT. -/
structure LogDir where
  pages : List (Nat × Nat)
  copies : List (Nat × Nat)
  num : Nat
  commit : Bool
  deriving DecidableEq, Repr

/-- The journal region of a keeper (R130, R131): its member, the shelf it names, the last table store with a COMMIT
(tables, CKPT_SEQ) and its number, the ring copies, and the append log they lie in. -/
structure KeepLog where
  id : Nat × Nat
  shelf : Option Nat
  store : Option (Tables × Nat)
  num : Nat
  copies : List (Nat × RecBody)
  /-- The strip of the newest copy of each page, by 2^40 × table + page index. -/
  pages : Tab Nat
  /-- Strips that hold ring copies still needed. -/
  copyAt : List Nat
  /-- The next strip of the log, its segments in use, oldest first, and how often each has been rewritten. -/
  head : Nat
  used : List Nat
  gens : Tab Nat
  /-- The directory of each strip written. -/
  dirs : Tab LogDir
  /-- The highest JSEQ whose ring copy it holds, or whose change its tables do. -/
  copied : Nat
  deriving DecidableEq, Repr

/-- A ring record that the receiver of the mirror holds (R136, R139). -/
structure MirRec where
  mseq : Nat
  line : Nat
  n : Nat
  jseq : Nat
  body : RecBody
  deriving DecidableEq, Repr

/-- Garnet and what the keepers hold: everything that keeps its content without power (R16, R115, R130). -/
structure Nv where
  /-- The header's shelf identity, if it names one (R135). -/
  shelf : Option Nat
  layout : Option Digest
  /-- MEMBER_STRIPS as found when the layout was created (R70). -/
  memberStrips : Nat
  nonEmpty : Nat
  highGen : Nat
  ring : List RingRec
  nextJseq : Nat
  /-- Ring line where the next record goes. -/
  head : Nat
  tails : Tab Blk
  dump : Option Dump
  carillon : Tab CarRec
  /-- The journal regions of the keepers, by column (R130). -/
  klogs : Tab KeepLog
  /-- Line writes per physical chunk, and the logical-to-physical chunk map where it is not the identity (R116). -/
  wear : Tab Nat
  chunkMap : Tab Nat
  lineMap : Tab Nat
  spareLines : Nat
  maxWear : Nat
  /-- The partner's ring records and tails (MSEQ, block), and whether the region is found damaged (R136, R141). -/
  mirRing : List MirRec
  mirTails : Tab (Nat × Blk)
  /-- The receiver's marks: the highest MSEQ applied and the highest released (R139, R140). -/
  mirApplied : Nat
  mirReleased : Nat
  mseq : Nat
  deriving DecidableEq, Repr

/-! ### Member requests and power -/

/-- What a member request serves. -/
inductive Owner where
  /-- Blocks of a host read: its tag, the index of the first block in the command. -/
  | host (tag idx : Nat)
  /-- A data strip of a slot's stripe: the commands whose blocks it holds. -/
  | strip (slot : Nat) (tags : List Nat)
  /-- A P or Q strip of a slot's stripe. -/
  | parity (slot : Nat)
  /-- A source of a reconstruction job. -/
  | recon (job pos : Nat)
  deriving DecidableEq, Repr

/-- A member request (R54, R273): `loc` 0 the strip's own place, 1 its spare extent, 2 its repair extent. -/
structure MReq where
  id : Nat
  col : Nat
  write : Bool
  stripe : Nat
  pos : Nat
  b0 : Nat
  n : Nat
  lba : Nat
  loc : Nat
  cls : Nat
  own : Owner
  blks : List Blk
  since : Nat
  deriving DecidableEq, Repr

/-- A port tag (R273, R277): live with its request, or quarantined; `moved` are the blocks whose commands have ended (R274). -/
structure PTag where
  req : MReq
  quarantined : Bool
  at_ : Nat
  buf : Tab Byte
  moved : Nat
  deriving DecidableEq, Repr

/-- What a drive port keeps beside its registers. -/
structure Port where
  /-- MBR asks for power (R286). -/
  wanted : Bool
  /-- MBR's request is a probe of R285 (otherwise a wake). -/
  probe : Bool
  tries : Nat
  rawAbsent : Bool
  /-- A removal request is being carried out (R282). -/
  removing : Bool
  /-- What the drive showed at its last probe or wake (R110, R146). -/
  drive : Option DriveId
  reqs : List MReq
  tags : Tab PTag
  cfgOp : Nat
  cfsTried : Bool
  /-- The slot awaits its admission probe (R285). -/
  awaiting : Bool
  /-- Weighted round robin of the request queue: class last served, requests left in its share (R54). -/
  wrr : Nat × Nat
  /-- Member busy time of the present 100 ms window, ns: foreground, Background (R54). -/
  fgNs : Nat
  bgNs : Nat
  /-- Background work was turned away here because foreground requests wait: it is served next once its floor is owed (R54). -/
  bgWaits : Bool
  /-- Strips written to each open member zone of a zoned member (R275, R276). -/
  mzones : Tab Nat
  /-- One more than the time of the last NVMe-MI sample; 0 before the first (R283). -/
  miAt : Nat
  /-- When a removal was last refused: the attention indicator blinks for 5 s (R280). -/
  refusedAt : Option Nat
  /-- The refusal code of the drive in a slot that no column has (R146); 0 when none was refused. -/
  refusal : Nat
  deriving DecidableEq, Repr

/-- The power side of a member, by column (R94, R113). -/
structure Power where
  /-- 0 none, 1 Active, 2 Idle, 3 Darkening, 4 Dark, 5 Stowed, 6 Waking. -/
  ps : Nat
  target : Nat
  nvmePs : Nat
  noLow : Bool
  catching : Bool
  lastUsed : Nat
  wakeStart : Nat
  deriving DecidableEq, Repr

/-- A slot-power channel beside its registers (R292 to R301). -/
structure Chan where
  demand : Bool
  /-- Order of entry into Queued. -/
  order : Nat
  /-- Bad samples counted by the fault timer (R296). -/
  bad : Nat
  /-- The two poles of the thermal model, °C (R293). -/
  d1 : Rat
  d2 : Rat
  /-- The sense diode read out of range; the model is used until the next core reset (R292). -/
  diodeBad : Bool
  deriving DecidableEq, Repr

/-- A reconstruction for a host read (R91, R92): the position wanted and its block range, the read it serves, the
blocks gathered so far as (position, block, content), the source reads outstanding. -/
structure Recon where
  id : Nat
  stripe : Nat
  pos : Nat
  b0 : Nat
  n : Nat
  tag : Nat
  idx : Nat
  cls : Nat
  started : Bool
  got : List (Nat × Nat × Blk)
  waiting : Nat
  /-- The check of the recovered blocks has failed once (R83). -/
  retried : Bool
  since : Nat
  /-- A second position recovered over the same range, with its index in the command (R92). -/
  pos2 : Option (Nat × Nat)
  /-- Positions whose place was read as a probe and did not pass (R151). -/
  noSrc : List Nat
  deriving DecidableEq, Repr

/-! ### Queues and commands -/

/-- The command states of R63. -/
inductive CmdState where
  | accepted | waiting | running | dataOut | committing | abortDrain | completing
  deriving DecidableEq, Repr

/-- An accepted command: its tag record (R49, R63). -/
structure Cmd where
  cntlid : Nat
  qid : Nat
  cid : Nat
  cls : Nat
  io : Option IoCmd
  opcode : Nat
  order : Nat
  st : CmdState
  released : Bool
  claimed : Bool
  status : Nat
  dnr : Bool
  since : Nat
  started : Bool
  /-- The zone a write reserved in, its first reserved block and its blocks. -/
  zone : Option Nat
  base : Nat
  total : Nat
  /-- Blocks whose record is written, asked of the host, folded. -/
  done : Nat
  asked : Nat
  folded : Nat
  /-- Member writes, tail writes and closes it waits for. -/
  owed : Nat
  /-- RDMA read requests outstanding, RDMA write packets unacknowledged. -/
  rdOut : Nat
  pkts : Nat
  sent : Bool
  /-- A read's stored blocks by index, and how many are still owed. -/
  got : Tab Blk
  need : Nat
  tailMseq : Nat
  /-- The host identity entry; first LBA, for an append the assigned one. -/
  host : Nat
  lba : Nat
  /-- Arrival of the capsule, start of step 4, release point (R351), ns; whether the command waited, whether a block was
  reconstructed. -/
  arrival : Nat
  step4 : Nat
  relAt : Nat
  waited : Bool
  recon : Bool
  /-- A compaction move's old place: stripe and block within its data (R41); none for a host's command. -/
  move : Option (Nat × Nat)
  deriving DecidableEq, Repr

/-- A controller (R23, R24, R26). -/
structure Ctrl where
  host : Nat
  port : Nat
  cc : Nat
  csts : Nat
  kato : Nat
  aec : Nat
  nq : Nat
  aers : List Nat
  /-- Events not yet reported, by kind. -/
  events : List Nat
  /-- Namespaces and zones, as (NSID, start LBA), changed since their log pages were last read (R29). -/
  chNs : List Nat
  chZones : List (Nat × Nat)
  deriving DecidableEq, Repr

/-- A submission queue: its depth, class position, SQ head, capsules Received (R48, R49). -/
structure Queue where
  cntlid : Nat
  qid : Nat
  depth : Nat
  conn : Nat
  sqhd : Nat
  /-- Received capsules, oldest first: the flag marks one an Abort found (R61); the time of arrival. -/
  caps : List (Capsule × Bool × Nat)
  deriving DecidableEq, Repr

/-- A host identity (R25). -/
structure HostEnt where
  nqn : List Nat
  perm : Nat
  access : List Nat
  qclass : List Nat
  deriving DecidableEq, Repr

/-- A conventional staging entry of 2 KiB (R40): its index in the region, the command and the piece of it that hold the entry, and
the map entries that the piece will replace, each as R39 lays it out. -/
structure Staged where
  idx : Nat
  tag : Nat
  piece : Nat
  old : List Nat
  deriving DecidableEq, Repr

/-- A result of the Device Self-test log (R64). -/
structure StResult where
  code : Nat
  seg : Nat
  result : Nat
  nsid : Nat
  deriving DecidableEq, Repr

/-- An SPDM context (R377). -/
structure Spdm where
  owner : Nat
  used : Nat
  version : Bool
  caps : Bool
  algs : Bool
  response : Option (List Byte)
  deriving DecidableEq, Repr

/-! ### Blocks -/

/-- Start-up, image, overlays, measurement and attestation (R357 to R377). -/
structure Boot where
  /-- 0 in reset, 1 core released, 2 fuses loaded, 3 image verified, 4 DDR trained, 5 image applied and waiting for
  the seal, 6 sealed and running, 7 members discovered, 8 replayed, 9 failsafe (R364, R366). -/
  phase : Nat
  /-- The copy being tried: 0 A, 1 B. -/
  copy : Nat
  /-- The running image's bytes (the streamed copy before IMAGE_APPLY). -/
  image : List Byte
  /-- The subsystem NQN of the running image (R23). -/
  nqn : List Byte
  trainFails : Nat
  /-- The register file the base section left (R369). -/
  baseRegs : Tab Word
  overlay : Nat
  /-- Overlay requests of management software that wait for their boundaries, with the PTP times they were made at, the oldest first
  (R227). -/
  ovlReqs : List (Nat × Nat)
  /-- STR.ROT_ROW as loaded: word 8 × row + m (R73). -/
  rot : Tab Word
  msl : List Digest
  /-- SPDM contexts: 0 PCIe VDM, 1 the sideband target, 2 to 9 the NVMe carrier's. -/
  spdm : Tab Spdm
  /-- Controllers whose next response on the NVMe carrier is ERROR, RequestResynch. -/
  resynch : List Nat
  eid : List Nat
  tick : Nat
  /-- The image being staged and the copy it goes to (R371). -/
  stage : Option (List Byte × Nat)
  /-- The staging buffer of R367. -/
  buffer : Memory
  deriving DecidableEq, Repr

/-- The register fabric's latches (R392, R393), the sideband target (R321), the firmware path. -/
structure Access where
  latE : Option (Nat × Nat)
  latS : Option (Nat × Nat)
  latV : Option (Nat × Nat)
  latF : Option (Nat × Nat)
  heldE : Option (Nat × Nat)
  heldS : Option (Nat × Nat)
  heldV : Option (Nat × Nat)
  heldF : Option (Nat × Nat)
  sbStatus : Nat
  /-- XFER of the transfer under way on drive-side controller k (R401). -/
  xfer : Tab Nat
  /-- Table pages that firmware is reloading after an uncorrectable DRAM error (R398). -/
  reload : List Nat
  /-- Commands that wait for such a page, each by its order of acceptance, and the page (R398). -/
  pageWait : List (Nat × Nat)
  deriving DecidableEq, Repr

/-- Event routing and Carillon's queue (R323 to R345). -/
structure Events where
  /-- EVC.SRC_CFG of each source that differs from its default. -/
  cfg : Tab Nat
  /-- Sources asserted through a device-wide bit on behalf of an instance: (source, register, mask). -/
  held : List (Nat × Nat × Nat)
  /-- Sources mapped to no bit whose condition holds. -/
  conds : List Nat
  queue : List CarRec
  lostFreeze : Nat
  lostFull : Nat
  /-- Records held before Carillon was ready. -/
  early : Nat
  /-- Records still to write before the LOST record of a freeze (R343). -/
  lostMark : Option Nat
  deriving DecidableEq, Repr

/-- An MSI-X table entry (R313). -/
structure MsixEnt where
  addr : Nat
  data : Nat
  masked : Bool
  deriving DecidableEq, Repr

/-- The endpoint function (R308 to R318). -/
structure Endpoint where
  command : Nat
  bars : List Nat
  devctl : Nat
  devctl2 : Nat
  msixEn : Bool
  fmask : Bool
  table : Tab MsixEnt
  pba : List Nat
  d3 : Bool
  pmeEn : Bool
  pmeStatus : Bool
  aer : Nat
  linkKept : Bool
  deriving DecidableEq, Repr

/-- Members, ports and channels beside their registers. -/
structure Members where
  power : List Power
  ports : List Port
  chans : List Chan
  nextReq : Nat
  queueSeq : Nat
  useSeq : Nat
  /-- The dark-set change of R99: leaving and joining columns. -/
  leaving : List Nat
  joining : List Nat
  changing : Bool
  ctxWait : List Nat
  deferred : List MReq
  misTimes : Tab (List Nat)
  toTimes : Tab (List Nat)
  misCount : Tab Nat
  toCount : Tab Nat
  /-- Unreadable ranges: (stripe, position, first block, blocks). -/
  unread : List (Nat × Nat × Nat × Nat)
  recons : List Recon
  scrubOn : Bool
  scrubSelf : Bool
  /-- A range was recorded as lost during the pass of an extended self-test (R66). -/
  scrubLost : Bool
  scrubDeferred : List Nat
  /-- Deferred stripes that a change of the dark set has put next (R166). -/
  scrubAgain : List Nat
  resyncPos : Tab Nat
  /-- Accumulated Dark nanoseconds not yet counted as minutes. -/
  darkFrac : Tab Nat
  /-- Requests that ended with their port, not yet acted on (R272). -/
  downReqs : List MReq
  /-- Slots whose columns are to fail, with the CAUSE, not yet acted on (R148, R299). -/
  failReq : List (Nat × Nat)
  /-- Reasons of the shelf-stop in force: bit 0 no feed, 1 command, 2 power fail, 3 fault (R306). -/
  stopWhy : Nat
  /-- MBR.DOMAIN_GATE as last acted upon (R107, R108). -/
  gateSeen : Nat
  /-- The feed the selector is switching to: 1 A, 2 B. -/
  feedNext : Nat
  uvMask : Bool
  /-- Sideband chains whose polls are suspended, bit k (R284). -/
  chainsStuck : Nat
  /-- Blocks through Beryl in the present 1 ms window: for host commands, for Background work (R93). -/
  brlFg : Nat
  brlBg : Nat
  /-- Strips, by column and stripe, that a write or a sweep found no holder for (R155, R157). -/
  unplacedAt : List (Nat × Nat)
  /-- The column whose normal sweep took its turn last (R157). -/
  lastSweep : Nat
  deriving DecidableEq, Repr

/-- A command that this device, as the standby, has passed to the owner (R43): the capsule, its data messages not yet acknowledged by the
host, and the owner's completion once it is here (R59): status, Do Not Retry, completion dwords 0 and 1. -/
structure Passed where
  cap : Capsule
  owed : Nat
  done : Bool
  status : Nat
  dnr : Bool
  dw0 : Nat
  dw1 : Nat
  deriving DecidableEq, Repr

/-- Hosts, controllers, queues (R23 to R26, R45 to R53). -/
structure Front where
  hosts : Tab HostEnt
  ctrls : Tab Ctrl
  queues : List Queue
  nsQueue : List (Nat × Nat × Nat × Nat)
  nsDel : Option Nat
  /-- Namespaces deleted since the start and not created again (R45). -/
  gone : List Nat
  staging : List Staged
  cmds : Tab Cmd
  nextOrder : Nat
  /-- Weighted round robin: class now served, acceptances left in its share, last queue visited per class. -/
  wrrClass : Nat
  wrrLeft : Nat
  wrrLast : List Nat
  /-- What is left of the burst of each class's running visit, and the weights of the running round (R51, R52). -/
  wrrBurst : List Nat
  wrrW : List Nat
  /-- Write data of commands that the other device of the pair passed on, by controller, queue and command identifier
  (R43). -/
  carried : List (Nat × Nat × Nat × List HostBlk)
  /-- Commands that this device has passed to the owner and not answered (R43). -/
  passed : List Passed
  /-- NSID field of the self-test in progress (R64). -/
  stNsid : Nat
  stLog : List StResult
  deriving DecidableEq, Repr

/-- A mirror record held until its turn (R139), with those of its lines whose write failed its verify (R117). -/
structure HeldRec where
  mseq : Nat
  body : MirBody
  bad : List Nat
  deriving DecidableEq, Repr

/-- Garnet's volatile side and the mirror (R123 to R144). -/
structure Journal where
  waitRecs : List (RecBody × Option Nat × Nat)
  /-- The checkpoint under way: tables, CKPT_SEQ, the pages dirty when it started (R131). -/
  ckpt : Option (Tables × Nat × List Nat)
  ckptDue : Bool
  /-- Pages changed since the last checkpoint latched them, by 2^40 × table + page index (R131). -/
  dirty : List Nat
  /-- Namespaces deleted whose NAMESPACE record is not yet written, with the non-Empty zones that it empties (R71). -/
  emptied : List (Nat × Nat)
  /-- Keepers whose copy is under way, by index (R132). -/
  keeperCopy : List Nat
  tx : List (Nat × MirBody)
  rxHeld : List HeldRec
  relSent : Nat
  /-- The MSEQ that wrote each tail position of this device, by 16 × slot + index (R140). -/
  tailSeq : Tab Nat
  resyncTo : Option Nat
  digTx : BitVec 64
  digRx : BitVec 64
  partnerWait : Bool
  contest : Bool
  /-- A standby out of step takes up its mark A anew at the owner's next heartbeat (R141; log entry 45). -/
  rebase : Bool
  /-- A heartbeat has left since the mirror went out of step, or since A was taken up anew (log entry 46). -/
  hbSent : Bool
  /-- A takeover waits for the recomputes of its slots (R44). -/
  taking : Bool
  /-- Replacements of this device's reservation key since the last core reset, and the key of the owner it took over from (R142). -/
  keyGen : Nat
  preKey : Option Nat
  deriving DecidableEq, Repr


/-! ### Keys and descriptors -/

/-- A filled key slot (R260). -/
structure KeySlot where
  kind : Nat
  size : Nat
  kek : Nat
  transport : Bool
  material : List Byte
  deriving DecidableEq, Repr

/-- The key store (R260 to R264). -/
structure Keys where
  slots : Tab KeySlot
  /-- The import under way: IMP_CTRL, the wrapped bytes and the ephemeral public key at its start. -/
  imp : Option (Nat × List Byte × List Byte)
  /-- Zeroises that wait behind the import, in order; none stands for ALL (R263). -/
  waiting : List (Option Nat)
  /-- Blocks of storage-lane and descriptor jobs in the present 1 ms window (R253). -/
  winStorage : Nat
  winDesc : Nat
  deriving DecidableEq, Repr

/-- A descriptor as the engine decodes it (R236). -/
structure Desc where
  src : Nat
  dst : Nat
  len : Nat
  ctrl : Nat
  sspace : Nat
  dspace : Nat
  next : Nat
  iv : Nat
  key : Nat
  cipher : Nat
  line : Nat
  deriving DecidableEq, Repr

/-- A descriptor being carried out: where it lies, bytes read and written, the code it ends with once its bursts are
written, and whether its last read burst has been issued. -/
structure Job where
  addr : Nat
  d : Desc
  issued : Nat
  written : Nat
  code : Option Nat
  closed : Bool
  /-- Source bytes read so far of a descriptor that passes the cipher (R239). -/
  inp : List Byte
  deriving DecidableEq, Repr

/-- A DMA channel beside its registers (R232 to R251). -/
structure DmaCh where
  /-- Descriptors not yet written back, oldest first; the read engine works on the last. -/
  jobs : List Job
  /-- Bursts in the channel's share: the descriptor they belong to and the bytes. -/
  bursts : List (Nat × List Byte)
  /-- The descriptor being fetched, if one is. -/
  fetch : Option Nat
  latched : Nat
  /-- CFG.BURST in force. -/
  burst : Nat
  /-- A STOP is being carried out. -/
  stopping : Bool
  /-- Lines this channel holds or waits for: the line of the newest descriptor. -/
  want : Option Nat
  deriving DecidableEq, Repr

/-- The DMA engine beside its registers. -/
structure Dma where
  chans : List DmaCh
  /-- Last channel granted by the read and the write engine, high and low priority. -/
  rrRead : Nat × Nat
  rrWrite : Nat × Nat
  /-- Owner of each claimed request line. -/
  owner : Tab Nat
  /-- The bytes of a final request that a receive line asserts and no burst has moved yet (R244). -/
  finals : Tab (List Byte)
  deriving DecidableEq, Repr

/-! ### Time and gates -/

/-- A committed gate-list set: base, cycle, entries of gate bits and interval, start time and skipped cycles (R220,
R223). -/
structure GSet where
  base : Nat
  cycle : Nat
  entries : List (Nat × Nat)
  start : Nat
  skip : Nat
  deriving DecidableEq, Repr

/-- A gate list: its shadow, the outcome of its last commit, its pending and its running set (R220 to R224). -/
structure GList where
  sBase : Nat
  sCycle : Nat
  sLen : Nat
  sEnt : Tab (Nat × Nat)
  error : Nat
  skip : Nat
  pending : Option GSet
  /-- The pending set waits for LOCKED to rise (WAIT_LOCK). -/
  waitLock : Bool
  running : Option GSet
  /-- Entry and cycle in force. -/
  pos : Nat
  cyc : Int
  deriving DecidableEq, Repr

/-- A calendar: base, CAL_CFG, entries of offset and action (R225). -/
structure Cal where
  base : Nat
  cfg : Nat
  ents : Tab (Nat × Nat)
  deriving DecidableEq, Repr

/-- Tabor and PTP beside their registers. -/
structure Tabor where
  lists : List GList
  cal : Cal
  calPend : Option Cal
  calRun : Option Cal
  /-- The calendar entry applied at the last boundary and the time it is counted as made at. -/
  calLast : Option (Nat × Nat)
  /-- ON mask and BG of the calendar in force, as CAL_ACTION codes them. -/
  calMask : Nat
  /-- The overlay that takes effect at the boundary that has come, not yet applied (R226, R227). -/
  ovlDue : Option Nat
  /-- Shaper credit of queue 8p + t, in 1/1,024 byte (R229). -/
  credit : Tab Int
  /-- Policer credit, in 1/1,024 byte (R231). -/
  police : Tab Nat
  /-- Deficit of queue 8p + t, and the traffic class last served by the weighted group of each port (R228). -/
  deficit : Tab Nat
  lastTc : Tab Nat
  /-- Consecutive samples inside and outside the lock window (R217). -/
  good : Nat
  miss : Nat
  /-- The holdover was entered from PPS locked (R214). -/
  ppsHold : Bool
  /-- Fraction of a nanosecond of PTP time that the rate correction has gathered, in units of 2^-10 × 10^-6 ns (R213). -/
  rateFrac : Int
  /-- The master that the slave port follows, and the corrected stamp of the last event message received on each port (R215, R217). -/
  master : Nat
  rxStamp : Tab Nat
  /-- The time SET_GO sets at the next whole microsecond. -/
  setGo : Option Nat
  deriving DecidableEq, Repr

/-! ### Counters -/

/-- A performance counter with its filter (R346, R347). -/
structure Ctr where
  cfg : Nat
  master : Nat
  addr : Nat
  first : Nat
  last : Nat
  val : Nat
  ovf : Bool
  deriving DecidableEq, Repr

/-- PMC beside its registers. -/
structure Pmc where
  ctrs : Tab Ctr
  /-- Bytes received and transmitted by port of R353 in the running window, and in the last. -/
  bwNow : Tab (Nat × Nat)
  bwLast : Tab (Nat × Nat)
  /-- A new WINDOW waits for the next multiple of its length: the window running is discarded (R353). -/
  bwFresh : Bool
  /-- Counted commands since the last sample (R350). -/
  smpCount : Nat
  /-- Samples taken since core reset. -/
  smpTaken : Nat
  /-- Times of each path's last two low-word reads of CVAL (R348). -/
  reads : Tab (Nat × Nat)
  deriving DecidableEq, Repr

/-! ### Switch and fabric -/

/-- A frame in the switch (R197, R206): its class and traffic class, the pool its cells are charged to (0 read
response, 1 class reserve, 2 shared, 3 headroom) at egress port `home`, the generation it was classified under, the
egress ports that have still to read it with the destination MAC each will send. -/
structure SwFrame where
  /-- Which frame it is: no two frames that were ever held share it. -/
  id : Nat
  f : EthFrame
  inp : Nat
  tc : Nat
  cls : Nat
  pool : Nat
  home : Nat
  cells : Nat
  gen : Nat
  since : Nat
  dests : List (Nat × Nat)
  bad : Bool
  /-- Placed by an entry of the neighbour table, so that its Ethernet header is rewritten on any port (R202). -/
  neigh : Bool
  deriving DecidableEq, Repr

/-- A neighbour entry (R201). -/
structure Neigh where
  valid : Bool
  fixed : Bool
  ipv6 : Bool
  port : Nat
  vid : Nat
  mac : Nat
  ip : Nat
  seen : Nat
  deriving DecidableEq, Repr

/-- A remote-GID entry (R200, R212). -/
structure Rgid where
  valid : Bool
  proxy : Bool
  dev : Nat
  gid : Nat
  deriving DecidableEq, Repr

/-- A multicast group (R203). -/
structure Group where
  valid : Bool
  mask : Nat
  mac : Nat
  deriving DecidableEq, Repr

/-- The switch core beside its registers. -/
structure Switch where
  /-- Frames held, in the order of their classification, and the identity of the next. -/
  frames : List SwFrame
  nextId : Nat
  neigh : Tab Neigh
  rgid : Tab Rgid
  groups : Tab Group
  /-- Staged addresses, by 4,096 × table + index (R212). -/
  staged : Tab Nat
  /-- Last identity received on each cascade port: board, device, port, devices, MAC. -/
  ident : Tab (Nat × Nat × Nat × Nat × Nat)
  /-- Paused priorities of egress ports and those whose pauses are ignored, as 8 × port + priority (R174). -/
  paused : List Nat
  ignored : List Nat
  /-- Priorities of ingress ports for which the part has sent XOFF (R198). -/
  xoff : List Nat
  deriving DecidableEq, Repr

/-- What a transmitted message carries (R180, R182). -/
inductive TxKind where
  /-- Read data of a command, as one RDMA WRITE message. -/
  | readData (tag : Nat)
  /-- A response capsule: controller, queue, command identifier, and the key of the command's descriptor where its sub-type
  asks for an invalidation. -/
  | response (cntlid qid cid : Nat) (inv : Option Nat)
  /-- An RDMA READ request for a command: first block, blocks, pool cells reserved. -/
  | readReq (tag off n cells : Nat)
  /-- Read data of a command that this device passed on to the owner (R43), as one message: controller, queue, command identifier,
  bytes. -/
  | passedData (cntlid qid cid bytes : Nat)
  deriving DecidableEq, Repr

/-- A message sent and not fully acknowledged: its first PSN, its packets. -/
structure TxMsg where
  psn : Nat
  n : Nat
  kind : TxKind
  deriving DecidableEq, Repr

/-- Something that waits to be sent until its connection's context is resident (R189): a message, the acknowledgement of received
packets (R184), or a retransmission from a PSN (R177). -/
inductive WaitTx where
  | msg (kind : TxKind)
  | ack
  | resend (psn : Nat)
  deriving DecidableEq, Repr

/-- A packet that arrived for a connection: a request with the window set in force at its arrival (R193), or an answer to one of
the part's own (R175), each answer but a CNP with its ECN-CE mark (R186). -/
inductive HeldPkt where
  | req (p : RcPkt) (gen : Nat)
  | ack (psn : Nat) (ce : Bool)
  | nakSeq (psn : Nat) (ce : Bool)
  /-- A NAK Remote Access Error, Remote Operational Error or Invalid Request, as its kind. -/
  | nakErr (kind : Nat) (ce : Bool)
  | rnr (psn : Nat) (ce : Bool)
  | cnp
  deriving DecidableEq, Repr

/-- A connection context (R187, R191). -/
structure Conn where
  port : Nat
  peer : Nat
  /-- The host identity entry: before Connect, that of the peer where it has one. -/
  host : Option Nat
  cntlid : Option Nat
  qid : Nat
  hsq : Nat
  ird : Nat
  dscp : Nat
  pmtu : Nat
  /-- 1 Setup, 2 Resident, 3 Pinned, 4 Fetching, 5 Spilled. -/
  st : Nat
  /-- 0 established, 1 Error, 2 closing. -/
  tr : Nat
  /-- E, the expected PSN; a NAK Sequence Error naming it has been sent. -/
  epsn : Nat
  nakSent : Bool
  /-- Received packets not yet acknowledged. -/
  owed : Nat
  /-- Next PSN to send; messages not fully acknowledged; oldest unacknowledged PSN. -/
  spsn : Nat
  una : List TxMsg
  /-- Retransmissions of the oldest PSN without progress; RNR retries; waiting for the RNR timer; deadline. -/
  retries : Nat
  rnr : Nat
  rnrWait : Option Nat
  due : Option Nat
  /-- What waits to be sent for the context to be fetched. -/
  waitTx : List WaitTx
  /-- Held packets of R190, each with the port that it arrived on. -/
  held : List (Nat × HeldPkt)
  /-- Transmit rate, Mb/s; time of the last CNP sent and of the last halving. -/
  rate : Nat
  cnpSent : Option Nat
  cnpCut : Option Nat
  /-- Position in least-recent use. -/
  used : Nat
  /-- The inbound WRITE message under way: the set's generation, window, offset of its next byte, bytes left. -/
  wmsg : Option (Nat × Nat × Nat × Nat)
  /-- Bytes received of the SEND message under way (R175). -/
  sendLen : Nat
  /-- Responder resources: PSN, generation recorded (R193). -/
  resp : List (Nat × Nat)
  deriving DecidableEq, Repr

/-- An inbound window (R192). -/
structure Win where
  ctrl : Nat
  key : Nat
  base : Nat
  len : Nat
  deriving DecidableEq, Repr

/-- FAB and QPC beside their registers. -/
structure Fabric where
  conns : Tab Conn
  /-- Shadow, current and retained old window sets (R193). -/
  shadow : Tab Win
  cur : Tab Win
  old : Tab Win
  useSeq : Nat
  deriving DecidableEq, Repr

/-! ### The state -/

/-- The whole state of the part. -/
structure State where
  /-- The commands that wait, first in, first out. -/
  pending : List Instr
  /-- The BAR0 registers (R386). -/
  regs : Tab Word
  /-- Time in nanoseconds: the model's own clock, advanced by idle steps (log entry 4). -/
  now : Nat
  /-- Free values taken so far: the MODEL's own field (log entry 8). -/
  freeCtr : Nat
  /-- What has left the part, newest first: the MODEL's own log. -/
  emitted : List Emit
  aon : Aon
  fuse : Option Fuses
  flash : Option FlashImage
  nv : Nv
  /-- The layout in force (R71). -/
  lay : Option Layout
  /-- The tables in DRAM that the table store keeps (R130). -/
  tb : Tables
  /-- The 256 partial slots; an unlisted slot is Free (R84). -/
  slots : Tab Slot
  /-- The content of DRAM (R15). -/
  dram : Memory
  boot : Boot
  acc : Access
  ev : Events
  ep : Endpoint
  mb : Members
  fr : Front
  jn : Journal
  keys : Keys
  dma : Dma
  tg : Tabor
  pmc : Pmc
  sw : Switch
  fab : Fabric
  deriving DecidableEq, Repr

/-- The faults of the machine.  No command of this block faults: errors are reported in registers and completions. -/
inductive Fault where
  /-- Raised by no meaning; it stands because the host's interface asks for a fault type. Safe. -/
  | none
  deriving DecidableEq, Repr

/-- The refusals of the machine. -/
inductive Refusal where
  /-- A command whose meaning is not modelled, by its mnemonic. Safe. -/
  | notModelled (mnemonic : String)
  deriving DecidableEq, Repr

/-! ### Reset -/

/-- The always-on domain right after its power-on reset: the pins at their safe levels (R334, R335).  PORST_N low,
PFAIL_N high and EP_PERST_N low are the model's choice of input levels (log entry 5). -/
def Aon.reset : Aon :=
  ⟨false, false, true, false, true, true, false, false, false, false, false, false, false, 0, 0, 0, 0⟩

/-- Nothing has ever been written to Garnet or to the keepers: the state of a package not yet put on a shelf
(log entry 6). -/
def Nv.reset : Nv :=
  { shelf := none, layout := none, memberStrips := 0, nonEmpty := 0, highGen := 0, ring := [], nextJseq := 1, head := 0, tails := [],
    dump := none, carillon := [], klogs := [], wear := [], chunkMap := [], lineMap := [], spareLines := 98304, maxWear := 0,
    mirRing := [], mirTails := [], mirApplied := 0, mirReleased := 0, mseq := 0 }

/-- A column that no member has ever taken. -/
def Column.vacant : Column := ⟨0, 0, 0, false, 0, 0, [], none, 0, 0, 0⟩

/-- The tables before any layout exists. -/
def Tables.reset : Tables :=
  { zones := [], baseGen := 0, conv := [], nss := [], cols := List.replicate 48 Column.vacant, stale := [],
    scrubBits := [], extents := [], losses := [], darkMin := List.replicate 48 0, keepers := [], owner := 0, ownerKey := 0,
    scrubPass := 0, scrubCur := 0, pageSeq := [], early := [], mseq := 0 }

/-- A drive port with nothing behind it. -/
def Port.reset : Port := ⟨false, false, 0, false, false, none, [], [], 0, false, false, (3, 0), 0, 0, false, [], 0, none, 0⟩

/-- A member without a power state. -/
def Power.reset : Power := ⟨0, 0, 0, false, false, 0, 0⟩

/-- A slot-power channel that is off. -/
def Chan.reset : Chan := ⟨false, 0, 0, 0, 0, false⟩

/-- A free partial slot. -/
def Slot.free : Slot := ⟨0, 0, 0, 0, [], [], [], [], [], [], 0, 0, none, false, [], false, false, false, 0, []⟩

/-- Start-up state at core reset: every measurement slot zero (R372). -/
def Boot.reset : Boot :=
  ⟨0, 0, [], [], 0, [], 0, [], [], List.replicate 16 0, [], [], [0, 0], 0, none, []⟩

/-- Register fabric latches at core reset. -/
def Access.reset : Access := ⟨none, none, none, none, none, none, none, none, 0, [], [], []⟩

/-- Event routing at core reset. -/
def Events.reset : Events := ⟨[], [], [], [], 0, 0, 0, none⟩

/-- The endpoint function at core reset. -/
def Endpoint.reset : Endpoint :=
  ⟨0, [0, 0, 0], 0, 0, false, false, [], [], false, false, false, 0, false⟩

/-- Members, ports and channels at core reset. -/
def Members.reset : Members :=
  { power := List.replicate 48 Power.reset, ports := List.replicate 48 Port.reset,
    chans := List.replicate 48 Chan.reset, nextReq := 0, queueSeq := 0, useSeq := 0, leaving := [], joining := [],
    changing := false, ctxWait := [], deferred := [], misTimes := [], toTimes := [], misCount := [],
    toCount := [], unread := [], recons := [], scrubOn := false, scrubSelf := false,
    scrubLost := false, scrubDeferred := [], scrubAgain := [], resyncPos := [], darkFrac := [], downReqs := [], failReq := [], stopWhy := 0, gateSeen := 0xFF, feedNext := 0, uvMask := false,
    chainsStuck := 0, brlFg := 0, brlBg := 0, unplacedAt := [], lastSweep := 0 }

/-- Hosts, controllers and queues at core reset. -/
def Front.reset : Front :=
  { hosts := [], ctrls := [], queues := [], nsQueue := [], nsDel := none, gone := [], staging := [], cmds := [], nextOrder := 0,
    wrrClass := 3, wrrLeft := 0, wrrLast := [0, 0, 0, 0, 0], wrrBurst := [0, 0, 0, 0, 0], wrrW := [1, 1, 1],
    carried := [], passed := [], stNsid := 0, stLog := [] }

/-- Garnet's volatile side at core reset. -/
def Journal.reset : Journal :=
  { waitRecs := [], ckpt := none, ckptDue := false, dirty := [], emptied := [], keeperCopy := [], tx := [], rxHeld := [],
    relSent := 0, tailSeq := [], resyncTo := none, digTx := 0, digRx := 0, partnerWait := false,
    contest := false, rebase := true, hbSent := false, taking := false, keyGen := 0, preKey := none }

/-- Every key slot empty (R264). -/
def Keys.reset : Keys := ⟨[], none, [], 0, 0⟩

/-- A DMA channel at rest. -/
def DmaCh.idle : DmaCh := ⟨[], [], none, 0, 4, false, none⟩

/-- The DMA engine at core reset. -/
def Dma.reset : Dma := ⟨List.replicate 32 DmaCh.idle, (31, 31), (31, 31), [], []⟩

/-- A gate list before anything is written to it. -/
def GList.reset : GList := ⟨0, 0, 0, [], 0, 0, none, false, none, 0, 0⟩

/-- Tabor and PTP at core reset; the calendar mask in force is that of an empty calendar (R225). -/
def Tabor.reset : Tabor :=
  { lists := List.replicate 8 GList.reset, cal := ⟨0, 0, []⟩, calPend := none, calRun := none, calLast := none,
    calMask := 0x1FF, ovlDue := none, credit := [], police := [], deficit := [], lastTc := [], good := 0,
    miss := 0, ppsHold := false, rateFrac := 0, master := 0, rxStamp := [], setGo := none }

/-- Every counter clear (R346). -/
def Pmc.reset : Pmc := ⟨[], [], [], false, 0, 0, []⟩

/-- The switch at core reset: group 0 covers INT only (R203). (DEDUCED, log entry 71.) -/
def Switch.reset : Switch := ⟨[], 0, [], [], [(0, ⟨true, 0x80, 0⟩)], [], [], [], [], []⟩

/-- No connection, no window. -/
def Fabric.reset : Fabric := ⟨[], [], [], [], 0⟩

/-- The part right after the always-on domain's power-on reset: every register at the value its block summary gives,
nothing loaded, nothing running. -/
def State.reset : State :=
  { pending := [], regs := regResets, now := 0, freeCtr := 0, emitted := [], aon := Aon.reset, fuse := none,
    flash := none, nv := Nv.reset, lay := none, tb := Tables.reset, slots := [], dram := [], boot := Boot.reset,
    acc := Access.reset, ev := Events.reset, ep := Endpoint.reset, mb := Members.reset, fr := Front.reset,
    jn := Journal.reset, keys := Keys.reset,
    dma := Dma.reset, tg := Tabor.reset, pmc := Pmc.reset, sw := Switch.reset, fab := Fabric.reset }


end Sys2Proof.Machine
end

