-- ==== Sys2Proof/Machine/Ops.lean ====
section
/-! DEFINITION. The named operations over registers, DRAM and the tables of the state.  Every meaning reads and
writes a register through these. -/

namespace Sys2Proof.Machine
open Sys2Proof

/-! ### Registers -/

/-- The content of the register at a BAR0 offset. -/
def State.reg (s : State) (a : Nat) : Word := tgetD s.regs a 0

/-- Set a register; zero removes the entry, so the file keeps its canonical form. -/
def State.setReg (s : State) (a : Nat) (w : Word) : State := { s with regs := tputD s.regs a w 0 }

/-- The value of a field. -/
def State.get (s : State) (f : FieldAt) : Nat := (s.reg f.reg).toNat / 2 ^ f.lo % 2 ^ f.w

/-- Set a field, the rest of the register as it was. -/
def State.put (s : State) (f : FieldAt) (v : Nat) : State :=
  let r := (s.reg f.reg).toNat
  s.setReg f.reg (BitVec.ofNat 32 (r - r / 2 ^ f.lo % 2 ^ f.w * 2 ^ f.lo + v % 2 ^ f.w * 2 ^ f.lo))

/-- A one-bit field reads 1. -/
def State.flag (s : State) (f : FieldAt) : Bool := s.get f != 0

/-- Set a one-bit field. -/
def State.on (s : State) (f : FieldAt) : State := s.put f 1

/-- Clear a one-bit field. -/
def State.off (s : State) (f : FieldAt) : State := s.put f 0

/-- Write a one-bit field. -/
def State.putB (s : State) (f : FieldAt) (b : Bool) : State := s.put f (b2n b)

/-- Add to a counting field, stopping at its largest value. -/
def State.satInc (s : State) (f : FieldAt) (n : Nat := 1) : State :=
  let v := s.get f + n
  s.put f (if v < 2 ^ f.w then v else 2 ^ f.w - 1)

/-- Add to a field that wraps, or that the caller keeps in range. -/
def State.inc (s : State) (f : FieldAt) (n : Nat := 1) : State := s.put f (s.get f + n)

/-- Subtract from a field, stopping at 0. -/
def State.dec (s : State) (f : FieldAt) (n : Nat := 1) : State := s.put f (s.get f - n)

/-- A register as a number. -/
def State.regN (s : State) (a : Nat) : Nat := (s.reg a).toNat

/-- Set a register from a number. -/
def State.setN (s : State) (a v : Nat) : State := s.setReg a (BitVec.ofNat 32 v)

/-- The 64-bit value of the pair whose low word is at `a` (R5). -/
def State.rd64 (s : State) (a : Nat) : Nat := s.regN a + 2 ^ 32 * s.regN (a + 4)

/-- Set both words of a pair. -/
def State.wr64 (s : State) (a v : Nat) : State := (s.setN a (v % 2 ^ 32)).setN (a + 4) (v / 2 ^ 32 % 2 ^ 32)

/-- Add to a pair that counts. -/
def State.add64 (s : State) (a n : Nat) : State := s.wr64 a ((s.rd64 a + n) % 2 ^ 64)

/-- Bit `n` of a pair. -/
def State.bit64 (s : State) (a n : Nat) : Bool := bit (s.rd64 a) n

/-- Write bit `n` of a pair. -/
def State.putBit64 (s : State) (a n : Nat) (b : Bool) : State := s.wr64 a (putBit (s.rd64 a) n b)

/-! ### Log, free values, DRAM -/

/-- Record something that leaves the part. (DESIGN CHOICE, log entry 14.) -/
def State.emit (s : State) (e : Emit) : State := { s with emitted := e :: s.emitted }

/-- Take a free value of kind `k` (log entry 8). -/
def State.fresh (s : State) (k : Nat) : Nat × State :=
  (Config.freeNat k s.freeCtr, { s with freeCtr := s.freeCtr + 1 })

/-- Take a free byte string of kind `k` (log entry 8). -/
def State.freshBytes (s : State) (k : Nat) : List Byte × State :=
  (Config.freeBytes k s.freeCtr, { s with freeCtr := s.freeCtr + 1 })

/-- Write bytes to DRAM. -/
def State.dramWrite (s : State) (a : Nat) (l : List Byte) : State := { s with dram := memPutAll s.dram a l }

/-- Read bytes of DRAM. -/
def State.dramRead (s : State) (a n : Nat) : List Byte := memGetAll s.dram a n

/-- PTP time in nanoseconds (PTP.TIME). -/
def State.ptpTime (s : State) : Nat := s.rd64 Reg.PTP.TIME_LO

/-! ### Structured parts -/

/-- Change the members part. -/
def State.modMb (s : State) (f : Members → Members) : State := { s with mb := f s.mb }
/-- Change the front part. -/
def State.modFr (s : State) (f : Front → Front) : State := { s with fr := f s.fr }
/-- Change the journal part. -/
def State.modJn (s : State) (f : Journal → Journal) : State := { s with jn := f s.jn }
/-- Change the always-on part. -/
def State.modAon (s : State) (f : Aon → Aon) : State := { s with aon := f s.aon }
/-- Change the non-volatile part. -/
def State.modNv (s : State) (f : Nv → Nv) : State := { s with nv := f s.nv }
/-- Change the events part. -/
def State.modEv (s : State) (f : Events → Events) : State := { s with ev := f s.ev }
/-- Change the start-up part. -/
def State.modBoot (s : State) (f : Boot → Boot) : State := { s with boot := f s.boot }
/-- Change the endpoint part. -/
def State.modEp (s : State) (f : Endpoint → Endpoint) : State := { s with ep := f s.ep }
/-- Change the register-fabric part. -/
def State.modAcc (s : State) (f : Access → Access) : State := { s with acc := f s.acc }
/-- Change the tables. -/
def State.modTb (s : State) (f : Tables → Tables) : State := { s with tb := f s.tb }
/-- Change the key store. -/
def State.modKeys (s : State) (f : Keys → Keys) : State := { s with keys := f s.keys }
/-- Change the DMA engine's own state. -/
def State.modDmac (s : State) (f : Dma → Dma) : State := { s with dma := f s.dma }
/-- Change the accumulation slots as a whole. -/
def State.setSlots (s : State) (t : Tab Slot) : State := { s with slots := t }
/-- What the fuses hold from now on. -/
def State.setFuse (s : State) (f : Fuses) : State := { s with fuse := some f }
/-- What the flash holds from now on. -/
def State.setFlash (s : State) (f : FlashImage) : State := { s with flash := some f }
/-- The layout in force from now on. -/
def State.setLay (s : State) (l : Layout) : State := { s with lay := some l }

/-- Drive port `n`. -/
def State.port (s : State) (n : Nat) : Port := s.mb.ports.getD n Port.reset
/-- Change drive port `n`. -/
def State.modPort (s : State) (n : Nat) (f : Port → Port) : State :=
  s.modMb fun m => { m with ports := m.ports.modify n f }
/-- Slot-power channel `n`. -/
def State.chan (s : State) (n : Nat) : Chan := s.mb.chans.getD n Chan.reset
/-- Change slot-power channel `n`. -/
def State.modChan (s : State) (n : Nat) (f : Chan → Chan) : State :=
  s.modMb fun m => { m with chans := m.chans.modify n f }
/-- The power side of column `c`. -/
def State.power (s : State) (c : Nat) : Power := s.mb.power.getD c Power.reset
/-- Change the power side of column `c`. -/
def State.modPower (s : State) (c : Nat) (f : Power → Power) : State :=
  s.modMb fun m => { m with power := m.power.modify c f }
/-- Column `c`. -/
def State.col (s : State) (c : Nat) : Column := s.tb.cols.getD c Column.vacant
/-- Change column `c`. -/
def State.modCol (s : State) (c : Nat) (f : Column → Column) : State :=
  s.modTb fun t => { t with cols := t.cols.modify c f }
/-- Partial slot `n`. -/
def State.slot (s : State) (n : Nat) : Slot := tgetD s.slots n Slot.free
/-- Set partial slot `n`; a free slot is not listed. -/
def State.setSlot (s : State) (n : Nat) (x : Slot) : State := { s with slots := tputD s.slots n x Slot.free }
/-- Change partial slot `n`. -/
def State.modSlot (s : State) (n : Nat) (f : Slot → Slot) : State := s.setSlot n (f (s.slot n))
/-- Command tag `t`. -/
def State.cmd? (s : State) (t : Nat) : Option Cmd := tget s.fr.cmds t
/-- Set a command's tag record. -/
def State.setCmd (s : State) (t : Nat) (c : Cmd) : State := s.modFr fun f => { f with cmds := tput f.cmds t c }
/-- Change a command's tag record, if the tag is in use. -/
def State.modCmd (s : State) (t : Nat) (f : Cmd → Cmd) : State :=
  match s.cmd? t with
  | some c => s.setCmd t (f c)
  | none => s
/-- The controller with identifier `c`. -/
def State.ctrl? (s : State) (c : Nat) : Option Ctrl := tget s.fr.ctrls c
/-- Change a controller. -/
def State.modCtrl (s : State) (c : Nat) (f : Ctrl → Ctrl) : State :=
  match s.ctrl? c with
  | some x => s.modFr fun r => { r with ctrls := tput r.ctrls c (f x) }
  | none => s
/-- Host identity entry `h`. -/
def State.host (s : State) (h : Nat) : HostEnt :=
  tgetD s.fr.hosts h ⟨List.replicate 224 0, 0, List.replicate 32 0, List.replicate 4 0⟩
/-- Change host identity entry `h`. -/
def State.modHost (s : State) (h : Nat) (f : HostEnt → HostEnt) : State :=
  s.modFr fun r => { r with hosts := tput r.hosts h (f (s.host h)) }

/-- The drive ports in use: 48, or 24 in x4 mode (R268). -/
def State.slotsInUse (s : State) : Nat := if s.flag Fld.DRP.MODE.X4 then 24 else 48

end Sys2Proof.Machine
end

