-- ==== Sys2Proof/Machine/Flags.lean ====
section
/-! DEFINITION. Event sources, their classes and bits (R323 to R325, R419), first-fault capture (R327 to R329),
routing (R326, R313, R315), TOCSIN (R336 to R338) and the making of Carillon records (R339, R340, R343). -/

namespace Sys2Proof.Machine
open Sys2Proof

/-- The class R419 gives a source: 0 notice, 1 D, 2 C, 3 B, 4 A; none for an unassigned number. -/
def srcClass0 (n : Nat) : Option Nat :=
  if n < 16 then (if n = 1 ∨ n = 4 then some 0 else if n ≤ 3 then some 1 else none)
  else if n < 32 then (if n = 16 then some 3 else if n ≤ 19 then some 1 else none)
  else if n < 64 then (if n ≤ 33 then some 1 else none)
  else if n < 80 then (if n = 64 then some 3 else none)
  else if n < 96 then none
  else if n < 112 then (if n ≤ 98 then some 0 else none)
  else if n < 128 then (if n = 114 ∨ n = 116 then some 1 else if n ≤ 115 then some 0 else none)
  else if n < 144 then (if n = 128 ∨ n = 130 then some 1 else if n ≤ 132 then some 0 else none)
  else if n < 176 then (if n ≤ 147 then some 1 else if n = 148 then some 0 else none)
  else if n < 272 then (if n = 178 ∨ n = 180 then some 0 else if n ≤ 179 then some 1 else none)
  else if n < 288 then (if n = 272 then some 0 else if n ≤ 274 then some 1 else none)
  else if n < 320 then (if n = 290 ∨ n = 292 then some 0 else if n ≤ 291 then some 1 else none)
  else if n < 352 then (if n = 323 then some 0 else if n ≤ 325 then some 1 else none)
  else if n < 368 then none
  else if n < 400 then
    (if n = 368 then some 2 else if n = 369 then some 4 else if n = 372 ∨ n = 373 then some 1
     else if n ≤ 374 then some 0 else none)
  else if n < 448 then
    (if n = 400 then some 3 else if n = 401 then some 2
     else if n = 403 ∨ n = 405 ∨ n = 406 ∨ n = 411 then some 0 else if n ≤ 417 then some 1 else none)
  else if n < 544 then
    (if n = 450 ∨ n = 451 ∨ n = 452 ∨ n = 457 ∨ n = 460 ∨ n = 461 ∨ n = 463 ∨ n = 464 then some 0
     else if n ≤ 467 then some 1 else none)
  else if n < 832 then (if (n - 544) % 6 ≤ 2 then some 0 else some 1)
  else if n < 1216 then
    (match (n - 832) % 8 with
     | 0 => some 4 | 1 => some 2 | 2 => some 0 | 3 => some 0 | 4 => some 1 | 5 => some 1 | 6 => some 1 | _ => none)
  else if n < 1232 then
    (if n ≤ 1218 then some 4 else if n = 1219 then some 2 else if n ≤ 1223 then some 1 else none)
  else if n < 1296 then (if n % 2 = 0 then some 0 else some 1)
  else if n < 1312 then (if n ≤ 1298 then some 1 else none)
  else if n < 1328 then (if n ≤ 1315 then some 4 else if n = 1316 then some 0 else if n ≤ 1318 then some 1 else none)
  else if n < 1344 then (if n = 1328 ∨ n = 1330 then some 0 else if n ≤ 1331 then some 1 else none)
  else if n < 1360 then (if n = 1344 ∨ n = 1349 then some 0 else if n ≤ 1348 then some 1 else none)
  else if n < 1392 then
    (if n = 1360 then some 2 else if n = 1361 ∨ n = 1362 then some 0 else if n = 1363 then some 1 else none)
  else if n < 1424 then (if n ≤ 1395 ∨ n = 1397 then some 0 else if n = 1396 then some 1 else none)
  else if n < 1536 then some 1
  else none

/-- The fixed class A actions of a source, coded as FLT.FIRST.ACTIONS (R331). -/
def srcActions0 (n : Nat) : Nat :=
  if 832 ≤ n ∧ n < 1216 ∧ (n - 832) % 8 = 0 then 1
  else if 1216 ≤ n ∧ n ≤ 1218 then 2
  else if n = 369 then 8
  else if 1312 ≤ n ∧ n ≤ 1315 then 20
  else 0

/-- A source whose class may be set: the class D fault sources of R419 and the firmware-raised ones (R324). -/
def srcConfigurable (n : Nat) : Bool := srcClass0 n = some 1

/-- The block that owns a source number, as EVC.BLOCK_PEND numbers it, and the instance (R323). -/
def srcOwner (n : Nat) : Nat × Nat :=
  if n < 16 then (0, 0) else if n < 32 then (1, 0) else if n < 64 then (2, 0) else if n < 80 then (3, 0)
  else if n < 96 then (5, 0) else if n < 112 then (6, 0) else if n < 128 then (7, 0) else if n < 144 then (8, 0)
  else if n < 176 then (9, 0) else if n < 272 then (10, 0) else if n < 288 then (11, 0) else if n < 320 then (12, 0)
  else if n < 352 then (13, 0) else if n < 368 then (14, 0) else if n < 400 then (15, 0) else if n < 448 then (16, 0)
  else if n < 544 then (17, 0) else if n < 832 then (18, (n - 544) / 6) else if n < 1216 then (19, (n - 832) / 8)
  else if n < 1232 then (19, 0) else if n < 1296 then (20, (n - 1232) / 2) else if n < 1312 then (20, 0)
  else if n < 1328 then (21, 0) else if n < 1344 then (22, 0) else if n < 1360 then (23, 0) else if n < 1392 then (24, 0)
  else if n < 1424 then (25, (if n < 1396 then n - 1392 else 0)) else (26, 0)

/-- Consecutive sources `base …` tied to consecutive bits of one register from bit `lo`. -/
def bitsAt (n base reg lo : Nat) : List (Nat × Nat) := [(reg, 2 ^ (lo + (n - base)))]

/-- The EVENT bits R419 ties to a source: (register, mask).  A source tied to a device-wide bit on behalf of one
instance, or to no bit, has none here. -/
def srcBits (n : Nat) : List (Nat × Nat) :=
  if n = 0 then [(Reg.TOP.EVENT, 1)] else if n = 1 then [(Reg.TOP.BAD_INFO, 2 ^ 31)]
  else if n = 2 then [(Reg.TOP.EVENT, 8)] else if n = 3 then [(Reg.TOP.EVENT, 2)] else if n = 4 then [(Reg.TOP.EVENT, 4)]
  else if 16 ≤ n ∧ n ≤ 19 then bitsAt n 16 Reg.CLK.EVENT 0
  else if 96 ≤ n ∧ n ≤ 98 then bitsAt n 96 Reg.PMC.EVENT 0
  else if 112 ≤ n ∧ n ≤ 116 then bitsAt n 112 Reg.PTP.EVENT 0
  else if 128 ≤ n ∧ n ≤ 132 then bitsAt n 128 Reg.TGS.EVENT 0
  else if 144 ≤ n ∧ n ≤ 148 then bitsAt n 144 Reg.SWC.EVENT 0
  else if 176 ≤ n ∧ n ≤ 180 then bitsAt n 176 Reg.FAB.EVENT 0
  else if 272 ≤ n ∧ n ≤ 274 then bitsAt n 272 Reg.QPC.EVENT 0
  else if 288 ≤ n ∧ n ≤ 292 then bitsAt n 288 Reg.NVQ.EVENT 0
  else if 320 ≤ n ∧ n ≤ 325 then bitsAt n 320 Reg.ZMP.EVENT 0
  else if n = 368 then [(Reg.BRL.EVENT, 2 ^ 4)] else if n = 369 then [(Reg.BRL.EVENT, 2 ^ 5)]
  else if n = 374 then [(Reg.BRL.EVENT, 2 ^ 6)]
  else if 370 ≤ n ∧ n ≤ 373 then bitsAt n 370 Reg.BRL.EVENT 0
  else if 402 ≤ n ∧ n ≤ 417 then bitsAt n 402 Reg.GNT.EVENT 0
  else if 448 ≤ n ∧ n ≤ 462 then bitsAt n 448 Reg.MBR.EVENT 0
  else if 463 ≤ n ∧ n ≤ 467 then bitsAt n 463 Reg.MBR.PWR_EVENT 0
  else if 544 ≤ n ∧ n < 832 then
    let p := (n - 544) / 6
    let i := (n - 544) % 6
    if i ≤ 4 then [(Reg.DRP_P.SLOT_STATUS p, 2 ^ (3 + i))] else []
  else if 832 ≤ n ∧ n < 1216 then
    let c := (n - 832) / 8
    let e := Reg.SLP_C.EVENT c
    (match (n - 832) % 8 with
     | 0 => [(e, 2 ^ (Fld.SLP_C.EVENT.FAST_TRIP c).lo)]
     | 1 => [(e, 2 ^ (Fld.SLP_C.EVENT.FAST_TRIP c).lo), (e, 2 ^ (Fld.SLP_C.EVENT.INRUSH_TIMEOUT c).lo),
             (e, 2 ^ (Fld.SLP_C.EVENT.OVERTEMP c).lo), (e, 2 ^ (Fld.SLP_C.EVENT.OVERLOAD c).lo)]
     | 2 => [(e, 2 ^ (Fld.SLP_C.EVENT.PG_GIVEN c).lo)]
     | 3 => [(e, 2 ^ (Fld.SLP_C.EVENT.PG_LOST c).lo)]
     | 4 => [(e, 2 ^ (Fld.SLP_C.EVENT.OPEN_SENSE c).lo)]
     | 5 => [(e, 2 ^ (Fld.SLP_C.EVENT.DIODE_FAULT c).lo)]
     | 6 => [(e, 2 ^ (Fld.SLP_C.EVENT.LATCHED c).lo)]
     | _ => [])
  else if n = 1216 then [(Reg.SLP.EVENT, 1)]
  else if 1219 ≤ n ∧ n ≤ 1223 then bitsAt n 1219 Reg.SLP.EVENT 1
  else if 1232 ≤ n ∧ n < 1296 then
    let c := (n - 1232) / 2
    if n % 2 = 0 then [(Reg.DMA_C.EVENT c, 2 ^ (Fld.DMA_C.EVENT.DESC_DONE c).lo), (Reg.DMA_C.EVENT c, 2 ^ (Fld.DMA_C.EVENT.STOPPED c).lo)]
    else [(Reg.DMA_C.EVENT c, 2 ^ (Fld.DMA_C.EVENT.ERROR c).lo)]
  else if n = 1296 then [(Reg.DMA.EVENT, 2 ^ Fld.DMA.EVENT.CH_ERROR.lo)]
  else if n = 1297 then [(Reg.DMA.EVENT, 2 ^ Fld.DMA.EVENT.FW_WRITE.lo)]
  else if n = 1298 then [(Reg.DMA.EVENT, 2 ^ Fld.DMA.EVENT.HALTED.lo)]
  else if 1312 ≤ n ∧ n ≤ 1315 then bitsAt n 1312 Reg.AES.TAMPER 0
  else if n = 1316 then [(Reg.AES.EVENT, 2 ^ Fld.AES.EVENT.COUNTER_WRAP.lo)]
  else if n = 1317 then [(Reg.AES.EVENT, 2 ^ Fld.AES.EVENT.NS_KEY_MISSING.lo)]
  else if n = 1318 then [(Reg.AES.EVENT, 2 ^ Fld.AES.EVENT.TAMPER_HALT.lo)]
  else if 1328 ≤ n ∧ n ≤ 1331 then bitsAt n 1328 Reg.KEY.EVENT 0
  else if 1344 ≤ n ∧ n ≤ 1349 then bitsAt n 1344 Reg.EPF.EVENT 0
  else if n = 1360 then [(Reg.DDC.EVENT, 2), (Reg.DDC_C.EVENT 0, 2), (Reg.DDC_C.EVENT 1, 2)]
  else if n = 1361 then [(Reg.DDC.EVENT, 1), (Reg.DDC_C.EVENT 0, 1), (Reg.DDC_C.EVENT 1, 1)]
  else if n = 1362 then [(Reg.DDC.EVENT, 8), (Reg.DDC_C.EVENT 0, 8), (Reg.DDC_C.EVENT 1, 8)]
  else if n = 1363 then [(Reg.DDC.EVENT, 4), (Reg.DDC_C.EVENT 0, 4), (Reg.DDC_C.EVENT 1, 4)]
  else if 1392 ≤ n ∧ n < 1396 then [(Reg.SIO_M.EVENT (n - 1392), 3)]
  else if n = 1396 then [(Reg.SIO.EVENT, 1)]
  else if n = 1397 then [(Reg.SIO.EVENT, 2)]
  else []

/-- The routing word of a source: what was loaded or written, with the bits R326 fixes (EVC.SRC_CFG). -/
def State.srcCfg (s : State) (n : Nat) : Nat :=
  let raw := tgetD s.ev.cfg n ((srcClass0 n).getD 0 * 2 ^ 24)
  let cls := if srcConfigurable n then raw / 2 ^ 24 % 8 else (srcClass0 n).getD 0
  let c1 := raw - raw / 2 ^ 24 % 8 * 2 ^ 24 + cls * 2 ^ 24
  let c2 := if 0 < cls then setBit c1 30 else c1
  let c3 := if cls = 2 then setBit c2 29 else c2
  if cls = 3 ∨ cls = 4 then setBit c3 28 else c3

/-- The class now in force (EVC.SRC_CFG.CLASS). -/
def State.srcClass (s : State) (n : Nat) : Nat := s.srcCfg n / 2 ^ 24 % 8

/-- The class A actions now in force: a configurable source set to class A carries SHELF_STOP alone (R324, R330). -/
def State.srcActions (s : State) (n : Nat) : Nat :=
  if s.srcClass n = 4 then (if srcConfigurable n then 2 else srcActions0 n) else 0

/-- The source's pending bit in EVC.PEND (R325). -/
def State.srcPending (s : State) (n : Nat) : Bool := bit (s.regN (Reg.EVC.PEND (n / 32))) (n % 32)

/-- The source is asserted: one of its EVENT bits is set, it is held through a shared bit, or its condition holds
(R325). -/
def State.srcAsserted (s : State) (n : Nat) : Bool :=
  (srcBits n).any (fun (r, m) => s.regN r / m % 2 = 1)
  || s.ev.held.any (fun (src, r, m) => src = n ∧ s.regN r / m % 2 = 1)
  || decide (n ∈ s.ev.conds)

/-- EVC.BLOCK_PEND: bit b when a source of block b is pending (R326). -/
def State.blockPend (s : State) : Nat :=
  maskOf 27 fun b => (List.range 1536).any fun n => decide ((srcOwner n).1 = b) && s.srcPending n

/-- A vector is due: one of its enabled sources is pending (R326). -/
def State.vectorDue (s : State) (v : Nat) : Bool :=
  s.ev.cfg.any fun (n, c) => bit c 31 && decide (c % 2048 = v) && s.srcPending n

/-- An MSI-X table entry; entries start masked. -/
def State.msix (s : State) (v : Nat) : MsixEnt := tgetD s.ep.table v ⟨0, 0, true⟩

/-- Send a vector's message, or leave it pending, or wake the host (R313, R315). -/
def State.sendVector (s : State) (v : Nat) : State :=
  if ¬ s.ep.msixEn then s
  else if s.ep.fmask ∨ (s.msix v).masked then s.modEp fun e => { e with pba := addNew e.pba v }
  else if ¬ s.ep.d3 then s.emit (.msix v)
  else
    let s1 := s.modEp fun e => { e with pba := addNew e.pba v, pmeStatus := true }
    if ¬ s1.ep.pmeEn then s1
    else if s1.aon.epPerst then (s1.emit (.wake 0)).on Fld.EPF.EVENT.WAKE
    else ((s1.modAon fun a => { a with wakeLow := true }).emit (.wake 1)).on Fld.EPF.EVENT.WAKE

/-- A record enters Carillon's holding queue, or is lost when the queue is full (R343).  It is marked HELD when it
has to wait: during a freeze, before Carillon is ready, or behind another record. -/
def State.carillon (s : State) (r : CarRec) : State :=
  let frozen := s.flag Fld.EVR.CTRL.FREEZE
  let ready := s.flag Fld.EVR.STATUS.READY
  if s.ev.queue.length < 256 then
    let r1 := { r with held := frozen || !ready || !s.ev.queue.isEmpty }
    let s1 := s.modEv fun e => { e with queue := e.queue ++ [r1], early := if ready then e.early else e.early + 1 }
    s1.put Fld.EVR.STATUS.HELD s1.ev.queue.length
  else
    (s.modEv fun e => if frozen then { e with lostFreeze := e.lostFreeze + 1 } else { e with lostFull := e.lostFull + 1 })
      |>.satInc Fld.EVR.LOST.V

/-- The region slot of a sequence number (R341). -/
def carSlot (seq : Nat) : Nat := if seq < 4096 then seq else 4096 + (seq - 4096) % 61440

/-- Write a record to its slot of the Carillon region with the next SEQ (R341, R342). -/
def State.carPut (s : State) (r : CarRec) : State :=
  let q := s.regN Reg.EVR.NEXT_SEQ
  (s.modNv fun v => { v with carillon := tput v.carillon (carSlot q) { r with seq := q } }).setN Reg.EVR.NEXT_SEQ (q + 1)

/-- A record of Carillon's own: SOURCE is 0xFFF (R339). -/
def State.carOwn (s : State) (code p0 p1 p2 : Nat) : CarRec :=
  { code := code, source := 0xFFF, fault := false, first := false, held := false,
    unsync := !s.flag Fld.PTP.STATUS.LOCKED, seq := 0, time := s.ptpTime, p0 := p0, p1 := p1, p2 := p2 }

/-- Invalidate the region, restart SEQ and write CLEARED as record 0 (R344); `path` is the path code that cleared. -/
def State.carClear (s : State) (path : Nat) : State :=
  let s1 := (s.modNv fun v => { v with carillon := [] }).setN Reg.EVR.NEXT_SEQ 0
  s1.carPut (s1.carOwn 1 path 0 0)

/-- Write one record, clearing first when SEQ has run out (R341); the path of such a clear is a free value (log
entry 10). -/
def State.carWrite (s : State) (r : CarRec) : State :=
  if s.regN Reg.EVR.NEXT_SEQ = 2 ^ 32 - 1 then
    let (k, s1) := s.fresh 1
    (s1.carClear k).carPut r
  else s.carPut r

/-- Write the next record: the LOST record of a past freeze when its turn has come, else the record that heads the
holding queue; a LOST record for a full queue joins the queue once there is room (R342, R343). -/
def State.carNext (s : State) : State :=
  if s.ev.lostMark = some 0 then
    (s.modEv fun e => { e with lostMark := none, lostFreeze := 0 }).carWrite (s.carOwn 2 s.ev.lostFreeze 1 0)
  else
    match s.ev.queue with
    | [] => s
    | r :: q =>
      let s1 := (s.modEv fun e => { e with queue := q, lostMark := e.lostMark.map (· - 1) }).carWrite r
      let s2 := if s1.ev.lostFull = 0 then s1
        else s1.modEv fun e => { e with queue := e.queue ++ [s1.carOwn 2 e.lostFull 0 0], lostFull := 0 }
      s2.put Fld.EVR.STATUS.HELD s2.ev.queue.length

/-- Write every held record (R343). -/
def State.carDrain (s : State) : Nat → State
  | 0 => s
  | n + 1 => s.carNext.carDrain n

/-- FREEZE clears: the held records may be written, then the LOST record (R343). (DEDUCED, log entry 28.) -/
def State.unfreeze (s : State) : State :=
  let s1 := (s.off Fld.EVR.CTRL.FREEZE).off Fld.EVR.STATUS.FROZEN
  if s1.ev.lostFreeze = 0 then s1 else s1.modEv fun e => { e with lostMark := some e.queue.length }

/-- Clear a freeze and write what is held, as before a core reset and in a dump (R343); before Carillon is ready
nothing can be written. -/
def State.carFlush (s : State) : State :=
  let s1 := s.unfreeze
  if s1.flag Fld.EVR.STATUS.READY then s1.carDrain 260 else s1

/-- The 32 bytes of a record as Garnet holds them (R339). -/
def carBytes (r : CarRec) : List Byte :=
  let b := leBytes 2 r.code ++ leBytes 2 (r.source % 4096 + 4096 * b2n r.fault + 8192 * b2n r.first + 16384 * b2n r.held
      + 32768 * b2n r.unsync)
    ++ leBytes 4 r.seq ++ leBytes 8 r.time ++ leBytes 4 r.p0 ++ leBytes 4 r.p1 ++ leBytes 4 r.p2
  b ++ leBytes 4 (crc32c b).toNat

/-- UNSYNC of an event now: PTP is not locked (R339). -/
def State.unsync (s : State) : Bool := !s.flag Fld.PTP.STATUS.LOCKED

/-- Make a Carillon record of the given code for a source (R340). -/
def State.record (s : State) (code src p0 p1 p2 : Nat) (fault first : Bool := false) : State :=
  s.carillon
    { code := code, source := src, fault := fault, first := first, held := false, unsync := s.unsync, seq := 0,
      time := s.ptpTime, p0 := p0, p1 := p1, p2 := p2 }
/-- First-fault capture of a rise of a fault source; answers whether the rise was latched (R327 to R329). -/
def State.capture (s : State) (n : Nat) : Bool × State :=
  if s.flag Fld.FLT.CFG.COMPAT then
    (false, s.setN (Reg.FLT.STICKY (n / 32)) (setBit (s.regN (Reg.FLT.STICKY (n / 32))) (n % 32)))
  else if s.flag Fld.FLT.FIRST.VALID then
    let s1 := s.satInc Fld.FLT.OVERFLOW.COUNT
    (false, if s1.get Fld.FLT.OVERFLOW.HIGHEST < s1.srcClass n then s1.put Fld.FLT.OVERFLOW.HIGHEST (s1.srcClass n) else s1)
  else
    let s1 := ((((s.put Fld.FLT.FIRST.SOURCE n).put Fld.FLT.FIRST.ACTIONS (s.srcActions n)).put Fld.FLT.FIRST.CLASS
      (s.srcClass n)).putB Fld.FLT.FIRST.UNSYNC (s.unsync || !s.aon.coreUp)).on Fld.FLT.FIRST.VALID
    (true, s1.wr64 Reg.FLT.FIRST_TIME_LO (if s.aon.coreUp then s.ptpTime else 0))

/-- A TOCSIN fault stops the alive wave or starts a pulse (R336 to R338); that one has risen since the core reset released is
kept in every mode, since the image that selects the mode may be applied after it. -/
def State.tocsinFault (s : State) : State :=
  let s1 := s.modAon fun a => { a with tocsinFault := true }
  match s1.get Fld.FLT.CFG.TOCSIN_MODE with
  | 1 =>
    if ¬ s1.flag Fld.FLT.STATUS.ALIVE then s1
    else if s1.flag Fld.FLT.STATUS.TOCSIN then s1.modAon fun a => { a with tocsinHold := true }
    else s1.off Fld.FLT.STATUS.ALIVE
  | 2 => if s1.flag Fld.FLT.STATUS.PULSING then s1 else (s1.on Fld.FLT.STATUS.PULSING).off Fld.FLT.STATUS.TOCSIN
  | _ => s1

/-- Everything a rise of source `n` does before the hardware reaction of its class: pending bit, first-fault capture,
TOCSIN, and the routing of R326.  `p2` is the record's source-specific parameter. -/
def State.latch1 (s : State) (n p2 : Nat) : State :=
  let cfg := s.srcCfg n
  let cls := s.srcClass n
  let was := s.srcPending n
  let v := cfg % 2048
  let due := s.vectorDue v
  let s1 := s.setN (Reg.EVC.PEND (n / 32)) (setBit (s.regN (Reg.EVC.PEND (n / 32))) (n % 32))
  let (first, s2) := if 0 < cls then s1.capture n else (false, s1)
  let s3 := if 0 < cls && bit cfg 28 then s2.tocsinFault else s2
  if was then s3
  else
    let s4 := if bit cfg 31 && !due then s3.sendVector v else s3
    let s5 := if bit cfg 29 then s4.emit (.firmware n) else s4
    if ¬ bit cfg 30 then s5
    else if 0 < cls then
      s5.record 0x10 n (cls + 256 * s5.srcActions n) (s5.get Fld.FLT.OVERFLOW.COUNT) p2 true first
    else s5.record 0x11 n 0 0 p2

/-- A rise with its routing; where that has woken the host, EPF.EVENT.WAKE is set and its own source rises (R315, R419). -/
def State.latch (s : State) (n p2 : Nat) : State :=
  let s1 := s.latch1 n p2
  if s1.flag Fld.EPF.EVENT.WAKE && !s.flag Fld.EPF.EVENT.WAKE then s1.latch1 1349 0 else s1

/-- Whether the rise of a source's condition is a rise: it was not asserted before. -/
def State.wouldRise (s : State) (n : Nat) : Bool := !s.srcAsserted n

/-- Set an EVENT bit tied to source `n`; the source rises when it was not asserted before.  No class reaction follows:
for notices, and for what happens inside a reaction. -/
def State.evLatch (s : State) (f : FieldAt) (n : Nat) (p2 : Nat := 0) : State :=
  if s.srcAsserted n then s.on f else (s.on f).latch n p2

/-- Drop the shared-bit holds whose bit has been cleared (R325). (DEDUCED, log entry 24.) -/
def State.pruneHeld (s : State) : State :=
  s.modEv fun e => { e with held := e.held.filter fun (_, r, m) => s.regN r / m % 2 = 1 }

/-- Source numbers by descending class, then rising number: the order in which rises of one cycle are captured
(R327). -/
def State.riseBefore (s : State) (a b : Nat × Nat) : Bool :=
  decide (s.srcClass b.1 < s.srcClass a.1) || (decide (s.srcClass a.1 = s.srcClass b.1) && decide (a.1 ≤ b.1))

/-- Insert a rise in its capture order. -/
def State.riseInsert (s : State) (x : Nat × Nat) : List (Nat × Nat) → List (Nat × Nat)
  | [] => [x]
  | y :: r => if s.riseBefore x y then x :: y :: r else y :: s.riseInsert x r

/-- The rises of one cycle in capture order. -/
def State.riseOrder (s : State) (l : List (Nat × Nat)) : List (Nat × Nat) := l.foldl (fun acc x => s.riseInsert x acc) []

end Sys2Proof.Machine
end

