-- ==== Sys2Proof/Machine/Pmc.lean ====
section
/-! DEFINITION. Performance counters, the command sampler and bandwidth windows (R346 to R353). -/

namespace Sys2Proof.Machine
open Sys2Proof

/-- An occurrence that counters may count: its code, how much it counts, its privilege (0 tenant, 1 management,
2 firmware), its masters by kind and value (1 host, 2 member, 3 engine, 4 port), its namespace and LBA range, its zone,
its class bit (R346, R347). -/
structure PmcEv where
  code : Nat
  n : Nat
  priv : Option Nat := none
  masters : List (Nat × Nat) := []
  lba : Option (Nat × Nat × Nat) := none
  zone : Option Nat := none
  cls : Option Nat := none

/-- The filter columns of an event code: privilege, master kinds, address, class (R346). -/
def pmcCols (code : Nat) : Bool × List Nat × Bool × Bool :=
  match code with
  | 0x02 | 0x03 | 0x04 | 0x05 | 0x06 | 0x07 => (true, [1], true, true)
  | 0x08 | 0x09 | 0x0A => (true, [1, 2], true, true)
  | 0x0B => (false, [2], true, false)
  | 0x0C => (true, [1], true, false)
  | 0x0D | 0x0E | 0x0F | 0x14 => (false, [1, 4], false, false)
  | 0x10 => (true, [], false, false)
  | 0x11 | 0x12 | 0x13 => (false, [4], false, true)
  | 0x15 | 0x16 => (true, [3], false, false)
  | 0x17 => (true, [2], false, true)
  | _ => (false, [], false, false)

/-- The counter at an index; one never configured counts nothing. -/
def State.ctr (s : State) (i : Nat) : Ctr := tgetD s.pmc.ctrs i ⟨0, 0, 0, 0, 0, 0, false⟩

/-- Change the PMC part. -/
def State.modPmc (s : State) (f : Pmc → Pmc) : State := { s with pmc := f s.pmc }

/-- Set a counter. -/
def State.setCtr (s : State) (i : Nat) (c : Ctr) : State :=
  s.modPmc fun p => { p with ctrs := tputD p.ctrs i c ⟨0, 0, 0, 0, 0, 0, false⟩ }

/-- The counter's filter sets a dimension its event does not carry, so that it counts nothing (R347). -/
def Ctr.void (c : Ctr) : Bool :=
  let (p, ms, a, k) := pmcCols (c.cfg % 256)
  let kind := bits c.master 16 3
  (!p && bits c.cfg 24 3 != 0) || (kind != 0 && !decide (kind ∈ ms)) || (!a && bits c.addr 16 2 != 0)
    || (!k && bits c.cfg 16 8 != 0)

/-- An occurrence passes the filter of a counter (R347), whatever the counter's event code. -/
def Ctr.passes (c : Ctr) (e : PmcEv) : Bool :=
  let pm := bits c.cfg 24 3
  let km := bits c.cfg 16 8
  let kind := bits c.master 16 3
  let ak := bits c.addr 16 2
  (pm == 0 || (match e.priv with | some p => bit pm p | none => false))
    && (kind == 0 || decide ((kind, c.master % 1024) ∈ e.masters))
    && (ak == 0
      || (ak == 1 && (match e.lba with
        | some (ns, lo, hi) => decide (ns = c.addr % 2048) && decide (lo ≤ c.last) && decide (c.first ≤ hi)
        | none => false))
      || (ak == 2 && (match e.zone with
        | some z => decide (c.first ≤ z) && decide (z ≤ c.last)
        | none => false)))
    && (km == 0 || (match e.cls with | some k => bit km k | none => false))

/-- Count an occurrence on one counter; a wrap sets OVF and raises PMC_OVERFLOW (R346). -/
def State.countOn (s : State) (e : PmcEv) (i : Nat) : State :=
  let c := s.ctr i
  if bit c.cfg 31 ∧ c.cfg % 256 = e.code ∧ ¬ c.void ∧ c.passes e then
    let v := c.val + e.n
    if v < 2 ^ 64 then s.setCtr i { c with val := v }
    else
      let a := Reg.PMC.OVF (i / 32)
      let s1 := (s.setCtr i { c with val := v % 2 ^ 64, ovf := true }).setN a (setBit (s.regN a) (i % 32))
      s1.evLatch Fld.PMC.EVENT.OVERFLOW 96
  else s

/-- Count an occurrence on every counter that runs (R346). -/
def State.count (s : State) (e : PmcEv) : State :=
  if s.flag ⟨Reg.PMC.CTRL, 0, 1⟩ then (s.pmc.ctrs.map (·.1)).foldl (fun s i => s.countOn e i) s else s

/-- Add received and transmitted bytes of a port to the running window (R353). -/
def State.bwAdd (s : State) (port rx tx : Nat) : State :=
  s.modPmc fun p =>
    let (a, b) := tgetD p.bwNow port (0, 0)
    { p with bwNow := tputD p.bwNow port (a + rx, b + tx) (0, 0) }

/-- Clear counter `i` and its OVF bit (R349). -/
def State.ctrClear (s : State) (i : Nat) : State :=
  let a := Reg.PMC.OVF (i / 32)
  (s.setCtr i { s.ctr i with val := 0, ovf := false }).setN a (clrBit (s.regN a) (i % 32))

/-- COUNTER_CLEAR_SEL (R349): the counter PMC.CSEL addresses. -/
def execCounterClearSel (s : State) : Host.Outcome State Fault Refusal :=
  if ¬ s.aon.coreUp then .next s else
  .next (s.ctrClear (s.regN Reg.PMC.CSEL % 256))

/-- Every counter and every OVF bit clears (R349). -/
def State.ctrClearAll (s : State) : State := (List.range 256).foldl State.ctrClear s

/-- COUNTER_CLEAR_ALL (R349). -/
def execCounterClearAll (s : State) : Host.Outcome State Fault Refusal :=
  if ¬ s.aon.coreUp then .next s else
  .next s.ctrClearAll

/-- BW_WINDOW_END (R353): every port's counts are latched at one instant; BW_SEQ counts.  The first multiple of a new WINDOW starts
its first window, and what ran before is discarded (DEDUCED, log entry 191). -/
def execBwWindowEnd (s : State) : Host.Outcome State Fault Refusal :=
  if ¬ s.aon.coreUp then .next s else
  if s.pmc.bwFresh then .next (s.modPmc fun p => { p with bwNow := [], bwFresh := false }) else
  let s1 := s.modPmc fun p => { p with bwLast := p.bwNow, bwNow := [] }
  .next ((s1.setN Reg.PMC.BW_SEQ ((s1.regN Reg.PMC.BW_SEQ + 1) % 2 ^ 32)).evLatch ⟨Reg.PMC.EVENT, 2, 1⟩ 98)

/-- What a sample record shows of a completed command (R351). -/
structure Sample where
  cid : Nat
  qid : Nat
  host : Nat
  nsid : Nat
  opcode : Nat
  cls : Nat
  waited : Bool
  recon : Bool
  /-- SCT in [10:8], SC in [7:0]; Do Not Retry. -/
  status : Nat
  dnr : Bool
  blocks : Nat
  slba : Nat
  arrival : Nat
  queueNs : Nat
  memberNs : Nat
  egressNs : Nat
  cntlid : Nat

/-- The 64 bytes of a sample record (R351). -/
def sampleBytes (x : Sample) (seq : Nat) : List Byte :=
  let sat (v : Nat) : Nat := if v < 2 ^ 32 then v else 2 ^ 32 - 1
  let anySat := decide (2 ^ 32 ≤ x.queueNs) || decide (2 ^ 32 ≤ x.memberNs) || decide (2 ^ 32 ≤ x.egressNs)
  let b := leBytes 2 x.cid ++ leBytes 2 x.qid ++ leBytes 2 (x.host % 1024) ++ leBytes 2 (x.nsid % 2048)
    ++ leBytes 1 x.opcode ++ leBytes 1 (x.cls % 8 + 8 * b2n x.waited + 16 * b2n x.recon + 32 * b2n anySat)
    ++ leBytes 2 (x.status % 2048 * 2 + 32768 * b2n x.dnr) ++ leBytes 4 (x.blocks - 1) ++ leBytes 8 x.slba
    ++ leBytes 8 x.arrival ++ leBytes 4 (sat x.queueNs) ++ leBytes 4 (sat x.memberNs) ++ leBytes 4 (sat x.egressNs)
    ++ leBytes 2 x.cntlid ++ leBytes 2 0 ++ leBytes 8 seq ++ leBytes 4 0
  b ++ leBytes 4 (crc32c b).toNat

/-- Write a sample to the ring, or lose it when the ring is full (R351). -/
def State.sampleWrite (s : State) (x : Sample) (seq : Nat) : State :=
  let recs := s.get Fld.PMC.SMP_RECORDS.V
  let head := s.get Fld.PMC.SMP_HEAD.V
  let next := if recs ≤ head + 1 then 0 else head + 1
  if next = s.get Fld.PMC.SMP_TAIL.V then (s.satInc Fld.PMC.SMP_LOST.V).evLatch Fld.PMC.EVENT.SMP_LOST 97
  else (s.dramWrite (s.rd64 Reg.PMC.SMP_BASE_LO + 64 * head) (sampleBytes x seq)).put Fld.PMC.SMP_HEAD.V next

/-- COMMAND_SAMPLE (R350): count a completed I/O command and sample every Nth. -/
def State.sample (s : State) (x : Sample) (e : PmcEv) : State :=
  if ¬ s.flag Fld.PMC.SMP_CFG.EN ∨ (s.flag Fld.PMC.SMP_CFG.USE_FILTER
      ∧ ¬ (s.ctr (s.get Fld.PMC.SMP_CFG.FILTER_CTR)).passes e) then s
  else
    let n := s.get Fld.PMC.SMP_N.V + 1
    let s1 := s.add64 Reg.PMC.SMP_SEEN_LO 1
    if s1.pmc.smpCount + 1 < n then s1.modPmc fun p => { p with smpCount := p.smpCount + 1 }
    else
      let s2 := s1.modPmc fun p => { p with smpCount := 0, smpTaken := p.smpTaken + 1 }
      s2.sampleWrite x (s2.pmc.smpTaken * n)

end Sys2Proof.Machine
end

