-- ==== Sys2Proof/Machine/DmaOps.lean ====
section
/-! DEFINITION. The DMA engine's write side at the level a halt needs it: a burst written to its destination, the
write-back of a descriptor, a channel entering a state (R233, R240, R245, R247). -/

namespace Sys2Proof.Machine
open Sys2Proof

/-- Channel `n`. -/
def State.dmaCh (s : State) (n : Nat) : DmaCh := s.dma.chans.getD n DmaCh.idle
/-- Change channel `n`. -/
def State.modDma (s : State) (n : Nat) (f : DmaCh → DmaCh) : State :=
  s.modDmac fun d => { d with chans := d.chans.modify n f }
/-- The state shown for channel `n`: 0 Idle, 1 Fetching, 2 Barrier wait, 3 Active, 4 Waiting for peripheral, 5 Idle at
end, 6 Refetching tail or Stopping, 7 Error. -/
def State.dmaSt (s : State) (n : Nat) : Nat := s.get (Fld.DMA_C.STATUS.STATE n)

/-- Move channel `n` to a state; DMA.STATUS and DMA.ERR_CHANNELS follow (R251). -/
def State.setDma (s : State) (n st : Nat) : State :=
  let s1 := s.put (Fld.DMA_C.STATUS.STATE n) st
  let s2 := s1.setN Reg.DMA.STATUS (putBit (s1.regN Reg.DMA.STATUS) n (st ≠ 0))
  s2.setN Reg.DMA.ERR_CHANNELS (putBit (s2.regN Reg.DMA.ERR_CHANNELS) n (st = 7))

/-- Write one burst of a descriptor to its destination (R233, R237). -/
def State.dmaPut (s : State) (n : Nat) (j : Job) (b : List Byte) : State :=
  let s1 := if j.d.dspace = 0 then s.dramWrite (j.d.dst + j.written) b
    else (s.emit (.dma n j.d.dspace (if j.d.dspace = 2 then j.d.line else j.d.dst + j.written) b)).bwAdd 56 0
      (if j.d.dspace = 1 then b.length else 0)
  (s1.add64 Reg.DMA.BYTES_LO b.length).count
    { code := 0x15, n := b.length, priv := some (if n < 8 then 2 else 1), masters := [(3, n)] }

/-- Write STATUS and COMPLETED back into a descriptor, and nothing else (R236, R240). -/
def State.dmaBack (s : State) (j : Job) (code : Nat) : State :=
  s.dramWrite (j.addr + 52) (leBytes 4 (2 ^ 31 + code) ++ leBytes 4 j.written)

/-- Bytes of the share in use (DMA_Cn.BUF_USE). -/
def State.dmaShare (s : State) (n : Nat) : Nat := (((s.dmaCh n).bursts.map fun b => b.2.length).foldl (· + ·) 0)

/-- Change the first descriptor of a list that meets a condition. -/
def modJob (p : Job → Bool) (f : Job → Job) : List Job → List Job
  | [] => []
  | j :: r => if p j then f j :: r else j :: modJob p f r

/-- A descriptor has bursts still to write.  The oldest burst of a share belongs to the first such descriptor, since each
channel carries out its descriptors in chain order (R232), one that stands in the chain twice included. -/
def Job.writing (j : Job) : Bool := decide (j.written ≠ j.issued)

/-- The descriptor of the channel's oldest burst. -/
def State.dmaWriting (s : State) (n : Nat) : Option Job := (s.dmaCh n).jobs.find? Job.writing

/-- Take the oldest burst of channel `n` out of its share and write it (R233). -/
def State.dmaWrite1 (s : State) (n : Nat) : State :=
  match (s.dmaCh n).bursts with
  | [] => s
  | (_, b) :: r =>
    let s1 := s.modDma n fun c => { c with bursts := r }
    let s2 := match s.dmaWriting n with
      | none => s1
      | some j => (s1.dmaPut n j b).modDma n fun c : DmaCh =>
          { c with jobs := modJob Job.writing (fun k => { k with written := k.written + b.length }) c.jobs }
    s2.put (Fld.DMA_C.BUF_USE.V n) (s2.dmaShare n)

/-- Write out every burst the channel's share holds. -/
def State.dmaDrain (s : State) (n : Nat) : Nat → State
  | 0 => s
  | k + 1 => (s.dmaWrite1 n).dmaDrain n k

/-- Write back every descriptor of the list with a code, but one that could not be used itself (R245). -/
def State.dmaBackAll (s : State) (code : Nat) (l : List Job) : State :=
  l.foldl (fun s j => if j.code = some 0x10 ∨ j.code = some 0x11 then s else s.dmaBack j code) s

/-- Release a request line that channel `n` holds (R243, R247); STATUS shows one that it holds still. -/
def State.dmaUnclaim (s : State) (n line : Nat) : State :=
  let s1 := (s.setN Reg.DMA.LINES (clrBit (s.regN Reg.DMA.LINES) (16 + line))).modDmac fun d =>
    { d with owner := d.owner.filter fun p => p.1 ≠ line, finals := tdel d.finals line }
  match s1.dma.owner.find? fun p => p.2 = n with
  | some p => s1.put (Fld.DMA_C.STATUS.LINE n) p.1
  | none => s1.off (Fld.DMA_C.STATUS.CLAIMED n)

end Sys2Proof.Machine
end

