-- ==== Sys2Proof/Machine/Shelf.lean ====
section
/-! DEFINITION. Slot-power channels and drive ports at the level the reactions need: state changes with their counts
(R294), withdrawal of power-good (R297, R270), a port going Off (R272), and the shelf-stop's effect on each channel
(R306). -/

namespace Sys2Proof.Machine
open Sys2Proof

/-- Encodings of SLP_Cn.STATUS.STATE (R294). -/
abbrev chOff : Nat := 0
/-- Queued. -/
abbrev chQueued : Nat := 1
/-- Ramping. -/
abbrev chRamping : Nat := 2
/-- On. -/
abbrev chOn : Nat := 3
/-- Overload. -/
abbrev chOverload : Nat := 4
/-- Back-off. -/
abbrev chBackoff : Nat := 5
/-- Latched. -/
abbrev chLatched : Nat := 6
/-- Shutting down. -/
abbrev chShut : Nat := 7
/-- Minimum off. -/
abbrev chMinOff : Nat := 8

/-- Encodings of DRP_Pn.STATUS.STATE (R272). -/
abbrev ptOff : Nat := 0
/-- Powering. -/
abbrev ptPowering : Nat := 1
/-- Reset. -/
abbrev ptReset : Nat := 2
/-- Training. -/
abbrev ptTraining : Nat := 3
/-- Configuring. -/
abbrev ptConfiguring : Nat := 4
/-- Up. -/
abbrev ptUp : Nat := 5
/-- Recovering. -/
abbrev ptRecovering : Nat := 6
/-- Quiescing. -/
abbrev ptQuiescing : Nat := 7

/-- The state of channel `n`. -/
def State.ch (s : State) (n : Nat) : Nat := s.get (Fld.SLP_C.STATUS.STATE n)
/-- The state of port `n`. -/
def State.pt (s : State) (n : Nat) : Nat := s.get (Fld.DRP_P.STATUS.STATE n)

/-- How many of the 48 channels are in a state. -/
def State.chCount (s : State) (st : Nat) : Nat := ((List.range 48).filter fun n => s.ch n = st).length

/-- Move channel `n` to a state: the counts of SLP.STATUS, the LATCHED set and the gate follow (R294). -/
def State.setCh (s : State) (n st : Nat) : State :=
  let s1 := s.put (Fld.SLP_C.STATUS.STATE n) st
  let s2 := (s1.put Fld.SLP.STATUS.QUEUED (s1.chCount chQueued)).put Fld.SLP.STATUS.RAMPING (s1.chCount chRamping)
  let s3 := (s2.put Fld.SLP.STATUS.LATCHED (s2.chCount chLatched)).putBit64 Reg.SLP.LATCHED_LO n (st = chLatched)
  s3.modAon fun a =>
    { a with slotGates := putBit a.slotGates n (st = chRamping ∨ st = chOn ∨ st = chOverload) }

/-- The event source of channel `n` with the given index (R323). -/
def slpSrc (n i : Nat) : Nat := 832 + 8 * n + i
/-- The event source of port `n` with the given index. -/
def drpSrc (n i : Nat) : Nat := 544 + 6 * n + i

/-- End the member commands and queued requests of port `n` inside the part with port-down status (R272): they wait in
`downReqs` until they are acted on.  Quarantined tags stay quarantined. -/
def State.endRequests (s : State) (n : Nat) : State :=
  let p := s.port n
  let live := p.tags.filterMap fun (_, t) => if t.quarantined then none else some t.req
  let s1 := (s.modMb fun m => { m with downReqs := m.downReqs ++ live ++ p.reqs }).modPort n fun p =>
    { p with reqs := [], tags := p.tags.filter fun (_, t) => t.quarantined }
  s1.put (Fld.DRP_P.TAGS.LIVE n) 0

/-- Drive SLn_PERST_N. -/
def State.perst (s : State) (n : Nat) (high : Bool) : State :=
  s.modAon fun a => { a with slotPerst := putBit a.slotPerst n high }

/-- Port `n` leaves Up, or goes on from another state, without being Up any more: its UP bit clears and its requests
end; a port that goes to Quiescing from Up shuts its controller down first (R109, R272). -/
def State.portLeave (s : State) (n st : Nat) : State :=
  let s1 := if st = ptQuiescing ∧ s.pt n = ptUp then s.emit (.member n 0 0x14 0 0 []) else s
  ((s1.endRequests n).put (Fld.DRP_P.STATUS.STATE n) st).putBit64 Reg.DRP.UP_LO n false

/-- A configuration access in flight at a port that goes Off ends with RESULT 5 (R287, DRP_Pn.CFG_STATUS). -/
def State.cfgAbandon (s : State) (n : Nat) : State :=
  if s.flag (Fld.DRP_P.CFG_STATUS.BUSY n) then
    ((s.off (Fld.DRP_P.CFG_STATUS.BUSY n)).put (Fld.DRP_P.CFG_STATUS.RESULT n) 5).modPort n fun p => { p with cfgOp := 0 }
  else s

/-- Port `n` goes Off: no link, PERST_N low within 1 µs (R270, R272). -/
def State.portOff (s : State) (n : Nat) : State :=
  let s1 := ((s.portLeave n ptOff).put (Fld.DRP_P.STATUS.SPEED n) 0).put (Fld.DRP_P.STATUS.WIDTH n) 0
  (s1.cfgAbandon n).perst n false

/-- Port `n` goes Off otherwise than by plan: presence lost or power-good withdrawn (R272).  A wake in progress goes on
(R299). -/
def State.portDrop (s : State) (n : Nat) : State :=
  if s.pt n = ptOff then s.perst n false else s.portOff n

/-- Withdraw the power-good of channel `n`, if it is given (R297): STATUS.PG, SLP.PG_SET, PG_LOST, and the drive port (R270,
R272); a port in Powering stays there through a retry (R299). -/
def State.pgLost (s : State) (n : Nat) : State :=
  if s.flag (Fld.SLP_C.STATUS.PG n) then
    let s1 := (s.off (Fld.SLP_C.STATUS.PG n)).putBit64 Reg.SLP.PG_SET_LO n false
    let s2 := (s1.dec Fld.SLP.STATUS.ON).evLatch (Fld.SLP_C.EVENT.PG_LOST n) (slpSrc n 3)
    s2.portDrop n
  else s

/-- Give power-good on channel `n` (R297). -/
def State.pgGive (s : State) (n : Nat) : State :=
  if s.flag (Fld.SLP_C.STATUS.PG n) then s
  else
    let s1 := (s.on (Fld.SLP_C.STATUS.PG n)).putBit64 Reg.SLP.PG_SET_LO n true
    let s2 := s1.inc Fld.SLP.STATUS.ON
    s2.evLatch (Fld.SLP_C.EVENT.PG_GIVEN n) (slpSrc n 2)

/-- The shelf-stop row of R294 for channel `n` (R306). -/
def State.stopCh (s : State) (n : Nat) : State :=
  let st := s.ch n
  if st = chQueued then (s.setCh n chOff).put (Fld.SLP_C.STATUS.CAUSE n) 6
  else if st = chRamping ∨ st = chOn ∨ st = chOverload ∨ st = chShut then
    let s1 := ((s.setCh n chMinOff).put (Fld.SLP_C.STATUS.CAUSE n) 6).modChan n fun c => { c with bad := 0 }
    ((s1.off (Fld.SLP_C.STATUS.LIMITING n)).pgLost n).portDrop n
  else if st = chBackoff then (s.setCh n chMinOff).put (Fld.SLP_C.STATUS.CAUSE n) 6
  else s

/-- Stop the channels below `n`. -/
def State.stopChans (s : State) : Nat → State
  | 0 => s
  | n + 1 => (s.stopChans n).stopCh n

/-- Shelf-stop for the reason of bit `why` (R306): every slot gate and both feed gates low; SHELF_STOP is set and
SLP_SHELF_STOP rises when the stop begins. (DEDUCED, log entry 29.) -/
def State.shelfStop0 (s : State) (why : Nat) : State :=
  let began := !s.flag Fld.SLP.STATUS.SHELF_STOPPED
  let s1 := s.modMb fun m => { m with stopWhy := setBit m.stopWhy why }
  let s2 := (s1.stopChans 48).modAon fun a => { a with slotGates := 0, feedGates := 0 }
  if began then (s2.on Fld.SLP.STATUS.SHELF_STOPPED).evLatch Fld.SLP.EVENT.SHELF_STOP 1216 else s2

/-- The demand of channel `n` counts now (R294). -/
def State.demandCounts (s : State) (n : Nat) : Bool :=
  (s.chan n).demand && !s.flag (Fld.SLP_C.CTRL.FORCE_OFF n) && !s.flag Fld.SLP.STATUS.SHELF_STOPPED
    && s.get Fld.SLP.FEED_STATUS.SELECTED != 0

/-- Channel `n` enters Queued, behind those already there (R295). -/
def State.enqueueCh (s : State) (n : Nat) : State :=
  let s1 := s.modMb fun m => { m with queueSeq := m.queueSeq + 1 }
  ((s1.modChan n fun c => { c with order := s1.mb.queueSeq }).setCh n chQueued).off (Fld.SLP_C.STATUS.PENDING n)

/-- Off channels whose demand counts enter Queued, lowest slot first (R294, R306). -/
def State.queueDemands (s : State) : Nat → State
  | 0 => s
  | n + 1 =>
    let s1 := s.queueDemands n
    if s1.ch n = chOff ∧ s1.demandCounts n then s1.enqueueCh n else s1

end Sys2Proof.Machine
end

