-- ==== Sys2Proof/Machine/Reactions.lean ====
section
/-! DEFINITION. The hardware reactions of classes A and B (R330 to R333), and `raise`: a source rises and its reaction
is carried out. -/

namespace Sys2Proof.Machine
open Sys2Proof

/-- A source rises; of the reactions only the shelf-stop of a configurable source set to class A is carried out.  For
events that occur inside another reaction. -/
def State.raiseS (s : State) (n : Nat) (p2 : Nat := 0) : State :=
  let s1 := s.latch n p2
  if srcConfigurable n && s.srcClass n = 4 then s1.shelfStop0 3 else s1

/-- Set an EVENT bit inside a reaction. -/
def State.evS (s : State) (f : FieldAt) (n : Nat) (p2 : Nat := 0) : State :=
  if s.srcAsserted n then s.on f else (s.on f).raiseS n p2

/-- End the self-test in progress with a result code (R67): the log of 20 results and the events. -/
def State.selftestEnd (s : State) (code : Nat) : State :=
  let op := s.get Fld.NVQ.SELFTEST.OP
  if op = 0 then s
  else
    let r : StResult := ⟨op, s.get Fld.NVQ.SELFTEST.SEGMENT, code, s.fr.stNsid⟩
    let s1 := s.modFr fun f => { f with stLog := (r :: f.stLog).take 20, stNsid := 0 }
    let s2 := s1.setN Reg.NVQ.SELFTEST 0
    let s3 := (s2.modMb fun m => if m.scrubSelf then { m with scrubSelf := false, scrubOn := false, scrubLost := false } else m).evS
      Fld.NVQ.EVENT.SELFTEST_DONE 290
    if code = 0 then s3 else s3.evS Fld.NVQ.EVENT.SELFTEST_FAILED 291

/-- Shelf-stop, a class A reaction (R306, R330). -/
def State.shelfStop (s : State) (why : Nat) : State := (s.shelfStop0 why).selftestEnd 5

/-- The import under way ends with a code (R263): the staged bytes are cleared. -/
def State.importEnd (s : State) (code : Nat) : State :=
  let s1 := s.modKeys fun k => { k with imp := none }
  let s2 := (List.range 18).foldl (fun s m => s.setN (Reg.KEY.IMP_DATA m) 0) s1
  let s3 := (List.range 24).foldl (fun s m => s.setN (Reg.KEY.EPHEM m) 0) s2
  (s3.put Fld.KEY.IMP_RESULT.CODE code).off Fld.KEY.IMP_RESULT.BUSY

/-- Empty every key slot and every copy of its keys at once (R264, R266): an import in progress ends with code 8. -/
def State.zeroiseAll (s : State) : State :=
  let s1 := if s.keys.imp.isSome then (s.importEnd 8).evS Fld.KEY.EVENT.IMPORT_FAILED 1329 else s
  ((s1.modKeys fun k => { k with slots := [], waiting := [] }).put Fld.KEY.STATUS.USED 0).evS
    Fld.KEY.EVENT.TAMPER_ZEROISED 1331

/-- The member write pipeline halts (R330, R332): no completion, no journal record, no new member command. -/
def State.mwHalt (s : State) : State := s.on Fld.FLT.STATUS.HALTED

/-- Channel `n` halts: granted bursts complete, each running descriptor is written back with HALTED, and the channel
enters Error (R247).  A channel in Error, or one that is Idle or Idle at end with nothing left to write, runs no
descriptor. -/
def State.dmaHalt1 (s : State) (n : Nat) : State :=
  let st := s.dmaSt n
  if ((st = 0 ∨ st = 5) ∧ (s.dmaCh n).jobs = []) ∨ st = 7 then s
  else
    let s1 := s.dmaDrain n ((s.dmaCh n).bursts.length)
    let s2 := s1.dmaBackAll 0x3F (s1.dmaCh n).jobs
    let s3 := ((s2.modDma n fun c => { c with jobs := [], bursts := [], fetch := none, stopping := false }).setDma n 7).put
      (Fld.DMA_C.STATUS.CODE n) 0x3F
    (((s3.put (Fld.DMA_C.BUF_USE.V n) 0).evS (Fld.DMA_C.EVENT.ERROR n) (1233 + 2 * n)).evS Fld.DMA.EVENT.CH_ERROR
      1296).evS Fld.DMA.EVENT.HALTED 1298

/-- Halt the channels below `n`. -/
def State.dmaHalt (s : State) : Nat → State
  | 0 => s
  | n + 1 => (s.dmaHalt n).dmaHalt1 n

/-- The data path halts (R266, R267, R330): member writes, the DMA engine, the cipher and the mirror. -/
def State.dpHalt (s : State) : State :=
  (((s.mwHalt.on Fld.AES.STATUS.HALTED).evS Fld.AES.EVENT.TAMPER_HALT 1318).dmaHalt 32)

/-- A slot as it is written to Garnet (R88, R89): of one being recomputed, no block is folded again yet. -/
def Slot.dumped (x : Slot) : Slot :=
  if x.st = 3 then { x with st := 4, folded := 0, p := [], q := [], pm := [], qm := [] } else { x with st := 4 }

/-- Start the dump (R127 steps 4 to 6): the slots are Dumped, unless a dump is pending already (R129), and the frozen records
of Carillon are written (R343). -/
def State.dumpStart (s : State) : State :=
  let s1 := (s.modAon fun a => { a with dumpPhase := 2 }).unfreeze
  if s1.flag Fld.GNT.STATUS.DUMP_PENDING then s1 else s1.setSlots ((s1.slots.filter fun e => !e.2.freeing).map fun e =>
    (e.1, e.2.dumped))

/-- The class B reaction (R330, R333): SerDes squelched, the DMA engine halted (R245, R247) and the dump of R127 from step 3.  After the loss of the root
PLL's lock the dump waits for the lock. A pending dump that replay has not consumed is never overwritten: then the
sequence runs without a dump (R129). -/
def State.classB (s : State) (src : Nat) : State :=
  if s.aon.dumpPhase ≠ 0 ∨ ¬ s.aon.coreUp then s
  else
    let s1 := (s.modAon fun a => { a with squelched := true }).dmaHalt 32
    if src = 16 then s1.modAon fun a => { a with dumpPhase := 1 } else s1.dumpStart

/-- A source rises, and the part reacts according to its class (R326, R327, R330). (DEDUCED, log entry 23.) -/
def State.raise (s : State) (n : Nat) (p2 : Nat := 0) : State :=
  let act := s.srcActions n
  let cls := s.srcClass n
  let s1 := s.latch n p2
  let s2 := if bit act 1 then s1.shelfStop 3 else s1
  let s3 := if bit act 2 then s2.zeroiseAll else s2
  let s4 := if bit act 4 then s3.dpHalt else if bit act 3 then s3.mwHalt else s3
  let s5 := if cls = 3 then s4.classB n else s4
  if 3 ≤ cls then s5.selftestEnd 5 else s5

/-- Several sources rise in one cycle: the highest class first, then the lowest number (R327). -/
def State.raiseAll (s : State) (l : List (Nat × Nat)) : State :=
  (s.riseOrder l).foldl (fun s x => s.raise x.1 x.2) s

/-- Set an EVENT bit tied to source `n`; the source rises when it was not asserted before (R325). -/
def State.event (s : State) (f : FieldAt) (n : Nat) (p2 : Nat := 0) : State :=
  if s.srcAsserted n then s.on f else (s.on f).raise n p2

/-- Set a device-wide EVENT bit on behalf of an instance's source, which rises whether or not the bit was set and stays
asserted until the bit is cleared (R325). -/
def State.eventHeld (s : State) (f : FieldAt) (n : Nat) (p2 : Nat := 0) : State :=
  let was := s.srcAsserted n
  let s1 := (s.on f).modEv fun e => { e with held := e.held.filter (· ≠ (n, f.reg, 2 ^ f.lo)) ++ [(n, f.reg, 2 ^ f.lo)] }
  if was then s1 else s1.raise n p2

/-- The condition of a source mapped to no bit begins; it rises when it was not asserted (R325). -/
def State.condOn (s : State) (n : Nat) (p2 : Nat := 0) : State :=
  let s1 := s.modEv fun e => { e with conds := addNew e.conds n }
  if s.srcAsserted n then s1 else s1.raise n p2

/-- The condition of a source mapped to no bit ends. -/
def State.condOff (s : State) (n : Nat) : State := s.modEv fun e => { e with conds := dropEl e.conds n }

/-- A detail record of R340 for an occurrence, whatever the routing of its source. -/
def State.detail (s : State) (code src p0 p1 p2 : Nat) : State :=
  s.record code src p0 p1 p2 (decide (s.srcClass src ≠ 0)) false

end Sys2Proof.Machine
end

