-- ==== Sys2Proof/Machine/Placement.lean ====
section
/-! DEFINITION. The layout in force: where a block lies (R69 to R75), and the translation probe. -/

namespace Sys2Proof.Machine
open Sys2Proof

/-- Data positions of a stripe, k = W − 2 (R69). -/
def Layout.k (l : Layout) : Nat := l.width - 2

/-- Row of stripe `s` (R72). -/
def Layout.row (l : Layout) (s : Nat) : List Nat := l.rows.getD (if l.rows.length = 0 then 0 else s % l.rows.length) []

/-- Column of position `p` of stripe `s` (R72). -/
def Layout.colAt (l : Layout) (s p : Nat) : Nat := (l.row s).getD p 63

/-- Position of column `c` in stripe `s`, if it holds one. -/
def Layout.posOf (l : Layout) (s c : Nat) : Option Nat := (List.range l.width).find? fun p => l.colAt s p == c

/-- Times column `c` appears in the rows before `r` (R73). -/
def Layout.rank (l : Layout) (r c : Nat) : Nat := ((l.rows.take r).filter fun w => decide (c ∈ w)).length

/-- Member strip index of stripe `s` on column `c` (R73). -/
def Layout.index (l : Layout) (s c : Nat) : Nat :=
  s / l.rows.length * l.appear + l.rank (s % l.rows.length) c

/-- Slot of a column (STR.COLMAP). -/
def Layout.slotOf (l : Layout) (c : Nat) : Nat := l.colmap.getD c 63

/-- The layout in force; one without rows when none is. -/
def State.layout (s : State) : Layout := s.lay.getD ⟨0, 0, 0, 0, 0, 0, 0, 0, [], []⟩

/-- The column that STR.COLMAP maps to a slot. -/
def State.colOfSlot (s : State) (n : Nat) : Option Nat :=
  (List.range s.layout.columns).find? fun c => s.layout.slotOf c == n

/-- The slot of column `c`. -/
def State.slotOfCol (s : State) (c : Nat) : Nat := s.layout.slotOf c

/-- The columns of the layout. -/
def State.columns (s : State) : List Nat := List.range s.layout.columns

/-- Stripes of each zone (R31). -/
def State.spz (s : State) : Nat := s.get Fld.ZMP.ZONE_GEOM.STRIPES_PER_ZONE

/-- Zone size in blocks: 256 MiB, doubled per code (R31). -/
def State.zoneBlocks (s : State) : Nat := 65536 * 2 ^ s.get Fld.ZMP.ZONE_GEOM.ZONE_SIZE

/-- Data blocks of a stripe. -/
def State.stripeBlocks (s : State) : Nat := 16 * s.layout.k

/-- Zone capacity in blocks (R31). -/
def State.zoneCap (s : State) : Nat := s.spz * s.stripeBlocks

/-- The zone a stripe belongs to. -/
def State.zoneOfStripe (s : State) (n : Nat) : Nat := if s.spz = 0 then 0 else n / s.spz

/-- The stripe, position and block of offset `o` in zone `z` (R31, R69). -/
def State.place (s : State) (z o : Nat) : Nat × Nat × Nat :=
  let sb := if s.stripeBlocks = 0 then 1 else s.stripeBlocks
  (z * s.spz + o / sb, o % sb / 16, o % 16)

/-- Zone map entry of zone `z`; a zone never touched is Empty at the base generation. -/
def State.zone (s : State) (z : Nat) : Zone := tgetD s.tb.zones z ⟨1, false, false, 0, s.tb.baseGen, 0, 0, 0, 0, 0, false⟩

/-- Set a zone map entry. -/
def State.setZone (s : State) (z : Nat) (x : Zone) : State := s.modTb fun t => { t with zones := tput t.zones z x }

/-- Change a zone map entry. -/
def State.modZone (s : State) (z : Nat) (f : Zone → Zone) : State := s.setZone z (f (s.zone z))

/-- Zone state codes of the Zoned Namespace command set: 1 Empty, 2 Implicitly Opened, 3 Explicitly Opened, 4 Closed,
13 Read Only, 14 Full, 15 Offline (R33). -/
def zActive (st : Nat) : Bool := st == 2 || st == 3 || st == 4

/-- Write pointer of a zone as a count of data blocks: capacity when Full. -/
def State.zoneWp (s : State) (z : Nat) : Nat := if (s.zone z).st = 14 then s.zoneCap else (s.zone z).wp

/-- STR_PROBE (R73): a write of STR.PROBE_POS starts the translation of STR.PROBE_STRIPE. -/
def State.strProbe (s : State) (pos : Nat) : State :=
  let l := s.layout
  let n := s.rd64 Reg.STR.PROBE_STRIPE_LO % 2 ^ 40
  let s1 := s.put Fld.STR.PROBE_POS.V pos
  let p := pos % 32
  if s.lay.isNone ∨ l.stripes ≤ n ∨ l.width ≤ p then
    (((s1.setN Reg.STR.PROBE_RESULT 0).on Fld.STR.PROBE_RESULT.DONE).on Fld.STR.PROBE_RESULT.ERROR).wr64 Reg.STR.PROBE_INDEX_LO 0
  else
    let c := l.colAt n p
    let s2 := ((s1.setN Reg.STR.PROBE_RESULT 0).put Fld.STR.PROBE_RESULT.ROW (n % l.rows.length)).put
      Fld.STR.PROBE_RESULT.COLUMN c
    ((s2.put Fld.STR.PROBE_RESULT.SLOT (l.slotOf c)).on Fld.STR.PROBE_RESULT.DONE).wr64 Reg.STR.PROBE_INDEX_LO (l.index n c)

/-- STR_PROBE (R73). -/
def execStrProbe (pos : Nat) (s : State) : Host.Outcome State Fault Refusal :=
  if ¬ s.aon.coreUp then .next s else
  .next (s.strProbe pos)

end Sys2Proof.Machine
end

