-- ==== Sys2Proof/Machine/Blocks.lean ====
section
/-! DEFINITION. Stored blocks: seals and their checks (R78 to R83), folding (R85), recovery (R76, R77, R92), and the
cipher of the storage lane (R254). -/

namespace Sys2Proof.Machine
open Sys2Proof

/-- The 24 bytes of a location seal (R79). -/
def sealBytes (x : Seal) : List Byte :=
  leBytes 2 x.member ++ leBytes 5 x.stripe ++ leBytes 1 (x.pos % 32 + 32 * (x.kind % 4) + 128 * b2n x.rsvd7)
    ++ leBytes 1 (x.block % 16 + 16 * (x.fmt % 16)) ++ leBytes 1 (x.rsvd % 256) ++ leBytes 2 x.nsid ++ leBytes 4 x.gen
    ++ leBytes 8 x.lba

/-- A byte string cut or zero-filled to `n` bytes. -/
def fitBytes (n : Nat) (l : List Byte) : List Byte := l.take n ++ List.replicate (n - l.length) 0

/-- The bytes that SEAL_CRC covers (R80): for a parity block, the syndrome in bytes 40 to 47 is covered as well. -/
def crcBytes (b : Blk) : List Byte :=
  let m := fitBytes 4096 b.data ++ fitBytes 16 b.pi ++ sealBytes b.tag
  if b.tag.kind = 1 ∨ b.tag.kind = 2 then m ++ leBytes 8 b.syn.toNat ++ List.replicate 8 0 else m ++ List.replicate 16 0

/-- The SEAL_CRC of a block (R80). -/
def sealCrc (b : Blk) : BitVec 64 := crc64 (crcBytes b)

/-- The member-free SEAL_CRC (R80): as if MEMBER were zero. -/
def memberFree (b : Blk) : BitVec 64 := sealCrc { b with tag := { b.tag with member := 0 } }

/-- The 4,160 stored bytes of a block: its data, then HOST_PI, the seal, and from byte 40 of the metadata the SEAL_CRC, which in a
parity block follows the syndrome (R78, R80). -/
def blkBytes (b : Blk) : List Byte :=
  let m := fitBytes 4096 b.data ++ fitBytes 16 b.pi ++ sealBytes b.tag
  if b.tag.kind = 1 ∨ b.tag.kind = 2 then m ++ leBytes 8 b.syn.toNat ++ leBytes 8 b.crc.toNat ++ List.replicate 8 0
  else m ++ leBytes 8 b.crc.toNat ++ List.replicate 16 0

/-- A block with its SEAL_CRC computed. -/
def sealed (b : Blk) : Blk := { b with crc := sealCrc b }

/-- A block sealed for the member it is written to (R80). -/
def blkFor (b : Blk) (m : Nat) : Blk := sealed { b with tag := { b.tag with member := m } }

/-- The 24 syndrome-covered metadata bytes of a data block: HOST_PI and the member-free SEAL_CRC (R76). -/
def coverMeta (b : Blk) : List Byte := fitBytes 16 b.pi ++ leBytes 8 (memberFree b).toNat

/-- MEMBER_ID of a column (R145). -/
def memberId (c inc : Nat) : Nat := c % 64 + 64 * (inc % 1024)

/-- MEMBER_ID of the drive in column `c`. -/
def State.memberIdOf (s : State) (c : Nat) : Nat := memberId c (s.col c).inc

/-- KIND of a position: data, P, Q (R79). -/
def State.kindOf (s : State) (p : Nat) : Nat := if p < s.layout.k then 0 else if p = s.layout.k then 1 else 2

/-- The host LBA of offset `o` of zone `z`: of a zoned namespace by the zone's place in it; of a log zone none. -/
def State.lbaOf (s : State) (z o : Nat) : Nat :=
  match tget s.tb.nss (s.zone z).nsid with
  | some n => (n.zones.findIdx fun x => x == z) * s.zoneBlocks + o
  | none => o

/-- The expected seal of block `b` of position `p` of stripe `n` on member `m` (R81); `lba` names the host block for a
log block. -/
def State.expSeal (s : State) (m n p b nsid lba : Nat) : Seal :=
  let z := s.zoneOfStripe n
  ⟨m, n, p, s.kindOf p, b, 1, 0, false, nsid, (s.zone z).gen, if p < s.layout.k then lba else 0⟩

/-- The seal fields that differ, as the mask of SEAL_MISMATCH records counts them from bit 0 (R340). -/
def sealDiff (x y : Seal) : Nat :=
  maskOf 10 fun i => match i with
    | 0 => x.member != y.member | 1 => x.stripe != y.stripe | 2 => x.pos != y.pos | 3 => x.kind != y.kind
    | 4 => x.block != y.block | 5 => x.nsid % 2048 != y.nsid % 2048 | 6 => x.gen != y.gen | 7 => x.lba != y.lba
    | 9 => x.fmt != y.fmt || x.rsvd != y.rsvd || x.rsvd7 != y.rsvd7 || x.nsid / 2048 != y.nsid / 2048 | _ => false

/-- The mismatch mask of a block against its expected seal, with bit 8 for its SEAL_CRC (R83, R340). -/
def blkDiff (b : Blk) (x : Seal) : Nat := sealDiff b.tag x + 256 * b2n (sealCrc b != b.crc)

/-- Count and record a mismatch at a hop (R83): 1 ingress, 2 syndrome engine, 3 member write, 4 member read,
5 reconstruction, 6 egress. -/
def State.sealMismatch (s : State) (hop member stripe pos block mask src : Nat) : State :=
  s.detail 0x20 src (member % 65536 + 2 ^ 16 * (block % 16) + 2 ^ 20 * (pos % 32) + 2 ^ 25 * hop) (stripe % 2 ^ 32)
    (stripe / 2 ^ 32 % 256 + 256 * mask)

/-- Fold a block into the partials of its slot (R85). -/
def foldBlk (x : Slot) (pos b : Nat) (blk : Blk) : Slot :=
  let c := gexp pos
  let d := fitBytes 4096 blk.data
  let m := coverMeta blk
  let upd (l : List (List Byte)) (v : List Byte) : List (List Byte) :=
    (l ++ List.replicate (16 - l.length) []).modify b fun o => xorBytes o v
  { x with
    p := upd x.p d, q := upd x.q (scaleBytes c d), pm := upd x.pm m, qm := upd x.qm (scaleBytes c m),
    folded := x.folded + 1 }

/-- The CRC-64 that the dump header holds of a slot: of its descriptor and its partials (R88, R127). (DESIGN CHOICE, log entry
148.) (DESIGN CHOICE, log entry 148.) -/
def slotCrc (x : Slot) : BitVec 64 :=
  crc64 (leBytes 4 x.zone ++ leBytes 5 x.stripe ++ leBytes 2 x.folded ++ (x.p ++ x.q ++ x.pm ++ x.qm).flatten)

/-- The parity block `b` of kind 1 (P) or 2 (Q) from a slot's partials (R86). -/
def State.parityBlk (s : State) (x : Slot) (kind b m : Nat) : Blk :=
  let d := (if kind = 1 then x.p else x.q).getD b []
  let mt := fitBytes 24 ((if kind = 1 then x.pm else x.qm).getD b [])
  let pos := s.layout.k + kind - 1
  sealed { data := fitBytes 4096 d, pi := mt.take 16, tag := s.expSeal m x.stripe pos b (s.zone x.zone).nsid 0,
           syn := BitVec.ofNat 64 (leNat (mt.drop 16)), crc := 0 }

/-- The covered bytes of a source block: data, then its 24 metadata bytes; a parity block holds the syndrome of the
member-free SEAL_CRC in bytes 40 to 47 (R78).  FORMAT 0 marks a position that counts as zero (R91). -/
def coverOf (b : Blk) : List Byte :=
  if b.tag.fmt = 0 then List.replicate 4120 0
  else fitBytes 4096 b.data ++ (if b.tag.kind = 0 then coverMeta b else fitBytes 16 b.pi ++ leBytes 8 b.syn.toNat)

/-- XOR of the covered bytes of data sources, each scaled by `f` of its position. -/
def sumCover (src : List (Nat × Blk)) (f : Nat → Byte) : List Byte :=
  src.foldl (fun acc x => xorBytes acc (scaleBytes (f x.1) (coverOf x.2))) []

/-- Recover the covered bytes of data position `x`, when `y` is another missing data position, from the data sources,
P and Q (R77). -/
def recover1 (x : Nat) (y : Option Nat) (ds : List (Nat × Blk)) (p q : Option Blk) : Option (List Byte) :=
  let pp := p.map fun b => xorBytes (coverOf b) (sumCover ds fun _ => 1)
  let qq := q.map fun b => xorBytes (coverOf b) (sumCover ds gexp)
  match y, pp, qq with
  | none, some a, _ => some a
  | none, none, some b => some (scaleBytes (ginv (gexp x)) b)
  | some y, some a, some b =>
    some (scaleBytes (ginv (gexp x ^^^ gexp y)) (xorBytes b (scaleBytes (gexp y) a)))
  | _, _, _ => none

/-- The reconstruction hop (R83): the recovered bytes become a data block when the member-free SEAL_CRC agrees. -/
def reconBlk (v : List Byte) (x : Seal) : Option Blk :=
  let b := sealed { data := v.take 4096, pi := (v.drop 4096).take 16, tag := { x with member := 0 }, syn := 0, crc := 0 }
  if b.crc.toNat = leNat ((v.drop 4112).take 8) then some (blkFor b x.member) else none

/-- Recover the covered bytes of any position of a stripe of `k` data positions from the blocks `src` gives (R77): a data position
from P where it is there and `q` does not ask for Q; a syndrome is recomputed from the data, of which one may be recovered
first. -/
def recoverAny (k x : Nat) (src : Nat → Option Blk) (q : Bool) : Option (List Byte) :=
  let ds := (List.range k).filterMap fun p => if p = x then none else (src p).map fun b => (p, b)
  let miss := (List.range k).filter fun p => p != x && (src p).isNone
  if x < k then
    match miss with
    | [] => recover1 x none ds (if q then none else src k) (src (k + 1))
    | [y] => recover1 x (some y) ds (src k) (src (k + 1))
    | _ => none
  else
    let f (p : Nat) : Byte := if x = k then 1 else gexp p
    match miss with
    | [] => some (sumCover ds f)
    | [y] => (recover1 y none ds (if x = k then none else src k) (if x = k then src (k + 1) else none)).map fun v =>
        xorBytes (sumCover ds f) (scaleBytes (f y) v)
    | _ => none

/-- A poison block (R161): zero data, the expected seal, and the one's complement of the correct SEAL_CRC. -/
def poisonBlk (x : Seal) : Blk :=
  let b := sealed ⟨List.replicate 4096 0, List.replicate 16 0, x, 0, 0⟩
  { b with crc := ~~~ b.crc }

/-- The key slot of a namespace (R254). -/
def State.nsKey (s : State) (nsid : Nat) : Option KeySlot := tget s.keys.slots (nsid - 1)

/-- The storage lane's cipher for a block of a namespace (R254): the tweak is the host LBA. -/
def State.encrypt (s : State) (nsid lba : Nat) (d : List Byte) : List Byte :=
  match s.nsKey nsid with
  | some k => if k.kind = 1 then xtsUnit false k.material lba d else d
  | none => d

/-- The reverse direction. -/
def State.decrypt (s : State) (nsid lba : Nat) (d : List Byte) : List Byte :=
  match s.nsKey nsid with
  | some k => if k.kind = 1 then xtsUnit true k.material lba d else d
  | none => d

/-- A namespace of the table. -/
def State.ns? (s : State) (n : Nat) : Option Ns := tget s.tb.nss n
/-- LBA format, Type 3 protection information, kind and MAR of a namespace, as ZMP.NS_CFG holds them (R28, R35). -/
def Ns.lbaf (n : Ns) : Nat := bits n.cfg 2 2
/-- Type 3 (otherwise Type 1). -/
def Ns.type3 (n : Ns) : Bool := bit n.cfg 4
/-- A conventional namespace. -/
def Ns.conv (n : Ns) : Bool := bit n.cfg 1
/-- MAR, active zones of a zoned namespace. -/
def Ns.mar (n : Ns) : Nat := bits n.cfg 16 9

/-- Host metadata bytes of an LBA format (R28). -/
def lbafMeta (f : Nat) : Nat := match f with | 1 => 8 | 2 => 16 | _ => 0

/-- The guard, application tag and reference tag that protection information holds (R28): 16 and 32 bits in format 1,
64 and 48 bits in format 2, big-endian as the NVMe base specification lays them out. -/
def piParts (f : Nat) (pi : List Byte) : Nat × Nat × Nat :=
  let be (l : List Byte) : Nat := leNat l.reverse
  if f = 1 then (be (pi.take 2), be ((pi.drop 2).take 2), be ((pi.drop 4).take 4))
  else (be (pi.take 8), be ((pi.drop 8).take 2), be ((pi.drop 10).take 6))

/-- The host guard and tag checks of R82 on a plaintext block: 0 passes, else the SC of SCT 2h. -/
def piCheck (n : Ns) (io : IoCmd) (i : Nat) (data pi : List Byte) : Nat :=
  if n.lbaf = 0 then 0
  else
    let (g, a, r) := piParts n.lbaf pi
    let all := if n.lbaf = 1 then 2 ^ 32 - 1 else 2 ^ 48 - 1
    if a = 0xFFFF ∧ (¬ n.type3 ∨ r = all) then 0
    else if g ≠ hostGuard n.lbaf data then 0x82
    else if bit io.prchk 1 ∧ (BitVec.ofNat 16 a &&& BitVec.ofNat 16 io.appMask) ≠ (BitVec.ofNat 16 io.appTag &&& BitVec.ofNat 16 io.appMask) then 0x83
    else if bit io.prchk 0 ∧ ¬ n.type3 ∧ r ≠ (io.refTag + i) % (all + 1) then 0x84
    else 0

end Sys2Proof.Machine
end

