-- ==== Sys2Proof/Machine/Qpc.lean ====
section
/-! DEFINITION. Connection contexts (R182 to R191): residence in Jasper, transmission with PSNs, acknowledgement,
retransmission, rate. -/

namespace Sys2Proof.Machine
open Sys2Proof

/-! ### Frames that the part makes -/

/-- This device's number on its board. -/
def State.devNum (s : State) : Nat := s.get Fld.SWC.TOPO_CFG.DEV_NUM

/-- The header of a frame that the part makes, on port `p`: the port's VID (R171) and MAC address (R172), and as PCP the traffic class
of the frame (R173); the spec does not give that class for a frame of these kinds: a free value of the kind (log entry 183). -/
def State.frmHdr (s : State) (p kind : Nat) : FrmHdr :=
  { vid := s.get (Fld.FAB_E.PORT_CFG.VID p), pcp := Config.freeNat 27 kind % 8, smac := s.rd64 (Reg.FAB_E.MAC_LO p) }

/-- Send a frame of the part's own on port `p` (R171 to R173). -/
def State.sendOwn (s : State) (p kind arg : Nat) : State := s.emit (.frame p kind arg (s.frmHdr p kind))

/-- The result code of cascade port CP`n` (R210). -/
def State.topo (s : State) (n : Nat) : Nat := s.get ⟨Reg.SWC.TOPO_STATUS, 4 * n, 4⟩

/-- The primary cascade port toward device `d`, and its alternate when one may be used (R211). -/
def State.route (s : State) (d : Nat) : Nat × Option Nat :=
  (s.get ⟨Reg.SWC.DEV_ROUTE, 8 * d, 2⟩,
   if s.flag ⟨Reg.SWC.DEV_ROUTE, 8 * d + 4, 1⟩ then some (s.get ⟨Reg.SWC.DEV_ROUTE, 8 * d + 2, 2⟩) else none)

/-- The switch port by which a frame leaves for device `d`; only the primary for frames that may use nothing else
(R211). -/
def State.routePort (s : State) (d : Nat) (primaryOnly : Bool) : Option Nat :=
  let (p, a) := s.route d
  if s.topo p = 1 then some (p + 2)
  else if primaryOnly then none
  else match a with
    | some x => if s.topo x = 1 then some (x + 2) else none
    | none => none

/-- The header of an inter-device frame that leaves by port `p` (R208). -/
def State.interHdr (s : State) (p kind dst cls : Nat) (pin : Bool) : InterHdr :=
  { port := p, kind := kind, dst := dst, src := s.devNum, cls := cls, pin := pin, hdr := s.frmHdr p 0x88B5 }

/-- Send an owner-forwarding frame to the partner (R43, R208): by the route to it, or dropped and counted where that has no port
(R211). -/
def State.sendInter (s : State) (cls : Nat) (m : InterMsg) : State :=
  let d := s.get Fld.SWC.TOPO_CFG.PARTNER
  match s.routePort d false with
  | some p => s.emit (.inter (s.interHdr p 2 d cls false) m)
  | none => s.satInc ⟨Reg.SWC.DROP_NOROUTE, 0, 32⟩

/-- Send a mirror record on the cascade ports of GNT.MIRROR_CFG, PIN set (R138, R208, R211): on each that its topology check has
passed; on another its copy is dropped and counted (R210, R211). -/
def State.sendMirror (s : State) (mseq kind arg cls : Nat) (content : List Byte) : State :=
  let ns := [s.get Fld.GNT.MIRROR_CFG.PATH_A, s.get Fld.GNT.MIRROR_CFG.PATH_B]
  let ok := ns.filter fun n => s.topo n == 1
  let hs := ok.map fun n => s.interHdr (n + 2) 1 (s.get Fld.SWC.TOPO_CFG.PARTNER) cls true
  (s.satInc ⟨Reg.SWC.DROP_NOROUTE, 0, 32⟩ (ns.length - ok.length)).emit (.mirror mseq kind arg content hs)

/-! ### Contexts -/

/-- Change FAB's part. -/
def State.modFab (s : State) (f : Fabric → Fabric) : State := { s with fab := f s.fab }

/-- Connection `k`. -/
def State.conn? (s : State) (k : Nat) : Option Conn := tget s.fab.conns k

/-- The RDMA READ requests a connection has outstanding: block range, blocks and pool cells (R179). -/
def Conn.reads (c : Conn) : List TxMsg := c.una.filter fun m => match m.kind with | .readReq _ _ _ _ => true | _ => false

/-- Pool cells an outstanding message holds (R179). -/
def TxMsg.cells (m : TxMsg) : Nat := match m.kind with | .readReq _ _ _ n => n | _ => 0

/-- Show occupancy in QPC and the read-response pool in FAB.RD_POOL (R179, R187, R188). (DEDUCED, log entry 132.) -/
def State.qpcShow (s : State) : State :=
  let cs := s.fab.conns.map (·.2)
  let n (p : Conn → Bool) : Nat := (cs.filter p).length
  let rd := cs.flatMap Conn.reads
  let s1 := (s.put Fld.QPC.STATUS.RESIDENT (n fun c => decide (c.st ≤ 4))).put Fld.QPC.STATUS.PINNED
    (n fun c => c.st == 1 || c.st == 3 || c.st == 4)
  let s2 := (s1.put Fld.QPC.CONN_USE.SETUP (n fun c => c.st == 1)).put Fld.QPC.CONN_USE.ESTABLISHED (n fun c => c.st != 1)
  let s3 := s2.put Fld.QPC.FETCH.IN_FLIGHT (n fun c => c.st == 4)
  (s3.put Fld.FAB.RD_POOL.REQ_OUT rd.length).put Fld.FAB.RD_POOL.CELLS_FREE (32768 - (rd.map TxMsg.cells).foldl (· + ·) 0)

/-- Set a connection context. -/
def State.setConn (s : State) (k : Nat) (c : Conn) : State := (s.modFab fun f => { f with conns := tput f.conns k c }).qpcShow

/-- Change a connection context, if it exists. -/
def State.modConn (s : State) (k : Nat) (f : Conn → Conn) : State :=
  match s.conn? k with
  | some c => s.setConn k (f c)
  | none => s

/-- The class NVQ.QCLASS gives I/O queue `q` of a host: 0 Urgent, 1 High, 2 Medium, 3 Low. -/
def State.qclass (s : State) (h q : Nat) : Nat :=
  bits ((s.host h).qclass.getD ((q - 1) / 16) 0) (2 * ((q - 1) % 16)) 2

/-- The class in which a controller's I/O queue is served: Medium while CC.AMS is 000b (R53). -/
def State.queueClass (s : State) (cntlid q : Nat) : Nat :=
  match s.ctrl? cntlid with
  | some c => if bits c.cc 11 3 = 0 then 2 else s.qclass c.host q
  | none => 2

/-- Admin and Urgent queues' contexts are the last to be evicted (R189). -/
def State.connKept (s : State) (c : Conn) : Bool :=
  c.qid == 0 || (match c.cntlid with | some n => s.queueClass n c.qid == 0 | none => true)

/-- The least recently used of some contexts. -/
def lruOf (l : List (Nat × Conn)) : Option Nat :=
  match l with
  | [] => none
  | x :: r => some (r.foldl (fun b y => if y.2.used < b.2.used then y else b) x).1

/-- CONTEXT_EVICT (R189): free a slot when all 2,048 are taken. -/
def State.evict (s : State) : State :=
  if (s.fab.conns.filter fun x => decide (x.2.st ≤ 4)).length < 2048 then s
  else
    let cand := s.fab.conns.filter fun x => x.2.st == 2
    match (lruOf (cand.filter fun x => !s.connKept x.2)).or (lruOf cand) with
    | some v => s.modConn v fun c => { c with st := 5 }
    | none => s

/-- PMC masters of a connection. -/
def Conn.masters (c : Conn) : List (Nat × Nat) := (match c.host with | some h => [(1, h)] | none => []) ++ [(4, c.port)]

/-- Mark a context as just used; a resident one is pinned exactly while it has READ requests outstanding (R188). -/
def State.touch (s : State) (k : Nat) : State :=
  let s1 := s.modFab fun f => { f with useSeq := f.useSeq + 1 }
  s1.modConn k fun c =>
    { c with used := s1.fab.useSeq, st := if c.st = 2 ∨ c.st = 3 then (if c.reads = [] then 2 else 3) else c.st }

/-- Contexts being fetched. -/
def State.fetching (s : State) : Nat := (s.fab.conns.filter fun x => x.2.st == 4).length

/-- Start the fetch of a spilled context (R190, R191).  At most 64 fetches run at once (R188): beyond them the context stays spilled,
with what is held and what waits for it, until one has ended (log entry 181). -/
def State.fetch (s : State) (k : Nat) : State :=
  match s.conn? k with
  | some c =>
    if c.st ≠ 5 ∨ 64 ≤ s.fetching then s
    else (((s.evict.modConn k fun c => { c with st := 4 }).add64 Reg.QPC.MISSES_LO 1).count
      { code := 0x0E, n := 1, masters := c.masters })
  | none => s

/-- A fetch has ended: the lowest-numbered spilled connection for which a packet is held or something waits to be sent is fetched
next. (DESIGN CHOICE, log entry 181.) -/
def State.fetchNext (s : State) : State :=
  match s.fab.conns.find? fun x => x.2.st == 5 && (!x.2.held.isEmpty || !x.2.waitTx.isEmpty) with
  | some (k, _) => s.fetch k
  | none => s

/-- Release a context (R191). -/
def State.delConn (s : State) (k : Nat) : State :=
  ((s.modFab fun f => { f with conns := tdel f.conns k }).qpcShow).fetchNext

/-- Bytes of a path MTU code. -/
def mtuBytes (m : Nat) : Nat := match m with | 0 => 1024 | 1 => 2048 | _ => 4096

/-- Packets of a message of `n` bytes. -/
def packets (mtu n : Nat) : Nat := if n = 0 then 1 else (n + mtuBytes mtu - 1) / mtuBytes mtu

/-- PSN `a` is at or before PSN `b` (R175). -/
def psnLe (a b : Nat) : Bool := decide ((b % 2 ^ 24 + 2 ^ 24 - a % 2 ^ 24) % 2 ^ 24 < 2 ^ 23)

/-- The retransmission timeout, ns (R183). -/
def State.ackTimeout (s : State) : Nat := 4096 * 2 ^ s.get Fld.FAB.RC_CFG.ACK_TIMEOUT

/-- The dependency class of a packet that the part sends, by its kind (R181): 1 RDMA WRITE of read data, 2 response capsule, 3
RDMA READ Request, 4 response capsule with Invalidate, each above 0x10 when sent again; 0x20 to 0x25 Acknowledge, CNP, NAKs; 0x30 RDMA READ Response of a window. -/
def roceClass (kind : Nat) : Nat :=
  match kind with
  | 1 | 0x11 | 0x30 => 3
  | 2 | 4 | 0x12 | 0x14 => 2
  | 3 | 0x13 => 4
  | _ => 1

/-- The traffic class of a DSCP through the map of port `p` (R173). -/
def State.tcOf (s : State) (p d : Nat) : Nat := s.get ⟨Reg.FAB_E.DSCP_MAP p (d % 64 / 10), 3 * (d % 64 % 10), 3⟩

/-- The header of a packet that the part sends on connection `k`: the DSCP of its CM REQ, or CNP_DSCP for a CNP, the PCP of
that DSCP's traffic class, the port's VID (R171, R173), and the connection's UDP source port, whose hash the spec does not give:
a free value of the connection (log entry 165). -/
def State.pktHdr (s : State) (kind k : Nat) : PktHdr :=
  let (p, peer, q) := match s.conn? k with | some c => (c.port, c.peer, c.dscp) | none => (0, 0, 0)
  let d := (if kind = 0x21 then s.get Fld.FAB.CC_CFG.CNP_DSCP else q) % 64
  { dscp := d, vid := s.get (Fld.FAB_E.PORT_CFG.VID p), pcp := s.tcOf p d
    sport := 0xC000 + Config.freeNat 26 (k + 2 ^ 16 * peer) % 0x4000 }

/-- A packet leaves in the class of its kind (R181), with its header. -/
def State.roce (s : State) (kind k psn arg : Nat) : State :=
  s.emit (.roce kind k psn arg (roceClass kind) (s.pktHdr kind k))

/-- The kind of a message of the part's own (R180, R181). -/
def TxKind.code (x : TxKind) : Nat :=
  match x with
  | .readData _ => 1
  | .response _ _ _ none => 2
  | .response _ _ _ (some _) => 4
  | .readReq _ _ _ _ => 3
  | .passedData _ _ _ _ => 1

/-- What a message of `n` packets states: its packets, or the key that it invalidates (R180). -/
def TxKind.arg (x : TxKind) (n : Nat) : Nat := match x with | .response _ _ _ (some key) => key | _ => n

/-- A message goes out with the next PSNs (R182): `n` packets. -/
def State.txNow (s : State) (k n : Nat) (kind : TxKind) : State :=
  match s.conn? k with
  | none => s
  | some c =>
    ((s.setConn k { c with
        spsn := (c.spsn + n) % 2 ^ 24, una := c.una ++ [⟨c.spsn, n, kind⟩],
        due := if c.una = [] then some (s.now + s.ackTimeout) else c.due }).roce kind.code k c.spsn (kind.arg n)).touch k

/-- Packets that a kind of message takes. -/
def State.txPackets (s : State) (c : Conn) (kind : TxKind) : Nat :=
  match kind with
  | .readData t => match s.cmd? t with
    | some x => match x.io with
      | some io => packets c.pmtu (io.nlb * (4096 + lbafMeta (match s.ns? io.nsid with | some n => n.lbaf | none => 0)))
      | none => 1
    | none => 1
  | .passedData _ _ _ n => packets c.pmtu n
  | .response _ _ _ _ => 1
  | .readReq t _ n _ => match s.cmd? t with
    | some x => match x.io with
      | some io => packets c.pmtu (n * (4096 + lbafMeta (match s.ns? io.nsid with | some n => n.lbaf | none => 0)))
      | none => 1
    | none => 1

/-- Packets that are sent again from PSN `p` on: of an RDMA READ Request one packet, whatever the PSNs of its response (R183). -/
def Conn.resent (c : Conn) (p : Nat) : Nat :=
  ((c.una.filter fun m => psnLe p (m.psn + m.n - 1)).map fun m => match m.kind with
    | .readReq _ _ _ _ => 1
    | _ => m.n - (if psnLe m.psn p then (p + 2 ^ 24 - m.psn) % 2 ^ 24 else 0)).foldl (· + ·) 0

/-- Retransmit from PSN `p` (R183): each packet counts, and each message of which something is sent again goes out in its own
class (R181). -/
def State.retransmit (s : State) (k p : Nat) : State :=
  match s.conn? k with
  | none => s
  | some c =>
    let n := c.resent p
    let s1 := (s.satInc Fld.FAB.RETX_COUNT.V n).count { code := 0x14, n := n, masters := c.masters }
    (c.una.filter fun m => psnLe p (m.psn + m.n - 1)).foldl (fun s m => s.roce (0x10 + m.kind.code) k (if psnLe m.psn p then p else m.psn)
      (m.kind.arg (m.n - (if psnLe m.psn p then (p + 2 ^ 24 - m.psn) % 2 ^ 24 else 0)))) (s1.setConn k { c with due := some (s.now + s.ackTimeout) })

/-- The packets received and not yet acknowledged are acknowledged (R184). -/
def State.ackNow (s : State) (k : Nat) : State :=
  match s.conn? k with
  | some c => if c.owed = 0 then s else (s.setConn k { c with owed := 0 }).roce 0x20 k ((c.epsn + 0xFFFFFF) % 2 ^ 24) 0
  | none => s

/-- A message, whose order of issue holds (R182). -/
def WaitTx.isMsg (w : WaitTx) : Bool := match w with | .msg _ => true | _ => false

/-- Something of a connection goes out now, or once its context is resident (R189, R191); a message behind those that wait still, for
messages leave in the order in which they are issued (R182).  A connection in Error or closing sends nothing (R185). -/
def State.sendOrWait (s : State) (k : Nat) (w : WaitTx) : State :=
  match s.conn? k with
  | none => s
  | some c =>
    if c.tr ≠ 0 then s
    else if c.st = 4 ∨ c.st = 5 ∨ (w.isMsg ∧ c.waitTx ≠ []) then (s.setConn k { c with waitTx := c.waitTx ++ [w] }).fetch k
    else match w with
      | .msg kind => s.txNow k (s.txPackets c kind) kind
      | .ack => s.ackNow k
      | .resend p => (s.retransmit k p).touch k

/-- Send a message on a connection. -/
def State.connSend (s : State) (k : Nat) (kind : TxKind) : State := s.sendOrWait k (.msg kind)

/-- Send what waited for the context, in the order in which it was issued (R182). -/
def State.sendWaiting (s : State) (k : Nat) : State :=
  match s.conn? k with
  | none => s
  | some c => c.waitTx.foldl (fun s x => s.sendOrWait k x) (s.setConn k { c with waitTx := [] })

/-- Oldest unacknowledged PSN. -/
def Conn.oldest (c : Conn) : Nat := match c.una with | [] => c.spsn | m :: _ => m.psn

/-- What is left unacknowledged once PSN `p` is: a message covered in part keeps its remaining packets; a READ request
stays until its response has arrived. -/
def Conn.left (c : Conn) (p : Nat) : List TxMsg :=
  c.una.filterMap fun m => match m.kind with
    | .readReq _ _ _ _ => some m
    | _ =>
      if psnLe (m.psn + m.n - 1) p then none
      else if psnLe m.psn p then
        some { m with psn := (p + 1) % 2 ^ 24, n := m.n - (p % 2 ^ 24 + 2 ^ 24 + 1 - m.psn % 2 ^ 24) % 2 ^ 24 }
      else some m

/-- Messages of read data whose last packet an acknowledgement of PSN `p` covers. -/
def Conn.readsDone (c : Conn) (p : Nat) : List TxKind :=
  c.una.filterMap fun m => match m.kind with
    | .readData t => if psnLe (m.psn + m.n - 1) p then some (.readData t) else none
    | .passedData a b d n => if psnLe (m.psn + m.n - 1) p then some (.passedData a b d n) else none
    | _ => none

/-- The rate of an Ethernet port, Mb/s (R170). -/
def portMbps (p : Nat) : Nat := if p < 2 then 400000 else 200000

/-- CC_RATE_INCREASE (R186): INC_US has passed without a CNP. -/
def execCcRateIncrease (conn : Nat) (s : State) : Host.Outcome State Fault Refusal :=
  if ¬ s.aon.coreUp then .next s else
  .next (if s.flag Fld.FAB.CC_CFG.ENABLE then
      s.modConn conn fun c =>
        let r := c.rate + 1000 * s.get Fld.FAB.CC_CFG.RAI
        { c with rate := if r < portMbps c.port then r else portMbps c.port }
    else s)

/-- DEADLINE_SCAN (R183): fetch each spilled context whose timeout deadline has passed. -/
def execDeadlineScan (s : State) : Host.Outcome State Fault Refusal :=
  if ¬ s.aon.coreUp then .next s else
  .next ((s.fab.conns.filter fun x => x.2.st == 5 && (match x.2.due with | some t => decide (t ≤ s.now) | none => false)).foldl
    (fun s x => s.fetch x.1) s)

/-- ACK_COALESCE_EXPIRY (R184): received packets are acknowledged. -/
def execAckCoalesceExpiry (conn : Nat) (s : State) : Host.Outcome State Fault Refusal :=
  if ¬ s.aon.coreUp then .next s else
  .next (match s.conn? conn with
    | some c => if c.owed = 0 then s else s.sendOrWait conn .ack
    | none => s)

/-! ### Inbound windows -/

/-- A window of a set. -/
def winOf (t : Tab Win) (i : Nat) : Win := tgetD t i ⟨0, 0, 0, 0⟩

/-- Windows of a set marked valid. -/
def validWins (t : Tab Win) : List (Nat × Win) := t.filter fun x => bit x.2.ctrl 31

/-- Two entries of a list share a key. -/
def dupKey : List Nat → Bool
  | [] => false
  | k :: r => decide (k ∈ r) || dupKey r

/-- The error code of a window set (R193, WIN_STATUS.ERROR): the first of the codes in numerical order.
(DEDUCED, log entry 73.) -/
def State.winCheck (s : State) : Nat :=
  let v := validWins s.fab.shadow
  if dupKey (v.map fun x => x.2.key) then 1
  else if v.any fun x => x.2.key == 0 then 2
  else if v.any fun x => decide (s.get Fld.TOP.DRAM_FITTED.V * 2 ^ 20 < x.2.base + x.2.len) then 3
  else if v.any fun x => !bit (s.host (x.2.ctrl % 1024)).perm 0 then 4
  else 0

/-- A request packet that begins a message for a window: First or Only of an RDMA WRITE, or an RDMA READ Request (R193). -/
def rcBegins (p : RcPkt) : Bool :=
  match p.op with
  | .write first _ _ _ _ _ => first
  | .readReq _ _ _ => true
  | _ => false

/-- The old set is in use: a message begun under it, one whose first packet arrived under it and is held, or a responder resource
that records it (R193). -/
def State.oldUsed (s : State) (gen : Nat) : Bool :=
  s.fab.conns.any fun x => (match x.2.wmsg with | some (g, _) => g != gen | none => false) || (x.2.resp.any fun r => r.2 != gen)
    || x.2.held.any fun h => match h.2 with | .req p g => g != gen && rcBegins p | _ => false

/-- Make the shadow set current (R193). -/
def State.winSwitch (s : State) : State :=
  if s.winCheck ≠ 0 then ((s.put Fld.FAB.WIN_STATUS.ERROR s.winCheck).off Fld.FAB.WIN_STATUS.PENDING).event
    Fld.FAB.EVENT.WIN_REFUSED 179
  else
    let s1 := s.modFab fun f => { f with old := f.cur, cur := f.shadow }
    let s2 := ((s1.put Fld.FAB.WIN_STATUS.ERROR 0).off Fld.FAB.WIN_STATUS.PENDING).inc Fld.FAB.WIN_STATUS.GEN
    let s3 := if s2.oldUsed (s2.get Fld.FAB.WIN_STATUS.GEN) then s2.on Fld.FAB.WIN_STATUS.OLD_IN_FLIGHT
      else s2.modFab fun f => { f with old := [] }
    s3.event Fld.FAB.EVENT.WIN_SWITCHED 178

/-- A write of 1 to FAB.WIN_COMMIT.GO (R193). -/
def State.winCommit (s : State) : State :=
  if s.flag Fld.FAB.WIN_STATUS.OLD_IN_FLIGHT then s.on Fld.FAB.WIN_STATUS.PENDING else s.winSwitch

/-- WIN_COMMIT (R193). -/
def execWinCommit (s : State) : Host.Outcome State Fault Refusal :=
  if ¬ s.aon.coreUp then .next s else
  .next s.winCommit

/-- WIN_OLD_RELEASE (R193): nothing uses the old set any more. -/
def execWinOldRelease (s : State) : Host.Outcome State Fault Refusal :=
  if ¬ s.aon.coreUp then .next s else
  .next (if ¬ s.flag Fld.FAB.WIN_STATUS.OLD_IN_FLIGHT ∨ s.oldUsed (s.get Fld.FAB.WIN_STATUS.GEN) then s
    else
      let s1 := (s.modFab fun f => { f with old := [] }).off Fld.FAB.WIN_STATUS.OLD_IN_FLIGHT
      if s1.flag Fld.FAB.WIN_STATUS.PENDING then s1.winSwitch else s1)

/-- RESPONDER_RESOURCE_TIMEOUT (R193): 500 ms after its response completed. -/
def execResponderResourceTimeout (conn psn : Nat) (s : State) : Host.Outcome State Fault Refusal :=
  if ¬ s.aon.coreUp then .next s else
  .next (s.modConn conn fun c => { c with resp := c.resp.filter fun r => r.1 ≠ psn })

end Sys2Proof.Machine
end

