-- ==== Sys2Proof/Machine/Complete.lean ====
section
/-! DEFINITION. Completions and the overlap tracker (R49 to R63), asynchronous events, ANA state (R43). -/

namespace Sys2Proof.Machine
open Sys2Proof

/-- The queue of a controller with the given identifier. -/
def State.queue? (s : State) (cntlid qid : Nat) : Option Queue :=
  s.fr.queues.find? fun q => q.cntlid == cntlid && q.qid == qid

/-- Change a queue. -/
def State.modQueue (s : State) (cntlid qid : Nat) (f : Queue → Queue) : State :=
  s.modFr fun r => { r with queues := r.queues.map fun q => if q.cntlid = cntlid ∧ q.qid = qid then f q else q }

/-- The queue of a command that the other device of the pair passes on: it takes no capsule slot and has no connection here
(log entry 49). -/
def fwdConn : Nat := 65536

/-- Nothing new is completed, recorded or sent to members: after a halt of the member write pipeline (R332) or once the
power-fail sequence has begun (R127 step 3). (DEDUCED, log entry 18.) -/
def State.stopped (s : State) : Bool := s.flag Fld.FLT.STATUS.HALTED || s.aon.dumpPhase != 0

/-- Do Not Retry where the spec states none for a status (log entry 9): a free value; it is clear with success, and with
Namespace Not Ready (R101, chapter 12), Command Interrupted (R37), Asymmetric Access Inaccessible and Transition (R43), where
the spec says clear. -/
def openDnr (status : Nat) : Bool :=
  status != 0 && status != 0x82 && status != 0x21 && status != 0x302 && status != 0x303 && Config.dnr status

/-- Hand a response capsule to the transport: SCT in [10:8] and SC in [7:0] of `status` (R59, R180), `dnr` where the spec sets Do Not Retry; to a queue that no
longer exists, or once the part has stopped, nothing is posted (R26, R127, R332).  `inv` is the key that the capsule's SEND
invalidates, if any (R180). -/
def State.respond (s : State) (cntlid qid cid status : Nat) (dnr : Bool) (dw0 dw1 : Nat) (inv : Option Nat := none) : State :=
  match s.queue? cntlid qid with
  | some q => if s.stopped then s
    else if q.conn = fwdConn then s.sendInter 2 (.completion cntlid qid cid status (dnr || openDnr status) dw0 dw1)
    else (s.emit (.completion cntlid qid cid status (dnr || openDnr status) dw0 dw1 q.sqhd)).connSend q.conn (.response cntlid qid cid inv)
  | none => s

/-- A Keyed SGL Data Block descriptor of sub-type Address or Invalidate Key (R178). -/
def keyedSgl (ty : Nat) : Bool := ty == 0x40 || ty == 0x4F

/-- The key that a command's response capsule invalidates: with sub-type Fh of its descriptor (R180). -/
def invKey (io : Option IoCmd) : Option Nat :=
  match io with
  | some x => if x.sgl = 0x4F then some x.rkey else none
  | none => none

/-! ### Commands passed to the owner -/

/-- The command of a queue, by its identifiers. -/
def capIs (c : Capsule) (cntlid qid cid : Nat) : Bool := c.cntlid == cntlid && c.qid == qid && c.cid == cid

/-- Change what the standby keeps of a command that it passed on. -/
def State.modPassed (s : State) (cntlid qid cid : Nat)
    (f : Passed → Passed) : State :=
  s.modFr fun r => { r with passed := r.passed.map fun e => if capIs e.cap cntlid qid cid then f e else e }

/-- The standby passes an I/O command over the cascade to the owner (R43). -/
def State.passOn (s : State) (cap : Capsule) : State :=
  (s.sendInter 4 (.command cap)).modFr fun f => { f with passed := f.passed ++ [⟨cap, 0, false, 0, false, 0, 0⟩] }

/-- The owner's completion of a command that was passed on goes to the host once the data it read has been acknowledged (R43, R59). -/
def State.passedPost (s : State) (cntlid qid cid : Nat) : State :=
  match s.fr.passed.find? fun e => capIs e.cap cntlid qid cid with
  | some e =>
    if ¬ e.done ∨ e.owed ≠ 0 then s
    else (s.modFr fun f => { f with passed := f.passed.filter fun e => !capIs e.cap cntlid qid cid }).respond cntlid qid cid e.status
      e.dnr e.dw0 e.dw1 (invKey e.cap.io)
  | none => s

/-- What the owner returned for a command that was passed on arrives at the storage path (R43): read data goes out as one RDMA WRITE
message under the command's key, a completion is posted.  Data and completions of a command that is not waited for are dropped. -/
def State.passedGot (s : State) (m : InterMsg) : State :=
  match m with
  | .data a b d blks => match s.fr.passed.find? fun e => capIs e.cap a b d, s.queue? a b with
    | some e, some q =>
      let (key, addr) := match e.cap.io with | some io => (io.rkey, io.addr) | none => (0, 0)
      let n := (blks.map fun x => x.data.length + x.pi.length).foldl (· + ·) 0
      ((s.modPassed a b d fun e => { e with owed := e.owed + 1 }).emit (.readData a b d key addr blks)).connSend q.conn (.passedData a b d n)
    | _, _ => s
  | .completion a b d st dnr d0 d1 =>
    (s.modPassed a b d fun e => { e with done := true, status := st, dnr := dnr, dw0 := d0, dw1 := d1 }).passedPost a b d
  | _ => s

/-- The controllers that exist. -/
def State.ctrlIds (s : State) : List Nat := s.fr.ctrls.map (·.1)

/-- Asynchronous events: Namespace Attribute Changed, ANA Change, Zone Descriptor Changed, SMART/Health.
(PRESUMED, log entry 33.) -/
def asyncDw0 (kind : Nat) : Nat :=
  match kind with
  | 1 => 0x040002
  | 2 => 0x0C0302
  | 3 => 0xBFEF02
  | _ => 0x020001

/-- Raise an asynchronous event on a controller: it completes the oldest Asynchronous Event Request, or waits for one. -/
def State.notify (s : State) (cntlid kind : Nat) : State :=
  match s.ctrl? cntlid with
  | none => s
  | some c => match c.aers with
    | [] => s.modCtrl cntlid fun x => { x with events := addNew x.events kind }
    | a :: r => ((s.modCtrl cntlid fun x => { x with aers := r }).emit (.asyncEvent cntlid kind)).respond cntlid 0 a 0 false
        (asyncDw0 kind) 0

/-- Raise an asynchronous event on every controller a predicate selects. -/
def State.notifyAll (s : State) (kind : Nat) (p : Nat → Ctrl → Bool) : State :=
  (s.fr.ctrls.filter fun x => p x.1 x.2).foldl (fun s x => s.notify x.1 kind) s

/-- A host identity entry's access map grants a namespace (R25). -/
def State.granted (s : State) (h nsid : Nat) : Bool := bit ((s.host h).access.getD ((nsid - 1) / 32) 0) ((nsid - 1) % 32)

/-- A namespace is visible to a host: it exists, its zones are assigned, its key slot is loaded, the map grants it
(R25, R45, R255). (DEDUCED, log entry 20.) -/
def State.visible (s : State) (h nsid : Nat) : Bool :=
  (match s.ns? nsid with | some n => n.visible && !n.deleting | none => false) && (s.nsKey nsid).isSome && s.granted h nsid

/-- Namespace Attribute Changed on each controller whose host's map grants the namespace (R25, R45, R255). -/
def State.nsChanged (s : State) (nsid : Nat) : State :=
  (s.modFr fun f => { f with
    ctrls := f.ctrls.map fun x => if s.granted x.2.host nsid then (x.1, { x.2 with chNs := addNew x.2.chNs nsid }) else x }).notifyAll 1
      fun _ c => s.granted c.host nsid

/-- Set the ANA state: ANA_CHANGED, source 323, and an ANA Change event on every controller (R43). -/
def State.anaSet (s : State) (st : Nat) : State :=
  if s.get Fld.ZMP.ANA.STATE = st then s
  else ((s.put Fld.ZMP.ANA.STATE st).event Fld.ZMP.EVENT.ANA_CHANGED 323).notifyAll 2 fun _ _ => true

/-- The ANA state the device takes when nothing keeps its namespaces away (R43). -/
def State.anaServe (s : State) : Nat := if s.get Fld.GNT.STATUS.ROLE = 2 then 2 else 1

/-- Set the ANA state, which stays Inaccessible while DRAM_SHORT is set (R15, R43). -/
def State.anaTo (s : State) (st : Nat) : State := s.anaSet (if s.flag Fld.TOP.STATUS.DRAM_SHORT then 3 else st)

/-- A takeover ends once no slot is being recomputed (R44): Optimized. -/
def State.takeoverEnd (s : State) : State :=
  if s.jn.taking ∧ ¬ s.slots.any (fun e => e.2.st == 3 && !e.2.freeing) then
    (s.modJn fun j => { j with taking := false }).anaTo 1
  else s

/-! ### Ranges of the tracker -/

/-- Commands of write kind (R55). -/
def IoOpWrite (o : IoOp) : Bool :=
  match o with
  | .write | .append | .writeZeroes | .dsm | .zoneSend => true
  | _ => false

/-- The tracker ranges of an I/O command, as first block and count; none for a command that is not entered (R55). -/
def State.ranges (s : State) (io : IoCmd) : List (Nat × Nat) :=
  let zb := s.zoneBlocks
  match io.op with
  | .read | .write | .writeZeroes => [(io.slba, io.nlb)]
  | .dsm => io.ranges
  | .append => [(io.slba / zb * zb, zb)]
  | .zoneSend => if io.selAll then [(0, 2 ^ 64)] else [(io.slba / zb * zb, zb)]
  | .flush | .zoneReceive => []

/-- Two ranges share a block. -/
def overlaps (a b : Nat × Nat) : Bool := decide (a.1 < b.1 + b.2) && decide (b.1 < a.1 + a.2)

/-- Both are writes or appends of a zoned namespace, which never wait on each other (R55). -/
def State.zonedPair (s : State) (a b : IoCmd) : Bool :=
  (match s.ns? a.nsid with | some n => !n.conv | none => false)
    && (a.op == .write || a.op == .append) && (b.op == .write || b.op == .append)

/-- Command `a`, accepted earlier, blocks `b` (R55). -/
def State.conflicts (s : State) (a b : IoCmd) : Bool :=
  a.nsid == b.nsid && (IoOpWrite a.op || IoOpWrite b.op) && !s.zonedPair a b
    && (s.ranges a).any fun x => (s.ranges b).any fun y => overlaps x y

/-- An earlier-accepted command that has not released its range blocks this one (R55, R56). -/
def State.blocked (s : State) (c : Cmd) : Bool :=
  match c.io with
  | none => false
  | some b => s.fr.cmds.any fun x =>
      decide (x.2.order < c.order) && !x.2.released && (match x.2.io with | some a => s.conflicts a b | none => false)

/-- NVQ.TRACK_WAITING and NVQ.TAG_USE (R63). -/
def State.nvqShow (s : State) : State :=
  let n := (s.fr.cmds.filter fun x => x.2.move.isNone).length
  let s1 := s.put Fld.NVQ.TAG_USE.V n
  let s2 := if s1.get Fld.NVQ.TAG_PEAK.V < n then s1.put Fld.NVQ.TAG_PEAK.V n else s1
  s2.put Fld.NVQ.TRACK_WAITING.V (s.fr.cmds.filter fun x => x.2.st == .waiting).length

/-- A wait in the tracker ends: NVQ.TRACK_MAX_WAIT takes its length in µs when it is the longest (R56). -/
def State.waitNote (s : State) (c : Cmd) : State :=
  let us := (s.now - c.since) / 1000
  if c.st = .waiting ∧ s.regN Reg.NVQ.TRACK_MAX_WAIT < us then s.setN Reg.NVQ.TRACK_MAX_WAIT (satAdd32 us 0) else s

/-- COMMAND_UNBLOCK (R55): a waiting command whose blockers have all released becomes Running. -/
def State.unblock1 (s : State) (t : Nat) : State :=
  match s.cmd? t with
  | none => s
  | some c =>
    if c.st ≠ .waiting ∨ s.blocked c then s
    else (s.waitNote c).setCmd t { c with st := .running }

/-- Unblock what can run. -/
def State.unblock (s : State) : State := ((s.fr.cmds.map (·.1)).foldl State.unblock1 s).nvqShow

/-- RANGE_RELEASE (R56); the command's staging entries are free again (R40). -/
def State.release (s : State) (t : Nat) : State :=
  match s.cmd? t with
  | some c => if c.released then s
      else ((s.setCmd t { c with released := true, relAt := s.now }).modFr fun f => { f with
        staging := f.staging.filter fun e => e.tag ≠ t }).unblock
  | none => s

/-- The namespace, first and last block of a command, for PMC's address filter. -/
def cmdLba (c : Cmd) : Option (Nat × Nat × Nat) := c.io.map fun io => (io.nsid, io.slba, io.slba + io.nlb - 1)

/-- A PMC occurrence of a host command (R346, R347). -/
def cmdEv (c : Cmd) (code n : Nat) : PmcEv :=
  { code := code, n := n, priv := some 0, masters := [(1, c.host)], lba := cmdLba c, zone := c.zone, cls := some c.cls }

/-- The sample of a completed command (R351). -/
def State.cmdSample (s : State) (c : Cmd) : Sample :=
  { cid := c.cid, qid := c.qid, host := c.host, nsid := (c.io.map (·.nsid)).getD 0, opcode := c.opcode, cls := c.cls,
    waited := c.waited, recon := c.recon, status := c.status, dnr := c.dnr || openDnr c.status, blocks := (c.io.map (·.nlb)).getD 1,
    slba := c.lba, arrival := s.ptpTime - (s.now - c.arrival), queueNs := c.step4 - c.arrival,
    memberNs := c.relAt - c.step4, egressNs := s.now - c.relAt, cntlid := c.cntlid }

/-- A command's member reads lose their command when its tag is freed: what is still outstanding ends without effect. -/
def State.detach (s : State) (t : Nat) : State :=
  let jobs := (s.mb.recons.filter fun x => x.tag == t).map fun x => x.id
  let mine (r : MReq) : Bool := match r.own with | .host u _ => u == t | .recon j _ => decide (j ∈ jobs) | _ => false
  let f (r : MReq) : MReq := if mine r then { r with own := .strip 256 [] } else r
  s.modMb fun m => { m with
    ports := m.ports.map fun q =>
      { q with reqs := q.reqs.filter fun r => !mine r, tags := q.tags.map fun x => (x.1, { x.2 with req := f x.2.req }) }
    deferred := m.deferred.filter fun r => !mine r
    recons := m.recons.filter fun x => x.tag ≠ t }

/-- COMPLETION_POST (R59): the response capsule of a command in Completing leaves once no RDMA read response and no data
acknowledgement is owed; the tag is freed.  A command whose controller is gone ends without one (R26). -/
def State.tryPost (s : State) (t : Nat) : State :=
  match s.cmd? t with
  | none => s
  | some c =>
    if c.st ≠ .completing ∨ c.rdOut ≠ 0 ∨ c.pkts ≠ 0 ∨ s.stopped then s
    else
      let s1 := ((s.modFr fun f => { f with
        cmds := tdel f.cmds t
        carried := f.carried.filter fun e => !(e.1 == c.cntlid && e.2.1 == c.qid && e.2.2.1 == c.cid) }).detach t).unblock
      if (s1.queue? c.cntlid c.qid).isNone then s1
      else
        let s2 := (s1.count (cmdEv c 3 1)).count (cmdEv c 7 (s.now - c.arrival))
        let s3 := if c.status = 0 then s2 else s2.count (cmdEv c 4 1)
        let s4 := if c.io.isSome then s3.sample (s.cmdSample c) (cmdEv c 3 1) else s3
        let ap : Bool := match c.io with | some io => io.op == .append && c.status == 0 | none => false
        s4.respond c.cntlid c.qid c.cid c.status c.dnr (if ap then c.lba % 2 ^ 32 else 0) (if ap then c.lba / 2 ^ 32 else 0)
          (invKey c.io)

/-- A command ends with a status: its slot is claimed, its range released, its completion posted when nothing is owed
(R60, R63).  A claimed command keeps its outcome. -/
def State.cmdEnd (s : State) (t status : Nat) (dnr : Bool) : State :=
  match s.cmd? t with
  | none => s
  | some c =>
    if c.claimed then s
    else
      let s1 := (s.waitNote c).setCmd t { c with claimed := true, status := status, dnr := dnr, st := .completing }
      (s1.release t).tryPost t

/-- A command that has not begun leaves the device without a completion: its range and tag are free again. -/
def State.cmdLeave (s : State) (t : Nat) : State :=
  ((s.release t).modFr fun f => { f with cmds := tdel f.cmds t }).nvqShow

/-- The tag of an accepted command by its queue and identifier. -/
def State.tagOf (s : State) (cntlid qid cid : Nat) : Option Nat :=
  (s.fr.cmds.find? fun x => x.2.cntlid == cntlid && x.2.qid == qid && x.2.cid == cid).map (·.1)

/-- An admin command completes: its tag, if it holds one, is freed. -/
def State.adminDone (s : State) (cntlid cid status : Nat) (dnr : Bool := false) (dw0 : Nat := 0) (dw1 : Nat := 0)
    (inv : Option Nat := none) : State :=
  let s1 := match s.tagOf cntlid 0 cid with
    | some t => (s.modFr fun f => { f with cmds := tdel f.cmds t }).nvqShow
    | none => s
  s1.respond cntlid 0 cid status (dnr && status != 0) dw0 dw1 inv

end Sys2Proof.Machine
end

