-- ==== Sys2Proof/Machine/Journal.lean ====
section
/-! DEFINITION. The metadata journal ring (R118 to R124), Garnet's lines and their wear (R115 to R117), and the sending
side of the mirror (R136 to R138, R144). -/

namespace Sys2Proof.Machine
open Sys2Proof

/-- Set an EVENT bit of a block whose sources are numbered by bit from `base` (R419). -/
def State.evAt (s : State) (base : Nat) (f : FieldAt) : State := s.event f (base + f.lo)

/-! ### Lines and wear -/

/-- Chunk of the four remapped regions, in the order ring (from chunk 0), tails (512), staging (768), mirror-receive (896): 1,664
logical chunks of 64 KiB (R116). (DEDUCED, log entry 78.) -/
def State.physChunk (s : State) (l : Nat) : Nat := tgetD s.nv.chunkMap l l

/-- Count line writes to a logical chunk (R116) and in PMC.  The most-worn line of GNT.WEAR is taken to have had its share, one
in 1,024, of the most-worn chunk's writes. (DESIGN CHOICE, log entry 171.) -/
def State.wearAdd (s : State) (l n : Nat) (priv : Nat := 0) : State :=
  let c := s.physChunk l
  let w := tgetD s.nv.wear c 0 + n
  let s1 := s.modNv fun v => { v with wear := tput v.wear c w, maxWear := if v.maxWear < w then w else v.maxWear }
  (s1.put Fld.GNT.WEAR.PERMILLE (s1.nv.maxWear / 1024 / 1000000000)).count { code := 0x10, n := n, priv := some priv }

/-- Count writes of `n` lines, at most 1,024, from logical line `l` on, each to the chunk it lies in (R116). -/
def State.wearLines (s : State) (l n : Nat) (priv : Nat := 0) : State :=
  let m := min n (1024 - l % 1024)
  let s1 := s.wearAdd (l / 1024) m priv
  if m < n then s1.wearAdd (l / 1024 + 1) (n - m) priv else s1

/-- LINE_RETIRE (R117): a line moves to a spare line; with none left, GNT_NO_SPARE rises. -/
def State.lineRetire (s : State) (line : Nat) : State :=
  if s.nv.spareLines = 0 then s.condOn 401
  else
    let n := s.nv.spareLines - 1
    let s1 := (s.modNv fun v => { v with spareLines := n, lineMap := tput v.lineMap line (98304 - 1 - n) }).put Fld.GNT.SPARE_LINES.V n
    let s2 := s1.evAt 402 Fld.GNT.EVENT.LINE_RETIRED
    if n < 1024 then s2.evAt 402 Fld.GNT.EVENT.SPARE_LOW else s2

/-- Several lines are retired (R117, R126). -/
def State.linesRetire (s : State) (l : List Nat) : State := l.foldl State.lineRetire s

/-- Of `n` lines from line `l` on, those that failed are retired; `bad` counts them from `l` (R117). -/
def State.badRetire (s : State) (l n : Nat) (bad : List Nat) : State :=
  s.linesRetire ((bad.filter fun i => decide (i < n)).map fun i => l + i)

/-- First lines of the regions of Garnet as the model numbers them: the ring from 0, then tails, staging, mirror receive, the dump
and Carillon. (DEDUCED, log entry 78.) -/
def tailBase : Nat := 524288
def stagingBase : Nat := 786432
def mirrorBase : Nat := 917504
def carillonBase : Nat := 2228224

/-- No spare line is left and a line has failed: every later write-kind command completes with Namespace Is Write
Protected (R117). -/
def State.writeProtected (s : State) : Bool := decide (401 ∈ s.ev.conds)

/-- A physical chunk that no logical chunk lies on. -/
def State.chunkFree (s : State) (c : Nat) : Bool := decide (c < 3456) && !(List.range 1664).any fun l => s.physChunk l == c

/-- Some free chunk has taken fewer than `w` line writes. -/
def State.lessWorn (s : State) (w : Nat) : Bool := (List.range 3456).any fun c => s.chunkFree c && decide (tgetD s.nv.wear c 0 < w)

/-- CHUNK_WEAR_COPY (R116): a logical chunk whose physical chunk has taken 2^30 more line writes than the least-worn free chunk
moves there; of the lines read for the copy, those of `fixed` needed a 2-bit correction (R117). -/
def execChunkWearCopy (chunk free : Nat) (fixed : List Nat) (s : State) : Host.Outcome State Fault Refusal :=
  if ¬ s.aon.coreUp then .next s else
  .next (if 1664 ≤ chunk ∨ ¬ s.chunkFree free ∨ s.lessWorn (tgetD s.nv.wear free 0)
      ∨ tgetD s.nv.wear (s.physChunk chunk) 0 < tgetD s.nv.wear free 0 + 2 ^ 30 then s
    else ((s.modNv fun v => { v with chunkMap := tput v.chunkMap chunk free }).wearAdd chunk 1024 2).linesRetire
      (fixed.filter fun l => l / 1024 == chunk))

/-! ### The mirror's sending side -/

/-- This device mirrors to a partner (R136). -/
def State.mirrorOn (s : State) : Bool :=
  s.flag Fld.GNT.MIRROR_CFG.ENABLE && s.flag Fld.SWC.TOPO_CFG.PARTNERED && !s.flag Fld.TOP.STATUS.PARTNER_REFUSED

/-- The mirror key is missing (R137): ENCRYPT is 1 and KEY_SLOT holds no key of kind DATA and size AES-128 or
AES-256. -/
def State.mirrorKeyMissing (s : State) : Bool :=
  s.flag Fld.GNT.MIRROR_CFG.ENCRYPT
    && (match tget s.keys.slots (s.get Fld.GNT.MIRROR_CFG.KEY_SLOT) with
      | some k => !(k.kind == 3 && (k.size == 0 || k.size == 1))
      | none => true)

/-- The mirror is in step (R141). -/
def State.inStep (s : State) : Bool := s.flag Fld.GNT.MIRROR.IN_STEP

/-- Whether ordinary mirror records are sent now: in step, or resynchronising (R137, R141). -/
def State.mirrorSends (s : State) : Bool :=
  s.mirrorOn && !s.mirrorKeyMissing && !s.jn.partnerWait && (s.inStep || s.flag Fld.GNT.MIRROR.RESYNC)

/-! ### Records as bytes -/

/-- Runs of consecutive zones: first zone and count (R120). -/
def zoneRuns : List Nat → List (Nat × Nat)
  | [] => []
  | z :: r => match zoneRuns r with
    | (f, n) :: q => if f = z + 1 then (z, n + 1) :: q else (z, 1) :: (f, n) :: q
    | [] => [(z, 1)]

/-- Lines of a record (R120 to R122). -/
def recLines (b : RecBody) : Nat :=
  match b with
  | .wpAdvance _ _ _ _ _ _ k => if k.length ≤ 3 then 1 else 2
  | .mapSwap _ _ _ _ _ _ _ _ _ _ k => if k.length ≤ 2 then 1 else 2
  | .zoneState e => 1 + (e.length + 7) / 8
  | .nspace _ _ _ _ z _ => let n := (zoneRuns z).length; if n ≤ 5 then 1 else 1 + (n - 5 + 7) / 8
  | .darkTime _ => 4
  | _ => 1

/-- The type code of a record (R120). -/
def recType (b : RecBody) : Nat :=
  match b with
  | .pad => 0x00
  | .wpAdvance _ _ _ _ _ _ _ => 0x01
  | .mapSwap _ _ _ _ _ _ _ _ _ _ _ => 0x02
  | .zoneState _ => 0x03
  | .nspace _ _ _ _ _ _ => 0x04
  | .member _ _ _ => 0x05
  | .stripeBits _ _ _ _ _ _ _ _ _ _ => 0x06
  | .loss _ _ _ => 0x07
  | .darkTime _ => 0x08
  | .layout _ => 0x09
  | .checkpoint _ _ => 0x0A
  | .keepers _ _ _ => 0x0B
  | .owner _ _ => 0x0C
  | .unknown c => c

/-- A SKIP entry (R121, R122). -/
def skipBytes (x : Nat × Nat × Nat) : List Byte := leBytes 8 (x.1 % 2 ^ 40 + 2 ^ 40 * (x.2.1 % 64) + 2 ^ 46 * (x.2.2 % 32))

/-- The payload of a record, from byte 16 on (R120 to R122, R163, R168, R169).  The bytes of KEEPERS and OWNER, which the spec
does not lay out, are the model's. (DESIGN CHOICE, log entry 146.) -/
def recPayload (b : RecBody) : List Byte :=
  match b with
  | .wpAdvance z k fl gen new old sk => leBytes 5 z ++ leBytes 1 k ++ leBytes 2 (fl % 8 + 8 * sk.length) ++ leBytes 4 gen ++ leBytes 4 new
      ++ leBytes 4 old ++ leBytes 4 0 ++ sk.flatMap skipBytes
  | .mapSwap ns n lba st bl os ob cond de stg sk => leBytes 2 ns ++ leBytes 1 n ++ leBytes 1 (b2n cond + 2 * b2n de + 4 * sk.length)
      ++ leBytes 8 lba ++ leBytes 5 st ++ leBytes 2 bl ++ leBytes 5 os ++ leBytes 2 ob ++ leBytes 2 stg ++ leBytes 4 0 ++ sk.flatMap skipBytes
  | .zoneState es => leBytes 48 (es.length - 1) ++ es.flatMap fun e => leBytes 8 (e.1 % 2 ^ 40 + 2 ^ 40 * e.2)
  | .nspace id op cfg _ zs _ => leBytes 2 id ++ leBytes 2 op ++ leBytes 4 cfg
      ++ (zoneRuns zs).flatMap fun r => leBytes 8 (r.1 % 2 ^ 40 + 2 ^ 40 * r.2)
  | .member c fl x => leBytes 1 c ++ leBytes 1 x.st ++ leBytes 2 (c % 64 + 64 * (x.inc % 1024)) ++ leBytes 1 x.cause ++ leBytes 1 fl
      ++ leBytes 20 x.serial ++ leBytes 4 x.nguidCrc ++ leBytes 5 (if x.st = 6 then x.copyCur else x.cursor)
      ++ leBytes 1 (x.ctx.getD 0) ++ leBytes 5 x.crit
  | .stripeBits op c par f n g k h e t => leBytes 1 op ++ leBytes 1 c ++ leBytes 2 par ++ leBytes 5 f ++ leBytes 4 n ++ leBytes 3 0
      ++ leBytes 4 g ++ leBytes 2 k ++ leBytes 2 h ++ leBytes 4 e ++ leBytes 2 t
  | .loss l i n => leBytes 4 i ++ leBytes 4 n ++ leBytes 5 l.zone ++ leBytes 3 l.cause ++ leBytes 3 l.off ++ leBytes 5 l.count ++ leBytes 8 l.time
  | .darkTime ms => ms.flatMap (leBytes 4)
  | .layout d => beBytes 48 d.toNat
  | .checkpoint n q => leBytes 8 n ++ leBytes 8 q
  | .keepers _ slots ids => (slots.zip ids).flatMap fun x => leBytes 1 x.1 ++ leBytes 8 x.2.1 ++ leBytes 4 x.2.2
  | .owner d key => leBytes 1 d ++ leBytes 7 0 ++ leBytes 8 key
  | .pad | .unknown _ => []

/-- A record of `n` lines whose CRC field holds `c` (R119). -/
def recImage (j n c : Nat) (b : RecBody) : List Byte :=
  fitBytes (64 * n) (leBytes 8 j ++ leBytes 1 (recType b) ++ leBytes 1 n ++ leBytes 2 0 ++ leBytes 4 c ++ recPayload b)

/-- The CRC of a record: over all its lines with the field taken as 0 (R119). -/
def recCrc (j n : Nat) (b : RecBody) : BitVec 32 := crc32c (recImage j n 0 b)

/-- The bytes of a record (R119). -/
def recBytes (j n : Nat) (b : RecBody) : List Byte := recImage j n (recCrc j n b).toNat b

/-- A record's CRC agrees and its type is one of R120. -/
def RingRec.good (r : RingRec) : Bool := decide (r.crc = recCrc r.jseq r.lines r.body) && decide (recType r.body ≤ 0x0C)

/-! ### The mirror's sending side: records -/

/-- The plaintext of a mirror record: of a ring record its bytes, of a tail block the block with its 64 bytes of metadata.
The spec does not give the bytes of a release and of a verify record. (DESIGN CHOICE, log entry 47.) -/
def mirBytes (b : MirBody) : List Byte :=
  match b with
  | .ring _ n j r => recBytes j n r
  | .tail _ _ x => blkBytes x
  | .release u => leBytes 8 u
  | .verify a d => leBytes 8 a ++ leBytes 8 d.toNat

/-- The running digest after a record (R144): CRC-64 over its plaintext. (DESIGN CHOICE, log entry 47.) -/
def mirDigest (d : BitVec 64) (b : MirBody) : BitVec 64 := crc64From d (mirBytes b)

/-- A mirror record as it leaves (R136): with ENCRYPT, in CTR mode under the key of KEY_SLOT; the counter block is MSEQ in its
high 64 bits and the block index in its low 32. -/
def State.mirContent (s : State) (m : Nat) (b : MirBody) : List Byte :=
  if s.flag Fld.GNT.MIRROR_CFG.ENCRYPT then
    descCrypt (match tget s.keys.slots (s.get Fld.GNT.MIRROR_CFG.KEY_SLOT) with | some k => k.material | none => []) 3 false 0
      (m % 2 ^ 64 * 2 ^ 64) (mirBytes b)
  else mirBytes b

/-- The dependency class of a mirror record: release records C1, others C4 (R208). -/
def mirCls (b : MirBody) : Nat := match b with | .release _ => 1 | _ => 4

/-- Send a mirror record on both paths with the next MSEQ (R136, R138); answers its MSEQ. -/
def State.mirSend (s : State) (b : MirBody) : Nat × State :=
  let m := s.nv.mseq + 1
  let s1 := (s.modNv fun v => { v with mseq := m }).modJn fun j => { j with tx := j.tx ++ [(m, b)], digTx := mirDigest j.digTx b }
  (m, (s1.wr64 Reg.GNT.MSEQ_SENT_LO m).sendMirror m 0 0 (mirCls b) (s.mirContent m b))

/-- Send a record's copy when the mirror is active. -/
def State.mirCopy (s : State) (b : MirBody) : Option Nat × State :=
  if s.mirrorSends then let (m, s1) := s.mirSend b; (some m, s1) else (none, s)

/-- The highest MSEQ acknowledged. -/
def State.mseqAcked (s : State) : Nat := s.rd64 Reg.GNT.MSEQ_ACKED_LO

/-! ### Records -/

/-- Lines of the ring in use (R118). -/
def State.ringUse (s : State) : Nat := (s.nv.ring.map (·.lines)).foldl (· + ·) 0

/-- Ring lines (R118). -/
def ringLines : Nat := 524288

/-- Put a record into the ring with the next JSEQ; a mirror copy follows when the mirror is active (R118, R136). -/
def State.ringPut (s : State) (b : RecBody) (n tailM : Nat) (cmd : Option Nat) : State :=
  let j := s.nv.nextJseq
  let (m, s1) := s.mirCopy (.ring s.nv.head n j b)
  let s2 := s1.modNv fun v =>
    { v with
      ring := v.ring ++ [⟨j, s.nv.head, n, b, recCrc j n b, false, m, tailM, cmd⟩], nextJseq := j + 1, head := (v.head + n) % ringLines }
  (s2.wearLines s.nv.head n (if cmd.isSome then 0 else 2)).setN Reg.GNT.RING_USE s2.ringUse

/-- Lines the next record takes, with the PAD record that fills the end of the ring when it does not fit there
(R118). -/
def State.ringNeed (s : State) (n : Nat) : Nat := if s.nv.head + n ≤ ringLines then n else ringLines - s.nv.head + n

/-- JOURNAL_RECORD_ISSUE (R123, R124): a record goes to the ring, or waits while the ring is full, before replay has
taken up the ring (R134), or once the part has stopped; records keep their order. (DEDUCED, log entry 85.) -/
def State.recIssue (s : State) (b : RecBody) (cmd : Option Nat := none) (tailM : Nat := 0) : State :=
  let n := recLines b
  let wait := s.modJn fun j => { j with waitRecs := j.waitRecs ++ [(b, cmd, tailM)] }
  if s.stopped ∨ s.jn.waitRecs ≠ [] ∨ ¬ s.flag Fld.GNT.STATUS.REPLAY_DONE then wait
  else if ringLines < s.ringUse + s.ringNeed n then (wait.on Fld.GNT.STATUS.RING_FULL).evAt 402 Fld.GNT.EVENT.RING_FULL
  else
    let s1 := if s.nv.head + n ≤ ringLines then s else s.ringPut .pad (ringLines - s.nv.head) 0 none
    s1.ringPut b n tailM cmd

/-- Issue the records that waited, as far as they fit; RING_FULL clears when none is left (R124). -/
def State.recDrain (s : State) : State :=
  let w := s.jn.waitRecs
  let s1 := (s.modJn fun j => { j with waitRecs := [] }).off Fld.GNT.STATUS.RING_FULL
  w.foldl (fun s x => s.recIssue x.1 x.2.1 x.2.2) s1

/-- The highest written JSEQ. -/
def State.jseq (s : State) : Nat := s.rd64 Reg.GNT.JSEQ_LO

/-! ### The stripe bitmaps -/

/-- Resynchronisations that have passed `stripe` in its group go back to it: no group bit clears while a stale strip of the group
has not been written (R154). -/
def State.resyncBack (s : State) (stripe : Nat) : State :=
  s.modMb fun m => { m with resyncPos := m.resyncPos.map fun e =>
    if stripe < e.2 ∧ (e.2 - 1) / 65536 = stripe / 65536 then (e.1, stripe) else e }

/-- Set the STALE bit of a stripe and the group bit of a column (R153). -/
def State.markStale (s : State) (stripe c : Nat) : State :=
  ((s.modTb fun t => { t with stale := addNew t.stale stripe }).modCol c fun x => { x with
    groups := addNew x.groups (stripe / 65536) }).resyncBack stripe

/-- SKIP entries take effect (R121, R122): each names a stripe and a slot. -/
def State.applySkips (s : State) (k : List (Nat × Nat × Nat)) : State :=
  k.foldl (fun s x => match s.colOfSlot x.2.1 with
    | some c => s.markStale x.1 c
    | none => s) s

/-- The missed-stripe bitmap of column `c` holds stripe `n` (R153). -/
def State.holdsStale (s : State) (c n : Nat) : Bool :=
  decide (n / 65536 ∈ (s.col c).groups) && decide (n ∈ s.tb.stale) && (s.layout.posOf n c).isSome

/-- Zones that are not Empty by a record. -/
def nonEmptyZones (zs : Tab Zone) : Nat := (zs.filter fun x => x.2.st != 1 && x.2.recorded).length

/-- The number of zones that are not Empty, kept in Garnet's header with the highest generation (R71): as of the last written
record, so zones that an unwritten NAMESPACE record empties still count. -/
def State.headerUpdate (s : State) : State :=
  let n := nonEmptyZones s.tb.zones + (s.jn.emptied.map (·.2)).foldl (· + ·) 0
  let g := s.tb.zones.foldl (fun m x => if m < x.2.gen then x.2.gen else m) s.tb.baseGen
  s.modNv fun v => { v with nonEmpty := n, highGen := if v.highGen < g then g else v.highGen }

/-- The conventional map entry of a block (R39). -/
def State.mapOf (s : State) (nsid lba : Nat) : Option (Nat × Nat) :=
  (tget s.tb.conv (nsid * 2 ^ 40 + lba)).map fun v => (v % 2 ^ 40, v / 2 ^ 40)

/-- Set or clear a map entry. (DESIGN CHOICE, log entry 141.) -/
def State.setMap (s : State) (nsid lba : Nat) (v : Option (Nat × Nat)) : State :=
  s.modTb fun t => { t with
    conv := match v with
      | some (st, b) => tput t.conv (nsid * 2 ^ 40 + lba) (st + 2 ^ 40 * b)
      | none => tdel t.conv (nsid * 2 ^ 40 + lba) }

/-- Block `i` after (stripe, block) of a log run (R122): consecutive, on to block 0 of the next stripe. -/
def State.runAt (s : State) (stripe block i : Nat) : Nat × Nat :=
  let sb := if s.stripeBlocks = 0 then 1 else s.stripeBlocks
  (stripe + (block + i) / sb, (block + i) % sb)

/-- Zones taken or returned change ZONE_FREE. -/
def State.zoneShow (s : State) : State :=
  let taken := (s.tb.nss.map fun x => x.2.zones.length).foldl (· + ·) 0
  s.wr64 Reg.ZMP.ZONE_FREE_LO (s.rd64 Reg.ZMP.ZONE_COUNT_LO - taken)

/-- Two losses of one zone meet: they overlap or are adjacent (R163). -/
def lossMeets (l x : Loss) : Bool := x.zone == l.zone && decide (x.off ≤ l.off + l.count) && decide (l.off ≤ x.off + x.count)

/-- A loss together with the descriptors of the table that it meets; the cause and the time are those of the first of them
(R163). -/
def lossMerge (ls : List Loss) (l : Loss) : Loss :=
  (ls.filter (lossMeets l)).foldr (fun x a =>
    let lo := if x.off < a.off then x.off else a.off
    let hi := if a.off + a.count < x.off + x.count then x.off + x.count else a.off + a.count
    { x with off := lo, count := hi - lo }) l

/-- The zone map entries name the first descriptor of their zone (R46). -/
def State.lossIndex (s : State) : State :=
  s.modTb fun t => { t with zones := t.zones.map fun e =>
    if e.2.loss then (e.1, { e.2 with lossIdx := t.losses.findIdx fun l => l.zone == e.1 }) else e }

/-- A descriptor enters the loss table, merged with those it meets (R163). -/
def State.lossPut (s : State) (l : Loss) : State :=
  let m := lossMerge s.tb.losses l
  ((s.modTb fun t => { t with losses := (t.losses.filter fun x => !lossMeets l x) ++ [m] }).modZone l.zone fun x =>
    { x with loss := true }).lossIndex

/-- Index of the next descriptor of the same zone after descriptor `i`. -/
def State.lossNext (s : State) (i : Nat) (l : Loss) : Nat :=
  match (s.tb.losses.zipIdx.find? fun x => decide (i < x.2) && x.1.zone == l.zone) with
  | some x => x.2
  | none => 0xFFFFFFFF

/-- A zone takes a state by a ZONE_STATE entry (R33): leaving for Empty raises the generation, drops the pointers and
frees the zone's loss descriptors (R34, R164).  A finished zone keeps the pointer of its data: beyond it everything counts
as zero (R91), while what is shown is the capacity. -/
def State.zoneTo (s : State) (z st : Nat) : State :=
  if st = 1 then
    if (s.zone z).st = 1 ∧ ¬ (s.zone z).recorded then s
    else ((s.modZone z fun x => { x with
      st := 1, gen := x.gen + 1, wp := 0, rp := 0, recorded := false, loss := false, lossIdx := 0,
      resets := x.resets + 1 }).modTb fun t => { t with losses := t.losses.filter fun l => l.zone ≠ z }).lossIndex
  else s.modZone z fun x => { x with st := st, recorded := true }

/-- The write pointer of the log zone of a committed run covers the run's end, `e` blocks from the start of its stripe. -/
def State.logAdvance (s : State) (stripe e : Nat) : State :=
  let z := s.zoneOfStripe stripe
  let w := (stripe - z * s.spz) * s.stripeBlocks + e
  s.modZone z fun x =>
    { x with
      wp := if x.wp < w then w else x.wp, rp := if x.rp < w then w else x.rp, recorded := true,
      st := if x.st = 13 ∨ x.st = 15 then x.st else if s.zoneCap ≤ w then 14 else if zActive x.st then x.st else 2 }

/-- Page `i` of table `t` of the table store: 0 zone map, 1 conventional map, 2 stripe bitmaps, 3 member table, 4 dark minutes,
5 namespace table, 6 sequence counters and the placement tables. (DESIGN CHOICE, log entry 147.) -/
def pageOf (t i : Nat) : Nat := t * 2 ^ 40 + i

/-- The page of a zone map entry of 64 bytes, and of the two bits of a stripe (R15, R131). -/
def zonePage (z : Nat) : Nat := pageOf 0 (z / 64)
def stripePage (n : Nat) : Nat := pageOf 2 (n / 16384)

/-- The pages a record changes (R131). (DESIGN CHOICE, log entry 147.) -/
def State.recPages (s : State) (b : RecBody) : List Nat :=
  let skip (k : List (Nat × Nat × Nat)) : List Nat := (k.map fun x => stripePage x.1) ++ (if k = [] then [] else [pageOf 3 0])
  match b with
  | .wpAdvance z _ _ _ _ _ k => zonePage z :: skip k
  | .mapSwap ns n lba st _ _ _ _ _ _ k =>
    zonePage (s.zoneOfStripe st) :: (List.range (n / 512 + 2)).map (fun i => pageOf 1 (ns * 2 ^ 31 + (lba / 512 + i))) ++ skip k
  | .zoneState es => es.map fun e => zonePage e.1
  | .nspace _ _ _ _ zs _ => pageOf 5 0 :: zs.map zonePage
  | .member _ _ _ => [pageOf 3 0]
  | .stripeBits op _ _ f n _ _ _ _ _ =>
    if op = 1 ∨ op = 2 ∨ op = 5 then (List.range (n / 16384 + 2)).map fun i => stripePage (f + 16384 * i) else [pageOf (if op ≤ 4 then 3 else 6) 0]
  | .loss _ _ _ | .keepers _ _ _ | .owner _ _ => [pageOf 6 0]
  | .darkTime _ => [pageOf 4 0]
  | .pad | .layout _ | .checkpoint _ _ | .unknown _ => []

/-- Record `j` makes the pages it changes dirty, and is the last one applied to them (R130, R131). -/
def State.markDirty (s : State) (j : Nat) (b : RecBody) : State :=
  let ps := s.recPages b
  (s.modJn fun x => { x with dirty := ps.foldl addNew x.dirty }).modTb fun t => { t with
    pageSeq := ps.foldl (fun q p => tput q p (max (tgetD q p 0) j)) t.pageSeq }

/-- What a record changes in the tables (R120): applied when it commits, and at replay.  R120 gives the NAMESPACE record no place
for NS_SIZE; the model takes it that the size comes back with the record (R32). (DESIGN CHOICE, log entry 151.) -/
def State.applyRec (s : State) (b : RecBody) : State :=
  match b with
  | .wpAdvance z k0 fl _ wp _ k =>
    (s.modZone z fun x => { x with
      slot := k0, wp := wp, recorded := true, rp := if x.rp < wp then wp else x.rp,
      st := if x.st = 13 ∨ x.st = 15 then x.st else if bit fl 1 then 14 else if x.st = 4 ∧ bit fl 0 then 2 else if zActive x.st then x.st else 2 }).applySkips k
  | .mapSwap ns n lba st bl os ob cond de _ k =>
    ((List.range (n + 1)).foldl (fun s i =>
      if cond ∧ s.mapOf ns (lba + i) ≠ some (s.runAt os ob i) then s
      else s.setMap ns (lba + i) (if de then none else some (s.runAt st bl i)))
      (if de then s else s.logAdvance st (bl + n + 1))).applySkips k
  | .zoneState es => es.foldl (fun s e => s.zoneTo e.1 e.2) s
  | .nspace id op cfg size zs last =>
    if op = 1 then
      let old := ((s.ns? id).map (·.zones)).getD [] ++ zs
      let s1 := s.modTb fun t => { t with nss := tput t.nss id ⟨cfg, size, old, last, false⟩ }
      zs.foldl (fun s z => s.modZone z fun x => { x with nsid := id, log := bit cfg 1, resets := 0 }) s1
    else
      let zs := ((s.ns? id).map (·.zones)).getD []
      let s1 := s.modTb fun t => { t with nss := tdel t.nss id, conv := t.conv.filter fun e => e.1 / 2 ^ 40 ≠ id }
      zs.foldl (fun s z => (s.zoneTo z 1).modZone z fun x => { x with nsid := 0, log := false }) s1
  | .member c _ x => s.modCol c fun y => { x with groups := if x.st = 2 ∨ x.st = 3 then y.groups else [] }
  | .stripeBits op c par f n g k h e tt =>
    (match op with
     | 1 => s.modTb fun t => { t with stale := (List.range n).foldl (fun l i => addNew l (f + i)) t.stale }
     | 2 => s.modTb fun t => { t with stale := t.stale.filter fun i => ¬ (f ≤ i ∧ i < f + n) }
     | 3 => s.modCol c fun x => { x with groups := (List.range n).foldl (fun l i => addNew l (f + i)) x.groups }
     | 4 => s.modCol c fun x => { x with groups := x.groups.filter fun i => ¬ (f ≤ i ∧ i < f + n) }
     | 5 =>
       let upd (l : List Nat) (i : Nat) : List Nat := if par = 1 then addNew l (f + i) else dropEl l (f + i)
       s.modTb fun t => { t with scrubBits := (List.range n).foldl upd t.scrubBits }
     | 6 =>
       let keep := s.tb.extents.filter fun x => ¬ (x.col = c ∧ x.grp = g ∧ x.rank = k ∧ ¬ x.repair)
       s.modTb fun t => { t with extents := keep ++ [⟨c, g, k, h, e, false, []⟩] }
     | 7 => s.modTb fun t => { t with extents := t.extents.filter fun x =>
         ¬ (x.col = c ∧ x.grp = g ∧ x.rank = k ∧ x.holder = h ∧ x.ext = e) }
     | 8 =>
       let mine (x : Extent) : Bool := x.col == c && x.grp == g && x.rank == k && x.repair
       let old := ((s.tb.extents.find? mine).map (·.valid)).getD []
       s.modTb fun t => { t with extents := (t.extents.filter fun x => !mine x) ++ [⟨c, g, k, h, e, true, addNew old tt⟩] }
     | _ => s)
  | .loss l _ _ => s.lossPut l
  | .darkTime ms => s.modTb fun t => { t with darkMin := ms }
  | .keepers ks _ _ => s.modTb fun t => { t with keepers := ks }
  | .owner d k => s.modTb fun t => { t with owner := d, ownerKey := k }
  | .pad | .layout _ | .checkpoint _ _ | .unknown _ => s

/-- A change of the tables by the part itself: made at once, with its record (R158, R168, R169). -/
def State.recNow (s : State) (b : RecBody) : State := (s.applyRec b).recIssue b

end Sys2Proof.Machine
end

