-- ==== Sys2Proof/Machine/Keepers.lean ====
section
/-! DEFINITION. The journal regions of the keepers: the append log of segments and strips, its directory and its sealed blocks
(R79, R130), and what checkpoints and ring copies write there (R131, R132). -/

namespace Sys2Proof.Machine
open Sys2Proof

/-! ### The append log -/

/-- Strips of a segment, segments of the region (R130). -/
def segStrips : Nat := 4096
def segCount : Nat := 128

/-- An empty journal region on a member. -/
def KeepLog.empty (id : Nat × Nat) : KeepLog := ⟨id, none, none, 0, [], [], [], 0, [], [], [], 0⟩

/-- A segment holds the newest copy of a page, or a ring copy still needed. -/
def KeepLog.live (k : KeepLog) (g : Nat) : Bool :=
  (k.pages.any fun e => e.2 / segStrips == g) || k.copyAt.any fun i => i / segStrips == g

/-- Segments whose pages all have newer copies are free again (R131); the one being written is not. -/
def KeepLog.reuse (k : KeepLog) : KeepLog :=
  { k with used := k.used.filter fun g => k.live g || (k.head % segStrips != 0 && k.head / segStrips == g) }

/-- The next strip of the log, with its directory; at the end of a segment the lowest free one follows, rewritten once more. -/
def KeepLog.place (k : KeepLog) (d : LogDir) : Nat × KeepLog :=
  if k.head % segStrips ≠ 0 then (k.head, { k with head := k.head + 1, dirs := tput k.dirs k.head d })
  else
    let k1 := k.reuse
    let g := ((List.range segCount).find? fun g => !decide (g ∈ k1.used)).getD 0
    let n := match tget k1.gens g with | some x => x + 1 | none => 0
    (segStrips * g, { k1 with head := segStrips * g + 1, used := k1.used ++ [g], gens := tput k1.gens g n,
                              dirs := tput (k1.dirs.filter fun e => e.1 / segStrips ≠ g) (segStrips * g) d })

/-- Write pages, 15 to a strip, as part of checkpoint `num`, COMMIT on the last strip where it ends the checkpoint: one of no
page where none is left to write (R130, R131).  `seq` is the JSEQ of the last record applied to a page.  Answers the strips
written. -/
def KeepLog.writePages (k : KeepLog) (seq : Nat → Nat) (num : Nat) (commit : Bool) : Nat → List Nat → List Nat × KeepLog
  | 0, _ => ([], k)
  | n + 1, ps =>
    if ps = [] ∧ ¬ commit then ([], k)
    else
      let here := ps.take 15
      let rest := ps.drop 15
      let (i, k1) := k.place ⟨here.map fun p => (p, seq p), [], num, commit && rest.isEmpty⟩
      let k2 := { k1 with pages := here.foldl (fun t p => tput t p i) k1.pages }
      if rest = [] then ([i], k2)
      else
        let (l, k3) := k2.writePages seq num commit n rest
        (i :: l, k3)

/-- Write strips of ring copies, each with the JSEQ range of its blocks. -/
def KeepLog.writeCopies (k : KeepLog) : List (List (Nat × Nat)) → List Nat × KeepLog
  | [] => ([], k)
  | d :: r =>
    let (i, k1) := k.place ⟨[], d, k.num, false⟩
    let (l, k2) := { k1 with copyAt := k1.copyAt ++ [i] }.writeCopies r
    (i :: l, k2)

/-- While fewer than 8 segments are free, the live pages of the oldest one are written again (R131); at most `n` times. -/
def KeepLog.tidy (k : KeepLog) (seq : Nat → Nat) : Nat → List Nat × KeepLog
  | 0 => ([], k)
  | n + 1 =>
    let k0 := k.reuse
    match k0.used with
    | g :: _ =>
      if segCount - k0.used.length < 8 then
        let ps := (k0.pages.filter fun e => e.2 / segStrips == g).map (·.1)
        let (l, k1) := k0.writePages seq k0.num false ps.length ps
        let (m, k2) := k1.tidy seq n
        (l ++ m, k2)
      else ([], k0)
    | [] => ([], k0)

/-! ### Its strips as blocks -/

/-- The seal of a log block (R130): KIND 3; STRIPE is the strip's index in the region, GENERATION the number of times its segment
has been rewritten; POSITION, NSID and LBA are 0. -/
def logSeal (member strip b gen : Nat) : Seal := ⟨member, strip, 0, 3, b, 1, 0, false, 0, gen, 0⟩

/-- A zone map entry as DRAM holds it (R46). -/
def zoneImage (t : Tables) (spz z : Nat) : List Byte :=
  let x := tgetD t.zones z ⟨1, false, false, 0, t.baseGen, 0, 0, 0, 0, 0, false⟩
  leBytes 1 (x.st % 16) ++ leBytes 1 (b2n x.loss + 2 * b2n x.log) ++ leBytes 2 x.nsid ++ leBytes 4 x.gen ++ leBytes 8 (z * spz)
    ++ leBytes 4 x.wp ++ leBytes 4 x.rp ++ leBytes 1 x.slot ++ leBytes 3 0 ++ leBytes 4 x.lossIdx ++ leBytes 8 x.resets ++ leBytes 24 0

/-- The 4 KiB of a page of the tables (R131): 64 zone map entries (R46), or 512 entries of the conventional map (R39); the spec
lays out no other table, whose bytes are a free value. (DESIGN CHOICE, log entry 147.) -/
def State.pageBytes (s : State) (t : Tables) (p : Nat) : List Byte :=
  let i := p % 2 ^ 40
  match p / 2 ^ 40 with
  | 0 => (List.range 64).flatMap fun j => zoneImage t s.spz (64 * i + j)
  | 1 => (List.range 512).flatMap fun j => match tget t.conv (i / 2 ^ 31 * 2 ^ 40 + 512 * (i % 2 ^ 31) + j) with
    | some v => leBytes 8 (v + 2 ^ 63)
    | none => leBytes 8 0
  | _ => fitBytes 4096 (Config.freeBytes 33 p)

/-- A strip of the log of column `c`: 15 blocks of content and the directory, whose bytes the spec does not lay out. (DESIGN CHOICE,
log entry 147.) -/
def State.logBlks (s : State) (c : Nat) (k : KeepLog) (i : Nat) (content : List Byte) : List Blk :=
  let d := tgetD k.dirs i ⟨[], [], 0, false⟩
  let bytes (b : Nat) : List Byte :=
    if b < 15 then fitBytes 4096 (content.drop (4096 * b)) else fitBytes 4096 (Config.dirBytes d.pages d.copies d.num d.commit)
  (List.range 16).map fun b =>
    sealed ⟨bytes b, List.replicate 16 0, logSeal (s.memberIdOf c) i b (tgetD k.gens (i / segStrips) 0), 0, 0⟩

/-- Write a strip of the log of column `c` (R130). -/
def State.logStrip (s : State) (c : Nat) (k : KeepLog) (i : Nat) (content : List Byte) : State :=
  s.emit (.member (s.slotOfCol c) 0 2 (16 * (s.layout.memberStrips - 524288 + i)) 16 (s.logBlks c k i content))

/-- Put a keeper's log back, with the strips it has written and their content. -/
def State.putLog (s : State) (c : Nat) (strips : List (Nat × List Byte)) (k : KeepLog) : State :=
  strips.foldl (fun s i => s.logStrip c k i.1 i.2) (s.modNv fun v => { v with klogs := tput v.klogs c k })

/-- The content of strips of pages, as their directories name them. -/
def State.stripPages (s : State) (t : Tables) (k : KeepLog) (l : List Nat) : List (Nat × List Byte) :=
  l.map fun i => (i, (tgetD k.dirs i ⟨[], [], 0, false⟩).pages.flatMap fun p => s.pageBytes t p.1)

/-- The log of column `c`, empty when it has none. -/
def State.keepLog (s : State) (c : Nat) : KeepLog := tgetD s.nv.klogs c (KeepLog.empty ((s.col c).serial, (s.col c).nguidCrc))

/-- Ring copies as they lie in strips of 15 blocks of 64 lines (R130): the JSEQ range of each block, and the bytes of each strip. -/
def copyStrips (recs : List (Nat × RecBody)) : List (List (Nat × Nat)) × List (List Byte) :=
  let bytes := recs.flatMap fun r => recBytes r.1 (recLines r.2) r.2
  let owner := recs.flatMap fun r => List.replicate (recLines r.2) r.1
  let strip (i : Nat) : List (Nat × Nat) := ((List.range 15).map fun b =>
    (owner.drop (960 * i + 64 * b)).take 64).filterMap fun l => match l.head?, l.getLast? with
      | some a, some b => some (a, b)
      | _, _ => none
  let n := (owner.length + 959) / 960
  ((List.range n).map strip, (List.range n).map fun i => fitBytes 61440 (bytes.drop (61440 * i)))

/-! ### What the keepers hold -/

/-- The newest table store with a valid COMMIT (R134). -/
def State.newestLog (s : State) : Option KeepLog :=
  (s.nv.klogs.map (·.2)).foldl (fun m k => if k.store.isNone then m else match m with
    | some x => if x.num < k.num then some k else m
    | none => some k) none

/-- The tables and the CKPT_SEQ of that store. -/
def State.tableStore (s : State) : Option (Tables × Nat) := s.newestLog.bind (·.store)

/-- The ring copies beside it, in JSEQ order: those of every keeper whose store is as new. -/
def State.ringCopies (s : State) : List (Nat × RecBody) :=
  match s.newestLog with
  | some n => ((s.nv.klogs.map (·.2)).foldl (fun m k => if k.num = n.num ∧ k.store.isSome then
      k.copies.foldl (fun m e => tput m e.1 e.2) m else m) ([] : Tab RecBody))
  | none => []

/-- Number of the last complete checkpoint. -/
def State.ckptNumber (s : State) : Nat := match s.newestLog with | some k => k.num | none => 0

/-- The shelf identity recorded on the keepers. -/
def State.keeperShelf (s : State) : Option Nat := (s.newestLog.bind (·.shelf))

/-- Columns of the keepers in step. -/
def State.keepersIn (s : State) : List Nat :=
  ((List.range 3).filter fun i => bit (s.get Fld.GNT.KEEPERS.IN_STEP) i).filterMap fun i => s.tb.keepers[i]?

/-- A checkpoint reaches the log of column `c` (R131): the dirty pages, then the COMMIT. -/
def State.logCommit (s : State) (c : Nat) (t : Tables) (q n : Nat) (ps : List Nat) : State :=
  let k0 := s.keepLog c
  let cp := k0.copies.filter fun x => decide (q < x.1)
  let seq (p : Nat) : Nat := tgetD t.pageSeq p 0
  let (l, k1) := { k0 with copies := cp, copyAt := if cp = [] then [] else k0.copyAt }.writePages seq n true (ps.length + 1) ps
  let (m, k2) := { k1 with store := some (t, q), num := n, shelf := s.nv.shelf, copied := max k1.copied q }.tidy seq segCount
  s.putLog c (s.stripPages t k2 (l ++ m)) k2

/-- The records written since the last copy reach the log of column `c` (R131). -/
def State.logCopies (s : State) (c : Nat) : State :=
  let k0 := s.keepLog c
  let new := (s.nv.ring.filter fun r => decide (k0.copied < r.jseq) && decide (r.jseq ≤ s.rd64 Reg.GNT.JSEQ_LO)).map fun r => (r.jseq, r.body)
  let (d, b) := copyStrips new
  let (l, k1) := k0.writeCopies d
  s.putLog c (l.zip b) { k1 with copies := k1.copies ++ new, copied := max k1.copied (s.rd64 Reg.GNT.JSEQ_LO) }

/-- The full copy of the table store and of the ring copies since the last checkpoint to a new keeper (R132): from a keeper in
step, and where none is left, of the tables as they stand. -/
def State.logFull (s : State) (c : Nat) : State :=
  let k0 := KeepLog.empty ((s.col c).serial, (s.col c).nguidCrc)
  let src := match s.newestLog with
    | some k => k
    | none => { k0 with store := some (s.tb, s.rd64 Reg.GNT.JSEQ_LO), shelf := s.nv.shelf, copied := s.rd64 Reg.GNT.JSEQ_LO }
  let t := (src.store.map (·.1)).getD s.tb
  let ps := src.pages.map (·.1)
  let (l, k1) := k0.writePages (fun p => tgetD t.pageSeq p 0) src.num true (ps.length + 1) ps
  let (d, b) := copyStrips s.ringCopies
  let (m, k2) := k1.writeCopies d
  s.putLog c (s.stripPages t k2 l ++ m.zip b)
    { k2 with store := src.store, num := src.num, shelf := src.shelf, copies := s.ringCopies, copied := src.copied }

end Sys2Proof.Machine
end

