-- ==== Sys2Proof/Machine/MemberOps.lean ====
section
/-! DEFINITION. Members: where a strip is held and whether it is available (R150, R151, R155, R420), power states
(R94 to R105), member requests and their routing, unreadable ranges, losses (R161, R163), the views of MBR. -/

namespace Sys2Proof.Machine
open Sys2Proof

/-! ### Columns and power states -/

/-- The column counts as failed (R147): Absent or Failed. -/
def State.countsFailed (s : State) (c : Nat) : Bool := (s.col c).st == 3 || (s.col c).st == 4

/-- Columns of the layout in a state. -/
def State.colsIn (s : State) (p : Column → Bool) : List Nat := s.columns.filter fun c => p (s.col c)

/-- The member of column `c` is Active or Idle. -/
def State.poweredUp (s : State) (c : Nat) : Bool := (s.power c).ps == 1 || (s.power c).ps == 2

/-- Columns whose member is in power state `p`. -/
def State.inPs (s : State) (p : Nat) : List Nat := s.columns.filter fun c => (s.power c).ps == p

/-- The power domain of a slot (MBR.PWR_DOMAIN). -/
def State.domain (s : State) (n : Nat) : Nat := s.get ⟨Reg.MBR.PWR_DOMAIN (n / 8), 4 * (n % 8), 3⟩

/-- ON gate of the domain of column `c` is open. -/
def State.onOpen (s : State) (c : Nat) : Bool := bit (s.get Fld.MBR.DOMAIN_GATE.ON) (s.domain (s.slotOfCol c))
/-- WAKE gate of the domain of column `c` is open. -/
def State.wakeOpen (s : State) (c : Nat) : Bool := bit (s.get Fld.MBR.DOMAIN_GATE.WAKE) (s.domain (s.slotOfCol c))

/-- Column `c` is a keeper's. -/
def State.isKeeper (s : State) (c : Nat) : Bool := decide (c ∈ s.tb.keepers)

/-- Free and used spare extents: the extents column `d` holds. (DEDUCED, log entry 52.) -/
def State.extentsOn (s : State) (d : Nat) : List Extent := s.tb.extents.filter fun e => e.holder == d

/-- Spare extents of a member: 4,096 strips each; on a keeper they end before the journal region (R130, R155). -/
def State.extentCap (s : State) (d : Nat) : Nat :=
  (s.layout.spareStrips - (if s.isKeeper d then 524288 else 0)) / 4096

/-- A deferred member request waits under R100 to R102: for its member, an Idle one only while the cap leaves it no place. -/
def State.waits (s : State) (r : MReq) : Bool :=
  (s.power r.col).ps != 2 || decide (s.get Fld.MBR.PWR_CFG.ACTIVE_MAX ≤ (s.inPs 1).length)

/-- The member requests that MBR.DEFERRED counts (R100): those that wait for their member, and reads that wait as reconstructions.
(DESIGN CHOICE, log entry 153.) -/
def State.deferredCount (s : State) : Nat :=
  (s.mb.deferred.filter s.waits).length + (s.mb.recons.filter fun x => !x.started).length

/-- The views that MBR shows of columns and members. -/
def State.mbrShow (s : State) : State :=
  let mask (p : Nat → Bool) : Nat := maskOf 48 fun c => decide (c < s.layout.columns) && p c
  let bySlot (p : Nat → Bool) : Nat := maskOf 48 fun n => match s.colOfSlot n with | some c => p c | none => false
  let ps (k : Nat) : Nat → Bool := fun c => (s.power c).ps == k
  let cnt (k : Nat) : Nat := (s.inPs k).length
  let stIs (k : Nat) : Nat → Bool := fun c => (s.col c).st == k
  let s1 := (s.wr64 Reg.MBR.FAILED_SET_LO (mask (stIs 4))).wr64 Reg.MBR.ABSENT_SET_LO (mask (stIs 3))
  let s2 := (s1.wr64 Reg.MBR.MISSED_SET_LO (mask fun c => (s.col c).groups != [])).wr64 Reg.MBR.SPARE_HOLDER_LO
    (mask fun c => s.extentsOn c != [])
  let s3 := (s2.wr64 Reg.MBR.DARK_SET_LO (bySlot fun c => ps 4 c || (ps 3 c && (s.power c).target == 4))).wr64
    Reg.MBR.WAKE_PENDING_LO (bySlot fun c => ps 5 c || ps 6 c)
  let s4 := (((s3.put Fld.MBR.PWR_STATUS.ACTIVE (cnt 1)).put Fld.MBR.PWR_STATUS.IDLE (cnt 2 + cnt 3)).put Fld.MBR.PWR_STATUS.DARK
    (cnt 4)).put Fld.MBR.PWR_STATUS.STOWED (cnt 5 + cnt 6)
  let n (k : Nat) : Nat := (s.colsIn fun x => x.st == k).length
  let s5 := ((s4.put Fld.MBR.STATUS.FAILED (n 4)).put Fld.MBR.STATUS.ABSENT (n 3)).put Fld.MBR.STATUS.COPYBACKS (n 6)
  let s6 := s5.put Fld.MBR.STATUS.REBUILDS (s.colsIn fun x => x.ctx.isSome).length
  let free := (s.colsIn fun x => x.st == 2).map fun d => s.extentCap d - (s.extentsOn d).length
  let s7 := (s6.put Fld.MBR.SPARE_FREE.V (free.foldl (· + ·) 0)).put Fld.MBR.REPAIR_USE.V
    (s.tb.extents.filter fun e => e.repair).length
  s7.put Fld.MBR.LOSS_COUNT.V s.tb.losses.length

/-- A member takes a power state (R113). -/
def State.setPs (s : State) (c ps : Nat) : State := (s.modPower c fun p => { p with ps := ps }).mbrShow

/-- A member has been used: the order of R102. -/
def State.usedNow (s : State) (c : Nat) : State :=
  let s1 := s.modMb fun m => { m with useSeq := m.useSeq + 1 }
  s1.modPower c fun p => { p with lastUsed := s1.mb.useSeq }

/-- The deepest non-operational power state of a member whose exit latency MBR.IDLE_CFG.EXLAT_MAX allows (R103). -/
def State.lowState (s : State) (c : Nat) : Option Nat :=
  match (s.port (s.slotOfCol c)).drive with
  | some d => (d.lowStates.filter fun e => decide (e.2 ≤ 1000 * s.get Fld.MBR.IDLE_CFG.EXLAT_MAX)).foldl (fun a e => match a with
      | some b => if b < e.1 then some e.1 else a
      | none => some e.1) none
  | none => none

/-- A member goes to Idle (R103): Set Features Power Management (02h) puts it into its low state, if it has one. -/
def State.toIdle (s : State) (c : Nat) : State :=
  let p := s.lowState c
  let s1 := match p with | some n => s.emit (.member (s.slotOfCol c) 0 0x13 0x02 n []) | none => s
  (s1.modPower c fun x => { x with nvmePs := p.getD 0, noLow := p.isNone }).setPs c 2

/-- A member becomes Active (R103): back to power state 0. -/
def State.toActive (s : State) (c : Nat) : State :=
  let s1 := if (s.power c).nvmePs = 0 then s else s.emit (.member (s.slotOfCol c) 0 0x13 0x02 0 [])
  ((s1.modPower c fun p => { p with nvmePs := 0 }).setPs c 1).usedNow c

/-- FLAGS of a column's MEMBER record (R168): keeper, spare holder, bitmap not empty. -/
def State.colFlags (s : State) (c : Nat) : Nat :=
  b2n (s.isKeeper c) + 2 * b2n (s.extentsOn c != []) + 4 * b2n ((s.col c).groups != [])

/-- A column takes a state, with its MEMBER record (R147, R158). -/
def State.setCol (s : State) (c : Nat) (x : Column) : State :=
  let s1 := s.modCol c fun _ => x
  (s1.recIssue (.member c (s1.colFlags c) x)).mbrShow

/-- Mark column `c` to fail with a CAUSE; acted upon at the end of the command (R148). -/
def State.failMark (s : State) (c cause : Nat) : State := s.modMb fun m => { m with failReq := m.failReq ++ [(s.slotOfCol c, cause)] }

/-! ### Spare places -/

/-- Stripes of one extent group: ROWS × 4,096 (R155). -/
def State.groupSpan (s : State) : Nat := s.layout.rows.length * 4096

/-- The key (g, k) of column `c`'s strip in stripe `n` and its place t in the extent (R155). -/
def State.keyOf (s : State) (c n : Nat) : Nat × Nat × Nat :=
  let r := s.layout.rows.length
  (n / s.groupSpan, s.layout.rank (n % r) c, n % s.groupSpan / r)

/-- The spare extent (or repair extent) of column `c`'s strip in stripe `n`. -/
def State.extentOf (s : State) (c n : Nat) (rep : Bool) : Option Extent :=
  let (g, k, t) := s.keyOf c n
  s.tb.extents.find? fun e => e.col == c && e.grp == g && e.rank == k && e.repair == rep && (!rep || decide (t ∈ e.valid))

/-- Member LBA of place `t` in an extent (R155). -/
def State.extentLba (s : State) (e : Extent) (t : Nat) : Nat := (s.layout.dataStrips + 4096 * e.ext + t) * 16

/-- Candidate holders in the order of R155, for column `c` and stripe `n`. -/
def State.holders (s : State) (c n : Nat) : List Nat :=
  let cols := s.layout.columns
  let (g, k, _) := s.keyOf c n
  let start := (c + 1 + (g * s.layout.appear + k) % (cols - 1)) % cols
  ((List.range cols).map fun j => (start + j) % cols).filter fun d =>
    d != c && !decide (d ∈ s.layout.row n) && (s.col d).st == 2
      && !(s.tb.extents.any fun e => e.holder == d && e.col != c && e.grp == g
            && (match (List.range s.layout.rows.length).find? fun r =>
                  decide (e.col ∈ s.layout.row r) && s.layout.rank r e.col == e.rank with
                | some r => r == n % s.layout.rows.length
                | none => false))
      && decide ((s.extentsOn d).length < s.extentCap d)

/-- The lowest free extent of a holder. -/
def State.freeExtent (s : State) (d : Nat) : Nat :=
  ((List.range (s.extentCap d)).find? fun e => !((s.extentsOn d).any fun x => x.ext == e)).getD 0

/-- A Dark member goes to Stowed (R99, R104, R105, R112). -/
def State.stow (s : State) (c : Nat) : State :=
  if (s.power c).ps = 4 then (s.modMb fun m => { m with joining := dropEl m.joining c }).setPs c 5
  else if (s.power c).ps = 3 then (s.modPower c fun p => { p with target := 5 }).mbrShow
  else s

/-- Column `c`'s strip of stripe `n` has a place, or has none (R155, R157). -/
def State.placed (s : State) (c n : Nat) : State := s.modMb fun m => { m with unplacedAt := m.unplacedAt.filter (· ≠ (c, n)) }
def State.notPlaced (s : State) (c n : Nat) : State := s.modMb fun m => { m with unplacedAt := (c, n) :: m.unplacedAt.filter (· ≠ (c, n)) }

/-- place(c, n) (R155): the extent that holds column `c`'s strip of stripe `n`, made when it does not exist.  With only
Dark holders, the first of them is moved to Stowed and none is answered; with none at all SPARE_EXHAUSTED is set. (DESIGN
CHOICE, log entry 154.) -/
def State.placeKey (s : State) (c n : Nat) : Option Extent × State :=
  match s.extentOf c n false with
  | some e => (some e, s.placed c n)
  | none =>
    let (g, k, _) := s.keyOf c n
    match (s.holders c n).find? fun d => (s.power d).ps != 4 with
    | some d =>
      let s1 := (s.placed c n).recNow (.stripeBits 6 c 0 0 0 g k d (s.freeExtent d) 0)
      (s1.extentOf c n false, s1.mbrShow)
    | none => match s.holders c n with
      | d :: _ => (none, s.stow d)
      | [] => (none, (s.notPlaced c n).evAt 448 Fld.MBR.EVENT.SPARE_EXHAUSTED)

/-! ### Availability -/

/-- Where position `p` of stripe `n` is read (R151): 0 its own member, 1 its spare extent, 2 its repair extent; and the
column that holds it. -/
def State.readPlace (s : State) (n p : Nat) : Option (Nat × Nat) :=
  let c := s.layout.colAt n p
  let x := s.col c
  if x.st = 6 ∧ n < x.copyCur then some (0, c)
  else match s.extentOf c n true with
    | some e => some (2, e.holder)
    | none =>
      if x.st = 2 then some (0, c)
      else if x.st = 3 ∨ x.st = 0 then none
      else (s.extentOf c n false).map fun e => (1, e.holder)

/-- A range of position `p` awaits repair (R148). -/
def State.unreadable (s : State) (n p b0 k : Nat) : Bool :=
  s.mb.unread.any fun u => u.1 == n && u.2.1 == p && decide (u.2.2.1 < b0 + k) && decide (b0 < u.2.2.1 + u.2.2.2)

/-- Position `p` of stripe `n` is lacking over a range (R420): no change of power state could make it serve. -/
def State.lacking (s : State) (n p b0 k : Nat) : Bool :=
  match s.readPlace n p with
  | none => true
  | some (loc, d) => s.unreadable n p b0 k || (loc == 0 && s.holdsStale d n) || (loc != 0 && (s.col d).st != 2)

/-- Position `p` of stripe `n` is available over a range (R150). -/
def State.available (s : State) (n p b0 k : Nat) : Bool :=
  !s.lacking n p b0 k && (match s.readPlace n p with | some (_, d) => s.poweredUp d | none => false)

/-- The open slot of a stripe: its partials stand in for P and Q (R91). -/
def State.slotOfStripe (s : State) (n : Nat) : Option Nat :=
  (s.slots.find? fun x => x.2.stripe == n && (x.2.st == 1 || x.2.st == 2) && !x.2.freeing).map (·.1)

/-- The slot that stripe `n` is being rebuilt in (R87). -/
def State.slotRebuilding (s : State) (n : Nat) : Bool := s.slots.any fun x => x.2.stripe == n && x.2.st == 3 && !x.2.freeing

/-- The slot whose stripe `n` is, one that is being rebuilt included (R84, R87). -/
def State.slotAt (s : State) (n : Nat) : Option Slot := (s.slots.find? fun x => x.2.stripe == n && x.2.st != 0 && !x.2.freeing).map (·.2)

/-- How far zone `z` has been folded: to its slot's next block, or to the write pointer where it has no slot (R84). -/
def State.frontier (s : State) (z : Nat) : Nat :=
  match s.slots.find? fun x => x.2.zone == z && x.2.st != 0 && !x.2.freeing with
  | some x => (x.2.stripe - z * s.spz) * s.stripeBlocks + x.2.folded
  | none => (s.zone z).wp

/-- Nothing of the strip at position `p` is on a member yet (R86, R87, R91): data beyond what its zone has folded, or of a finished
zone beyond its write pointer; in an open stripe the strip now filling, P and Q, for which the slot stands in; in a stripe being
rebuilt that had not closed, what lies beyond the pointer, P and Q. -/
def State.unwritten (s : State) (n p : Nat) : Bool :=
  match s.slotAt n with
  | some x => if x.st = 3 then !x.closed && decide (s.layout.k ≤ p ∨ (x.folded ≤ 16 * p ∧ x.was < 16 * p + 16))
      else decide (s.layout.k ≤ p ∨ x.folded / 16 ≤ p)
  | none =>
    let z := s.zoneOfStripe n
    decide (s.frontier z ≤ (n - z * s.spz) * s.stripeBlocks + (if p < s.layout.k then 16 * p else 0))

/-- Positions of a stripe. -/
def State.positions (s : State) : List Nat := List.range s.layout.width

/-- Positions that can serve as sources: available, standing in by partials, or zero (R91, R150). -/
def State.sources (s : State) (n b0 k : Nat) : List Nat :=
  s.positions.filter fun p => s.available n p b0 k || s.unwritten n p

/-- How many positions of a stripe are lacking over a range (R420). -/
def State.lackCount (s : State) (n b0 k : Nat) : Nat :=
  (s.positions.filter fun p => s.lacking n p b0 k && !s.unwritten n p).length

/-- Positions lacking at block `b` of a stripe (R420). -/
def State.lackAt (s : State) (n b : Nat) : List Nat := s.positions.filter fun p => s.lacking n p b 1 && !s.unwritten n p

/-- Blocks of a stripe at which more than two positions are lacking (R161, R420). -/
def State.lossBlocks (s : State) (n : Nat) : List Nat := (List.range 16).filter fun b => decide (2 < (s.lackAt n b).length)

/-! ### Losses -/

/-- Zone and offset of block `b` of data position `p` of stripe `n`. -/
def State.zoneOffset (s : State) (n p b : Nat) : Nat × Nat :=
  let z := s.zoneOfStripe n
  (z, (n - z * s.spz) * s.stripeBlocks + 16 * p + b)

/-- Record a data-loss descriptor (R161, R163): it is merged with those of its zone that it meets; a full table leaves a Carillon
record only. -/
def State.lossAdd (s : State) (z cause off k : Nat) : State :=
  let l : Loss := ⟨z, cause, off, k, s.ptpTime⟩
  let s0 := (s.modMb fun m => { m with scrubLost := m.scrubLost || m.scrubSelf }).evAt 448 Fld.MBR.EVENT.DATA_LOST
  if ¬ (s.tb.losses.any (lossMeets l)) ∧ 65536 ≤ s.tb.losses.length then
    (s0.evAt 448 Fld.MBR.EVENT.LOSS_FULL).detail 0x25 (448 + Fld.MBR.EVENT.LOSS_FULL.lo) (z % 2 ^ 32)
      (z / 2 ^ 32 % 256 + 256 * off) k
  else
    let m := lossMerge s0.tb.losses l
    let s1 := s0.lossPut l
    let i := s1.tb.losses.findIdx fun x => x == m
    (s1.recIssue (.loss m i (s1.lossNext i m))).mbrShow

/-- A lost block lies at offset `o` of zone `z` (R164). -/
def State.isLost (s : State) (z o : Nat) : Bool :=
  s.tb.losses.any fun l => l.zone == z && decide (l.off ≤ o) && decide (o < l.off + l.count)

/-- Every block of data position `p` of stripe `n` is covered by loss descriptors. -/
def State.stripeLost (s : State) (n p : Nat) : Bool :=
  let (z, o) := s.zoneOffset n p 0
  decide (p < s.layout.k) && (List.range 16).all fun b => s.isLost z (o + b)

/-- Zone `z` holds data: neither Empty nor Offline. -/
def State.zoneData (s : State) (z : Nat) : Bool := (s.zone z).st != 1 && (s.zone z).st != 15

/-- Stripes of a zone that reach down to its write pointer: none where its data cannot be read (R157). -/
def State.zoneStripes (s : State) (z : Nat) : List Nat :=
  let sb := if s.stripeBlocks = 0 then 1 else s.stripeBlocks
  if s.zoneData z then (List.range (min s.spz (((s.zone z).wp + sb - 1) / sb))).map fun i => z * s.spz + i else []

/-- More than two of some positions of stripe `n` lack because their columns failed: a third failure has reached it (R161). -/
def State.thirdFailure (s : State) (n : Nat) (ps : List Nat) : Bool :=
  decide (2 < (ps.filter fun p => s.countsFailed (s.layout.colAt n p)).length)

/-- Record the loss of those data positions of `ps` that hold data and are not lost already, over a range (R161): cause 2 when
columns alone account for it. -/
def State.lossRange (s : State) (n b0 k : Nat) (ps : List Nat) : State :=
  let lost := ps.filter fun p => decide (p < s.layout.k) && !s.unwritten n p
    && !(let (z, o) := s.zoneOffset n p b0; (List.range k).all fun i => s.isLost z (o + i))
  let cause := if s.thirdFailure n ps then 2 else 1
  lost.foldl (fun s p => let (z, o) := s.zoneOffset n p b0; s.lossAdd z cause o k) s

/-- Record what is lost of a stripe: at each block with more than two lacking positions, the data positions among them (R161,
R420). -/
def State.lossAll (s : State) (n : Nat) : State :=
  (s.lossBlocks n).foldl (fun s b => s.lossRange n b 1 (s.lackAt n b)) s

/-! ### Requests -/

/-- Arbitration class of a request: 0 Urgent to 3 Low, 4 Background. -/
def MReq.urgent (r : MReq) : Bool := r.cls == 0

/-- Put a request into the queue of the drive port that serves its column (R54). -/
def State.enqueueReq (s : State) (r : MReq) : State :=
  s.modPort (s.slotOfCol r.col) fun p => { p with reqs := p.reqs ++ [r] }

/-- No request is outstanding at column `c`. -/
def State.quiet (s : State) (c : Nat) : Bool :=
  (s.port (s.slotOfCol c)).reqs.isEmpty && (s.port (s.slotOfCol c)).tags.all fun t => t.2.quarantined

/-- The least recently used of some members (R102). -/
def State.lru (s : State) (c : Nat) (r : List Nat) : Nat :=
  r.foldl (fun b x => if (s.power x).lastUsed < (s.power b).lastUsed then x else b) c

/-- An Idle member is needed: at the cap, the least recently used Active member without a request goes to Idle
(R102). -/
def State.makeRoom (s : State) : State :=
  if (s.inPs 1).length < s.get Fld.MBR.PWR_CFG.ACTIVE_MAX then s
  else match (s.inPs 1).filter s.quiet with
    | [] => s
    | c :: r => s.toIdle (s.lru c r)

/-- A request waits: for its member's activation, for its wake, or for sources (R100, R104). -/
def State.deferReq (s : State) (r : MReq) : State := (s.modMb fun m => { m with deferred := m.deferred ++ [r] }).mbrShow

/-- Start a reconstruction for a read (R91, R92): it waits for a free job.  A second strip of the stripe over the same range, for
the same command, joins the job that waits. -/
def State.addRecon (s : State) (stripe pos b0 n tag idx cls : Nat) (retried : Bool) (noSrc : List Nat := []) : State :=
  let mate (x : Recon) : Bool := !x.started && x.stripe == stripe && x.b0 == b0 && x.n == n && x.tag == tag && x.pos != pos
    && x.pos2.isNone && x.retried == retried
  match s.mb.recons.find? mate with
  | some y => s.modMb fun m => { m with recons := m.recons.map fun x =>
      if x.id = y.id then { x with pos2 := some (pos, idx), noSrc := noSrc.foldl addNew x.noSrc } else x }
  | none => s.modMb fun m => { m with
    recons := m.recons ++ [⟨m.nextReq, stripe, pos, b0, n, tag, idx, cls, false, [], 0, retried, s.now, none, noSrc⟩],
    nextReq := m.nextReq + 1 }

/-- A job's strips as requests of their own: its position and, where it has one, its second. -/
def Recon.parts (x : Recon) : List (Nat × Nat) := (x.pos, x.idx) :: x.pos2.toList

/-- The strips of job `x` are asked for again, without the sources `noSrc`. -/
def State.reconAgain (s : State) (x : Recon) (retried : Bool) (noSrc : List Nat) : State :=
  x.parts.foldl (fun s e => s.addRecon x.stripe e.1 x.b0 x.n x.tag e.2 x.cls retried noSrc)
    (s.modMb fun m => { m with recons := m.recons.filter fun y => y.id ≠ x.id })

/-- A reconstruction begins anew under a new number, without a source whose probe did not pass: what its sources still deliver
meets no job (R92, R151). -/
def State.reconRestart (s : State) (j : Nat) (bad : List Nat := []) : State :=
  match s.mb.recons.find? fun x => x.id == j with
  | some x => s.reconAgain x x.retried (bad.foldl addNew x.noSrc)
  | none => s

/-- The member LBA of a request's first block at location `loc` (R73, R155). -/
def State.reqLba (s : State) (stripe pos loc b0 : Nat) : Nat :=
  let c := s.layout.colAt stripe pos
  if loc = 0 then s.layout.index stripe c * 16 + b0
  else match s.extentOf c stripe (loc == 2) with
    | some e => s.extentLba e (s.keyOf c stripe).2.2 + b0
    | none => 0

/-- Route a read of `n` blocks of a position for a host command (R100, R150, R151). -/
def State.routeRead (s : State) (stripe pos b0 n tag idx cls : Nat) : State :=
  let mk (loc d : Nat) : MReq :=
    ⟨s.mb.nextReq, d, false, stripe, pos, b0, n, s.reqLba stripe pos loc b0, loc, cls, .host tag idx, [], s.now⟩
  let s1 := s.modMb fun m => { m with nextReq := m.nextReq + 1 }
  match s.readPlace stripe pos with
  | none => s.addRecon stripe pos b0 n tag idx cls false
  | some (loc, d) =>
    if s.lacking stripe pos b0 n then s.addRecon stripe pos b0 n tag idx cls false
    else match (s.power d).ps with
      | 1 => s1.enqueueReq (mk loc d)
      | 2 => s1.makeRoom.deferReq (mk loc d)
      | _ => if s.layout.k ≤ (s.sources stripe b0 n).length then s.addRecon stripe pos b0 n tag idx cls false
          else s1.deferReq (mk loc d)

/-- The skipped strips that a record carries (R120). -/
def recSkips (b : RecBody) : List (Nat × Nat × Nat) :=
  match b with
  | .wpAdvance _ _ _ _ _ _ k | .mapSwap _ _ _ _ _ _ _ _ _ _ k => k
  | _ => []

/-- A record that has not committed yet carries the skip of position `p` of stripe `n`. -/
def State.skipFlies (s : State) (n p : Nat) : Bool :=
  let has (b : RecBody) : Bool := (recSkips b).any fun k => k.1 == n && k.2.2 == p
  (s.nv.ring.any fun r => decide (s.rd64 Reg.GNT.JSEQ_LO < r.jseq) && has r.body) || s.jn.waitRecs.any fun r => has r.1

/-- How many other positions of an open stripe than `pos` are skipped or failed (R104): targets already skipped, in a committed
record or before it, and columns that count as failed. -/
def State.skipLoad (s : State) (stripe pos : Nat) (x : Slot) : Nat :=
  (s.positions.filter fun p =>
    let c := s.layout.colAt stripe p
    p != pos && (s.countsFailed c || (x.skips.any fun k => k.1 == stripe && k.2.2 == p) || s.skipFlies stripe p
      || s.holdsStale c stripe)).length

/-- The catch-up of column `c`'s member has not passed stripe `n` yet (R106, R154). -/
def State.behind (s : State) (c n : Nat) : Bool :=
  s.poweredUp c && (s.power c).catching && decide (tgetD s.mb.resyncPos c 0 ≤ n)

/-- What a write of a position does (R104, R152, R156): 0 sent to its column, 1 sent to a spare extent, 2 skipped and
recorded, 3 waits, 4 sent to its valid repair location. (DESIGN CHOICE, log entry 187.) -/
def State.writePlan (s : State) (stripe pos : Nat) (x : Slot) : Nat :=
  let c := s.layout.colAt stripe pos
  if (s.extentOf c stripe true).isSome ∧ ¬ ((s.col c).st = 6 ∧ stripe < (s.col c).copyCur) then 4
  else match (s.col c).st with
  | 2 =>
    if (s.power c).ps = 4 ∨ s.behind c stripe then (if s.skipLoad stripe pos x = 0 then 2 else 3)
    else 0
  | 3 => 2
  | 6 => if stripe < (s.col c).copyCur then 0 else 1
  | _ => 1

/-- Route a member write to column `d` at a location. -/
def State.sendWrite (s : State) (d : Nat) (r : MReq) : State :=
  match (s.power d).ps with
  | 1 => s.enqueueReq r
  | 2 => s.makeRoom.deferReq r
  | _ => s.deferReq r

/-- Position `pos` of slot `k`'s stripe is skipped (R104, R149): its record will say so, and SKIP_COUNT counts it. -/
def State.skipPos (s : State) (k stripe pos : Nat) : State :=
  let c := s.layout.colAt stripe pos
  let s1 := s.modSlot k fun y => { y with skips := y.skips ++ [(stripe, s.slotOfCol c, pos)] }
  if (s.col c).st = 3 then s1 else s1.satInc Fld.MBR.SKIP_COUNT.V

/-- Write the blocks of a position of slot `k`'s stripe (R86, R104, R152, R156): the blocks are sealed for the drive they
go to.  Answers whether a request was made; a write without a request is recorded as skipped or has no place. -/
def State.routeWrite (s : State) (k stripe pos cls : Nat) (own : Owner) (blks : List Blk) : Bool × State :=
  let c := s.layout.colAt stripe pos
  let x := s.slot k
  let mk (s : State) (loc d : Nat) : MReq :=
    ⟨s.mb.nextReq, d, true, stripe, pos, 0, 16, s.reqLba stripe pos loc 0, loc, cls, own,
     blks.map fun b => blkFor b (s.memberIdOf d), s.now⟩
  let bump (s : State) : State := s.modMb fun m => { m with nextReq := m.nextReq + 1 }
  match s.writePlan stripe pos x with
  | 0 => (true, (bump s).sendWrite c (mk s 0 c))
  | 1 => match s.placeKey c stripe with
    | (some e, s1) => (true, (bump s1).sendWrite e.holder (mk s1 1 e.holder))
    | (none, s1) => if (s1.holders c stripe) = [] then (false, s1) else (true, (bump s1).deferReq (mk s1 1 c))
  | 2 => (false, s.skipPos k stripe pos)
  | 4 => match s.extentOf c stripe true with
    | some e => (true, (bump s).sendWrite e.holder (mk s 2 e.holder))
    | none => (false, s)
  | _ => (true, (bump (s.stow c)).deferReq (mk s 0 c))

/-- The slot whose stripe a write belongs to; 256: none. -/
def MReq.slotNo (r : MReq) : Nat := match r.own with | .strip j _ => j | .parity j => j | _ => 256

/-- Take up a waiting request again after power states or columns have changed (R100, R104, R106, R156).  A write that R104 now
lets be skipped ends as its command does; one whose skip would break the limit waits, its Dark member Stowed. -/
def State.redispatch1 (s : State) (r : MReq) : State :=
  if r.write then
    let c := s.layout.colAt r.stripe r.pos
    match s.writePlan r.stripe r.pos (s.slot r.slotNo) with
    | 0 => s.sendWrite c { r with
        col := c, loc := 0, lba := s.reqLba r.stripe r.pos 0 0, blks := r.blks.map fun b => blkFor b (s.memberIdOf c) }
    | 1 => match s.placeKey c r.stripe with
      | (some e, s1) => s1.sendWrite e.holder { r with
          col := e.holder, loc := 1, lba := s1.reqLba r.stripe r.pos 1 0,
          blks := r.blks.map fun b => blkFor b (s1.memberIdOf e.holder) }
      | (none, s1) => s1.deferReq r
    | 2 => s.modMb fun m => { m with downReqs := m.downReqs ++ [r] }
    | 4 => match s.extentOf c r.stripe true with
      | some e => s.sendWrite e.holder { r with
          col := e.holder, loc := 2, lba := s.reqLba r.stripe r.pos 2 0, blks := r.blks.map fun b => blkFor b (s.memberIdOf e.holder) }
      | none => s
    | _ => (s.stow c).deferReq r
  else match r.own with
    | .host t i =>
      if (s.power r.col).ps = 1 ∧ ¬ s.lacking r.stripe r.pos r.b0 r.n then s.enqueueReq r
      else if (s.power r.col).ps = 2 ∧ ¬ s.lacking r.stripe r.pos r.b0 r.n then s.makeRoom.deferReq r
      else if s.lacking r.stripe r.pos r.b0 r.n ∨ s.layout.k ≤ (s.sources r.stripe r.b0 r.n).length then
        s.addRecon r.stripe r.pos r.b0 r.n t i r.cls false
      else s.deferReq r
    | .recon j _ =>
      if ¬ s.mb.recons.any fun x => x.id == j then s
      else if (s.power r.col).ps = 1 then s.enqueueReq r
      else if (s.power r.col).ps = 2 then s.makeRoom.deferReq r
      else s.reconRestart j
    | _ => s

/-- Take up every waiting request again. -/
def State.redispatch (s : State) : State :=
  (s.mb.deferred.foldl State.redispatch1 (s.modMb fun m => { m with deferred := [] })).mbrShow

/-- Take up again the requests that wait for column `c` (R100, R104). -/
def State.takeUp (s : State) (c : Nat) : State :=
  let mine (r : MReq) : Bool := r.col == c
  ((s.mb.deferred.filter mine).foldl State.redispatch1 (s.modMb fun m => { m with
    deferred := m.deferred.filter fun r => !mine r })).mbrShow

/-! ### Power transitions -/

/-- The port of a member that is Darkening goes to Quiescing once its outstanding commands have completed (R109, R272). -/
def State.quiesce (s : State) (n : Nat) : State :=
  if s.pt n = ptUp ∧ (s.port n).tags.all (fun t => t.2.quarantined) then s.portLeave n ptQuiescing else s

/-- MBR no longer asks for power: a port that is not Off goes to Quiescing, with its requests ended (R272, R286).
(DEDUCED, log entry 57.) -/
def State.powerDown (s : State) (n : Nat) : State :=
  let s1 := (s.modPort n fun p => { p with wanted := false, probe := false }).off (Fld.DRP_P.STATUS.PENDING n)
  if s1.pt n = ptOff ∨ s1.pt n = ptQuiescing then s1 else s1.portLeave n ptQuiescing

/-- Start Darkening toward Dark (4) or Stowed (5) (R108, R109, R113): no new request is issued, those waiting at the port are
taken up again under R100; the shutdown of the controller follows when its outstanding requests complete. -/
def State.darken (s : State) (c target : Nat) : State :=
  let s1 := (s.modPower c fun p => { p with target := target }).setPs c 3
  let n := s1.slotOfCol c
  let (rs, s2) := ((s1.port n).reqs, s1.modPort n fun p => { p with reqs := [], wanted := false })
  ((rs.foldl State.redispatch1 s2).takeUp c).quiesce n

end Sys2Proof.Machine
end

