-- ==== Sys2Proof/Machine/Slots.lean ====
section
/-! DEFINITION. Zones and their partial slots: folding in reservation order (R84, R85), strips, tails and closing (R86,
R125), the record of a piece (R36, R42, R121, R122), rollback and recompute (R37, R87, R89). -/

namespace Sys2Proof.Machine
open Sys2Proof

/-! ### Slots -/

/-- Active zones and the slots they hold are one number (R33, R84). -/
def State.zmpShow (s : State) : State :=
  let n := s.slots.length
  ((s.put Fld.BRL.PARTIAL_USE.V n).put Fld.ZMP.ACTIVE.ACTIVE_COUNT n).put Fld.ZMP.ACTIVE.CONV_RESERVED
    (if s.tb.nss.any fun x => x.2.conv then 4 else 0)

/-- The lowest free slot. -/
def State.freeSlot (s : State) : Option Nat := (List.range 256).find? fun n => (tget s.slots n).isNone

/-- The slot of an active zone. -/
def State.slotOfZone (s : State) (z : Nat) : Option Nat := (s.slots.find? fun x => x.2.zone == z && !x.2.freeing).map (·.1)

/-- An open slot for a stripe with nothing folded. -/
def Slot.fresh (z stripe : Nat) : Slot := { Slot.free with st := 1, zone := z, stripe := stripe }

/-- A stripe opens: when its row holds two Dark members, the one at the higher position goes to Stowed (R105). -/
def State.openStripe (s : State) (k : Nat) : State :=
  let n := (s.slot k).stripe
  match (s.positions.filter fun p => (s.power (s.layout.colAt n p)).ps == 4).reverse with
  | p :: _ :: _ => s.stow (s.layout.colAt n p)
  | _ => s

/-- A zone becomes active in state `st` with slot `k` (R33, R89). (DEDUCED, log entry 81.) -/
def State.activate (s : State) (z st k : Nat) : State :=
  let first := z * s.spz + (s.zone z).wp / (if s.stripeBlocks = 0 then 1 else s.stripeBlocks)
  (((s.modZone z fun x => { x with st := st, slot := k }).setSlot k (Slot.fresh z first)).openStripe k).zmpShow

/-- Active zones of a namespace. -/
def State.activeOf (s : State) (nsid : Nat) : Nat :=
  (s.tb.zones.filter fun x => x.2.nsid == nsid && zActive x.2.st).length

/-- A slot is available for one more active zone of a zoned namespace (R30, R35). -/
def State.slotFor (s : State) (nsid : Nat) : Option Nat :=
  match s.ns? nsid with
  | some n => if s.activeOf nsid < n.mar then s.freeSlot else none
  | none => none

/-- A request writes a strip of slot `k`. -/
def MReq.ofSlot (r : MReq) (k : Nat) : Bool := match r.own with | .strip j _ => j == k | .parity j => j == k | _ => false

/-- Requests of slot `k` that a predicate picks and that have not been issued are dropped (R62, R89). -/
def State.unqueue (s : State) (k : Nat) (p : MReq → Bool) : State :=
  let mine (r : MReq) : Bool := r.ofSlot k && p r
  s.modMb fun m => { m with
    ports := m.ports.map fun q => { q with reqs := q.reqs.filter fun r => !mine r }
    deferred := m.deferred.filter fun r => !mine r
    downReqs := m.downReqs.filter fun r => !mine r }

/-- Requests of slot `k` that a predicate picks and that have been issued belong to `own` from now on. -/
def State.reown (s : State) (k : Nat) (p : MReq → Bool) (own : Owner) : State :=
  let f (r : MReq) : MReq := if r.ofSlot k && p r then { r with own := own } else r
  s.modMb fun m => { m with
    ports := m.ports.map fun q => { q with tags := q.tags.map fun x => (x.1, { x.2 with req := f x.2.req }) } }

/-- Requests of slot `k` that a predicate picks lose their slot: those already issued complete without effect, the others
are dropped. -/
def State.orphan (s : State) (k : Nat) (p : MReq → Bool) : State := (s.unqueue k p).reown k p (.strip 256 [])

/-- Member writes of slot `k` that have been issued and have not completed. -/
def State.issuedWrites (s : State) (k : Nat) : Nat :=
  (s.mb.ports.flatMap fun q => q.tags.filter fun x => x.2.req.ofSlot k && !x.2.quarantined).length

/-- Data strip writes of slot `k` outstanding anywhere that a predicate picks. -/
def State.slotWrites (s : State) (k : Nat) (p : MReq → Bool) : Nat :=
  let mine (r : MReq) : Bool := (match r.own with | .strip j _ => j == k | _ => false) && p r
  (s.mb.ports.flatMap fun q => (q.reqs.filter mine) ++ (q.tags.filter fun x => mine x.2.req && !x.2.quarantined).map fun x => x.2.req).length
    + (s.mb.deferred.filter mine).length

/-- Tail positions of a slot that a predicate picks are no longer needed. -/
def State.tailsDrop (s : State) (k : Nat) (p : Blk → Bool) : State :=
  let gone (x : Nat × Blk) : Bool := x.1 / 16 == k && p x.2
  let keys := (s.nv.tails.filter gone).map (·.1)
  (s.modNv fun v => { v with tails := v.tails.filter fun x => !gone x }).modJn fun j =>
    { j with tailSeq := j.tailSeq.filter fun x => !decide (x.1 ∈ keys) }

/-- The slot of a zone is given up (R33, R89): its partials are discarded, writes not yet issued are dropped, and it is Free
once those already issued have completed. -/
def State.slotFree (s : State) (k : Nat) : State :=
  let x := s.slot k
  let s1 := (s.unqueue k fun _ => true).tailsDrop k fun _ => true
  let n := s1.issuedWrites k
  if n = 0 then (s1.setSlot k Slot.free).zmpShow
  else ((s1.reown k (fun _ => true) (.strip k [])).setSlot k { Slot.free with
    st := x.st, zone := x.zone, stripe := x.stripe, folded := x.folded, strips := n, freeing := true }).zmpShow

/-- A member write of a slot that was given up has completed (R89). -/
def State.slotDrained (s : State) (k : Nat) : State :=
  if (s.slot k).strips ≤ 1 then (s.setSlot k Slot.free).zmpShow else s.modSlot k fun x => { x with strips := x.strips - 1 }

/-! ### Reservations -/

/-- Commands with an outstanding reservation in zone `z` (R36). -/
def State.reservers (s : State) (z : Nat) : List (Nat × Cmd) :=
  s.fr.cmds.filter fun x => x.2.zone == some z && (x.2.st == .running || x.2.st == .committing || x.2.st == .abortDrain)

/-- End of the piece a command is at, in its own blocks (R42). -/
def Cmd.pieceEnd (c : Cmd) : Nat := if c.total < c.done + 256 then c.total else c.done + 256

/-- Zone offset of the next block that a slot folds. -/
def State.foldOff (s : State) (x : Slot) : Nat := (x.stripe - x.zone * s.spz) * s.stripeBlocks + x.folded

/-- The tail area of the slot still holds blocks of another strip than the one now filling (R125).
(DEDUCED, log entry 82.) -/
def State.tailsBusy (s : State) (k : Nat) : Bool :=
  let x := s.slot k
  s.nv.tails.any fun e => e.1 / 16 == k && !(e.2.tag.stripe == x.stripe && e.2.tag.pos == x.folded / 16)

/-- Write block `j` of the strip now filling to the zone tail for command `t`, and to the partner (R125, R136). -/
def State.tailPut (s : State) (k j t : Nat) : State :=
  match (s.slot k).cur[j]? with
  | none => s
  | some b =>
    let s1 := (s.modNv fun v => { v with tails := tput v.tails (16 * k + j) b }).wearAdd (512 + k) 65 0
    match s1.mirCopy (.tail k j b) with
    | (some m, s2) => (s2.modJn fun n => { n with tailSeq := tput n.tailSeq (16 * k + j) m }).modCmd t fun c => { c with tailMseq := m }
    | (none, s2) => s2

/-- Issue a tail write, which waits while the area holds another strip. -/
def State.tailIssue (s : State) (k j t : Nat) : State :=
  let s1 := s.modCmd t fun c => { c with owed := c.owed + 1 }
  if s.tailsBusy k then s1.modSlot k fun x => { x with tailWait := x.tailWait ++ [(j, t)] } else s1.tailPut k j t

/-- Issue the tail writes that waited, once the area is free of other strips. -/
def State.tailResume (s : State) (k : Nat) : State :=
  if s.tailsBusy k then s
  else
    let w := (s.slot k).tailWait
    w.foldl (fun s x => s.tailPut k x.1 x.2) (s.modSlot k fun x => { x with tailWait := [] })

/-- The class of a command, Medium where it is gone. -/
def State.clsOf (s : State) (t : Nat) : Nat := match s.cmd? t with | some c => c.cls | none => 2

/-- A tail block fails the fold check on read-back (R83, R126): the mismatch is counted and recorded, and the lines of the block
are retired. -/
def State.tailBad (s : State) (k pos j : Nat) (t : Blk) (e : Seal) : State :=
  let mask := sealDiff { t.tag with member := 0 } e + 256 * b2n (sealCrc t != t.crc)
  (((s.satInc Fld.BRL.ERR_FOLD.V).event Fld.BRL.EVENT.FOLD_MISMATCH 368).sealMismatch 2 t.tag.member (s.slot k).stripe pos j
    mask 368).linesRetire ((List.range 65).map fun i => ringLines + 1024 * k + 65 * j + i)

/-- A tail block is lost (R126): a data-loss descriptor, TAIL_LOST, and zeroes in its place. (DEDUCED, log entry 84.) -/
def State.tailLost (s : State) (k o : Nat) (e : Seal) : Blk × State :=
  (sealed ⟨List.replicate 4096 0, List.replicate 16 0, e, 0, 0⟩,
    (s.lossAdd (s.slot k).zone 4 o 1).evAt 402 Fld.GNT.EVENT.TAIL_LOST)

/-- The blocks of the strip that is complete, as they go to its member (R86): one in the tail is read back and passes the fold
check; a bad one is recovered from the partial, for which at most one other written position may be unavailable, or it is lost
(R126). (DEDUCED, log entry 84.) -/
def State.tailRead (s : State) (k : Nat) : List Blk × State :=
  let x := s.slot k
  let pos := (x.folded - 1) / 16
  x.cur.zipIdx.foldl (fun (a : List Blk × State) e =>
    match (tget s.nv.tails (16 * k + e.2)).filter fun y => y.tag.stripe == x.stripe && y.tag.pos == pos with
    | none => (a.1 ++ [e.1], a.2)
    | some y =>
      if sealCrc y = y.crc ∧ y.tag = e.1.tag then (a.1 ++ [y], a.2)
      else
        let s1 := a.2.tailBad k pos e.2 y e.1.tag
        if ((List.range pos).filter fun p => !s.available x.stripe p e.2 1).length ≤ 1 then (a.1 ++ [e.1], s1)
        else
          let (b, s2) := s1.tailLost k ((x.stripe - x.zone * s.spz) * s.stripeBlocks + 16 * pos + e.2) e.1.tag
          (a.1 ++ [b], s2)) ([], s)

/-- The strip now filling is complete (R86): it goes to its member; tail writes still waiting for it are covered. -/
def State.stripFull (s0 : State) (k t : Nat) : State :=
  let (blks, s) := s0.tailRead k
  let x := s.slot k
  let pos := (x.folded - 1) / 16
  let lo := s.foldOff x - 16
  let tags := ((s.reservers x.zone).filter fun y =>
    decide (lo < y.2.base + y.2.folded) && decide (y.2.base + y.2.done < lo + 16) && decide (y.2.done < y.2.folded)).map (·.1)
  let (sent, s1) := s.routeWrite k x.stripe pos (s.clsOf t) (.strip k tags) blks
  let s2 := x.tailWait.foldl (fun s w => s.modCmd w.2 fun c => { c with owed := c.owed - 1 }) s1
  let last : Bool := x.folded == s.stripeBlocks && !x.full
  let s3 := s2.modSlot k fun y => { y with
    cur := [], tailWait := [], strips := if sent then y.strips + 1 else y.strips
    closer := if last then some t else y.closer }
  let s4 := if last then s3.modCmd t fun c => { c with owed := c.owed + 1 } else s3
  if sent then tags.foldl (fun s u => s.modCmd u fun c => { c with owed := c.owed + 1 }) s4
  else s4.tailsDrop k fun b => b.tag.stripe == x.stripe && b.tag.pos == pos

/-- BLOCK_FOLD (R85): fold the next block, of command `t`; a full strip goes to its member, the blocks of a piece that
ends inside a strip go to the tail. (DEDUCED, log entry 84.) -/
def State.foldOne (s : State) (k t : Nat) (b : Blk) : State :=
  let x := s.slot k
  let off := s.foldOff x
  let y := foldBlk x (x.folded / 16) (x.folded % 16) b
  let s1 := ((s.setSlot k { y with cur := x.cur ++ [b] }).modMb fun m => { m with brlFg := m.brlFg + 1 }).modCmd t fun c =>
    { c with folded := c.folded + 1, got := tdel c.got (off - c.base) }
  if x.folded % 16 = 15 then s1.stripFull k t
  else match s1.cmd? t with
    | some c =>
      if c.folded = c.pieceEnd then
        let n := (s1.slot k).cur.length
        ((List.range n).filter fun j => decide (c.base + c.done ≤ off + 1 - n + j)).foldl (fun s j => s.tailIssue k j t) s1
      else s1
    | none => s1

/-- The command number, beyond every tag of R50, under which the part fills the rest of log zone `z`. -/
def padTag (z : Nat) : Nat := 65537 + z

/-- A zero block for block `b` of position `pos` of a slot's stripe, sealed like any other (R34, R86). -/
def State.padBlk (s : State) (x : Slot) (pos b : Nat) : Blk :=
  let o := s.foldOff x + b - x.folded % 16
  sealed { data := List.replicate 4096 0, pi := List.replicate 16 0,
           tag := s.expSeal 0 x.stripe pos b (s.zone x.zone).nsid (s.lbaOf x.zone o), syn := 0, crc := 0 }

/-- The next block to fold, if its command holds it and its piece may go on. -/
def State.foldNext (s : State) (k : Nat) : Option (Nat × Blk) :=
  let x := s.slot k
  let off := s.foldOff x
  if x.st ≠ 1 ∨ x.folded = s.stripeBlocks ∨ x.full ∨ (s.reservers x.zone).any (fun y => y.2.st == .abortDrain) then none
  else match (s.reservers x.zone).find? fun y => y.2.st == .running && decide (y.2.base ≤ off)
      && decide (off < y.2.base + y.2.total) && decide (off < y.2.base + y.2.done + 256) with
    | some (t, c) =>
      if t = padTag x.zone then some (t, s.padBlk x (x.folded / 16) (x.folded % 16))
      else (tget c.got (off - c.base)).map fun b => (t, b)
    | none => none

/-- A stripe closes (R86): P and Q are written. -/
def State.closeStart (s : State) (k : Nat) : State :=
  let x := s.slot k
  let cls := match x.closer with | some t => s.clsOf t | none => 2
  let blks (kind : Nat) : List Blk := (List.range 16).map fun b => s.parityBlk x kind b 0
  let (p, s1) := s.routeWrite k x.stripe s.layout.k cls (.parity k) (blks 1)
  let (q, s2) := s1.routeWrite k x.stripe (s.layout.k + 1) cls (.parity k) (blks 2)
  s2.modSlot k fun y => { y with st := 2, parity := b2n p + b2n q }

/-- STRIPE_BITS records for the skips that the commit record cannot hold (R121). -/
def State.surplus (s : State) (k : List (Nat × Nat × Nat)) : State :=
  k.foldl (fun s x => match s.colOfSlot x.2.1 with
    | some c => (s.recNow (.stripeBits 1 0 0 x.1 1 0 0 0 0 0)).recNow (.stripeBits 3 c 0 (x.1 / 65536) 1 0 0 0 0 0)
    | none => s) s

/-- The skips of a slot that no write's record will carry, those of a finish, are recorded (R104, R152). -/
def State.skipsOut (s : State) (k : Nat) : State :=
  if (s.slot k).skips = [] then s
  else ((s.surplus (s.slot k).skips).modSlot k fun x => { x with skips := [] }).mbrShow

/-- The close has completed (R86): the slot passes to the zone's next stripe, or waits for the zone to be Full. -/
def State.closeEnd (s0 : State) (k : Nat) : State :=
  let s := if (s0.slot k).full then s0.skipsOut k else s0
  let x := s.slot k
  let s1 := match x.closer with
    | some t => s.modCmd t fun c => { c with owed := c.owed - 1 }
    | none => s
  if x.full ∨ x.stripe + 1 = (x.zone + 1) * s.spz then
    s1.modSlot k fun y => { y with closer := none, full := true }
  else (s1.setSlot k { Slot.fresh x.zone (x.stripe + 1) with skips := x.skips, left := x.left }).openStripe k

/-! ### Rollback and recompute -/

/-- A member request for a stripe of zone `z` carries blocks at or beyond zone offset `tgt`. -/
def State.beyondTgt (s : State) (z tgt : Nat) (r : MReq) : Bool :=
  let sb := if s.stripeBlocks = 0 then 1 else s.stripeBlocks
  decide (tgt < (r.stripe - z * s.spz) * sb + 16 * r.pos + 16) || (match r.own with | .parity _ => true | _ => false)

/-- The reservation of a command goes back (R37): pieces are left without a record, its zone is active, and no later write of a
log zone has a record. -/
def State.rollsBack (s : State) (t : Nat) (c : Cmd) (z : Nat) : Bool :=
  decide (c.done < c.total) && zActive (s.zone z).st
    && !((s.zone z).log && (decide (c.base + c.done < (s.zone z).wp)
      || (s.reservers z).any fun y => y.1 != t && decide (c.base < y.2.base) && decide (0 < y.2.done)))

/-- Blocks of slot `k`'s stripe from index `f` on that the part still holds: of the strip now filling and of strips not yet issued
(R87). -/
def State.partBlks (s : State) (k f : Nat) : List (Nat × Blk) :=
  let x := s.slot k
  let rs := (s.mb.deferred ++ s.mb.downReqs ++ s.mb.ports.flatMap fun q => q.reqs).filter fun r => r.ofSlot k && r.stripe == x.stripe
    && decide (r.pos < s.layout.k)
  ((x.cur.zipIdx.map fun e => (x.folded / 16 * 16 + e.2, e.1)) ++ (rs.flatMap fun r => r.blks.zipIdx.map fun e => (16 * r.pos + e.2, e.1))
    ++ x.kept).filter fun e => decide (f ≤ e.1)

/-- The slot of zone `z` is rebuilt for the zone offset `tgt` (R87, R89): what was written beyond it is forgotten.  Where the stripe
had not closed, its partials stay until then, since they are its only syndromes.  DESIGN CHOICE (log entry 168): FOLDED shows the
pointer's count from here on. -/
def State.recompute (s : State) (z k tgt : Nat) : State :=
  let x := s.slot k
  let sb := if s.stripeBlocks = 0 then 1 else s.stripeBlocks
  let (st, f) := if s.foldOff x ≤ tgt then (x.stripe, x.folded) else (z * s.spz + tgt / sb, tgt % sb)
  let s1 := s.orphan k (s.beyondTgt z tgt)
  let keep := s1.slotWrites k fun _ => true
  let s2 := s1.tailsDrop k fun b => decide (tgt ≤ (b.tag.stripe - z * s.spz) * sb + 16 * b.tag.pos + b.tag.block)
  let closer := if f = s.stripeBlocks then x.closer else none
  let closed := decide (st ≠ x.stripe) || (x.closed && x.st == 3) || (x.full && x.closer.isNone)
  let z0 : Slot := Slot.fresh z st
  let y0 : Slot := if closed then z0 else { z0 with
    p := x.p, q := x.q, pm := x.pm, qm := x.qm, was := if x.st = 3 then x.was else x.folded, kept := s.partBlks k f }
  let y : Slot := { y0 with
    st := 3, folded := f, strips := keep, closer := closer, left := x.left, closed := closed, skips := x.skips.filter fun e => e.1 ≤ st }
  let s3 := (s2.setSlot k y).event Fld.BRL.EVENT.RECOMPUTE 374
  if st = x.stripe then s3 else s3.openStripe k

/-- The records of command `t` no longer carry it on when they commit. -/
def State.recForget (s : State) (t : Nat) : State :=
  (s.modNv fun v => { v with ring := v.ring.map fun r => if r.cmd = some t then { r with cmd := none } else r }).modJn fun j =>
    { j with waitRecs := j.waitRecs.map fun w => if w.2.1 = some t then (w.1, none, w.2.2) else w }

/-- RESERVATION_ROLLBACK (R37): the reservation pointer goes back to the first piece without a record; later reservations
of the zone end with Command Interrupted; the zone returns to Empty when nothing of it is recorded or outstanding. -/
def State.rollback (s0 : State) (t : Nat) : State :=
  let s := s0.recForget t
  match s.cmd? t with
  | none => s
  | some c =>
    match c.zone with
    | none => s
    | some z =>
      if c.total ≤ c.done then s
      else
        let tgt := c.base + c.done
        let later := (s.reservers z).filter fun y => decide (c.base < y.2.base)
        let drop (s : State) (u : Nat) : State := (s.modCmd u fun x => { x with zone := none, got := [] }).modFr fun f =>
          { f with staging := f.staging.filter fun e => e.tag ≠ u }
        let s1 := if s.rollsBack t c z then later.foldl (fun s y => (drop s y.1).cmdEnd y.1 0x21 false) (drop s t) else drop s t
        let none := s1.reservers z = []
        if ¬ s.rollsBack t c z then s1
        else if tgt = 0 ∧ ¬ (s1.zone z).recorded ∧ none then
          ((s1.modZone z fun x => { x with st := 1, rp := 0 }).slotFree (s1.zone z).slot)
        else
          let s2 := s1.modZone z fun x => { x with rp := tgt }
          match s2.slotOfZone z with
          | some k => s2.recompute z k tgt
          | Option.none => s2

/-- A command that has not claimed its slot fails: it rolls back what it reserved and ends (R37, R60). -/
def State.cmdFail (s : State) (t status : Nat) (dnr : Bool) : State :=
  match s.cmd? t with
  | some c => if c.claimed then s else (s.rollback t).cmdEnd t status dnr
  | none => s

/-- A new block fails the fold check (R83): it is counted and recorded, and its command ends with Internal Error. -/
def State.foldBad (s : State) (k t : Nat) (b : Blk) : State :=
  let x := s.slot k
  ((((s.satInc Fld.BRL.ERR_FOLD.V).event Fld.BRL.EVENT.FOLD_MISMATCH 368).sealMismatch 2 b.tag.member x.stripe (x.folded / 16)
    (x.folded % 16) 256 368).count { code := 0x0B, n := 1, zone := some x.zone }).cmdFail t 0x06 false

/-! ### Carrying a slot on -/

/-- Pad the open strip of a zone that is being finished with zero blocks, sealed and folded like any other (R34, R86). -/
def State.padStrip (s : State) (k : Nat) : State :=
  let x := s.slot k
  let pos := x.folded / 16
  let pads := ((List.range 16).drop (x.folded % 16)).map fun b => (b, s.padBlk x pos b)
  let y := pads.foldl (fun y e => foldBlk y pos e.1 e.2) x
  (s.setSlot k { y with cur := x.cur ++ pads.map (·.2) }).stripFull k 65536

/-- Carry a slot on as far as its blocks and member writes allow, in at most `n` moves; while an aborted command of its zone drains, no
new member write begins (R62). -/
def State.pumpSlot (s : State) (k : Nat) : Nat → State
  | 0 => s
  | n + 1 =>
    let x := s.slot k
    if x.st = 1 ∧ (s.reservers x.zone).any fun y => y.2.st == .abortDrain then s
    else if x.st = 1 ∧ x.full ∧ x.closer.isSome ∧ x.folded % 16 ≠ 0 then (s.padStrip k).pumpSlot k n
    else if x.st = 1 ∧ x.full ∧ x.closer.isSome ∧ x.folded = 0 then (s.closeEnd k).pumpSlot k n
    else if x.st = 1 ∧ (x.folded = s.stripeBlocks ∨ x.full) ∧ x.strips = 0 ∧ x.closer.isSome then (s.closeStart k).pumpSlot k n
    else if x.st = 2 ∧ x.parity = 0 ∧ x.closer.isSome then (s.closeEnd k).pumpSlot k n
    else match s.foldNext k with
      | some (t, b) => if sealCrc b = b.crc then (s.foldOne k t b).pumpSlot k n else s.foldBad k t b
      | none => s

/-! ### Records of writes -/

/-- Issue the record of a piece: WP_ADVANCE, or MAP_SWAP for the conventional log, but for its padding (R36, R42, R121, R122).  The completion
slot is claimed with the record of the last piece (R60). -/
def State.recordPiece (s : State) (z t : Nat) (c : Cmd) : State :=
  let e := c.pieceEnd
  let k := (s.zone z).slot
  let sk := (s.slot k).skips
  let old := c.base + c.done
  let new := c.base + e
  let sb := if s.stripeBlocks = 0 then 1 else s.stripeBlocks
  let room := if (s.zone z).log then 10 else 11
  let fl := b2n (!(s.zone z).recorded || (s.slot k).left) + 2 * b2n (new == s.zoneCap) + 4 * b2n (old / sb != new / sb)
  let body : RecBody := match c.io with
    | some io =>
      if (s.zone z).log ∧ t ≠ padTag z then
        .mapSwap io.nsid (e - c.done - 1) (io.slba + c.done) (z * s.spz + old / sb) (old % sb) (c.move.getD (0, 0)).1 (c.move.getD (0, 0)).2
          c.move.isSome false
          (match s.fr.staging.find? fun e => e.tag == t && e.piece == c.done / 256 with | some e => e.idx | none => 0) (sk.take room)
      else .wpAdvance z k fl (s.zone z).gen new old (sk.take room)
    | none => .pad
  let s1 := (s.surplus (sk.drop room)).mbrShow.modSlot k fun x => { x with skips := [], left := false }
  let s2 := s1.setCmd t { c with done := e, st := .committing, claimed := e == c.total }
  s2.recIssue body (some t) c.tailMseq

/-- Issue the record of the command whose turn it is in zone `z` (R36); in a log zone commands that overlap nothing commit in any
order (R40, R57). -/
def State.commitZone (s : State) (z : Nat) : State :=
  match (s.reservers z).find? fun y => y.2.st == .running && ((s.zone z).log || y.2.base + y.2.done == (s.zone z).wp)
      && decide (y.2.done < y.2.folded) && y.2.folded == y.2.pieceEnd && y.2.owed == 0 with
  | some (t, c) => s.recordPiece z t c
  | none => s

/-- Carry zone `z` on: fold, close, record.  Nothing moves once the part has stopped (R127 step 3, R332). -/
def State.pump (s : State) (z : Nat) : State :=
  if s.stopped then s
  else match s.slotOfZone z with
    | some k => (s.pumpSlot k 8192).commitZone z
    | none => s.commitZone z

/-! ### Blocks of a recompute -/

/-- The seal a data block of a zone is expected to carry, without its member; of a log block only the place is known
here. -/
def State.zoneSealOk (s : State) (z n p b : Nat) (k : Blk) : Bool :=
  let lba := (n - z * s.spz) * s.stripeBlocks + 16 * p + b
  let x := s.expSeal 0 n p b (s.zone z).nsid (s.lbaOf z lba)
  let y := { k.tag with member := 0 }
  let y1 := if (s.zone z).log then { y with nsid := x.nsid, lba := x.lba } else y
  sealDiff y1 x == 0 && sealCrc k == k.crc

/-! ### Zones that change state -/

/-- The next Empty log zone takes the place of one that became Full (R39): of the namespace of a conventional write that
waits, if there is one. -/
def State.logNext (s : State) : Option Nat :=
  let empties := (s.tb.nss.flatMap fun n => if n.2.conv ∧ ¬ n.2.deleting then n.2.zones else []).filter fun z => (s.zone z).st == 1
  let waits := s.fr.cmds.filterMap fun x => match x.2.io with
    | some io => if x.2.st = .running ∧ x.2.zone = none ∧ io.op = .write then some io.nsid else none
    | none => none
  match waits with
  | n :: _ => (empties.find? fun z => (s.zone z).nsid == n).or empties.head?
  | [] => empties.head?

/-- Active log zones in the order of their slots. (DEDUCED, log entry 80.) -/
def State.logActive (s : State) : List Nat :=
  (s.slots.filter fun x => (s.zone x.2.zone).log && !x.2.freeing).map fun x => x.2.zone

/-- Make log zones active while fewer than 4 are and an Empty one is left (R39). -/
def State.logFill (s : State) : Nat → State
  | 0 => s
  | n + 1 =>
    if 4 ≤ s.logActive.length then s
    else match s.logNext, s.freeSlot with
      | some z, some k => (s.activate z 2 k).logFill n
      | _, _ => s

/-- After a record: a zone that is no longer active frees its slot; a log zone that became Full is replaced in its place
(R33, R39, R86). -/
def State.zoneSettle (s : State) (z : Nat) : State :=
  if zActive (s.zone z).st then s
  else match s.slotOfZone z with
    | none => s
    | some k =>
      let s1 := s.slotFree k
      if (s1.zone z).log then
        match s1.logNext, (if (tget s1.slots k).isNone then some k else s1.freeSlot) with
        | some y, some j => s1.activate y 2 j
        | _, _ => s1
      else s1

/-- Add a changed zone to a list that does not hold it. -/
def addNewZ (l : List (Nat × Nat)) (e : Nat × Nat) : List (Nat × Nat) := if e ∈ l then l else l ++ [e]

/-- A zone becomes Read Only at once: its slot is freed, reservations not yet committed end with Zone Is Read Only, and
the event is raised on the controllers of its namespace (R33). -/
def State.zoneReadOnly (s : State) (z : Nat) : State :=
  let x := s.zone z
  if x.st = 13 ∨ x.st = 15 then s
  else
    let ends := (s.reservers z).filter fun y => !y.2.claimed
    let s1 := ends.foldl (fun s y => (s.modCmd y.1 fun c => { c with zone := none, got := [] }).cmdEnd y.1 0x1BA true) s
    let s2 := (s1.recNow (.zoneState [(z, 13)])).zoneSettle z
    let e := (x.nsid, match s.ns? x.nsid with | some n => (n.zones.findIdx fun y => y == z) * s.zoneBlocks | none => 0)
    let s3 := s2.modFr fun f => { f with
      ctrls := f.ctrls.map fun y => if s.visible y.2.host x.nsid then (y.1, { y.2 with chZones := addNewZ y.2.chZones e }) else y }
    (s3.evAt 320 Fld.ZMP.EVENT.ZONE_READ_ONLY).notifyAll 3 fun _ c => s.visible c.host x.nsid

end Sys2Proof.Machine
end

