-- ==== Sys2Proof/Machine/MemberFail.lean ====
section
/-! DEFINITION. The dark set and its limit (R96 to R99, R112), wakes (R107, R110), failure and absence of members (R147 to
R149, R152, R157, R162), keepers (R132), and requests that end with their port (R272). -/

namespace Sys2Proof.Machine
open Sys2Proof

/-! ### Rows and the dark limit -/

/-- Dark minutes of column `c` (R98). -/
def State.darkMinOf (s : State) (c : Nat) : Nat := s.tb.darkMin.getD (s.slotOfCol c) 0

/-- Columns of a row that count as failed, in the worst of its stripes: in a stripe, an unreadable range on a powered member
counts its own (R96, R112). -/
def State.rowFailed (s : State) (row : List Nat) : Nat :=
  let in_ (n : Nat) : Nat := (row.filter fun c => s.countsFailed c || s.mb.unread.any fun u =>
    u.1 == n && s.layout.colAt n u.2.1 == c).length
  (s.mb.unread.filter fun u => s.layout.row u.1 == row).foldl (fun m u => if m < in_ u.1 then in_ u.1 else m)
    (row.filter s.countsFailed).length

/-- The limit of a row (R96). -/
def State.rowLimit (s : State) (row : List Nat) : Nat :=
  let l := s.get Fld.MBR.PWR_CFG.LIMIT
  let f := 2 - s.rowFailed row
  if l < f then l else f

/-- Members of a row that are in `d` or whose missed-stripe bitmap is not empty, each counted once (R96). -/
def State.rowCount (s : State) (row d : List Nat) : Nat :=
  (row.filter fun c => decide (c ∈ d) || (s.col c).groups != []).length

/-- Members that are Dark, or on their way there. (DEDUCED, log entry 56.) -/
def State.darkNow (s : State) : List Nat :=
  s.columns.filter fun c => (s.power c).ps == 4 || ((s.power c).ps == 3 && (s.power c).target == 4)

/-- A member may be chosen for the dark set (R96). -/
def State.darkEligible (s : State) (c : Nat) : Bool :=
  (s.col c).st == 2 && s.extentsOn c == [] && !s.isKeeper c && ((s.col c).groups == [] || (s.power c).ps == 4)

/-- A rebuild context is open (R157). -/
def State.ctxOpen (s : State) : Bool := s.columns.any fun c => (s.col c).ctx.isSome

/-- Insert by rising dark minutes, then rising column (R98). -/
def State.byDark (s : State) (l : List Nat) (c : Nat) : List Nat :=
  l.takeWhile (fun x => decide (s.darkMinOf x < s.darkMinOf c) || (s.darkMinOf x == s.darkMinOf c && decide (x < c))) ++
    c :: l.dropWhile (fun x => decide (s.darkMinOf x < s.darkMinOf c) || (s.darkMinOf x == s.darkMinOf c && decide (x < c)))

/-- Every row that holds column `c` stays within its limit with `c` beside `d` (R96). -/
def State.rowsAllow (s : State) (d : List Nat) (c : Nat) : Bool :=
  s.layout.rows.all fun r => !decide (c ∈ r) || decide (s.rowCount r (c :: d) ≤ s.rowLimit r)

/-- choose_dark_set of R98, beside members `d` that stay Dark; empty while a rebuild context is open. -/
def State.chooseFrom (s : State) (d : List Nat) : List Nat :=
  if s.ctxOpen ∨ s.lay.isNone then []
  else (s.columns.foldl s.byDark []).foldl (fun d c =>
    if s.darkEligible c && !decide (c ∈ d) && s.rowsAllow d c then d ++ [c] else d) d

/-- choose_dark_set of R98. -/
def State.chooseDark (s : State) : List Nat := s.chooseFrom []

/-- A member may enter Dark beside those that are Dark now (R19, R96). -/
def State.darkMay (s : State) (c : Nat) : Bool := s.darkEligible c && s.rowsAllow (dropEl s.darkNow c) c

/-- Two members share a row. -/
def State.shareRow (s : State) (a b : Nat) : Bool := s.layout.rows.any fun r => decide (a ∈ r) && decide (b ∈ r)

/-- Write the accumulated dark minutes (R98, R120). -/
def State.darkRecord (s : State) : State := s.recIssue (.darkTime s.tb.darkMin)

/-- A member that left the dark set has reached Idle, or has no power state any more (R99). -/
def State.hasLeft (s : State) (c : Nat) : Bool := s.poweredUp c || (s.power c).ps == 0

/-- The next step of a member that joins the dark set (R99, R109, R113): Stowed, it is Dark at once; Darkening, it is headed for
Dark; powered, it starts to darken once the leaving members of its rows have reached Idle.  One that may not enter Dark any more
joins no longer (R19, R96). -/
def State.joinStep (s : State) (c : Nat) : State :=
  if (s.power c).ps = 4 then s
  else if ¬ s.darkMay c then s.modMb fun m => { m with joining := dropEl m.joining c }
  else if (s.power c).ps = 5 then (s.setPs c 4).takeUp c
  else if (s.power c).ps = 3 then (s.modPower c fun p => { p with target := 4 }).mbrShow
  else if s.poweredUp c ∧ s.mb.leaving.all fun l => !s.shareRow l c || s.hasLeft l then s.darken c 4
  else s

/-- The second phase of a change of the dark set, and its end (R99); stripes that scrub deferred are visited again (R166). -/
def State.darkPhase (s : State) : State :=
  if ¬ s.mb.changing then s
  else
    let s1 := s.mb.joining.foldl State.joinStep s
    if (s1.mb.leaving.all s1.hasLeft) ∧ s1.mb.joining.all fun c => (s1.power c).ps == 4 then
      ((s1.modMb fun m => { m with
        changing := false, leaving := [], joining := [], scrubAgain := m.scrubDeferred }).evAt 463
          Fld.MBR.PWR_EVENT.SET_CHANGED).darkRecord
    else s1

/-- Carry out a change to the dark set `d` (R99): leaving members go to Stowed, then the joining ones take their steps. -/
def State.darkChange (s : State) (d : List Nat) : State :=
  let leaving := s.darkNow.filter fun c => !decide (c ∈ d)
  let joining := d.filter fun c => !decide (c ∈ s.darkNow)
  let s1 := leaving.foldl State.stow s
  if leaving = [] ∧ joining = [] then (s1.modMb fun m => { m with joining := [] }).darkPhase
  else
    (s1.modMb fun m => { m with
      leaving := leaving.foldl addNew (m.leaving.filter fun c => !decide (c ∈ d)), joining := joining, changing := true }).darkPhase

/-- Sublists of `n` elements, in the order of the list. -/
def sublistsOf : Nat → List Nat → List (List Nat)
  | 0, _ => [[]]
  | _ + 1, [] => []
  | n + 1, x :: r => (sublistsOf n r).map (x :: ·) ++ sublistsOf (n + 1) r

/-- LIMIT_FALL (R112): the smallest set of Dark members that restores every row's limit goes to Stowed; of several, the one
that comes first when members are listed by most dark time, then highest column.  A member may stay Dark only while each row of
its column is within its limit, members with missed strips counted (R96).  Answers whether one had to move. -/
def State.limitMove (s : State) : Bool × State :=
  let dark := s.darkNow
  let order := (dark.foldl s.byDark []).reverse
  let ok (out : List Nat) : Bool := s.layout.rows.all fun r =>
    let stay := dark.filter fun c => !decide (c ∈ out)
    r.all (fun c => !decide (c ∈ stay)) || decide (s.rowCount r stay ≤ s.rowLimit r)
  match ((List.range (dark.length + 1)).flatMap fun n => sublistsOf n order).find? ok with
  | some [] | none => (false, s)
  | some out =>
    let s1 := out.foldl State.stow s
    (true, (s1.modMb fun m => { m with joining := m.joining.filter fun c => !decide (c ∈ out) }).evAt 463
      Fld.MBR.PWR_EVENT.LIMIT_FELL)

/-- A limit may have fallen (R112): when members left Dark for it, a new dark set is chosen (R98). -/
def State.limitFall (s : State) : State :=
  let (moved, s1) := s.limitMove
  if moved then s1.darkChange s1.chooseDark else s1

/-! ### Wakes -/

/-- MBR asks port `n` for power (R272, R286); the ramp request is SLOT_DEMAND's.  During a shutdown an enabled port latches the
request. -/
def State.askPower (s : State) (n : Nat) (probe : Bool) : State :=
  let s1 := s.modPort n fun p => { p with wanted := true, probe := probe, tries := 0 }
  if s1.pt n = ptQuiescing ∧ s1.flag (Fld.DRP_P.CTRL.ENABLE n) then s1.on (Fld.DRP_P.STATUS.PENDING n) else s1

/-- WAKE_START (R107, R110): with both gates of its domain open, a Stowed member moves to Waking. -/
def State.wakeStart (s : State) (c : Nat) : State :=
  ((s.modPower c fun p => { p with wakeStart := s.now }).setPs c 6).askPower (s.slotOfCol c) false

/-- SLOT_PROBE (R285): a present slot that awaits admission is powered at its domain's wake permission. -/
def State.probeStart (s : State) (n : Nat) : State :=
  (s.modPort n fun p => { p with awaiting := false }).askPower n true

/-- The ON and WAKE gates of slot `n`'s domain are open. -/
def State.slotWakeOpen (s : State) (n : Nat) : Bool :=
  bit (s.get Fld.MBR.DOMAIN_GATE.ON) (s.domain n) && bit (s.get Fld.MBR.DOMAIN_GATE.WAKE) (s.domain n)

/-- An overlay takes effect at this boundary: the choice it makes comes before the wakes the boundary permits (R98, R226). -/
def State.choiceDue (s : State) : Bool := s.tg.ovlDue.isSome

/-- Every wake and probe that the gates permit (R107, R285). -/
def State.wakes (s : State) : State :=
  let s1 := (if s.choiceDue then [] else s.inPs 5).foldl (fun s c => if s.onOpen c && s.wakeOpen c && !(s.port (s.slotOfCol c)).removing then s.wakeStart c else s) s
  (List.range 48).foldl (fun s n => if (s.port n).awaiting && s.slotWakeOpen n then s.probeStart n else s) s1

/-- The ON gate of domain `d` has closed (R108): its powered members darken, toward Dark where the choice of R98 selects
them beside those that are Dark, otherwise toward Stowed. (DEDUCED, log entry 56.) -/
def State.domainClose (s : State) (d : Nat) : State :=
  let choice := s.chooseFrom s.darkNow
  (s.columns.filter fun c => s.poweredUp c && s.domain (s.slotOfCol c) == d).foldl (fun s c =>
    s.darken c (if c ∈ choice then 4 else 5)) s

/-- Act on the domain gates (R107, R108): members of the domains whose ON gate closed, then permitted wakes. -/
def State.gatesAct (s : State) : State :=
  let on := s.get Fld.MBR.DOMAIN_GATE.ON
  let closed := (List.range 8).filter fun d => bit s.mb.gateSeen d && !bit on d
  (closed.foldl State.domainClose (s.modMb fun m => { m with gateSeen := on })).wakes

/-! ### Completion of member writes -/

/-- A member write of a slot is over, by completion or as a skip (R86, R125, R152). -/
def State.writeOver (s : State) (own : Owner) (stripe pos : Nat) : State :=
  match own with
  | .strip k tags =>
    if k = 256 then s
    else if (s.slot k).freeing then s.slotDrained k
    else
      let z := (s.slot k).zone
      let s1 := tags.foldl (fun s t => s.modCmd t fun c => { c with owed := c.owed - 1 })
        (s.modSlot k fun x => { x with strips := x.strips - 1 })
      ((s1.tailsDrop k fun b => b.tag.stripe == stripe && b.tag.pos == pos).tailResume k).pump z
  | .parity k => (s.modSlot k fun x => { x with parity := x.parity - 1 }).pump (s.slot k).zone
  | _ => s

/-- A member request that ended with its port, or that has to be sent elsewhere (R272, R149, R152, R156): a write that R104 lets
be skipped becomes a skip, one without any place is dropped, the rest is routed again. -/
def State.reroute (s : State) (r : MReq) : State :=
  let c := s.layout.colAt r.stripe r.pos
  let k := r.slotNo
  if r.write then
    if k = 256 then s
    else if (s.slot k).freeing then s.writeOver r.own r.stripe r.pos
    else if s.writePlan r.stripe r.pos (s.slot k) = 2 then (s.skipPos k r.stripe r.pos).writeOver r.own r.stripe r.pos
    else if s.writePlan r.stripe r.pos (s.slot k) = 1 ∧ (s.extentOf c r.stripe false).isNone ∧ s.holders c r.stripe = [] then
      (s.evAt 448 Fld.MBR.EVENT.SPARE_EXHAUSTED).writeOver r.own r.stripe r.pos
    else s.redispatch1 r
  else match r.own with
    | .recon j _ => s.reconRestart j
    | _ => s.redispatch1 r

/-! ### Rebuild contexts -/

/-- Open contexts in failure order. -/
def State.openCtxs (s : State) : List Nat :=
  let l := s.columns.filter fun c => (s.col c).ctx.isSome
  l.foldl (fun a c => a.takeWhile (fun x => decide ((s.col x).ctx.getD 0 ≤ (s.col c).ctx.getD 0)) ++
    c :: a.dropWhile (fun x => decide ((s.col x).ctx.getD 0 ≤ (s.col c).ctx.getD 0))) []

/-- Whether a critical sweep is running, shown in MBR.STATUS (R159). -/
def State.critShow (s : State) : State :=
  s.putB Fld.MBR.STATUS.CRITICAL (s.openCtxs.any fun c => decide ((s.col c).crit < s.layout.stripes))

/-- REBUILD_CONTEXT_OPEN (R157): the cursors are set, and every Dark member goes to Stowed; with four contexts open the
column waits. -/
def State.ctxStart (s : State) (c : Nat) : State :=
  let open_ := s.openCtxs
  if 4 ≤ open_.length then s.modMb fun m => { m with ctxWait := addNew m.ctxWait c }
  else
    let low := open_.foldl (fun m x => if (s.col x).cursor < m then (s.col x).cursor else m) s.layout.stripes
    let s1 := s.setCol c { s.col c with ctx := some open_.length, cursor := 0, crit := low }
    let s2 := if low < s.layout.stripes then s1.evAt 448 Fld.MBR.EVENT.CRITICAL else s1
    let s3 := s2.darkNow.foldl State.stow (s2.modMb fun m => { m with joining := [] })
    s3.critShow.mbrShow

/-- ORDER is the failure order among the contexts still open (R168): those that move up get their MEMBER record. -/
def State.ctxRenumber (s : State) : State :=
  let open_ := s.openCtxs
  let place (c : Nat) : Nat := (open_.filter fun e => decide ((s.col e).ctx.getD 0 < (s.col c).ctx.getD 0)).length
  (open_.filter fun c => (s.col c).ctx != some (place c)).foldl (fun t c => t.setCol c { t.col c with ctx := some (place c) }) s

/-- A context closes; the next waiting column's opens (R157), and with none open a new dark set is chosen (R98). -/
def State.ctxEnd (s : State) (c : Nat) : State :=
  let s1 := ((s.modCol c fun x => { x with ctx := none }).modMb fun m => { m with ctxWait := dropEl m.ctxWait c }).ctxRenumber
  let s2 := match s1.mb.ctxWait with
    | w :: r => (s1.modMb fun m => { m with ctxWait := r }).ctxStart w
    | [] => s1
  let s3 := s2.critShow.mbrShow
  if s3.ctxOpen then s3 else s3.darkChange s3.chooseDark

/-! ### Keepers -/

/-- Register field of keeper `i`. -/
def kField (i : Nat) : FieldAt := match i with | 0 => Fld.GNT.KEEPERS.K0 | 1 => Fld.GNT.KEEPERS.K1 | _ => Fld.GNT.KEEPERS.K2

/-- GNT.KEEPERS shows the keepers' slots. -/
def State.keepersShow (s : State) : State :=
  (List.range 3).foldl (fun s i => s.put (kField i) (match s.tb.keepers[i]? with
    | some c => if c < s.layout.columns then s.slotOfCol c else 0x3F
    | none => 0x3F)) s

/-- A column may become a keeper (R132): powered, not failed, its last 524,288 spare strips free. -/
def State.keeperFit (s : State) (c : Nat) : Bool :=
  (s.col c).st == 2 && s.poweredUp c && !s.isKeeper c
    && (s.extentsOn c).all fun e => decide (4096 * (e.ext + 1) ≤ s.layout.spareStrips - 524288)

/-- The KEEPERS record of a choice of keepers: their columns, slots and member identities (R120). -/
def State.keepersRec (s : State) (ks : List Nat) : RecBody :=
  .keepers ks (ks.map s.slotOfCol) (ks.map fun c => ((s.col c).serial, (s.col c).nguidCrc))

/-- A new keeper `i` is chosen (R132): the highest fitting column, from a domain of its own where one is left.  DESIGN CHOICE (log
entry 170): where none fits the place is 63, no keeper, and the choice is made again as a member becomes Idle. -/
def State.keeperChoose (s1 : State) (i : Nat) : State :=
  let s := s1
  let others := s.tb.keepers.eraseIdx i
  let fit := (s.columns.filter s.keeperFit).reverse
  let apart := fit.filter fun c => others.all fun k => s.domain (s.slotOfCol k) != s.domain (s.slotOfCol c)
  match (apart.head?).or fit.head? with
  | some c =>
    let s2 := (s1.recNow (s1.keepersRec (s.tb.keepers.set i c))).modNv fun v => { v with
      klogs := tput (match s.tb.keepers[i]? with | some k => tdel v.klogs k | none => v.klogs) c
        (KeepLog.empty ((s.col c).serial, (s.col c).nguidCrc)) }
    (s2.modJn fun j => { j with keeperCopy := j.keeperCopy.filter (· ≠ i) ++ [i], ckptDue := true }).keepersShow
  | none =>
    if s.tb.keepers[i]? = some 63 then s
    else ((s1.recNow (s1.keepersRec (s.tb.keepers.set i 63))).modJn fun j => { j with keeperCopy := j.keeperCopy.filter (· ≠ i) }).keepersShow

/-- KEEPER_REPLACE (R132): keeper `i` has failed. -/
def State.keeperReplace (s : State) (i : Nat) : State :=
  ((s.put Fld.GNT.KEEPERS.IN_STEP (clrBit (s.get Fld.GNT.KEEPERS.IN_STEP) i)).evAt 402 Fld.GNT.EVENT.KEEPER_LOST).keeperChoose i

/-- Keepers that could not be chosen are chosen now, if a member fits (R132, log entry 170). -/
def State.keepersRetry (s : State) : State :=
  ((List.range s.tb.keepers.length).filter fun i => s.tb.keepers[i]? = some 63).foldl State.keeperChoose s

/-! ### Spare holders and lost stripes -/

/-- The first stripe of column `c`'s key (g, k) (R155). -/
def State.keyFirst (s : State) (c g k : Nat) : Nat :=
  let l := s.layout
  g * s.groupSpan + ((List.range l.rows.length).find? fun r => decide (c ∈ l.rows.getD r []) && l.rank r c == k).getD 0

/-- Every extent of a list is freed, a key of the spare map or an entry of the repair table, with its record (R162, R165). (DESIGN
CHOICE, log entry 155.) -/
def State.freeExtents (s : State) (l : List Extent) : State :=
  l.foldl (fun s e => s.recNow (.stripeBits 7 e.col 0 0 0 e.grp e.rank e.holder e.ext 0)) s

/-- SPARE_HOLDER_FAIL (R162): the keys on holder `d` are removed, Rebuilt columns that lose one return to Failed, cursors
move back to the first stripe of the lowest lost key; repair extents on it become unreadable ranges again, which count under
R112. -/
def State.holderFail (s : State) (d : Nat) : State :=
  let held := s.extentsOn d
  let l := s.layout
  let again := (held.filter fun e => e.repair).flatMap fun e => e.valid.map fun t =>
    let n := s.keyFirst e.col e.grp e.rank + t * l.rows.length
    (n, (l.posOf n e.col).getD 0, 0, 16)
  let left := s.mb.unread.filter fun u => !held.any fun e => s.readPlace u.1 u.2.1 == some (if e.repair then 2 else 1, d)
  let s1 := (s.freeExtents held).modMb fun m => { m with unread := left ++ again }
  let lost := held.filter fun e => !e.repair
  let s2 := s1.columns.foldl (fun s c =>
    match lost.filter fun e => e.col == c with
    | [] => s
    | ks =>
      let low := (ks.map fun e => s.keyFirst c e.grp e.rank).foldl (fun m g => if g < m then g else m) s.layout.stripes
      if (s.col c).st = 5 then
        let s1 := (s.setCol c { s.col c with st := 4 }).ctxStart c
        s1.setCol c { s1.col c with cursor := low }
      else if (s.col c).ctx.isSome ∧ low < (s.col c).cursor then s.setCol c { s.col c with cursor := low }
      else s) s1
  if again = [] then s2 else s2.limitFall

/-- Position `p` of stripe `n` has no holder because of failed columns: failed and neither passed by its rebuild nor in a
spare or repair extent, or Absent (R161). -/
def State.colLost (s : State) (n p : Nat) : Bool :=
  let c := s.layout.colAt n p
  let x := s.col c
  (s.extentOf c n true).isNone && (x.st == 3 || (x.st == 4 && (s.extentOf c n false).isNone))

/-- A third column failure has reached stripe `n`: its zone becomes Read Only (R33, R161). -/
def State.stripeGone (s : State) (n : Nat) : State :=
  let z := s.zoneOfStripe n
  if (s.zone z).st = 13 ∨ (s.zone z).st = 15 then s else (s.evAt 448 Fld.MBR.EVENT.STRIPE_LOST).zoneReadOnly z

/-- Zones of a namespace, in any state but Read Only and Offline, with a stripe that a third column failure has reached become Read
Only (R33), and what more than two lacking positions lose is recorded (R161, R420). (DEDUCED, log entry 59.) -/
def State.tripleCheck (s : State) : State :=
  if (s.columns.filter s.countsFailed).length < 3 then s
  else
    let hit (z : Nat) : Bool :=
      (s.zone z).st != 13 && (s.zone z).st != 15 && (List.range s.spz).any fun i =>
        decide (2 < (s.positions.filter fun p => s.colLost (z * s.spz + i) p).length)
    let zs := (s.tb.nss.flatMap fun e => e.2.zones).filter hit
    if zs = [] then s
    else
      let s1 := zs.foldl State.zoneReadOnly (s.evAt 448 Fld.MBR.EVENT.STRIPE_LOST)
      (zs.flatMap s1.zoneStripes).foldl State.lossAll s1

/-! ### Failure and absence -/

/-- Requests waiting for the member of column `c` are taken up again: they are routed by the column's new state. -/
def State.takeBack (s : State) (c : Nat) : State :=
  let mine (r : MReq) : Bool := r.col == c
  let rs := s.mb.deferred.filter mine
  (s.modMb fun m => { m with deferred := m.deferred.filter fun r => !mine r, downReqs := m.downReqs ++ rs }).endRequests (s.slotOfCol c)

/-- MEMBER_FAILED (R147 to R149): an Online, Copyback or Absent column becomes Failed with its CAUSE; its rebuild context
opens, its bitmap is lost, its slot goes off (DESIGN CHOICE, log entry 64), the limits fall, spare keys on it go, a keeper is replaced, third failures
are looked for. -/
def State.failColumn (s : State) (c cause : Nat) : State :=
  let x := s.col c
  if ¬ (x.st = 2 ∨ x.st = 3 ∨ x.st = 6) then s
  else
    let ki := s.tb.keepers.findIdx? fun k => k == c
    let s0 := s.modMb fun m => { m with
      resyncPos := tdel m.resyncPos c, unread := m.unread.filter fun u => s.layout.colAt u.1 u.2.1 != c
      unplacedAt := m.unplacedAt.filter fun e => e.1 != c }
    let s1 := (s0.setCol c { x with st := 4, cause := cause, groups := [], copyCur := 0 }).evAt 448 Fld.MBR.EVENT.MEMBER_FAILED
    let s2 := ((s1.modPower c fun _ => Power.reset).mbrShow).takeBack c
    let s2 := if x.st = 3 then s2 else s2.powerDown (s2.slotOfCol c)
    let s3 := s2.limitMove.2.ctxStart c
    let s4 := s3.holderFail c
    let s5 := match ki with | some i => s4.keeperReplace i | none => s4
    s5.tripleCheck.mbrShow

/-- Presence lost, or link down for more than 2 s (R147): Online becomes Absent, Copyback Failed with CAUSE 0x0B; a hold of
0 makes every absence a failure (R152). -/
def State.absentColumn (s : State) (c : Nat) : State :=
  let x := s.col c
  if x.st = 6 then s.failColumn c 0x0B
  else if x.st ≠ 2 then s
  else
    let s0 := s.modMb fun m => { m with resyncPos := tdel m.resyncPos c }
    let s1 := (s0.setCol c { x with st := 3, cause := 0x20 }).evAt 448 Fld.MBR.EVENT.MEMBER_ABSENT
    let s2 := (((s1.modPower c fun p => { Power.reset with lastUsed := p.lastUsed, wakeStart := s.now }).mbrShow).takeBack c).limitFall
    if s2.get Fld.MBR.ABSENT_CFG.HOLD = 0 then s2.failColumn c 0x08 else s2.tripleCheck

/-- The column of a slot, if the layout maps one. -/
def State.onSlot (s : State) (n : Nat) (f : State → Nat → State) : State :=
  match s.colOfSlot n with
  | some c => f s c
  | none => s

/-- A drive still present in slot `n` of an Absent column waits for its probe (R285), unless its removal was asked for.
(DEDUCED, log entry 145.) -/
def State.awaitAbsent (s : State) (n c : Nat) : State :=
  if (s.col c).st = 3 ∧ s.flag (Fld.DRP_P.SLOT_STATUS.PRESENT n) ∧ ¬ (s.port n).removing then
    s.modPort n fun p => { p with awaiting := true }
  else s

/-- A wake fails (R110, R272): WAKE_FAIL, and the column becomes Failed with CAUSE 0x06. -/
def State.wakeFail (s : State) (c : Nat) : State :=
  ((s.evAt 463 Fld.MBR.PWR_EVENT.WAKE_FAIL).powerDown (s.slotOfCol c)).failColumn c 0x06

end Sys2Proof.Machine
end

