-- ==== Sys2Proof/Machine/Reset.lean ====
section
/-! DEFINITION. Core reset and the always-on domain's power-on reset (R355, R356, R334, R335, R343). -/

namespace Sys2Proof.Machine
open Sys2Proof

/-- Registers that keep their content across a core reset: FLT, AES.TAMPER, CFG.COPY and TOP.SUPPLY (R355).
(DEDUCED, log entry 21.) -/
def keptAcross (a : Nat) : Bool :=
  (decide (Reg.FLT.CFG ≤ a) && decide (a ≤ Reg.FLT.STICKY 47)) || a == Reg.AES.TAMPER || a == Reg.CFG.COPY
    || a == Reg.TOP.SUPPLY

/-- The register file after a core reset. -/
def regsAfterReset (r : Tab Word) : Tab Word :=
  (r.filter fun x => keptAcross x.1).foldl (fun t x => tputD t x.1 x.2 0)
    (regResets.filter fun x => !keptAcross x.1)

/-- Pins and always-on state after a core reset: every safe level is applied (R334), input pins are as they were. -/
def Aon.afterReset (a : Aon) : Aon :=
  { Aon.reset with released := a.released, porst := a.porst, pfail := a.pfail, epPerst := a.epPerst }

/-- The tamper sources whose cause bit is still set are pending again after the reset (R325). (DEDUCED, log entry 27.) -/
def State.tamperPend (s : State) : State :=
  let a := Reg.EVC.PEND 41
  s.setN a (bits (s.regN Reg.AES.TAMPER) 0 4)

/-- A core reset with the given cause (R356): every block of the core domain at its reset values, key slots empty, the
seal clear; Garnet, the fuses and the flash keep their content.  The waiting commands and the model's own fields stay
as they are. -/
def State.coreResetRaw (s : State) (cause : Nat) : State :=
  let s1 := { State.reset with
    pending := s.pending, regs := regsAfterReset s.regs, now := s.now, freeCtr := s.freeCtr, emitted := s.emitted,
    aon := s.aon.afterReset, fuse := s.fuse, flash := s.flash, nv := s.nv }
  let s2 := (((s1.off Fld.FLT.STATUS.HALTED).off Fld.FLT.STATUS.ALIVE).off Fld.FLT.STATUS.PULSING).off Fld.FLT.STATUS.TOCSIN
  (s2.put Fld.FLT.RESET_CAUSE.V cause).tamperPend

/-- A core reset the part performs of its own: the freeze clears and the held records are written first (R343). -/
def State.coreReset (s : State) (cause : Nat) : State := s.carFlush.coreResetRaw cause

/-- PORST_N low: both domains reset; FLT and CFG.COPY are lost with it (R356). -/
def State.powerReset (s : State) : State :=
  { State.reset with
    pending := s.pending, now := s.now, freeCtr := s.freeCtr, emitted := s.emitted, fuse := s.fuse, flash := s.flash,
    nv := s.nv, aon := { Aon.reset with pfail := s.aon.pfail, epPerst := s.aon.epPerst } }

end Sys2Proof.Machine
end

