-- ==== Sys2Proof/Machine/Settle.lean ====
section
/-! DEFINITION. Consequences carried out at the end of a command: columns marked to fail (R148, R299), requests that
ended with their port (R272), the domain gates (R107, R108), and the waiting member requests (R100). -/

namespace Sys2Proof.Machine
open Sys2Proof

/-- Columns marked to fail. -/
def State.settleFails (s : State) : State :=
  s.mb.failReq.foldl (fun s x => s.onSlot x.1 fun s c => if x.2 = 6 ∧ (s.power c).ps = 6 then s.wakeFail c else s.failColumn c x.2)
    (s.modMb fun m => { m with failReq := [] })

/-- Requests that ended with their port. -/
def State.settleReqs (s : State) : State := s.mb.downReqs.foldl State.reroute (s.modMb fun m => { m with downReqs := [] })

/-- Presence of slot `n` is lost (R272, R279): the port goes Off, a refusal ends, the column becomes Absent (R147). -/
def State.presenceLost (s : State) (n : Nat) : State :=
  let s1 := ((s.putBit64 Reg.DRP.PRESENT_LO n false).off (Fld.DRP_P.SLOT_STATUS.PRESENT n)).eventHeld Fld.DRP.EVENT.PRESENCE
    (drpSrc n 0)
  let s2 := ((s1.event (Fld.DRP_P.SLOT_STATUS.PRESENCE_CHANGED n) (drpSrc n 0)).portDrop n).off (Fld.DRP_P.STATUS.PENDING n)
  let s3 := s2.modPort n fun p => { p with
    wanted := false, probe := false, awaiting := false, removing := false, drive := none, refusal := 0, mzones := [] }
  s3.onSlot n fun s c =>
    (if (s.col c).refused then s.setCol c { s.col c with refused := false } else s).absentColumn c

/-- Slots whose input reads absent and whose port is no longer Up have lost their presence (R279). -/
def State.settlePresence (s : State) : State :=
  ((List.range 48).filter fun n => (s.port n).rawAbsent && s.flag (Fld.DRP_P.SLOT_STATUS.PRESENT n) && s.pt n != ptUp).foldl
    State.presenceLost s

/-- What follows from a command, carried out at its end: failures, presence, gates, Dark members that the row condition no longer
allows (R96), requests to be routed again; nothing before the members are known, or once the part has stopped. (DEDUCED, log entries
17 and 188.) (DEDUCED, log entry 17.) (DEDUCED, log entry 188.) -/
def State.settle (s : State) : State :=
  if ¬ s.aon.coreUp ∨ s.lay.isNone then s
  else
    let s1 := s.settleFails.settlePresence.settleFails.takeoverEnd
    let s2 := if s1.mb.gateSeen ≠ s1.get Fld.MBR.DOMAIN_GATE.ON ∨ s1.inPs 5 ≠ [] ∨ s1.mb.ports.any fun p => p.awaiting
      then s1.gatesAct else s1
    let s3 := if s2.darkNow = [] then s2 else s2.limitFall
    if s3.stopped then s3 else if s3.mb.downReqs = [] then s3 else s3.settleReqs

end Sys2Proof.Machine
end

