-- ==== Sys2Proof/Machine/IoCmds.lean ====
section
/-! DEFINITION. Host I/O commands from acceptance to egress: arbitration (R49 to R53), reads (R18, R28, R164), writes and
appends (R17, R30, R36, R39, R40), deallocation (R41), zone management (R33, R34), the fetch of write data (R179), the
ingress and egress checks (R82, R83), Abort's claim (R62). -/

namespace Sys2Proof.Machine
open Sys2Proof

/-! ### Acceptance -/

/-- A tag for a command (R50): tags 0 to 255 are the admin reserve, 256 to 1,279 the Urgent reserve, the others shared.
The reserves serve when no shared tag is free. -/
def State.freeTag (s : State) (admin urgent : Bool) : Option Nat :=
  let free (t : Nat) : Bool := (s.cmd? t).isNone
  let shared := ((List.range 64256).map (· + 1280)).find? free
  match shared with
  | some t => some t
  | none => if admin then (List.range 256).find? free
    else if urgent then ((List.range 1024).map (· + 256)).find? free
    else none

/-- A queue's place in round robin. -/
def Queue.key (q : Queue) : Nat := 128 * q.cntlid + q.qid

/-- An I/O queue's position: during a visit the one it was visited in, for a write of NVQ.QCLASS takes effect at its next visit
(R51, R68). -/
def State.queuePos (s : State) (q : Queue) : Nat :=
  match [2, 3, 4].find? fun p => s.fr.wrrLast.getD p 0 == q.key && decide (0 < s.fr.wrrBurst.getD p 0) with
  | some p => p
  | none => 1 + s.queueClass q.cntlid q.qid

/-- Queues with a Received capsule in arbitration position `p`: 0 admin, 1 Urgent, 2 High, 3 Medium, 4 Low (R51). -/
def State.waitingQueues (s : State) (p : Nat) : List Queue :=
  s.fr.queues.filter fun q => !q.caps.isEmpty && (if q.qid = 0 then p == 0 else p == s.queuePos q)

/-- The queue with the least place of some. -/
def leastQueue (l : List Queue) : Option Queue :=
  match l with
  | [] => none
  | q :: r => some (r.foldl (fun b x => if x.key < b.key then x else b) q)

/-- Round robin at position `p`: the queue of the running visit while its burst lasts, else the next after the last. -/
def State.nextQueue (s : State) (p : Nat) : Option (Queue × Nat) :=
  let l := s.waitingQueues p
  let last := s.fr.wrrLast.getD p 0
  let burst := if s.get Fld.NVQ.ARB.AB = 7 then 2 ^ 32 else 2 ^ s.get Fld.NVQ.ARB.AB
  match l.find? fun q => q.key == last && decide (0 < s.fr.wrrBurst.getD p 0) && decide (2 ≤ p) with
  | some q => some (q, s.fr.wrrBurst.getD p 0 - 1)
  | none =>
    ((leastQueue (l.filter fun q => decide (last < q.key))).or (leastQueue l)).map fun q => (q, burst - 1)

/-- The class served next by weighted round robin (R51): 1 High, 2 Medium or 3 Low, what is left of its share after this
acceptance, and the weights of the round.  A class without work forfeits its share; a round takes the weights of NVQ.ARB as it
begins (R52). -/
def State.wrrClass (s : State) : Option (Nat × Nat × List Nat) :=
  let live := [s.get Fld.NVQ.ARB.HPW + 1, s.get Fld.NVQ.ARB.MPW + 1, s.get Fld.NVQ.ARB.LPW + 1]
  let has (c : Nat) : Bool := !(s.waitingQueues (c + 1)).isEmpty
  let c := s.fr.wrrClass
  if 0 < s.fr.wrrLeft ∧ has c then some (c, s.fr.wrrLeft - 1, s.fr.wrrW)
  else match [1, 2, 3].find? fun d => decide (c < d) && has d with
    | some d => some (d, s.fr.wrrW.getD (d - 1) 1 - 1, s.fr.wrrW)
    | none => ([1, 2, 3].find? has).map fun d => (d, live.getD (d - 1) 1 - 1, live)

/-- Opcodes of the admin and Fabrics commands of R29 and R322: those that have commands of their own. -/
def adminOpcodes : List Nat := [0x02, 0x06, 0x08, 0x09, 0x0A, 0x0C, 0x14, 0x18, 0x7F, 0x81, 0x82, 0xC0, 0xC1]

/-- CSTS.RDY of a controller (R53). -/
def State.ctrlReady (s : State) (cntlid : Nat) : Bool := match s.ctrl? cntlid with | some c => bit c.csts 0 | none => false

/-- The command came over the cascade from the other device of the pair. -/
def State.forwarded (s : State) (c : Cmd) : Bool := c.cntlid / 0x1000 != s.devNum

/-- A command enters with a tag (R49, R63): any other opcode than those of R29 completes with Invalid Command Opcode, and
before the controller is ready with Command Sequence Error (R53); an I/O command in the state Change with Asymmetric Access
Transition (R43), while the commands held before it go on (R44). -/
def State.enter (s : State) (t : Nat) (cap : Capsule) (cls host arrival : Nat) (marked : Bool) : State :=
  let c : Cmd :=
    { cntlid := cap.cntlid, qid := cap.qid, cid := cap.cid, cls := cls, io := cap.io, opcode := cap.opcode,
      order := s.fr.nextOrder, st := .accepted, released := cap.io.isNone, claimed := false, status := 0, dnr := false,
      since := s.now, started := false, zone := none, base := 0, total := 0, done := 0, asked := 0, folded := 0, owed := 0,
      rdOut := 0, pkts := 0, sent := false, got := [], need := 0, tailMseq := 0, host := host,
      lba := (match cap.io with | some io => io.slba | none => 0), arrival := arrival, step4 := s.now, relAt := s.now,
      waited := false, recon := false, move := none }
  let s1 := (s.setCmd t c).modFr fun f => { f with nextOrder := f.nextOrder + 1 }
  let s2 := (if t = 65535 ∨ (s1.freeTag false false).isNone then s1.event Fld.NVQ.EVENT.TAG_LOW 288 else s1).count (cmdEv c 2 1)
  if marked then (s2.setCmd t { c with released := true }).cmdEnd t 0x07 false
  else if cap.qid ≠ 0 ∧ cap.io.isNone ∧ cap.opcode ≠ 0x7F then s2.cmdEnd t 0x01 false
  else if cap.qid = 0 ∧ cap.opcode ∉ adminOpcodes then s2.cmdEnd t (if s2.ctrlReady cap.cntlid then 0x01 else 0x0C) false
  else if cap.io.isSome ∧ s2.get Fld.ZMP.ANA.STATE = 0xF then
    let ok : Bool := (match cap.io with | some io => s2.granted host io.nsid | none => true) || s2.forwarded c
    s2.cmdEnd t (if ok then 0x303 else 0x0B) false
  else if s2.blocked c then
    ((s2.setCmd t { c with st := .waiting, waited := true }).count (cmdEv c 0x0C 1)).nvqShow
  else (s2.setCmd t { c with st := .running }).nvqShow

/-- A queue whose capsules the other device of the pair passes on. -/
def Queue.passed (q : Queue) : Bool := q.conn == fwdConn

/-- The front capsule of a queue is an Asynchronous Event Request, which holds no tag (R50). -/
def Queue.aerFirst (q : Queue) : Bool :=
  q.qid == 0 && (match q.caps with | (cap, marked, _) :: _ => cap.opcode == 0x0C && !marked | [] => false)

/-- Take the front capsule of a queue: its slot is freed and SQHD advances (R49).  On a Non-optimized path an I/O command
goes over the cascade to the owner instead (R43), unless the host's access map does not grant its namespace (R25). -/
def State.acceptFrom (s : State) (q : Queue) (cls : Nat) : State :=
  match q.caps with
  | [] => s
  | (cap, marked, at_) :: rest =>
    let s1 := s.modQueue q.cntlid q.qid fun x => { x with caps := rest, sqhd := (x.sqhd + 1) % x.depth }
    let host := match s.ctrl? q.cntlid with | some c => c.host | none => 0
    if q.qid = 0 ∧ cap.opcode = 0x0C ∧ ¬ marked then s1
    else if q.qid ≠ 0 ∧ s.get Fld.ZMP.ANA.STATE = 2 ∧ ¬ marked ∧ ¬ q.passed then
      if (match cap.io with | some io => s.granted host io.nsid | none => true)
      then s1.passOn cap
      else s1.respond q.cntlid q.qid cap.cid 0x0B false 0 0
    else match s.freeTag (q.qid == 0) (cls == 0) with
      | some t => s1.enter t cap cls host at_ marked
      | none => s

/-- COMMAND_ACCEPT (R49 to R51): admin queues strictly first, then Urgent, then weighted round robin.  Nothing is accepted
once the part has stopped (R127 step 3). -/
def State.commandAccept (s : State) : State :=
  if s.stopped then s
  else
    let mark (s : State) (p b : Nat) (q : Queue) : State :=
      s.modFr fun f => { f with
        wrrLast := f.wrrLast.set p q.key, wrrBurst := f.wrrBurst.set p (if q.caps.length ≤ 1 then 0 else b) }
    match s.nextQueue 0, (s.freeTag true false).isSome || (match s.nextQueue 0 with | some (q, _) => q.aerFirst | none => false) with
    | some (q, b), true => (mark s 0 b q).acceptFrom q 0
    | _, _ => match s.nextQueue 1, (s.freeTag false true).isSome with
      | some (q, b), true => (mark s 1 b q).acceptFrom q 0
      | _, _ => match s.wrrClass, (s.freeTag false false).isSome with
        | some (c, left, w), true =>
          match s.nextQueue (c + 1) with
          | some (q, b) => ((mark s (c + 1) b q).modFr fun f => { f with wrrClass := c, wrrLeft := left, wrrW := w }).acceptFrom q c
          | none => s
        | some _, false => s.event Fld.NVQ.EVENT.TAG_LOW 288
        | none, _ => s

/-- COMMAND_ACCEPT (R49). -/
def execCommandAccept (fixed : List Nat) (s : State) : Host.Outcome State Fault Refusal :=
  if ¬ s.aon.coreUp then .next s else
  .next (s.commandAccept.linesRetire (if s.stopped then [] else fixed))

/-- A command that the other device of the pair passed on is Received: in a queue of its own, Medium class, with the write data
that came with it. -/
def State.forwardIn (s : State) (cap : Capsule) (blks : List HostBlk) : State :=
  let s1 := if (s.queue? cap.cntlid cap.qid).isSome then s
    else s.modFr fun f => { f with queues := f.queues ++ [⟨cap.cntlid, cap.qid, 0, fwdConn, 0, []⟩] }
  (s1.modQueue cap.cntlid cap.qid fun q => { q with caps := q.caps ++ [(cap, false, s.now)] }).modFr fun f =>
    { f with carried := f.carried ++ [(cap.cntlid, cap.qid, cap.cid, blks)] }

/-- FORWARDED_COMMAND_RECEIVE (R43, R49): a command that the standby passed over the cascade waits to be accepted by the owner's
NVQ. (DESIGN CHOICE, log entry 49.) -/
def execForwardedCommandReceive (cap : Capsule) (blks : List HostBlk) (s : State) : Host.Outcome State Fault Refusal :=
  if ¬ s.aon.coreUp then .next s else
  .next (if s.stopped ∨ cap.qid = 0 ∨ cap.cntlid / 0x1000 = s.devNum then s else s.forwardIn cap blks)

/-! ### Checks before step 4 -/

/-- Access map, path state and namespace (R25, R43, R45, R255): status and Do Not Retry, 0 when the command may go on.
(DEDUCED, log entry 144.) -/
def State.ioCheck (s : State) (c : Cmd) (io : IoCmd) : Nat × Bool :=
  if ¬ s.forwarded c ∧ ¬ s.granted c.host io.nsid then (0x0B, false)
  else match s.get Fld.ZMP.ANA.STATE with
  | 3 => (0x302, false)
  | 4 => (0x301, true)
  | st =>
    if st = 0xF ∧ ¬ (s.get Fld.GNT.STATUS.ROLE = 1 ∧ ¬ s.jn.taking) then (0x303, false) else
    let vis : Bool := if s.forwarded c then (match s.ns? io.nsid with | some n => n.visible && !n.deleting && (s.nsKey io.nsid).isSome | none => false)
      else s.visible c.host io.nsid
    if vis then (0, false)
    else (0x0B, match s.ns? io.nsid with | some n => n.deleting | none => decide (io.nsid ∈ s.fr.gone))

/-- Blocks of a namespace (R32). -/
def State.nsBlocks (s : State) (n : Ns) : Nat := if n.conv then n.size * 262144 else n.zones.length * s.zoneBlocks

/-- Protection action, descriptor, length and range of a command that moves data (R82, R178), in the order PRACT, descriptor type,
length, block count, range. (PRESUMED, log entry 32; the order: DESIGN CHOICE, log entry 161.) -/
def State.dataCheck (s : State) (n : Ns) (io : IoCmd) : Nat :=
  if io.pract then 0x02
  else if ¬ keyedSgl io.sgl then 0x11
  else if io.len ≠ io.nlb * (4096 + lbafMeta n.lbaf) then 0x0F
  else if 1024 < io.nlb ∨ io.nlb = 0 then 0x02
  else if s.nsBlocks n < io.slba + io.nlb then 0x80
  else 0

/-- A command waits for a table page that firmware reloads (R398). -/
def State.pageHeld (s : State) (c : Cmd) : Bool := s.acc.pageWait.any fun e => e.1 == c.order

/-- Begin step 4 of a command that runs and has not begun: the command's record, its namespace, or its end; on a Non-optimized path a
command that the device accepted before it became the standby goes to the owner (R43). -/
def State.begin4 (s : State) (t : Nat) (ops : List IoOp) (f : State → Cmd → IoCmd → Ns → State) : State :=
  match s.cmd? t with
  | none => s
  | some c =>
    match c.io with
    | none => s
    | some io =>
      if c.st ≠ .running ∨ c.started ∨ c.claimed ∨ io.op ∉ ops ∨ s.stopped ∨ s.pageHeld c then s
      else
        let s1 := s.setCmd t { c with step4 := s.now }
        if s.get Fld.ZMP.ANA.STATE = 2 ∧ ¬ s.forwarded c ∧ c.move.isNone ∧ (s.ioCheck c io).1 = 0 then
          (s.cmdLeave t).passOn ⟨c.cntlid, c.qid, c.cid, some io, c.opcode⟩
        else match s.ioCheck c io, s.ns? io.nsid with
        | (0, _), some n => f s1 { c with step4 := s.now } io n
        | (e, d), _ => s1.cmdEnd t (if e = 0 then 0x0B else e) d

/-! ### Reads -/

/-- A block that nothing stored: zeroes, with a protection field of all ones (R28); FORMAT 0 marks it inside the part. -/
def zeroBlk (f : Nat) : Blk :=
  ⟨List.replicate 4096 0, List.replicate (lbafMeta f) 0xFF ++ List.replicate (16 - lbafMeta f) 0, ⟨0, 0, 0, 0, 0, 0, 0, false, 0, 0, 0⟩, 0, 0⟩

/-- Zone, and offset in it, of an LBA; none where nothing is stored: beyond the write pointer, or unmapped (R28, R39). -/
def State.locate (s : State) (n : Ns) (nsid lba : Nat) : Option (Nat × Nat) :=
  if n.conv then
    (s.mapOf nsid lba).map fun m => (s.zoneOfStripe m.1, (m.1 - s.zoneOfStripe m.1 * s.spz) * s.stripeBlocks + m.2)
  else match n.zones[lba / s.zoneBlocks]? with
    | some z => if lba % s.zoneBlocks < (s.zone z).wp then some (z, lba % s.zoneBlocks) else none
    | none => none

/-- The zone tail holds the block expected at a place (R125). -/
def State.inTail (s : State) (nsid lba z o : Nat) : Option Blk :=
  let (st, p, b) := s.place z o
  match s.slotOfZone z with
  | some k => match tget s.nv.tails (16 * k + b) with
    | some y => if sealDiff { y.tag with member := 0 } (s.expSeal 0 st p b nsid lba) = 0 then some y else none
    | none => none
  | none => none

/-- A run of blocks of one strip: stripe, position, first block, blocks, index of the first in the command. -/
abbrev Run := Nat × Nat × Nat × Nat × Nat

/-- Add a block to the runs of a read, the newest run first. -/
def addRun (l : List Run) (st p b i : Nat) : List Run :=
  match l with
  | (st0, p0, b0, n, i0) :: r =>
    if st0 = st ∧ p0 = p ∧ b0 + n = b ∧ i0 + n = i then (st0, p0, b0, n + 1, i0) :: r else (st, p, b, 1, i) :: l
  | [] => [(st, p, b, 1, i)]

/-- The bytes of `n` blocks with their host metadata. -/
def dataBytes (n : Ns) (k : Nat) : Nat := k * (4096 + lbafMeta n.lbaf)

/-- The storage lane processes `k` blocks (R253, R254, R346). -/
def State.laneUse (s : State) (c : Cmd) (nsid k : Nat) : State :=
  let s1 := (s.modKeys fun x => { x with winStorage := x.winStorage + 256 * k }).add64 Reg.AES.BYTES_STORAGE_LO (4096 * k)
  match s.nsKey nsid with
  | some x => if x.kind = 1 then s1.count { code := 0x16, n := 256 * k, priv := some 0, masters := [(3, 33), (1, c.host)] } else s1
  | none => s1

/-- A command that still needs the cipher finds its namespace's slot empty (R255): Namespace Not Ready, DNR clear. -/
def State.keyMissing (s : State) (t : Nat) : State := (s.event Fld.AES.EVENT.NS_KEY_MISSING 1317).cmdFail t 0x82 false

/-- Egress (R18, R83): check SEAL_CRC, decrypt, check guard and tags, and send the data as one RDMA WRITE message (R180).  A
block that fails is reconstructed once; a second failure ends the read with the code of the check. (DEDUCED, log entry 83.) -/
def State.egress (s : State) (t : Nat) (c : Cmd) (io : IoCmd) (n : Ns) : State :=
  if (s.nsKey io.nsid).isNone then s.keyMissing t
  else
    let out := c.got.map fun e =>
      if e.2.tag.fmt = 0 then (e.1, e.2, e.2.data, 0)
      else
        let d := s.decrypt io.nsid (io.slba + e.1) e.2.data
        (e.1, e.2, d, if sealCrc e.2 ≠ e.2.crc then 0x81 else piCheck n io e.1 d e.2.pi)
    let s0 := s.laneUse c io.nsid out.length
    match out.filter fun e => e.2.2.2 != 0 with
    | [] =>
      let data := out.map fun e => (⟨e.2.2.1, e.2.1.pi.take (lbafMeta n.lbaf)⟩ : HostBlk)
      if s0.forwarded c then (s0.sendInter 3 (.data c.cntlid c.qid c.cid data)).cmdEnd t 0 false
      else match s0.queue? c.cntlid c.qid with
      | some q =>
        let s1 := (s0.setCmd t { c with st := .dataOut, sent := true, pkts := 1 }).emit
          (.readData c.cntlid c.qid c.cid io.rkey io.addr data)
        (s1.count (cmdEv c 5 (dataBytes n data.length))).connSend q.conn (.readData t)
      | none => s0.cmdEnd t 0 false
    | e :: r =>
      let s1 := (e :: r).foldl (fun s x =>
        ((s.satInc Fld.BRL.ERR_EGRESS.V).event Fld.BRL.EVENT.EGRESS_MISMATCH 373).sealMismatch 6 x.2.1.tag.member
          x.2.1.tag.stripe x.2.1.tag.pos x.2.1.tag.block (256 * b2n (x.2.2.2 == 0x81)) 373) s0
      let s2 := s1.count { code := 0x0B, n := (e :: r).length, masters := [(2, s.slotOfCol (e.2.1.tag.member % 64))], lba := cmdLba c }
      if c.asked = 0 then
        (e :: r).foldl (fun s x => s.addRecon x.2.1.tag.stripe x.2.1.tag.pos x.2.1.tag.block 1 t x.1 c.cls false)
          (s2.setCmd t { c with asked := 1, need := (e :: r).length })
      else s2.cmdFail t (0x200 + e.2.2.2) true

/-- Reserve in zone `z` (R36): the zone becomes active where it was Empty or Closed (R33). -/
def State.reserve (s : State) (t : Nat) (c : Cmd) (io : IoCmd) (z : Nat) : State :=
  let x := s.zone z
  let s1 := if x.st = 1 then (match s.slotFor io.nsid with | some k => s.activate z 2 k | none => s)
    else if x.st = 4 then (s.modZone z fun x => { x with st := 2 }).modSlot x.slot fun k => { k with left := true } else s
  let lba := if io.op = .append then io.slba / s.zoneBlocks * s.zoneBlocks + x.rp else io.slba
  (s1.modZone z fun x => { x with rp := x.rp + io.nlb }).setCmd t
    { c with started := true, zone := some z, base := x.rp, total := io.nlb, lba := lba }

/-- A log zone without room for what waits is filled to its capacity with zero blocks that no map entry names: its write pointer
reaches the end, so that it becomes Full and the next one takes its place (R33, R39). (DESIGN CHOICE, log entry 163.) -/
def State.logPad (s : State) (z : Nat) : State :=
  match s.slotOfZone z with
  | some k =>
    let x := s.zone z
    if (s.slot k).full ∨ s.zoneCap ≤ x.rp ∨ (s.cmd? (padTag z)).isSome then s
    else
      let n := s.zoneCap - x.rp
      let io : IoCmd := ⟨.write, x.nsid, 0, n, [], false, 0, 0, 0, 0, .zopen, false, 0, 0, 0, 4096⟩
      let c : Cmd :=
        { cntlid := 65536, qid := 0, cid := 0, cls := 2, io := some io, opcode := 0, order := 0, st := .running, released := true,
          claimed := false, status := 0, dnr := false, since := s.now, started := true, zone := some z, base := x.rp, total := n,
          done := 0, asked := 0, folded := 0, owed := 0, rdOut := 0, pkts := 0, sent := false, got := [], need := 0, tailMseq := 0,
          host := 0, lba := 0, arrival := s.now, step4 := s.now, relAt := s.now, waited := false, recon := false, move := some (0, 0) }
      ((s.modZone z fun y => { y with rp := s.zoneCap }).setCmd (padTag z) c).pump z
  | none => s

/-! ### Compaction moves -/

/-- A live block of the conventional log as it goes to another place: its ciphertext and host field as they are, sealed for the new
place (R41, R79). -/
def State.moveBlk (s : State) (z o nsid lba : Nat) (b : Blk) : Blk :=
  let (st, p, i) := s.place z o
  sealed { b with tag := s.expSeal 0 st p i nsid lba, syn := 0, crc := 0 }

/-- A compaction move has its block (R39, R41): it goes to one of the two active log zones that take compaction; with no room there
the move is given up, and a zone without room is filled. (DESIGN CHOICE, log entry 141.) -/
def State.moveGot (s : State) (t : Nat) (c : Cmd) (b : Blk) : State :=
  match c.io with
  | none => s
  | some io =>
    let s1 := s.logFill 4
    let zs := s1.logActive.drop 2
    match zs.find? fun z => (s1.zone z).nsid == io.nsid && decide ((s1.zone z).rp < s1.zoneCap)
        && (match s1.slotOfZone z with | some k => !(s1.slot k).full | none => false) with
    | some z =>
      let o := (s1.zone z).rp
      ((s1.reserve t c io z).modCmd t fun x => { x with got := tput [] 0 (s1.moveBlk z o io.nsid io.slba b) }).pump z
    | none =>
      let s2 := s1.modFr fun f => { f with cmds := tdel f.cmds t }
      if s2.logNext.any fun z => (s2.zone z).nsid == io.nsid then zs.foldl (fun s z => s.logPad z) s2 else s2

/-- Every block of a read is held and seal-checked: its range is released and it goes to egress (R56, R63). -/
def State.readHeld (s : State) (t : Nat) : State :=
  match s.cmd? t with
  | none => s
  | some c =>
    match c.io with
    | none => s
    | some io =>
      if c.st ≠ .running ∨ c.need ≠ 0 ∨ ¬ c.started ∨ io.op ≠ .read then s
      else
        let s1 := s.release t
        match s1.cmd? t, s1.ns? io.nsid with
        | some c1, some n => s1.egress t c1 io n
        | some _, none => s1.cmdFail t 0x0B true
        | none, _ => s1

/-- Blocks arrive for a read, from index `i` on. -/
def State.readGot (s : State) (t i : Nat) (blks : List Blk) : State :=
  match s.cmd? t with
  | some c =>
    if c.st ≠ .running then s
    else if c.move.isSome then (match blks with | b :: _ => s.moveGot t c b | [] => s)
    else
      let got := blks.zipIdx.foldl (fun g e => tput g (i + e.2) e.1) c.got
      (s.setCmd t { c with got := got, need := c.need - blks.length }).readHeld t
  | none => s

/-- Step 4 of a read (R18, R28, R100, R164): zeroes, tail blocks and member requests. -/
def State.readStart (s : State) (t : Nat) (c : Cmd) (io : IoCmd) (n : Ns) : State :=
  let e := s.dataCheck n io
  if e ≠ 0 then s.cmdEnd t e false
  else
    let idx := List.range io.nlb
    let locs := idx.map fun i => (i, s.locate n io.nsid (io.slba + i))
    let offline : Bool := !n.conv && idx.any fun i => match n.zones[(io.slba + i) / s.zoneBlocks]? with
      | some z => (s.zone z).st == 15
      | none => false
    let lost : Bool := idx.any fun i =>
      if n.conv then (match s.locate n io.nsid (io.slba + i) with | some (z, o) => s.isLost z o | none => false)
      else match n.zones[(io.slba + i) / s.zoneBlocks]? with
        | some z => s.isLost z ((io.slba + i) % s.zoneBlocks)
        | none => false
    if offline then s.cmdEnd t 0x1BB false
    else if lost then s.cmdEnd t 0x281 true
    else
      let (got, runs) := locs.foldl (fun (acc : Tab Blk × List Run) x =>
        match x.2 with
        | none => (tput acc.1 x.1 (zeroBlk n.lbaf), acc.2)
        | some (z, o) => match s.inTail io.nsid (io.slba + x.1) z o with
          | some y => (tput acc.1 x.1 y, acc.2)
          | none =>
            let (st, p, b) := s.place z o
            (acc.1, addRun acc.2 st p b x.1)) ([], [])
      let s1 := s.setCmd t { c with started := true, got := got, need := io.nlb - got.length }
      (runs.reverse.foldl (fun s r => s.routeRead r.1 r.2.1 r.2.2.1 r.2.2.2.1 t r.2.2.2.2 c.cls) s1).readHeld t

/-- READ (R18). -/
def execRead (tag : Nat) (s : State) : Host.Outcome State Fault Refusal :=
  if ¬ s.aon.coreUp then .next s else
  .next ((s.begin4 tag [.read] fun s c io n => s.readStart tag c io n).settle)

/-- FLUSH (R29): completes at once. -/
def execFlush (tag : Nat) (s : State) : Host.Outcome State Fault Refusal :=
  if ¬ s.aon.coreUp then .next s else
  .next (s.begin4 tag [.flush] fun s _ _ _ => s.cmdEnd tag 0 false)

/-! ### Writes -/

/-- Checks of a zoned write or append at its zone (R30). (PRESUMED, log entry 31.) -/
def State.zoneWriteCheck (s : State) (io : IoCmd) (z off : Nat) (append : Bool) : Nat :=
  let x := s.zone z
  if x.st = 15 then 0x1BB
  else if x.st = 13 then 0x1BA
  else if x.st = 14 then 0x1B9
  else if s.zoneCap < (if append then x.rp else off) + io.nlb then 0x1B8
  else if ¬ append ∧ off ≠ x.rp then 0x1BC
  else if append ∧ 256 < io.nlb then 0x02
  else if x.st = 1 ∧ (s.slotFor io.nsid).isNone then 0x1BD
  else 0

/-- Step 4 of a write or append to a zoned namespace. -/
def State.zonedWrite (s : State) (t : Nat) (c : Cmd) (io : IoCmd) (n : Ns) : State :=
  match n.zones[io.slba / s.zoneBlocks]? with
  | none => s.cmdEnd t 0x80 false
  | some z =>
    let e := s.zoneWriteCheck io z (io.slba % s.zoneBlocks) (io.op == .append)
    if e = 0x1BD then (s.evAt 320 Fld.ZMP.EVENT.ACTIVE_EXHAUSTED).cmdEnd t e false
    else if e ≠ 0 then s.cmdEnd t e false
    else s.reserve t c io z

/-- Pieces of 1 MiB in a command (R42), and its staging entries (R40). -/
def pieces (n : Nat) : Nat := (n + 255) / 256

/-- Staging entries in use; the region holds 4,096 of 2 KiB (R16, R40). (DEDUCED, log entry 79.) -/
def State.stagingUse (s : State) : Nat := s.fr.staging.length

/-- The map entry of a block as R39 lays it out: MAPPED, BLOCK, STRIPE. -/
def State.mapWord (s : State) (nsid lba : Nat) : Nat :=
  match s.mapOf nsid lba with | some (st, b) => 2 ^ 63 + 2 ^ 40 * b + st | none => 0

/-- The staging entries of a conventional write, one per piece, in the lowest free places of the region (R40), which lies from
chunk 768 on (R116). (DEDUCED, log entry 79.) -/
def State.stage (s : State) (t : Nat) (io : IoCmd) : State :=
  let free := (List.range 4096).filter fun i => !s.fr.staging.any fun e => e.idx == i
  ((free.take (pieces io.nlb)).zipIdx).foldl (fun s x =>
    let n := if io.nlb - 256 * x.2 < 256 then io.nlb - 256 * x.2 else 256
    (s.modFr fun f => { f with
      staging := f.staging ++ [⟨x.1, t, x.2, (List.range n).map fun i => s.mapWord io.nsid (io.slba + 256 * x.2 + i)⟩] }).wearAdd
        (768 + x.1 / 32) 32 0) s

/-- Step 4 of a conventional write (R39, R40): staging and a place in a log zone of the namespace, or a wait.  That a log zone
serves one namespace, and that the rest of one without room for a whole write is filled, R39 leaves open. (DESIGN CHOICE, log entry
163.) -/
def State.convWrite (s : State) (t : Nat) (c : Cmd) (io : IoCmd) : State :=
  if 4096 < s.stagingUse + pieces io.nlb then s.evAt 320 Fld.ZMP.EVENT.CONV_STAGING_FULL
  else
    let s1 := s.logFill 4
    let hosts := s1.logActive.take 2
    match hosts.find? fun z => (s1.zone z).nsid == io.nsid && decide ((s1.zone z).rp + io.nlb ≤ s1.zoneCap)
        && (match s1.slotOfZone z with | some k => !(s1.slot k).full | none => false) with
    | some z => (s1.reserve t c io z).stage t io
    | none => hosts.foldl (fun s z => s.logPad z) s1

/-- Step 4 of a write (R17). -/
def State.writeStart (s : State) (t : Nat) (c : Cmd) (io : IoCmd) (n : Ns) : State :=
  let e := s.dataCheck n io
  if io.op = .append ∧ n.conv then s.cmdEnd t 0x01 false
  else if e ≠ 0 then s.cmdEnd t e false
  else if s.writeProtected then s.cmdEnd t 0x20 false
  else if n.conv then s.convWrite t c io
  else s.zonedWrite t c io n

/-- WRITE (R17). -/
def execWrite (tag : Nat) (s : State) : Host.Outcome State Fault Refusal :=
  if ¬ s.aon.coreUp then .next s else
  .next ((s.begin4 tag [.write] fun s c io n => s.writeStart tag c io n).settle)

/-- ZONE_APPEND (R36). -/
def execZoneAppend (tag : Nat) (s : State) : Host.Outcome State Fault Refusal :=
  if ¬ s.aon.coreUp then .next s else
  .next ((s.begin4 tag [.append] fun s c io n => s.writeStart tag c io n).settle)

/-- Conventional writes that wait at step 4 try again, in the order of acceptance (R39, R40). -/
def State.retryWrites (s : State) : State :=
  (s.fr.cmds.filter fun x => x.2.st == .running && !x.2.started && !x.2.claimed && decide (0 < x.2.order + 1)
    && (match x.2.io with
      | some io => io.op == .write && (match s.ns? io.nsid with | some n => n.conv | none => false)
      | none => false)).foldl (fun s x => s.begin4 x.1 [.write] fun s c io n => s.writeStart x.1 c io n) s

/-! ### Deallocation -/

/-- Pieces of a range, each at most 256 blocks (R122). -/
def cutRange (lba : Nat) : Nat → Nat → List (Nat × Nat)
  | 0, _ => []
  | f + 1, n => if n = 0 then [] else if n ≤ 256 then [(lba, n)] else (lba, 256) :: cutRange (lba + 256) f (n - 256)

/-- Write Zeroes and deallocate (R41): one MAP_SWAP record per 256 blocks clears MAPPED. -/
def State.dealloc (s : State) (t : Nat) (c : Cmd) (io : IoCmd) (n : Ns) (rs : List (Nat × Nat)) : State :=
  if ¬ n.conv then s.cmdEnd t 0x01 false
  else if s.writeProtected then s.cmdEnd t 0x20 false
  else if rs.any fun r => decide (s.nsBlocks n < r.1 + r.2) then s.cmdEnd t 0x80 false
  else
    let cuts := rs.flatMap fun r => cutRange r.1 (r.2 / 256 + 1) r.2
    if cuts = [] then s.cmdEnd t 0 false
    else cuts.foldl (fun s r => s.recIssue (.mapSwap io.nsid (r.2 - 1) r.1 0 0 0 0 false true 0 []) (some t) 0)
      (s.setCmd t { c with started := true, claimed := true, st := .committing, owed := cuts.length })

/-- WRITE_ZEROES (R41). -/
def execWriteZeroes (tag : Nat) (s : State) : Host.Outcome State Fault Refusal :=
  if ¬ s.aon.coreUp then .next s else
  .next ((s.begin4 tag [.writeZeroes] fun s c io n => s.dealloc tag c io n [(io.slba, io.nlb)]).settle)

/-- DATASET_MANAGEMENT (R41, R178). -/
def execDatasetManagement (tag : Nat) (s : State) : Host.Outcome State Fault Refusal :=
  if ¬ s.aon.coreUp then .next s else
  .next ((s.begin4 tag [.dsm] fun s c io n =>
    if n.conv ∧ ¬ keyedSgl io.sgl then s.cmdEnd tag 0x11 false else s.dealloc tag c io n io.ranges).settle)

/-! ### Zone management -/

/-- The state that an action takes a zone to (R33): none where the transition is not allowed; the present state where the
action succeeds without effect. -/
def State.zoneMove (s : State) (a : ZAct) (z : Nat) : Option Nat :=
  let x := s.zone z
  match a, x.st with
  | .zopen, 1 | .zopen, 2 | .zopen, 3 | .zopen, 4 => some 3
  | .zclose, 2 | .zclose, 3 | .zclose, 4 => some 4
  | .zfinish, 1 | .zfinish, 2 | .zfinish, 3 | .zfinish, 4 | .zfinish, 14 => some 14
  | .zreset, 1 => some 1
  | .zreset, 2 | .zreset, 3 | .zreset, 4 | .zreset, 14 => if x.gen + 1 = 2 ^ 32 then some 15 else some 1
  | .zoffline, 13 => some 15
  | _, _ => none

/-- The zones Select All takes for an action (R33). -/
def selects (a : ZAct) (st : Nat) : Bool :=
  match a with
  | .zopen => st == 4
  | .zclose => st == 2 || st == 3
  | .zfinish => st == 2 || st == 3 || st == 4
  | .zreset => st == 2 || st == 3 || st == 4 || st == 14
  | .zoffline => st == 13

/-- Zones and new states of a Zone Management Send. -/
def State.zoneTargets (s : State) (io : IoCmd) (n : Ns) : List (Nat × Nat) :=
  let zs := if io.selAll then n.zones.filter fun z => selects io.zact (s.zone z).st
    else (n.zones[io.slba / s.zoneBlocks]?).toList
  zs.filterMap fun z => match s.zoneMove io.zact z with
    | some st => if st = (s.zone z).st then none else some (z, st)
    | none => none

/-- Cut a list into pieces of `n`. -/
def chunksOf {α : Type} (n : Nat) : Nat → List α → List (List α)
  | 0, _ => []
  | f + 1, l => match l with
    | [] => []
    | _ => l.take n :: chunksOf n f (l.drop n)

/-- Issue the ZONE_STATE records of a Zone Management Send, one per 64 zones; the completion slot is claimed (R33). -/
def State.zoneRecords (s : State) (t : Nat) (es : List (Nat × Nat)) : State :=
  let cuts := chunksOf 64 es.length es
  if cuts = [] then s.cmdEnd t 0 false
  else cuts.foldl (fun s l => s.recIssue (.zoneState l) (some t) 0)
    (s.modCmd t fun c => { c with claimed := true, st := .committing, owed := cuts.length })

/-- A Zone Finish whose stripes have all closed goes to its records (R34). -/
def State.finishGo (s : State) (t : Nat) : State :=
  match s.cmd? t with
  | some c => match c.io with
    | some io =>
      if c.st = .running ∧ c.started ∧ ¬ c.claimed ∧ c.owed = 0 ∧ io.op = .zoneSend then
        match s.ns? io.nsid with
        | some n => s.zoneRecords t (s.zoneTargets io n)
        | none => s
      else s
    | none => s
  | none => s

/-- Finish commands that can go on. -/
def State.finishAll (s : State) : State := (s.fr.cmds.map (·.1)).foldl State.finishGo s

/-- Begin to finish active zone `z` for command `t`: its open stripe is padded and closed (R34, R86). -/
def State.finishStart (s : State) (t z : Nat) : State :=
  match s.slotOfZone z with
  | some k =>
    ((s.modSlot k fun x => { x with full := true, closer := some t }).modCmd t fun c => { c with owed := c.owed + 1 }).pump z
  | none => s

/-- Step 4 of a Zone Management Send (R30, R33, R34). -/
def State.zoneSend (s : State) (t : Nat) (c : Cmd) (io : IoCmd) (n : Ns) : State :=
  if n.conv then s.cmdEnd t 0x01 false
  else if s.writeProtected then s.cmdEnd t 0x20 false
  else
    let one := if io.selAll then none else n.zones[io.slba / s.zoneBlocks]?
    let bad : Nat :=
      if io.selAll then 0
      else match one with
        | none => 0x80
        | some z => if (s.zone z).st = 15 then 0x1BB
          else if (s.zoneMove io.zact z).isNone then 0x1BF
          else if io.zact = .zopen ∧ (s.zone z).st = 1 ∧ (s.slotFor io.nsid).isNone then 0x1BD
          else 0
    if bad = 0x1BD then (s.evAt 320 Fld.ZMP.EVENT.ACTIVE_EXHAUSTED).cmdEnd t bad false
    else if bad ≠ 0 then s.cmdEnd t bad false
    else
      let es := s.zoneTargets io n
      let s1 := s.setCmd t { c with started := true }
      match io.zact with
      | .zopen =>
        let s2 := es.foldl (fun s e => if (s.zone e.1).st = 1 then
          (match s.slotFor io.nsid with | some k => s.activate e.1 3 k | none => s) else s) s1
        s2.zoneRecords t es
      | .zfinish =>
        (es.foldl (fun s e => if zActive (s.zone e.1).st then s.finishStart t e.1 else s) s1).finishGo t
      | .zclose => (es.foldl (fun s e => s.modSlot (s.zone e.1).slot fun k => { k with left := false }) s1).zoneRecords t es
      | _ => s1.zoneRecords t es

/-- The Zone Management Send of a tag, for an action. -/
def State.zoneSendAct (s : State) (t : Nat) (a : ZAct) : State :=
  s.begin4 t [.zoneSend] fun s c io n => if io.zact = a then s.zoneSend t c io n else s

/-- ZONE_OPEN (R33). -/
def execZoneOpen (tag : Nat) (s : State) : Host.Outcome State Fault Refusal :=
  if ¬ s.aon.coreUp then .next s else
  .next (s.zoneSendAct tag .zopen).settle
/-- ZONE_CLOSE (R33). -/
def execZoneClose (tag : Nat) (s : State) : Host.Outcome State Fault Refusal :=
  if ¬ s.aon.coreUp then .next s else
  .next (s.zoneSendAct tag .zclose).settle
/-- ZONE_FINISH (R34). -/
def execZoneFinish (tag : Nat) (s : State) : Host.Outcome State Fault Refusal :=
  if ¬ s.aon.coreUp then .next s else
  .next (s.zoneSendAct tag .zfinish).settle
/-- ZONE_RESET (R34). -/
def execZoneReset (tag : Nat) (s : State) : Host.Outcome State Fault Refusal :=
  if ¬ s.aon.coreUp then .next s else
  .next (s.zoneSendAct tag .zreset).settle
/-- ZONE_OFFLINE (R33). -/
def execZoneOffline (tag : Nat) (s : State) : Host.Outcome State Fault Refusal :=
  if ¬ s.aon.coreUp then .next s else
  .next (s.zoneSendAct tag .zoffline).settle

/-- A zone descriptor of a zone report, laid out as the Zoned Namespace command set does (PRESUMED, log entry 35): type,
state, capacity, start, write pointer. -/
def State.zoneDesc (s : State) (i z : Nat) : List Byte :=
  leBytes 1 2 ++ leBytes 1 (16 * (s.zone z).st) ++ leBytes 6 0 ++ leBytes 8 s.zoneCap ++ leBytes 8 (i * s.zoneBlocks)
    ++ leBytes 8 (i * s.zoneBlocks + s.zoneWp z) ++ leBytes 32 0

/-- ZONE_MGMT_RECEIVE (R55): the committed state of the zones from the start LBA on. -/
def execZoneMgmtReceive (tag : Nat) (s : State) : Host.Outcome State Fault Refusal :=
  if ¬ s.aon.coreUp then .next s else
  .next (s.begin4 tag [.zoneReceive] fun s c io n =>
    if n.conv then s.cmdEnd tag 0x01 false
    else if ¬ keyedSgl io.sgl then s.cmdEnd tag 0x11 false
    else
      let zs := n.zones.zipIdx.drop (io.slba / s.zoneBlocks)
      let body := (zs.take (io.len / 64)).flatMap fun x => s.zoneDesc x.2 x.1
      (s.emit (.adminData c.cntlid c.cid io.rkey io.addr ((leBytes 8 zs.length ++ leBytes 56 0 ++ body).take io.len))).cmdEnd tag 0 false)

/-! ### Write data -/

/-- Steps 6 and 7 of a write for one block (R17, R80, R82): encrypted, sealed for its place; without host metadata the stored host
field is zero (R28).  MEMBER of a block that has no drive yet is 0 until its member write. (DESIGN CHOICE, log entry 160.) -/
def State.sealIn (s : State) (z o nsid lba : Nat) (h : HostBlk) : Blk :=
  let (st, p, b) := s.place z o
  let f := match s.ns? nsid with | some n => n.lbaf | none => 0
  sealed { data := s.encrypt nsid lba h.data, pi := fitBytes 16 (h.pi.take (lbafMeta f)), tag := s.expSeal 0 st p b nsid lba, syn := 0, crc := 0 }

/-- Write data enters the storage lane (R17, R83 ingress, R254): a block that fails the host guard or tag check ends the
command. -/
def State.ingress (s : State) (t : Nat) (c : Cmd) (io : IoCmd) (n : Ns) (off : Nat) (blks : List HostBlk) : State :=
  match c.zone with
  | none => s
  | some z =>
    if (s.nsKey io.nsid).isNone then (s.keyMissing t).pump z
    else
      let bad := blks.zipIdx.find? fun e => piCheck n io (off + e.2) e.1.data e.1.pi != 0
      let s0 := (s.laneUse c io.nsid blks.length).count (cmdEv c 6 (dataBytes n blks.length))
      match bad with
      | some (h, i) =>
        let (st, p, b) := s.place z (c.base + off + i)
        let s1 := ((s0.satInc Fld.BRL.ERR_INGRESS.V).event Fld.BRL.EVENT.INGRESS_MISMATCH 370).sealMismatch 1 0 st p b 0 370
        let s2 := s1.count { code := 0x0B, n := 1, lba := cmdLba c, zone := some z }
        (s2.cmdFail t (0x200 + piCheck n io (off + i) h.data h.pi) true).pump z
      | none =>
        let put (g : Tab Blk) (e : HostBlk × Nat) : Tab Blk :=
          tput g (off + e.2) (s.sealIn z (c.base + off + e.2) io.nsid (c.lba + off + e.2) e.1)
        (s0.setCmd t { c with got := blks.zipIdx.foldl put c.got }).pump z

/-- The write data of a command that the other device of the pair passed on came with it (R43). (DESIGN CHOICE, log entry 49.) -/
def State.carriedIn (s : State) (t : Nat) (c : Cmd) (io : IoCmd) (n : Ns) : State :=
  match s.fr.carried.find? fun e => e.1 == c.cntlid && e.2.1 == c.qid && e.2.2.1 == c.cid with
  | some (_, _, _, blks) =>
    if c.st ≠ .running ∨ c.claimed ∨ c.zone.isNone ∨ c.asked ≠ 0 ∨ blks.length ≠ c.total ∨ s.stopped then s
    else
      let c1 := { c with asked := c.total }
      (s.setCmd t c1).ingress t c1 io n 0 blks
  | none => s

/-- RDMA_READ_ISSUE (R178, R179): the next request of at most 128 KiB, under the descriptor's key and from its address on, once the
read-response pool and ORD allow it.  On a connection whose context is not resident, or for which messages still wait, the context is
fetched first and the request is issued after it (R189), so that none goes out without its reservation. -/
def State.rdmaRead (s : State) (t : Nat) : State :=
  match s.cmd? t with
  | none => s
  | some c =>
    match c.io, s.queue? c.cntlid c.qid with
    | some io, some q =>
      match s.ns? io.nsid, s.conn? q.conn with
      | some n, none => if s.forwarded c then s.carriedIn t c io n else s
      | some n, some k =>
        let max := 131072 / (4096 + lbafMeta n.lbaf)
        let left := c.total - c.asked
        let m := if left < max then left else max
        let cells := (dataBytes n m + 255) / 256
        if c.st ≠ .running ∨ c.claimed ∨ c.zone.isNone ∨ left = 0 ∨ s.stopped ∨ k.tr ≠ 0 then s
        else if k.st = 4 ∨ k.st = 5 ∨ k.waitTx ≠ [] then s.fetch q.conn
        else if (if k.ird < 16 then k.ird else 16) ≤ k.reads.length ∨ s.get Fld.FAB.RD_POOL.CELLS_FREE < cells
            ∨ 64 ≤ s.get Fld.FAB.RD_POOL.REQ_OUT then s
        else
          let s1 := s.setCmd t { c with asked := c.asked + m, rdOut := c.rdOut + 1 }
          (s1.emit (.rdmaRead c.cntlid c.qid c.cid c.asked io.rkey (io.addr + dataBytes n c.asked) (dataBytes n m))).connSend q.conn (.readReq t c.asked m cells)
      | _, _ => s
    | _, _ => s

/-- RDMA_READ_ISSUE (R179). -/
def execRdmaReadIssue (tag : Nat) (s : State) : Host.Outcome State Fault Refusal :=
  if ¬ s.aon.coreUp then .next s else
  .next (s.rdmaRead tag).settle

/-- Abort drain ends when no packet and no response is owed (R62, R63): the reservation rolls back, and the completion
follows. -/
def State.drainCheck (s : State) (t : Nat) : State :=
  match s.cmd? t with
  | some c =>
    if c.st = .abortDrain ∧ c.rdOut = 0 ∧ c.pkts = 0 then
      let s1 := s.rollback t
      match c.zone with
      | some z => ((s1.modCmd t fun c => { c with st := .completing }).tryPost t).pump z
      | none => (s1.modCmd t fun c => { c with st := .completing }).tryPost t
    else s
  | none => s

/-- The data of a command that waits for its connection's context is not sent any more (R62). -/
def State.txCancel (s : State) (t : Nat) (c : Cmd) : State :=
  match s.queue? c.cntlid c.qid with
  | none => s
  | some q => match s.conn? q.conn with
    | none => s
    | some k =>
      let data (x : WaitTx) : Bool := match x with | .msg (.readData u) => u == t | _ => false
      (s.setConn q.conn { k with waitTx := k.waitTx.filter fun x => !data x }).modCmd t fun x =>
        { x with pkts := if k.waitTx.any data then 0 else x.pkts }

/-- Strips of blocks of command `t` alone that no record names and that have not been issued, in a log zone that cannot go back: they
are not written (R62).  P and Q cover them, so that each is an unreadable range that awaits its repair (R160). (DESIGN CHOICE, log
entry 186.) (DESIGN CHOICE, log entry 186.) -/
def State.stripsCancel (s : State) (t k z : Nat) (c : Cmd) : State :=
  let own (r : MReq) : Bool := r.own == .strip k [t]
    && decide (c.base + c.done ≤ (r.stripe - z * s.spz) * s.stripeBlocks + 16 * r.pos)
  let rs := (s.mb.deferred ++ s.mb.ports.flatMap fun q => q.reqs).filter own
  if rs = [] then s
  else
    let s1 := (s.unqueue k own).modMb fun m => { m with unread := m.unread ++ rs.map fun r => (r.stripe, r.pos, 0, 16) }
    (rs.foldl (fun s r => s.writeOver r.own r.stripe r.pos) s1).limitFall

/-- Member writes that a command's rollback will forget and that have not been issued are not issued any more (R62). -/
def State.writesCancel (s : State) (t : Nat) (c : Cmd) : State :=
  match c.zone with
  | some z => match s.slotOfZone z with
    | some k => if s.rollsBack t c z then s.unqueue k (s.beyondTgt z (c.base + c.done)) else s.stripsCancel t k z c
    | none => s
  | none => s

/-- An Abort claims the completion slot of an I/O command (R62, R63): no data transfer of it starts any more. -/
def State.abortClaim (s : State) (t : Nat) : State :=
  match s.cmd? t with
  | some c =>
    if c.claimed then s
    else
      let st : CmdState := if c.st = .running ∨ c.st = .dataOut ∨ c.st = .committing then .abortDrain else .completing
      let s1 := ((s.waitNote c).setCmd t { c with claimed := true, status := 0x07, dnr := false, st := st }).release t
      (((s1.txCancel t c).writesCancel t c).drainCheck t).tryPost t
  | none => s

/-- READ_RESPONSE_RECEIVE (R179, R183): the response of one request has arrived whole; its cells are free, and its data
enters the storage lane unless the command has ended (R62). -/
def State.readResponse (s : State) (k psn : Nat) (blks : List HostBlk) : State :=
  match s.conn? k with
  | none => s
  | some cn =>
    match cn.una.find? fun m => m.psn == psn with
    | some m =>
      match m.kind with
      | .readReq t off n _ =>
        if blks.length ≠ n then s
        else
          let s1 := ((s.modConn k fun x =>
              let rest := x.una.filter fun y => y.psn ≠ psn
              { x with una := rest, retries := 0, due := if rest = [] then none else some (s.now + s.ackTimeout) }).touch k).modCmd t
            fun c => { c with rdOut := c.rdOut - 1 }
          match s1.cmd? t with
          | none => s1
          | some c =>
            if c.st = .running ∧ ¬ c.claimed then
              match c.io with
              | some io => match s1.ns? io.nsid with
                | some ns => s1.ingress t c io ns off blks
                | none => s1.cmdFail t 0x0B true
              | none => s1
            else (s1.drainCheck t).tryPost t
      | _ => s
    | none => s

/-- A CNP for an ECN-CE marked packet, at most one per CNP_INTERVAL (R186). -/
def State.cnpSend (s : State) (k : Nat) : State :=
  match s.conn? k with
  | some c =>
    let due : Bool := match c.cnpSent with
      | some t => decide (t + 1000 * s.get Fld.FAB.CC_CFG.CNP_INTERVAL ≤ s.now)
      | none => true
    if s.flag Fld.FAB.CC_CFG.ENABLE ∧ due then
      (s.setConn k { c with cnpSent := some s.now }).roce 0x21 k 0 (s.get Fld.FAB.CC_CFG.CNP_DSCP)
    else s
  | none => s

/-- READ_RESPONSE_RECEIVE (R179, R186): a CNP first where a packet of the response carries an ECN-CE mark. -/
def execReadResponseReceive (conn psn : Nat) (ce : Bool) (blks : List HostBlk) (s : State) : Host.Outcome State Fault Refusal :=
  if ¬ s.aon.coreUp then .next s else
  .next ((if ce then s.cnpSend conn else s).readResponse conn psn blks).settle

end Sys2Proof.Machine
end

