-- ==== Sys2Proof/Machine/Fabric.lean ====
section
/-! DEFINITION. RoCEv2 packets (R175 to R193): arrival and the miss buffer, the responder with its inbound windows, the
requester's acknowledgements and retries, connection errors, connection management, and the deletion of controllers and
queues (R26). -/

namespace Sys2Proof.Machine
open Sys2Proof

/-! ### Controllers and queues end -/

/-- A command whose controller or queue is gone (R26): nothing crosses its connection any more.  Before step 4, or as a
read, it ends; a write whose data has not all arrived fails and rolls back; anything else runs to its record. -/
def State.cmdOrphan (s : State) (t : Nat) : State :=
  match s.cmd? t with
  | none => s
  | some c =>
    let s1 := s.setCmd t { c with pkts := 0, rdOut := 0 }
    if c.claimed then (s1.drainCheck t).tryPost t
    else if c.st = .accepted ∨ c.st = .waiting ∨ ¬ c.started then s1.cmdEnd t 0 false
    else match c.io with
      | none => s1.cmdEnd t 0 false
      | some io =>
        if io.op = .read then s1.cmdEnd t 0 false
        else if c.zone.isSome ∧ c.got.length + c.folded < c.total then
          match c.zone with
          | some z => (s1.cmdFail t 0 false).pump z
          | none => s1
        else s1

/-- NVQ.CAPSULE_GRANTED (R48). -/
def State.capShow (s : State) : State :=
  s.put Fld.NVQ.CAPSULE_GRANTED.V ((s.fr.queues.map Queue.depth).foldl (· + ·) 0)

/-- Delete the queues a predicate selects: their capsules are dropped, their slots returned, their commands end without
a completion. -/
def State.queuesDrop (s : State) (p : Queue → Bool) : State :=
  let gone := s.fr.queues.filter p
  let s1 := (s.modFr fun f => { f with
    queues := f.queues.filter fun q => !p q
    passed := f.passed.filter fun e => !gone.any fun q => q.cntlid == e.cap.cntlid && q.qid == e.cap.qid }).capShow
  let mine := s1.fr.cmds.filter fun x => gone.any fun q => q.cntlid == x.2.cntlid && q.qid == x.2.qid
  mine.foldl (fun s x => s.cmdOrphan x.1) s1

/-- Close a connection with a CM DREQ: its context is released (R191). (DEDUCED, log entry 38.) -/
def State.connClose (s : State) (k : Nat) : State :=
  match s.conn? k with
  | some c => (s.emit (.cm 3 c.peer 0)).delConn k
  | none => s

/-- Delete a controller and its queues, as on keep-alive expiry (R26): its connections are closed, a self-test it started
ends with code 2 (R67). -/
def State.ctrlDelete (s : State) (id : Nat) : State :=
  match s.ctrl? id with
  | none => s
  | some _ =>
    let s1 := s.modFr fun f => { f with ctrls := tdel f.ctrls id }
    let ks := (s1.fab.conns.filter fun x => x.2.cntlid == some id).map (·.1)
    let s2 := (ks.foldl State.connClose s1).queuesDrop fun q => q.cntlid == id
    if s2.get Fld.NVQ.SELFTEST.OP ≠ 0 ∧ s2.get Fld.NVQ.SELFTEST.CNTLID = id then s2.selftestEnd 2 else s2

/-- A connection enters Error (R185). -/
def State.connError (s : State) (k : Nat) : State :=
  match s.conn? k with
  | none => s
  | some c =>
    let s1 := ((s.satInc Fld.FAB.CONN_FAILED.V).event Fld.FAB.EVENT.CONN_FAILED 176).delConn k
    match c.cntlid with
    | some id => s1.ctrlDelete id
    | none => s1

/-! ### Responder -/

/-- The part sends a NAK that ends the connection (R185): kind 0x23 Invalid Request, 0x24 Remote Access Error. -/
def State.nakEnd (s : State) (k kind psn : Nat) : State :=
  ((s.satInc Fld.FAB.NAK_SENT.V).roce kind k psn 0).connError k

/-- A packet executed at the expected PSN: E advances by `n`; it is acknowledged at once with AckReq set, or as the 16th
not yet acknowledged (R184). -/
def State.ackOwed (s : State) (k : Nat) (p : RcPkt) (n : Nat) (answered : Bool) : State :=
  match s.conn? k with
  | none => s
  | some c =>
    let c1 := { c with epsn := (p.psn + n) % 2 ^ 24, nakSent := false }
    if answered then s.setConn k { c1 with owed := 0 }
    else if p.ackReq ∨ 16 ≤ c.owed + 1 then (s.setConn k { c1 with owed := 0 }).roce 0x20 k p.psn 0
    else s.setConn k { c1 with owed := c.owed + 1 }

/-- The window set of a generation: the current one, or the one retained (R193). -/
def State.winSet (s : State) (gen : Nat) : Tab Win :=
  if gen ≠ s.get Fld.FAB.WIN_STATUS.GEN ∧ s.flag Fld.FAB.WIN_STATUS.OLD_IN_FLIGHT then s.fab.old else s.fab.cur

/-- The window of a set that serves an access of a host (R192): the key's valid window names the host, the host has
VENDOR_ADMIN, the access is granted, the range lies within. -/
def State.winServe (s : State) (gen : Nat) (host : Option Nat) (wr : Bool) (key addr len : Nat) : Option (Nat × Win) :=
  match (validWins (s.winSet gen)).find? fun x => x.2.key == key with
  | some (i, w) =>
    if some (w.ctrl % 1024) = host ∧ bit (s.host (w.ctrl % 1024)).perm 2 ∧ bit w.ctrl (if wr then 29 else 30) ∧ addr + len ≤ w.len then some (i, w)
    else none
  | none => none

/-- One packet of an inbound WRITE message, translated with the set in force when the message's first packet arrived (R192, R193). -/
def State.winWrite (s : State) (k : Nat) (c : Conn) (p : RcPkt) (at_ : Nat) (first last : Bool) (key addr len : Nat)
    (data : List Byte) : State :=
  let go (s : State) (g i off left : Nat) : State :=
    if left < data.length ∨ (last ∧ left ≠ data.length) then s.nakEnd k 0x23 p.psn
    else
      let w := winOf (s.winSet g) i
      let s1 := (s.dramWrite (w.base + off) data).modConn k fun c =>
        { c with wmsg := if last then none else some (g, i, off + data.length, left - data.length) }
      s1.ackOwed k p 1 false
  match first, c.wmsg with
  | true, none =>
    if 16777216 < len then s.nakEnd k 0x23 p.psn
    else match s.winServe at_ c.host true key addr len with
      | some (i, _) => go s at_ i addr len
      | none => s.nakEnd k 0x24 p.psn
  | false, some (g, i, off, left) => go s g i off left
  | _, _ => s.nakEnd k 0x23 p.psn

/-- A READ request served under a set: the response, or a NAK Remote Access Error (R192, R193). -/
def State.winRead (s : State) (k : Nat) (c : Conn) (psn gen key addr len : Nat) : Option State :=
  match s.winServe gen c.host false key addr len with
  | some (_, w) => some ((s.roce 0x30 k psn (packets c.pmtu len)).emit (.windowData k psn (s.dramRead (w.base + addr) len)))
  | none => none

/-- Queue a capsule as Received (R49, R182): false where every slot of its queue is taken (R177).  One that arrives before
the connection has a queue is not stored. -/
def State.capsuleIn (s : State) (c : Conn) (cap : Capsule) : Option State :=
  match c.cntlid with
  | none => some s
  | some id => match s.queue? id c.qid with
    | none => some s
    | some q =>
      if q.depth ≤ q.caps.length then none
      else some (s.modQueue id c.qid fun q => { q with caps := q.caps ++ [({ cap with cntlid := id, qid := c.qid }, false, s.now)] })

/-- Payload bytes of a SEND packet: its frame without 62 bytes of headers, as R190's worked example has a SEND Only of 126 bytes
carry a capsule of 64 (log entry 182). -/
def sendBytes (p : RcPkt) : Nat := p.bytes - 62

/-- A packet of a SEND message at the expected PSN: beyond 16 MiB in all it is answered with NAK Invalid Request; its last packet
delivers the capsule, or is answered with an RNR NAK (R175, R177, R182). -/
def State.sendIn (s : State) (k : Nat) (c : Conn) (p : RcPkt) (last : Bool) (cap : Capsule) : State :=
  let n := c.sendLen + sendBytes p
  if 16777216 < n then s.nakEnd k 0x23 p.psn
  else if ¬ last then (s.setConn k { c with sendLen := n }).ackOwed k p 1 false
  else match s.capsuleIn c cap with
    | some s1 => (s1.modConn k fun x => { x with sendLen := 0 }).ackOwed k p 1 false
    | none => ((s.satInc Fld.FAB.NAK_SENT.V).event Fld.FAB.EVENT.RNR_SENT 180).roce 0x25 k p.psn
        (s.get Fld.FAB.RC_CFG.RNR_TIMER)

/-- A request at the expected PSN is executed (R184); `gen` is the window set that was in force when it arrived (R193). -/
def State.reqRun (s : State) (k : Nat) (c : Conn) (p : RcPkt) (gen : Nat) : State :=
  match p.op with
  | .send last cap => s.sendIn k c p last cap
  | .write f l key addr len data => s.winWrite k c p gen f l key addr len data
  | .readReq key addr len =>
    if 16777216 < len ∨ c.wmsg.isSome then s.nakEnd k 0x23 p.psn
    else match s.winRead k c p.psn gen key addr len with
      | some s1 => (s1.modConn k fun c => { c with resp := c.resp ++ [(p.psn, gen)] }).ackOwed k p (packets c.pmtu len) true
      | none => s.nakEnd k 0x24 p.psn
  | .unsupported => s.nakEnd k 0x23 p.psn
  | .notRc => s

/-- A duplicate request (R184, R193). -/
def State.reqDup (s : State) (k : Nat) (c : Conn) (p : RcPkt) : State :=
  let s1 := s.satInc Fld.FAB.DUP_RX.V
  match p.op with
  | .readReq key addr len =>
    let gen := match c.resp.find? fun r => r.1 == p.psn with
      | some r => r.2
      | none => s.get Fld.FAB.WIN_STATUS.GEN
    match s1.winRead k c p.psn gen key addr len with
    | some s2 => s2
    | none => s1.nakEnd k 0x24 p.psn
  | _ => s1.roce 0x20 k p.psn 1

/-- A request is acted on according to its PSN (R184).  A responder resource of an earlier PSN is released by its arrival, whatever
becomes of it (R193). -/
def State.reqIn (s : State) (k : Nat) (p : RcPkt) (gen : Nat) : State :=
  match s.conn? k with
  | none => s
  | some c0 =>
    let c := { c0 with resp := c0.resp.filter fun r => psnLe p.psn r.1 }
    let s := s.setConn k c
    if p.op = .unsupported then s.nakEnd k 0x23 p.psn
    else if p.psn % 2 ^ 24 = c.epsn then
      let c1 := { c with nakSent := false }
      (s.setConn k c1).reqRun k c1 p gen
    else if psnLe c.epsn p.psn then
      if c.nakSent then s
      else ((s.setConn k { c with nakSent := true }).satInc Fld.FAB.NAK_SENT.V).roce 0x22 k c.epsn 0
    else s.reqDup k c p

/-- ECN-CE mark of a packet. -/
def HeldPkt.ce (h : HeldPkt) : Bool :=
  match h with
  | .req p _ => p.ce
  | .ack _ m | .nakSeq _ m | .nakErr _ m | .rnr _ m => m
  | .cnp => false

/-! ### Requester -/

/-- The last data packet of a read has been acknowledged (R59, R60): its slot is claimed, or its drain goes on; of a read that was
passed on, the owner's completion may follow (R43). -/
def State.dataAcked (s : State) (x : TxKind) : State :=
  match x with
  | .readData t => match s.cmd? t with
    | none => s
    | some c =>
      let s1 := s.setCmd t { c with pkts := 0 }
      if c.st = .dataOut ∧ ¬ c.claimed then (s1.setCmd t { c with pkts := 0, claimed := true, st := .completing }).tryPost t
      else (s1.drainCheck t).tryPost t
  | .passedData a b d _ => (s.modPassed a b d fun e => { e with owed := e.owed - 1 }).passedPost a b d
  | _ => s

/-- PSN `p` is acknowledged (R183): what it covers is freed, the retry counts restart on progress, the timer restarts. -/
def State.ackIn (s : State) (k p : Nat) : State :=
  match s.conn? k with
  | none => s
  | some c =>
    if c.una = [] ∨ ¬ psnLe c.oldest p ∨ ¬ psnLe (p + 1) c.spsn then s
    else
      let rest := c.left p
      let s1 := s.setConn k { c with
        una := rest, retries := if rest = c.una then c.retries else 0, rnr := if rest = c.una then c.rnr else 0,
        rnrWait := none, due := if rest = [] then none else some (s.now + s.ackTimeout) }
      (c.readsDone p).foldl State.dataAcked s1

/-- Go back to PSN `p` (R183), or fail once the retries are exhausted. -/
def State.goBack (s : State) (k p : Nat) : State :=
  match s.conn? k with
  | none => s
  | some c =>
    if c.una = [] then s
    else if s.get Fld.FAB.RC_CFG.RETRY_CNT ≤ c.retries then s.connError k
    else (s.setConn k { c with retries := c.retries + 1 }).retransmit k p

/-- A NAK Sequence Error naming PSN `p` (R183). -/
def State.nakSeqIn (s : State) (k p : Nat) : State :=
  let s1 := (s.satInc Fld.FAB.NAK_RCVD.V).ackIn k (p + 0xFFFFFF)
  match s1.conn? k with
  | some c => if psnLe c.oldest p ∧ psnLe (p + 1) c.spsn then s1.goBack k p else s1
  | none => s1

/-- An RNR NAK (R177): the part waits for the RNR timer, up to RNR_RETRY times. (DEDUCED, log entry 76.) -/
def State.rnrIn (s : State) (k p : Nat) : State :=
  let s1 := s.satInc Fld.FAB.NAK_RCVD.V
  match s1.conn? k with
  | some c =>
    let lim := s.get Fld.FAB.RC_CFG.RNR_RETRY
    if c.una = [] then s1
    else if lim ≠ 7 ∧ lim ≤ c.rnr then s1.connError k
    else s1.setConn k { c with rnr := c.rnr + 1, rnrWait := some p }
  | none => s1

/-- A received CNP halves the rate, at most once per CNP_INTERVAL, never below 1 Gb/s (R186). -/
def State.cnpIn (s : State) (k : Nat) : State :=
  if s.flag Fld.FAB.CC_CFG.ENABLE then
    s.modConn k fun c =>
      if (match c.cnpCut with | some t => decide (s.now < t + 1000 * s.get Fld.FAB.CC_CFG.CNP_INTERVAL) | none => false) then c
      else { c with rate := if c.rate / 2 < 1000 then 1000 else c.rate / 2, cnpCut := some s.now }
  else s

/-! ### Arrival -/

/-- A packet of a resident connection is processed. -/
def State.pktRun (s : State) (k : Nat) (h : HeldPkt) : State :=
  let s0 := if h.ce then s.cnpSend k else s
  let s1 := match h with
    | .req p g => s0.reqIn k p g
    | .ack p _ => s0.ackIn k p
    | .nakSeq p _ => s0.nakSeqIn k p
    | .nakErr _ _ => (s0.satInc Fld.FAB.NAK_RCVD.V).connError k
    | .rnr p _ => s0.rnrIn k p
    | .cnp => s0.cnpIn k
  s1.touch k

/-- The dependency class of a packet that the part receives on a connection (R181). -/
def HeldPkt.cls (h : HeldPkt) : Nat := match h with | .req _ _ => 4 | _ => 1

/-- 64-byte units of the miss buffer that a packet takes (R190): an Acknowledge or a NAK is a frame of 66 bytes, a CNP of 78, by the
62 bytes of headers of R190's worked example. (DEDUCED, log entry 75.) -/
def HeldPkt.units (h : HeldPkt) : Nat := match h with | .req p _ => (p.bytes + 63) / 64 | _ => 2

/-- Bytes of a port's miss buffer in use. -/
def State.missUse (s : State) (port : Nat) : Nat :=
  64 * ((s.fab.conns.flatMap fun x => (x.2.held.filter fun h => h.1 == port).map fun h => h.2.units).foldl (· + ·) 0)

/-- A packet arrives on `port` for connection `k` (R190): processed at once when the context is resident, else held in the port's
miss buffer while the context is fetched, or dropped there. -/
def State.pktIn (s : State) (k port : Nat) (h : HeldPkt) : State :=
  match s.conn? k with
  | none => s
  | some c =>
    if c.tr ≠ 0 then s
    else if c.st = 4 ∨ c.st = 5 then
      let drop : PmcEv := { code := 0x0F, n := 1, masters := c.masters }
      let use := s.missUse port + 64 * h.units
      if 8 ≤ c.held.length then ((s.satInc Fld.QPC.DROP_LIMIT.V).event Fld.QPC.EVENT.HELD_LIMIT 272).count drop
      else if 262144 < use then ((s.satInc Fld.QPC.DROP_FULL.V).event Fld.QPC.EVENT.MISS_BUF_FULL 273).count drop
      else
        let s1 := if s.get Fld.QPC.MISS_PEAK.V < use then s.put Fld.QPC.MISS_PEAK.V use else s
        (s1.setConn k { c with held := c.held ++ [(port, h)] }).fetch k
    else ((s.add64 Reg.QPC.HITS_LO 1).count { code := 0x0D, n := 1, masters := c.masters }).pktRun k h

/-- The port that an answer, a CNP or a window request of a connection arrives on: that of the connection, for the row names none.
(DEDUCED, log entry 75.) -/
def State.portOf (s : State) (k : Nat) : Nat := match s.conn? k with | some c => c.port | none => 0

/-- A request packet as it arrives: with the window set then in force (R193). -/
def State.asReq (s : State) (p : RcPkt) : HeldPkt := .req p (s.get Fld.FAB.WIN_STATUS.GEN)

/-- RC_REQUEST_RECEIVE (R171, R175, R184): a RoCEv2 packet on MGT is dropped and counted there, a packet of another transport is
dropped and counted. -/
def execRcRequestReceive (conn port : Nat) (pkt : RcPkt) (s : State) : Host.Outcome State Fault Refusal :=
  if ¬ s.aon.coreUp then .next s else
  .next (if port = 6 then s.satInc (Fld.FAB_E.RX_DROP.V 6)
    else if pkt.op = .notRc then s.satInc Fld.FAB.BAD_RX.V else (s.pktIn conn port (s.asReq pkt)).settle)

/-- ACK_RECEIVE (R183). -/
def execAckReceive (conn psn : Nat) (ce : Bool) (s : State) : Host.Outcome State Fault Refusal :=
  if ¬ s.aon.coreUp then .next s else
  .next (s.pktIn conn (s.portOf conn) (.ack psn ce)).settle

/-- NAK_SEQUENCE_ERROR_RECEIVE (R183). -/
def execNakSequenceErrorReceive (conn psn : Nat) (ce : Bool) (s : State) : Host.Outcome State Fault Refusal :=
  if ¬ s.aon.coreUp then .next s else
  .next (s.pktIn conn (s.portOf conn) (.nakSeq psn ce)).settle

/-- NAK_ERROR_RECEIVE (R185). -/
def execNakErrorReceive (conn kind : Nat) (ce : Bool) (s : State) : Host.Outcome State Fault Refusal :=
  if ¬ s.aon.coreUp then .next s else
  .next (s.pktIn conn (s.portOf conn) (.nakErr kind ce)).settle

/-- RNR_NAK_RECEIVE (R177). -/
def execRnrNakReceive (conn psn : Nat) (ce : Bool) (s : State) : Host.Outcome State Fault Refusal :=
  if ¬ s.aon.coreUp then .next s else
  .next (s.pktIn conn (s.portOf conn) (.rnr psn ce)).settle

/-- RNR_RETRY_TIMER_EXPIRY (R177). -/
def execRnrRetryTimerExpiry (conn : Nat) (s : State) : Host.Outcome State Fault Refusal :=
  if ¬ s.aon.coreUp then .next s else
  .next (match s.conn? conn with
    | some c => match c.rnrWait with
      | some p => (s.setConn conn { c with rnrWait := none }).sendOrWait conn (.resend p)
      | none => s
    | none => s)

/-- ACK_TIMEOUT (R183): of a resident context with something unacknowledged. -/
def execAckTimeout (conn : Nat) (s : State) : Host.Outcome State Fault Refusal :=
  if ¬ s.aon.coreUp then .next s else
  .next (match s.conn? conn with
    | some c => if c.tr ≠ 0 ∨ c.st = 4 ∨ c.st = 5 then s else ((s.goBack conn c.oldest).touch conn).settle
    | none => s)

/-- CNP_RECEIVE (R186, R190). -/
def execCnpReceive (conn : Nat) (s : State) : Host.Outcome State Fault Refusal :=
  if ¬ s.aon.coreUp then .next s else
  .next (s.pktIn conn (s.portOf conn) .cnp)

/-- Bytes of a window packet's frame: 62 of headers, 16 more for a RETH. -/
def winBytes (reth : Bool) (n : Nat) : Nat := 62 + (if reth then 16 else 0) + n

/-- WINDOW_WRITE_RECEIVE (R192). -/
def execWindowWriteReceive (conn psn : Nat) (first last ackReq ce : Bool) (key addr len : Nat) (data : List Byte) (s : State) :
    Host.Outcome State Fault Refusal :=
  if ¬ s.aon.coreUp then .next s else
  .next (s.pktIn conn (s.portOf conn) (s.asReq ⟨psn, ackReq, ce, winBytes first data.length, .write first last key addr len data⟩)).settle

/-- WINDOW_READ_REQUEST (R193). -/
def execWindowReadRequest (conn psn : Nat) (ce : Bool) (key addr len : Nat) (s : State) : Host.Outcome State Fault Refusal :=
  if ¬ s.aon.coreUp then .next s else
  .next (s.pktIn conn (s.portOf conn) (s.asReq ⟨psn, true, ce, winBytes true 0, .readReq key addr len⟩)).settle

/-- CONTEXT_FETCH_DONE (R190): the held packets are processed in order of arrival, then what waited to be sent. -/
def execContextFetchDone (conn ns : Nat) (s : State) : Host.Outcome State Fault Refusal :=
  if ¬ s.aon.coreUp then .next s else
  .next (match s.conn? conn with
    | some c =>
      if c.st ≠ 4 then s
      else
        let s1 := s.setConn conn { c with st := 3, held := [] }
        let s2 := if s1.get Fld.QPC.FETCH_LAT_MAX.V < ns then s1.put Fld.QPC.FETCH_LAT_MAX.V (if ns < 65536 then ns else 65535) else s1
        ((((c.held.foldl (fun s h => s.pktRun conn h.2) s2).sendWaiting conn).touch conn).fetchNext).settle
    | none => s)

/-! ### Connection management -/

/-- The lowest connection number that is free. (DESIGN CHOICE, log entry 22.) -/
def State.freeConn (s : State) : Nat := ((List.range (s.fab.conns.length + 1)).find? fun k => (s.conn? k).isNone).getD 0

/-- ORD and the part's own responder resources of a REP (R176). -/
def State.repDepths (s : State) (host : Option Nat) (ird : Nat) : Nat × Nat :=
  let ord := if ird < 16 then ird else 16
  match host with
  | some h => (ord, if bit (s.host h).perm 2 ∧ (validWins s.fab.cur).any fun x => x.2.ctrl % 1024 == h then 16 else 0)
  | none => (ord, 0)

/-- CM_REQ (R176, R187): rejected with the first status that holds, or accepted into a setup context.
With no setup context free and no responder resources it sends 0x06. (DESIGN CHOICE, log entry 74.) -/
def execCmReq (port peer privLen recfmt hsqsize ird dscp pmtu psn : Nat) (host : Option Nat) (s : State) :
    Host.Outcome State Fault Refusal :=
  if ¬ s.aon.coreUp then .next s else
  .next (
    if 5 < port then s
    else if privLen < 32 then s.emit (.cm 2 peer 0x01)
    else if recfmt ≠ 0 then s.emit (.cm 2 peer 0x02)
    else if 64 ≤ (s.fab.conns.filter fun x => x.2.st == 1).length then
      ((s.event Fld.QPC.EVENT.SETUP_EXHAUSTED 274).emit (.cm 2 peer 0x06)).settle
    else if ird = 0 then s.emit (.cm 2 peer 0x07)
    else
      let (sp, s1) := s.evict.fresh 8
      let k := s1.freeConn
      let m := s1.get (Fld.FAB_E.PORT_CFG.PMTU_MAX port)
      let (ord, rr) := s1.repDepths host ird
      let c : Conn :=
        { port := port, peer := peer, host := host, cntlid := none, qid := 0, hsq := hsqsize, ird := ird, dscp := dscp,
          pmtu := if pmtu < m then pmtu else m, st := 1, tr := 0, epsn := psn % 2 ^ 24, nakSent := false, owed := 0,
          spsn := sp % 2 ^ 24, una := [], retries := 0, rnr := 0, rnrWait := none, due := none, waitTx := [], held := [],
          rate := portMbps port, cnpSent := none, cnpCut := none, used := s1.fab.useSeq, wmsg := none, sendLen := 0, resp := [] }
      (s1.setConn k c).emit (.cm 1 peer (hsqsize + 2 ^ 16 * ord + 2 ^ 24 * rr)))

/-- A connection has ended: its context is released (R191); with its admin queue's connection a controller is deleted,
with an I/O queue's that queue. -/
def State.connGone (s : State) (k : Nat) : State :=
  match s.conn? k with
  | none => s
  | some c =>
    let s1 := s.delConn k
    match c.cntlid with
    | none => s1
    | some id => if c.qid = 0 then s1.ctrlDelete id else s1.queuesDrop fun q => q.cntlid == id && q.qid == c.qid

/-- CM_DREQ_RECEIVE (R191). -/
def execCmDreqReceive (conn : Nat) (s : State) : Host.Outcome State Fault Refusal :=
  if ¬ s.aon.coreUp then .next s else
  .next (s.connGone conn).settle

/-- SETUP_TIMEOUT (R187). -/
def execSetupTimeout (conn : Nat) (s : State) : Host.Outcome State Fault Refusal :=
  if ¬ s.aon.coreUp then .next s else
  .next (match s.conn? conn with
    | some c => if c.st = 1 then s.connClose conn else s
    | none => s)

end Sys2Proof.Machine
end

