-- ==== Sys2Proof/Machine/Commit.lean ====
section
/-! DEFINITION. Records that are written and commit (R123), tail writes (R125), dark minutes (R120). -/

namespace Sys2Proof.Machine
open Sys2Proof

/-! ### Release records of the mirror -/

/-- Mirror sequence numbers whose positions are still needed: ring records not reclaimed, tails whose strip is not written
(R140). -/
def State.mseqNeeded (s : State) : List Nat := s.nv.ring.filterMap (·.mseq) ++ s.jn.tailSeq.map (·.2)

/-- RELEASE_RECORD_SEND (R140): everything up to X is acknowledged and no longer needed. -/
def State.relCheck (s : State) : State :=
  let x := s.mseqNeeded.foldl (fun m a => if a ≤ m then a - 1 else m) s.mseqAcked
  if s.mirrorSends ∧ s.jn.relSent < x then ((s.mirSend (.release x)).2).modJn fun j => { j with relSent := x } else s

/-! ### Commits -/

/-- The record next to commit, once it may (R123): verified, its copies acknowledged while the mirror is in step. -/
def State.nextRec (s : State) : Option RingRec :=
  match s.nv.ring.find? fun r => r.jseq == s.jseq + 1 with
  | some r =>
    let acked : Bool := match r.mseq with
      | some m => decide (m ≤ s.mseqAcked) && decide (r.tailMseq ≤ s.mseqAcked)
      | none => true
    if r.verified && (!s.inStep || acked) then some r else none
  | none => none

/-- Changes of the tables that wait for the commit; the other records follow changes made when they were issued. -/
def commitsLater (b : RecBody) : Bool :=
  match b with
  | .wpAdvance _ _ _ _ _ _ _ | .mapSwap _ _ _ _ _ _ _ _ _ _ _ | .zoneState _ => true
  | _ => false

/-- A record's commit changes the tables (R123). -/
def State.commitBody (s : State) (b : RecBody) : State := if commitsLater b then s.applyRec b else s

/-- Zones whose entries a record changes. -/
def State.recZones (s : State) (b : RecBody) : List Nat :=
  match b with
  | .wpAdvance z _ _ _ _ _ _ => [z]
  | .mapSwap _ _ _ st _ _ _ _ de _ _ => if de then [] else [s.zoneOfStripe st]
  | .zoneState es => es.map (·.1)
  | _ => []

/-- The command of a record goes on after its commit (R42, R56, R63): to its next piece, or to its completion. -/
def State.cmdAfter (s : State) (r : RingRec) : State :=
  match r.cmd with
  | none => s
  | some t =>
    match s.cmd? t with
    | none => s
    | some c =>
      let fin (s : State) : State := (s.release t).tryPost t
      match c.st, c.io with
      | .committing, some io =>
        if io.op = .write ∨ io.op = .append then
          let s1 := s.modFr fun f => { f with staging := f.staging.filter fun e => !(e.tag == t && decide (256 * e.piece < c.done)) }
          if c.done = c.total then fin (s1.setCmd t { c with st := .completing })
          else s1.setCmd t { c with st := .running }
        else if c.owed ≤ 1 then fin (s.setCmd t { c with owed := 0, st := .completing })
        else s.setCmd t { c with owed := c.owed - 1 }
      | _, _ => s

/-- A NAMESPACE record of a delete is written: the header counts its zones as Empty (R71). -/
def State.deleteWritten (s : State) (b : RecBody) : State :=
  match b with
  | .nspace id 2 _ _ _ _ => s.modJn fun j => { j with emptied := j.emptied.eraseP fun x => x.1 == id }
  | _ => s

/-- A record commits (R123). -/
def State.commit1 (s0 : State) (r : RingRec) : State :=
  let s := s0.deleteWritten r.body
  let zs := s.recZones r.body
  let s1 := (zs.foldl State.zoneSettle (((s.wr64 Reg.GNT.JSEQ_LO r.jseq).commitBody r.body).markDirty r.jseq r.body)).headerUpdate
  let off : Bool := match r.body with | .zoneState es => es.any fun e => e.2 == 15 | _ => false
  let s2 := if off then s1.evAt 320 Fld.ZMP.EVENT.ZONE_OFFLINE else s1
  zs.foldl State.pump (s2.cmdAfter r)

/-- Commit what may commit, in JSEQ order. -/
def State.commits (s : State) : Nat → State
  | 0 => s
  | n + 1 => match s.nextRec with
    | some r => (s.commit1 r).commits n
    | none => s

/-- Every record that may commit does; Zone Finish and conventional writes that wait go on. -/
def State.commitAll (s : State) : State :=
  let s1 := (s.commits s.nv.ring.length).mbrShow
  if s1.stopped then s1 else s1.finishAll.retryWrites

/-- The ring line where record `j` begins. -/
def State.ringLine (s : State) (j : Nat) : Nat := match s.nv.ring.find? fun r => r.jseq == j with | some r => r.line | none => 0

/-- The lines of record `j` have passed their verify, those of `bad` after their retirement; so have the lines of staging that
its command wrote, those of `staged` after theirs (R115, R117, R123). -/
def State.recWritten (s : State) (j : Nat) (bad staged : List Nat) : State :=
  if s.flag Fld.FLT.STATUS.HALTED ∨ ¬ s.nv.ring.any fun r => r.jseq == j && !r.verified then s
  else
    let s1 := s.modNv fun v => { v with ring := v.ring.map fun r => if r.jseq = j then { r with verified := true } else r }
    ((s1.badRetire (s1.ringLine j) 16 bad).badRetire stagingBase 131072 staged).commitAll

/-- JOURNAL_RECORD_WRITTEN (R123). -/
def execJournalRecordWritten (jseq : Nat) (bad staged : List Nat) (s : State) : Host.Outcome State Fault Refusal :=
  if ¬ s.aon.coreUp then .next s else
  .next (s.recWritten jseq bad staged).settle

/-- A tail write of a command has passed its verify, those of its lines in `bad` after their retirement (R117, R125): the
command's record may follow. -/
def State.tailWritten (s : State) (k j t : Nat) (bad : List Nat) : State :=
  match s.cmd? t with
  | none => s
  | some c =>
    if s.flag Fld.FLT.STATUS.HALTED ∨ c.owed = 0 ∨ (tget s.nv.tails (16 * k + j)).isNone then s
    else
      let s1 := s.setCmd t { c with owed := c.owed - 1 }
      (s1.badRetire (tailBase + 1024 * k + 65 * j) 65 bad).pump (s.slot k).zone

/-- TAIL_WRITE_COMPLETE (R125). -/
def execTailWriteComplete (slot idx tag : Nat) (bad : List Nat) (s : State) : Host.Outcome State Fault Refusal :=
  if ¬ s.aon.coreUp then .next s else
  .next (s.tailWritten slot idx tag bad).settle

/-! ### Dark minutes -/

/-- DARK_TIME_RECORD (R120): every 15 minutes the accumulated dark minutes are written. -/
def execDarkTimeRecord (s : State) : Host.Outcome State Fault Refusal :=
  if ¬ s.aon.coreUp then .next s else
  .next (if s.flag Fld.GNT.STATUS.REPLAY_DONE ∧ s.lay.isSome then s.darkRecord else s)

end Sys2Proof.Machine
end

