-- ==== Sys2Proof/Machine/Cipher.lean ====
section
/-! DEFINITION. The key store (R260 to R264), the withdrawal of a namespace whose slot is emptied (R255), tamper alarms
(R265, R266), the mirror's missing key (R137). -/

namespace Sys2Proof.Machine
open Sys2Proof

/-! ### The mirror's state -/

/-- IN_STEP clears (R137, R141). -/
def State.outOfStep (s : State) : State :=
  let s1 := if s.inStep then (s.off Fld.GNT.MIRROR.IN_STEP).evAt 402 Fld.GNT.EVENT.MIRROR_OUT_OF_STEP else s
  (s1.off Fld.GNT.MIRROR.RESYNC).modJn fun j =>
    { j with resyncTo := none, hbSent := false, rebase := j.rebase || s1.get Fld.GNT.STATUS.ROLE == 2 }

/-- The device's own mirror key is missing, or no longer (R137): records then commit on local Garnet alone. -/
def State.keyWaitShow (s : State) : State :=
  let miss := s.mirrorOn && s.mirrorKeyMissing
  if miss && !s.flag Fld.GNT.MIRROR.KEY_WAIT then
    (((s.on Fld.GNT.MIRROR.KEY_WAIT).evAt 402 Fld.GNT.EVENT.MIRROR_KEY_MISSING).outOfStep).commitAll
  else s.putB Fld.GNT.MIRROR.KEY_WAIT miss

/-! ### Emptying slots -/

/-- Write or read data of a command that has still to pass the cipher (R255). -/
def needsCipher (c : Cmd) : Bool :=
  match c.io with
  | some io =>
    !c.claimed && (match io.op with
      | .read => !c.sent
      | .write | .append => decide (c.folded + c.got.length < io.nlb)
      | _ => false)
  | none => false

/-- A namespace is withdrawn because its key slot is emptied (R255): hosts are told, commands that still need the cipher
end. -/
def State.nsWithdraw (s : State) (nsid : Nat) : State :=
  if (s.ns? nsid).isNone then s
  else
    let s1 := s.nsChanged nsid
    let ts := (s1.fr.cmds.filter fun x => (match x.2.io with | some io => io.nsid == nsid | none => false) && needsCipher x.2).map (·.1)
    ts.foldl (fun s t => s.keyMissing t) s1

/-- Empty one slot, or every slot, now (R264). -/
def State.zeroNow (s : State) (n : Option Nat) : State :=
  let gone := match n with
    | some k => if (tget s.keys.slots k).isSome then [k] else []
    | none => s.keys.slots.map (·.1)
  if gone = [] then s.event Fld.KEY.EVENT.ZEROISED 1330
  else
    let left := gone.foldl tdel s.keys.slots
    let s1 := (((s.modKeys fun k => { k with slots := left }).put Fld.KEY.STATUS.USED left.length).on Fld.KEY.STATUS.ZEROISING).keyWaitShow
    (gone.filter fun k => decide (k < 1024)).foldl (fun s k => s.nsWithdraw (k + 1)) s1

/-- Zeroise a slot, or all (R263, R264): an import of the target ends with code 8; behind another import it waits. -/
def State.zeroise (s : State) (n : Option Nat) : State :=
  match s.keys.imp with
  | some (ctrl, _, _) =>
    if n = none ∨ n = some (ctrl % 4096) then ((s.importEnd 8).event Fld.KEY.EVENT.IMPORT_FAILED 1329).zeroNow n
    else s.modKeys fun k => { k with waiting := k.waiting ++ [n] }
  | none => s.zeroNow n

/-- KEY_ZEROISE_SLOT (R264). -/
def execKeyZeroiseSlot (slot : Nat) (s : State) : Host.Outcome State Fault Refusal :=
  if ¬ s.aon.coreUp then .next s else
  .next (s.zeroise (some (slot % 4096))).settle

/-- KEY_ZEROISE_ALL (R264). -/
def execKeyZeroiseAll (s : State) : Host.Outcome State Fault Refusal :=
  if ¬ s.aon.coreUp then .next s else
  .next (s.zeroise none).settle

/-- ZEROISE_DONE (R264): every copy of the keys is cleared. -/
def execZeroiseDone (s : State) : Host.Outcome State Fault Refusal :=
  if ¬ s.aon.coreUp then .next s else
  .next (if s.flag Fld.KEY.STATUS.ZEROISING then
      ((s.off Fld.KEY.STATUS.ZEROISING).event Fld.KEY.EVENT.ZEROISED 1330).settle else s)

/-! ### Import -/

/-- Bytes of a key by its size code: AES-128, AES-256, XTS-128, XTS-256 (R260, R261). -/
def keyBytes (size : Nat) : Nat := match size with | 0 => 16 | 1 => 32 | 2 => 32 | _ => 64

/-- A write of KEY.IMP_GO (R261, R263): the staged bytes are taken; ignored while an import runs.
(DEDUCED, log entry 66.) -/
def State.keyImport (s : State) : State :=
  if s.flag Fld.KEY.IMP_RESULT.BUSY then s
  else
    let dat := (List.range 18).flatMap fun m => leBytes 4 (s.regN (Reg.KEY.IMP_DATA m))
    let eph := (List.range 24).flatMap fun m => leBytes 4 (s.regN (Reg.KEY.EPHEM m))
    (s.modKeys fun k => { k with imp := some (s.regN Reg.KEY.IMP_CTRL, dat, eph) }).on Fld.KEY.IMP_RESULT.BUSY

/-- KEY_IMPORT (R261). -/
def execKeyImport (s : State) : Host.Outcome State Fault Refusal :=
  if ¬ s.aon.coreUp then .next s else
  .next s.keyImport

/-- A kind is allowed in a slot (R260). -/
def kindFits (kind slot : Nat) : Bool :=
  if kind = 1 ∨ kind = 2 then decide (slot < 1024) else if kind = 3 ∨ kind = 4 then decide (1024 ≤ slot) else false

/-- A size is allowed for a kind (R260). -/
def sizeFits (kind size : Nat) : Bool :=
  if kind = 1 then size == 2 || size == 3 else if kind = 3 then decide (size < 4) else if kind = 4 then decide (size < 2) else decide (size < 4)

/-- The transport key of R262: the first 32 bytes of SHA-384 over the shared secret and "DV4832KW"; none when the
ephemeral key is no point of the curve. -/
def State.transportKey (s : State) (eph : List Byte) : Option (List Byte) :=
  (Config.ecdhSecret ((s.fuse.map (·.secret)).getD []) eph).map fun z =>
    (digBytes (Config.sha384 (z ++ ascii "DV4832KW"))).take 32

/-- The wrapping key of an import: the KEK slot's key, or the transport key of R262. -/
def State.wrapKey (s : State) (ctrl : Nat) (eph : List Byte) : Option (List Byte) :=
  if bit ctrl 31 then s.transportKey eph
  else (tget s.keys.slots (bits ctrl 16 12)).map (·.material)

/-- The outcome of an import (R263): its code, and the key. -/
def State.importResult (s : State) (ctrl : Nat) (dat eph : List Byte) : Nat × List Byte :=
  let target := bits ctrl 0 12
  let kind := bits ctrl 12 3
  let size := bits ctrl 28 3
  let n := keyBytes size
  let kekOk : Bool := match tget s.keys.slots (bits ctrl 16 12) with | some k => k.kind == 4 | none => false
  if (tget s.keys.slots target).isSome then (1, [])
  else if ¬ kindFits kind target then (2, [])
  else if kind ≠ 2 ∧ ¬ bit ctrl 31 ∧ ¬ kekOk then (3, [])
  else if ¬ sizeFits kind size then (5, [])
  else if kind = 2 then (0, [])
  else match s.wrapKey ctrl eph with
    | none => (6, [])
    | some w => match Config.keyUnwrap w (dat.take (n + 8)) with
      | none => (4, [])
      | some m => if 2 ≤ size ∧ m.take (n / 2) = m.drop (n / 2) then (7, []) else (0, m)

/-- The import ends (R263): on code 0 the slot is loaded, and hosts that may see its namespace are told (R255); then the
zeroises that waited behind it are carried out. -/
def State.importDone (s : State) : State :=
  match s.keys.imp with
  | none => s
  | some (ctrl, dat, eph) =>
    let (code, m) := s.importResult ctrl dat eph
    let target := bits ctrl 0 12
    let kind := bits ctrl 12 3
    let w := s.keys.waiting
    let s0 := s.importEnd code
    let s1 := s0.modKeys fun k => { k with waiting := [] }
    let s2 :=
      if code = 0 then
        let k : KeySlot := ⟨kind, if kind = 2 then 0 else bits ctrl 28 3, bits ctrl 16 12, bit ctrl 31, m⟩
        let t := tput s1.keys.slots target k
        let a := ((s1.modKeys fun k => { k with slots := t }).put Fld.KEY.STATUS.USED t.length).event Fld.KEY.EVENT.IMPORTED 1328
        let b := if target < 1024 ∧ (a.ns? (target + 1)).isSome then a.nsChanged (target + 1) else a
        b.keyWaitShow
      else s1.event Fld.KEY.EVENT.IMPORT_FAILED 1329
    w.foldl (fun s n => s.zeroNow n) s2

/-- KEY_IMPORT_DONE (R263). -/
def execKeyImportDone (s : State) : Host.Outcome State Fault Refusal :=
  if ¬ s.aon.coreUp then .next s else
  .next s.importDone.settle

/-! ### Tamper alarms and the descriptor floor -/

/-- TAMPER_ALARM (R265, R266): the detector's cause bit is set and its source rises, class A: keys zeroised, the data path
halted.  The detectors are armed while the core runs. -/
def execTamperAlarm (detector : Nat) (s : State) : Host.Outcome State Fault Refusal :=
  .next (if detector < 4 ∧ s.aon.coreUp then (s.event ⟨Reg.AES.TAMPER, detector, 1⟩ (1312 + detector)).settle else s)

/-- AES_FLOOR_WINDOW_END (R253): the 1 ms window of the descriptor floor ends, and its counts start anew.
(DESIGN CHOICE, log entry 69.) -/
def execAesFloorWindowEnd (s : State) : Host.Outcome State Fault Refusal :=
  if ¬ s.aon.coreUp then .next s else
  .next (s.modKeys fun k => { k with winStorage := 0, winDesc := 0 })

end Sys2Proof.Machine
end

