-- ==== Sys2Proof/Machine/Namespaces.lean ====
section
/-! DEFINITION. Namespaces made and deleted through ZMP (R25, R32, R35, R45), the DRAM budget (R15), the zone map entry
(R46). -/

namespace Sys2Proof.Machine
open Sys2Proof

/-! ### The DRAM budget -/

/-- A quotient rounded up. -/
def ceilDiv (a b : Nat) : Nat := if b = 0 then 0 else (a + b - 1) / b

/-- GiB of the conventional namespaces. -/
def State.convGib (s : State) : Nat := ((s.tb.nss.filter fun x => x.2.conv).map fun x => x.2.size).foldl (· + ·) 0

/-- The DRAM that the storage path needs, MiB (R15), with `conv` GiB of conventional capacity. -/
def State.dramNeed (s : State) (conv : Nat) : Nat :=
  512 + 16 + ceilDiv (64 * s.rd64 Reg.ZMP.ZONE_COUNT_LO) (2 ^ 20) + ceilDiv (2 * s.layout.stripes) (8 * 2 ^ 20)
    + 2 * conv + 128 * s.slotsInUse + 256

/-- The budget is computed again (R15): DRAM_REQUIRED, DRAM_SHORT and the ANA state follow. -/
def State.dramShow (s : State) : State :=
  let need := s.dramNeed s.convGib
  let short := decide (s.get Fld.TOP.DRAM_FITTED.V < need)
  let was := s.flag Fld.TOP.STATUS.DRAM_SHORT
  let s1 := (s.put Fld.TOP.DRAM_REQUIRED.V need).putB Fld.TOP.STATUS.DRAM_SHORT short
  if short && !was then (s1.event Fld.TOP.EVENT.DRAM_SHORT 0).anaSet 3
  else if was && !short && s1.flag Fld.GNT.STATUS.REPLAY_DONE && s1.get Fld.ZMP.ANA.STATE == 3 then s1.anaSet (if s1.jn.taking then 0xF else s1.anaServe)
  else s1

/-! ### Creation -/

/-- Zones not assigned to a namespace, in rising order, at most `n` of them. -/
def State.freeZones (s : State) (n : Nat) : List Nat :=
  ((List.range (s.rd64 Reg.ZMP.ZONE_COUNT_LO)).filter fun z => (s.zone z).nsid == 0 && (s.zone z).st == 1).take n

/-- Zones a namespace takes (R32). -/
def State.zonesNeeded (s : State) (cfg size : Nat) : Nat :=
  if bit cfg 1 then ceilDiv (9 * size * 262144) (8 * s.zoneCap) else size

/-- The checks of a create, in the order of R45: 0 when it may go on. -/
def State.nsCheck (s : State) (nsid cfg size : Nat) : Nat :=
  let conv := bit cfg 1
  let mar := bits cfg 16 9
  let mars := ((s.tb.nss.filter fun x => !x.2.conv).map fun x => x.2.mar).foldl (· + ·) 0
  let anyConv := conv || s.tb.nss.any fun x => x.2.conv
  if bits cfg 2 2 = 3 ∨ size = 0 ∨ nsid = 0 ∨ 1024 < nsid ∨ (¬ conv ∧ (mar = 0 ∨ 256 < mar)) then 6
  else if (s.ns? nsid).isSome then 1
  else if conv ∧ (64 ≤ (s.tb.nss.filter fun x => x.2.conv).length ∨ 4096 < s.convGib + size) then 3
  else if 256 < mars + (if conv then 0 else mar) + (if anyConv then 4 else 0) then 4
  else if s.rd64 Reg.ZMP.ZONE_FREE_LO < s.zonesNeeded cfg size then 2
  else if s.get Fld.TOP.DRAM_FITTED.V < s.dramNeed (s.convGib + if conv then size else 0) then 5
  else 0

/-- The zones that the NAMESPACE records of a create name, at most 125 runs a record (R120). -/
def nsRecords (zs : List Nat) : List (List Nat) :=
  (chunksOf 125 (zs.length + 1) (zoneRuns zs)).map fun l => l.flatMap fun r => (List.range r.2).map (r.1 + ·)

/-- Create a namespace after its checks (R45): its zones are assigned by its NAMESPACE records; hosts are told once its key
slot is loaded. -/
def State.nsCreate (s : State) (nsid cfg size : Nat) : State :=
  let code := s.nsCheck nsid cfg size
  if code ≠ 0 then s.put Fld.ZMP.NS_RESULT.CODE code
  else
    let recs := nsRecords (s.freeZones (s.zonesNeeded cfg size))
    let s1 := (s.modTb fun t => { t with nss := tput t.nss nsid ⟨cfg, size, [], false, false⟩ }).modFr fun f => { f with
      gone := dropEl f.gone nsid }
    let s2 := recs.zipIdx.foldl (fun s r => s.recNow (.nspace nsid 1 cfg size r.1 (r.2 + 1 == recs.length))) s1
    let s3 := ((if bit cfg 1 then s2.logFill 4 else s2).zoneShow).zmpShow.dramShow
    (if (s3.nsKey nsid).isSome then s3.nsChanged nsid else s3).put Fld.ZMP.NS_RESULT.CODE 0

/-! ### Deletion -/

/-- A command of a namespace being deleted that has a member request waiting under R100. -/
def State.cmdDeferred (s : State) (t : Nat) : Bool :=
  (s.mb.deferred.any fun r => match r.own with
    | .host u _ => u == t
    | .strip _ ts => decide (t ∈ ts)
    | .recon j _ => s.mb.recons.any fun x => x.id == j && x.tag == t
    | _ => false)
  || s.mb.recons.any fun x => x.tag == t && !x.started && (s.sources x.stripe x.b0 x.n).length < s.layout.k

/-- Commands on a namespace. -/
def State.nsCmds (s : State) (nsid : Nat) : List (Nat × Cmd) :=
  s.fr.cmds.filter fun x => match x.2.io with | some io => io.nsid == nsid | none => false

/-- End the commands outstanding on a deleted namespace (R45): those not past step 4, and those whose member request waits,
complete with Invalid Namespace or Format, DNR set. -/
def State.nsEndCmds (s : State) (nsid : Nat) : State :=
  (s.nsCmds nsid).foldl (fun s x =>
    if ¬ x.2.started ∨ s.cmdDeferred x.1 then
      (s.modMb fun m => { m with
        deferred := m.deferred.filter fun r => match r.own with | .host u _ => u != x.1 | _ => true }).cmdFail x.1 0x0B true
    else s) s

/-- Start to delete a namespace (R45): code 1 when it is absent; it is withdrawn and its commands are ended. -/
def State.nsDeleteStart (s : State) (nsid : Nat) : State :=
  match s.ns? nsid with
  | none => s.put Fld.ZMP.NS_RESULT.CODE 1
  | some n =>
    let s1 := (s.modTb fun t => { t with nss := tput t.nss nsid { n with deleting := true } }).modFr fun f => { f with nsDel := some nsid }
    let s2 := ((s1.on Fld.ZMP.NS_RESULT.BUSY).nsChanged nsid).nsEndCmds nsid
    if s2.get Fld.NVQ.SELFTEST.OP ≠ 0 ∧ s2.fr.stNsid = nsid then s2.selftestEnd 3 else s2

/-- The last steps of a delete (R45): the key slot is zeroised and the zones are returned. -/
def State.nsDeleteEnd (s : State) (nsid : Nat) : State :=
  let zs := match s.ns? nsid with | some n => n.zones | none => []
  let s1 := if (s.nsKey nsid).isSome then s.zeroise (some (nsid - 1)) else s
  let live := nonEmptyZones (s1.tb.zones.filter fun e => decide (e.1 ∈ zs))
  let s2 := zs.foldl State.zoneSettle ((s1.modJn fun j => { j with emptied := j.emptied ++ [(nsid, live)] }).recNow
    (.nspace nsid 2 0 0 [] true))
  let s3 := (s2.modFr fun f => { f with nsDel := none, gone := addNew f.gone nsid }).zoneShow.zmpShow.dramShow.headerUpdate
  (s3.off Fld.ZMP.NS_RESULT.BUSY).put Fld.ZMP.NS_RESULT.CODE 0

/-- Carry out queued commits in order; a delete in progress holds the rest (R45). -/
def State.nsRun (s : State) : Nat → State
  | 0 => s
  | n + 1 =>
    if s.fr.nsDel.isSome ∨ ¬ s.flag Fld.GNT.STATUS.REPLAY_DONE then s
    else match s.fr.nsQueue with
      | [] => s.off Fld.ZMP.NS_RESULT.BUSY
      | (op, id, cfg, size) :: r =>
        let s1 := s.modFr fun f => { f with nsQueue := r }
        (if op = 1 then s1.nsCreate id cfg size else s1.nsDeleteStart id).nsRun n

/-- A write of ZMP.NS_COMMIT with OP 1 or 2 (R45): queued with the values it finds, and carried out at once after replay
unless a commit is in progress. (DEDUCED, log entry 87.) -/
def State.nsCommit (s : State) (op : Nat) : State :=
  if 2048 ≤ s.fr.nsQueue.length then s
  else
    let c := (op, s.get Fld.ZMP.NS_SELECT.V, s.regN Reg.ZMP.NS_CFG, s.rd64 Reg.ZMP.NS_SIZE_LO)
    ((s.modFr fun f => { f with nsQueue := f.nsQueue ++ [c] }).on Fld.ZMP.NS_RESULT.BUSY).nsRun 2049

/-- NS_CREATE (R45). -/
def execNsCreate (s : State) : Host.Outcome State Fault Refusal :=
  if ¬ s.aon.coreUp then .next s else
  .next (s.nsCommit 1).settle
/-- NS_DELETE (R45). -/
def execNsDelete (s : State) : Host.Outcome State Fault Refusal :=
  if ¬ s.aon.coreUp then .next s else
  .next (s.nsCommit 2).settle

/-- NS_DELETE_COMPLETE (R45): the last command past step 4 has ended. -/
def execNsDeleteComplete (s : State) : Host.Outcome State Fault Refusal :=
  if ¬ s.aon.coreUp then .next s else
  .next (match s.fr.nsDel with
    | some id => if (s.nsCmds id).any fun x => x.2.started then s else ((s.nsDeleteEnd id).nsRun 2049).settle
    | none => s)

/-! ### Host access and zone entries -/

/-- A namespace's visibility to a host would change by its access map alone. -/
def State.nsThere (s : State) (nsid : Nat) : Bool :=
  (match s.ns? nsid with | some n => n.visible && !n.deleting | none => false) && (s.nsKey nsid).isSome

/-- A write to word `m` of a host's access map (R25): the controllers of the host whose visible set changed are told. -/
def State.accessWrite (s : State) (h m v : Nat) : State :=
  let old := (s.host h).access.getD m 0
  let s1 := s.modHost h fun e => { e with access := e.access.set m v }
  let changed := (List.range 32).any fun i => bit old i != bit v i && s.nsThere (32 * m + i + 1)
  let ids := ((List.range 32).filter fun i => bit old i != bit v i && s.nsThere (32 * m + i + 1)).map fun i => 32 * m + i + 1
  if changed then
    (s1.modFr fun f => { f with
      ctrls := f.ctrls.map fun x => if x.2.host = h then (x.1, { x.2 with chNs := ids.foldl addNew x.2.chNs }) else x }).notifyAll 1
        fun _ c => c.host == h
  else s1

/-- HOST_ACCESS_MAP_WRITE (R25). -/
def execHostAccessMapWrite (host m value : Nat) (s : State) : Host.Outcome State Fault Refusal :=
  if ¬ s.aon.coreUp then .next s else
  .next (if host < 1024 ∧ m < 32 then (s.accessWrite host m (value % 2 ^ 32)).settle else s)

/-- The 64 bytes of a zone map entry (R46). -/
def State.zoneEntry (s : State) (z : Nat) : List Byte :=
  let x := s.zone z
  leBytes 1 (x.st % 16) ++ leBytes 1 (b2n x.loss + 2 * b2n x.log) ++ leBytes 2 x.nsid ++ leBytes 4 x.gen
    ++ leBytes 8 (z * s.spz) ++ leBytes 4 (s.zoneWp z) ++ leBytes 4 (if x.st = 14 then s.zoneCap else x.rp) ++ leBytes 1 x.slot
    ++ leBytes 3 0 ++ leBytes 4 x.lossIdx ++ leBytes 8 x.resets ++ leBytes 24 0

/-- A write of ZMP.ZONE_SELECT loads ZONE_ENTRY (R46).  At or above ZONE_COUNT it shows an Empty zone of the first generation.
(DESIGN CHOICE, log entry 162.) -/
def State.zoneSelect (s : State) (z : Nat) : State :=
  let e := s.zoneEntry z
  (List.range 16).foldl (fun s m => s.setN (Reg.ZMP.ZONE_ENTRY m) (leAt e (4 * m) 4)) (s.put Fld.ZMP.ZONE_SELECT.V z)

/-- ZONE_SELECT_LOAD (R46). -/
def execZoneSelectLoad (zone : Nat) (s : State) : Host.Outcome State Fault Refusal :=
  if ¬ s.aon.coreUp then .next s else
  .next (s.zoneSelect (zone % 2 ^ 32))

/-- Words of ROT_ROW as they read once a layout is accepted: 0xFF at positions from W on. -/
def rowWords (r : List Nat) : List Nat := (List.range 8).map fun m => leNat ((List.range 4).map fun n => BitVec.ofNat 8 (r.getD (4 * m + n) 0xFF))

/-- The bytes the layout's digest covers (R71): GEOM, ROWS, the rotation table, COLMAP (log entry 60). -/
def State.layoutBytes (s : State) (l : Layout) : List Byte :=
  leBytes 4 (s.regN Reg.STR.GEOM) ++ leBytes 4 l.rows.length ++ (l.rows.flatMap rowWords).flatMap (leBytes 4)
    ++ (List.range 12).flatMap fun m => leBytes 4 (s.regN (Reg.STR.COLMAP m))

end Sys2Proof.Machine
end

