-- ==== Sys2Proof/Machine/Replay.lean ====
section
/-! DEFINITION. Replay at a start (R134), the restore of a lost Garnet (R135), the start of Carillon (R342) and of the alive
wave (R337). -/

namespace Sys2Proof.Machine
open Sys2Proof

/-- The ring's record `e`, unless it is bad: its CRC, its type, or lines that read damaged (R119, R120, R134). -/
def State.recAt (s : State) (bad : List Nat) (e : Nat) : Option RingRec :=
  s.nv.ring.find? fun r => r.jseq == e && r.good && !decide (e ∈ bad)

/-- Apply record `j` at replay, unless the pages loaded hold it already; the pages it changes are dirty (R131, R134). -/
def State.replay1 (s : State) (j : Nat) (b : RecBody) : State :=
  if j ∈ s.tb.early then s else (s.applyRec b).markDirty j b

/-- Apply the ring's records from JSEQ `e` on (R134), at most `n` of them.  A bad record at or below `last` is taken from a
keeper's ring copy; with none the replay cannot continue, and the answer's flag is false.  Above `last` a bad record ends the
replay; one whose lines were never verified may be whole or torn, which a free value decides (log entry 8).  Answers the
next JSEQ expected. (DEDUCED, log entry 88.) -/
def State.replayRecs (s : State) (last : Nat) (bad : List Nat) : Nat → Nat → State × Nat × Bool
  | 0, e => (s, e, decide (last < e))
  | n + 1, e =>
    match s.recAt bad e with
    | some r =>
      if r.verified ∨ e ≤ last then (s.replay1 e r.body).replayRecs last bad n (e + 1)
      else
        let (k, s1) := s.fresh 6
        if k % 2 = 1 then (s1.replay1 e r.body).replayRecs last bad n (e + 1) else (s1, e, true)
    | none =>
      if last < e then (s, e, true)
      else match s.ringCopies.find? fun x => x.1 == e with
        | some (_, b) => (s.replay1 e b).replayRecs last bad n (e + 1)
        | none => (s, e, false)

/-- Apply ring copies from JSEQ `e` up to the first gap (R135). -/
def State.replayCopies (s : State) : Nat → List (Nat × RecBody) → State × Nat
  | e, [] => (s, e)
  | e, (j, b) :: rest =>
    if j < e then s.replayCopies e rest
    else if j = e then (s.replay1 j b).replayCopies (e + 1) rest
    else (s, e)

/-- Load the table store (R130, R134). -/
def State.loadTables (s : State) (t : Tables) : State := s.modTb fun _ => t

/-- What has changed since discovery, whose records wait for the end of replay, changes the replayed tables too. -/
def State.reapply (s : State) : State :=
  s.jn.waitRecs.foldl (fun s w => match w.1 with
    | .pad | .wpAdvance _ _ _ _ _ _ _ | .mapSwap _ _ _ _ _ _ _ _ _ _ _ | .zoneState _ | .nspace _ _ _ _ _ _ | .layout _
    | .checkpoint _ _ | .unknown _ => s
    | b => s.applyRec b) s

/-- Zones after replay: reservations are forgotten; a zone without a record is Empty (R36, R37). -/
def zoneNormal (x : Zone) : Zone :=
  if zActive x.st ∧ ¬ x.recorded then { x with st := 1, wp := 0, rp := 0 } else { x with rp := x.wp }

/-- The slot that an active zone held: its dumped slot, else the one whose tail holds its blocks, else the one its entry
names, else a free one. (DEDUCED, log entry 89.) -/
def State.oldSlot (s : State) (z : Nat) : Nat :=
  let dumped : Option Nat := match s.nv.dump with | some d => (d.slots.find? fun x => x.2.zone == z).map (fun x => x.1) | none => none
  let tail := (s.nv.tails.find? fun x => s.zoneOfStripe x.2.tag.stripe == z).map fun x => x.1 / 16
  let own := if (tget s.slots (s.zone z).slot).isNone then some (s.zone z).slot else none
  ((dumped.or tail).or own).getD ((s.freeSlot).getD 0)

/-- The first `n` blocks of the strip now filling, from the tail (R125).  One that the tail does not give as expected is recovered from
the partials and the members when the strip is written (R126), so that its bytes are free values here (log entry 8).
(DESIGN CHOICE, log entry 190.) -/
def State.tailCur (s : State) (z k stripe pos n : Nat) : List Blk :=
  (List.range n).map fun j =>
    let o := (stripe - z * s.spz) * s.stripeBlocks + 16 * pos + j
    let lost : Blk := sealed ⟨fitBytes 4096 (Config.freeBytes 34 (16 * k + j)), fitBytes 16 (Config.freeBytes 35 (16 * k + j)),
      s.expSeal 0 stripe pos j (s.zone z).nsid (s.lbaOf z o), 0, 0⟩
    match (tget s.nv.tails (16 * k + j)).filter (s.zoneSealOk z stripe pos j) with
    | some b => b
    | none => lost

/-- An active zone gets its slot back (R88, R89, R134): Open with the dumped partials when they match the write pointer, else a
recompute, for which those of the same stripe serve until it is done. -/
def State.slotRestore (s : State) (z : Nat) : State :=
  let k := s.oldSlot z
  let sb := if s.stripeBlocks = 0 then 1 else s.stripeBlocks
  let wp := (s.zone z).wp
  let st := z * s.spz + wp / sb
  let f := wp % sb
  let s1 := s.modZone z fun x => { x with slot := k }
  let cur := s.tailCur z k st (f / 16) (f % 16)
  let d : Option Slot := match s.nv.dump with
    | some d => (tget d.slots k).filter fun (x : Slot) => x.zone == z && tgetD d.crcs k 0 == slotCrc x
    | none => none
  let again (y : Slot) : State := (s1.setSlot k { y with st := 3, folded := f }).event Fld.BRL.EVENT.RECOMPUTE 374
  match d with
  | some x =>
    let y := { Slot.fresh z st with p := x.p, q := x.q, pm := x.pm, qm := x.qm }
    if x.stripe = st ∧ x.folded = f then s1.setSlot k { y with folded := f, cur := cur }
    else if x.stripe = st then again { y with was := x.folded }
    else again { Slot.fresh z st with closed := decide (st < x.stripe) }
  | none => again (Slot.fresh z st)

/-- Every active zone's slot. -/
def State.slotsRestore (s : State) : State :=
  let s1 := (s.modTb fun t => { t with zones := t.zones.map fun e => (e.1, zoneNormal e.2) })
  let act := (s1.tb.zones.filter fun e => zActive e.2.st).map (·.1)
  (act.foldl State.slotRestore (s1.setSlots [])).zmpShow

/-- Garnet counts as lost (R135): it names no shelf, or another one than the keepers. -/
def State.garnetLost (s : State) : Bool := s.nv.shelf.isNone || s.nv.shelf != s.keeperShelf

/-- GARNET_RESTORE (R135, R136): the keepers' tables and ring copies; every zone active then is finished with a data-loss
descriptor from the strip boundary below its pointer to its capacity.  Garnet is initialised for the shelf: it names the shelf and
its layout, ring, tails and the partner's region are empty, and MSEQ resumes at the restored one + 2^32. -/
def State.restore (s : State) (t : Tables) (q : Nat) : State :=
  let (s1, e) := (s.loadTables t).replayCopies (q + 1) s.ringCopies
  let s2 := s1.modTb fun t => { t with zones := t.zones.map fun x => (x.1, zoneNormal x.2) }
  let act := (s2.tb.zones.filter fun x => zActive x.2.st).map (·.1)
  let s3 := act.foldl (fun s z =>
    let o := (s.zone z).wp / 16 * 16
    (s.recNow (.zoneState [(z, 14)])).lossAdd z 5 o (s.zoneCap - o)) s2
  let s4 := ((s3.reapply.setSlots []).modNv fun v => { v with
    shelf := s.keeperShelf, layout := some (Config.sha384 (s.layoutBytes s.layout)), memberStrips := s.layout.memberStrips
    ring := [], head := 0, tails := [], dump := none, nextJseq := e, mseq := t.mseq + 2 ^ 32
    mirRing := [], mirTails := [], mirApplied := 0, mirReleased := 0 }).zmpShow
  ((s4.on Fld.GNT.STATUS.RESTORED).evAt 402 Fld.GNT.EVENT.RESTORED).wr64 Reg.GNT.JSEQ_LO (e - 1)

/-- Replay of the ring over the loaded tables (R134); where it cannot continue, the restore of R135.  The mirror marks of a dump
are taken up again (R127). -/
def State.replayRing (s : State) (t : Tables) (q : Nat) (bad : List Nat := []) : State :=
  let last := match s.nv.dump with | some d => d.lastJseq | none => 0
  let (s1, e, ok) := (s.loadTables t).replayRecs last bad (s.nv.ring.length + s.ringCopies.length + 1) (q + 1)
  if ¬ ok then s.restore t q
  else
    let kept := s.nv.ring.filter fun r => decide (q < r.jseq) && decide (r.jseq < e)
    let head := match s.nv.ring.find? fun r => r.jseq == e with | some r => r.line | none => s.nv.head
    let s2 := s1.slotsRestore.reapply.modNv fun v => { v with
      ring := kept.map fun r => { r with verified := true, cmd := none, mseq := none, tailMseq := 0 }
      head := head, nextJseq := e, dump := none
      mirApplied := (v.dump.map (·.applied)).getD v.mirApplied
      mirReleased := (v.dump.map (·.released)).getD v.mirReleased }
    (s2.on Fld.GNT.STATUS.IDENTITY_OK).wr64 Reg.GNT.JSEQ_LO (e - 1)

/-- STAND_DOWN at a start (R143): a device that does not hold the reservation discards its ring, tails and dump and its mirror
receive region, and joins as standby by resynchronisation. -/
def State.rejoin (s : State) (t : Tables) (q : Nat) : State :=
  let s1 := ((s.loadTables t).reapply.setSlots []).modNv fun v => { v with
    ring := [], tails := [], dump := none, head := 0, nextJseq := max v.nextJseq (q + 1), mirRing := [], mirTails := [] }
  ((s1.zmpShow).on Fld.GNT.STATUS.IDENTITY_OK).wr64 Reg.GNT.JSEQ_LO q

/-- CARILLON_START (R342): the next SEQ follows the highest in the region; a START record, then the held records. -/
def State.carStart (s : State) : State :=
  if s.flag Fld.EVR.STATUS.READY then s
  else
    let next := s.nv.carillon.foldl (fun m x => if m ≤ x.2.seq then x.2.seq + 1 else m) 0
    let s1 := (s.setN Reg.EVR.NEXT_SEQ next).on Fld.EVR.STATUS.READY
    let s2 := s1.carWrite (s1.carOwn 3 (s1.get Fld.FLT.RESET_CAUSE.V) (s1.regN Reg.TOP.ID) s1.ev.early)
    let s3 := s2.modEv fun e => { e with early := 0 }
    if s3.flag Fld.EVR.CTRL.FREEZE then s3 else s3.carDrain 260

/-- TOCSIN_ALIVE_START (R337): in alive mode the wave starts, unless a TOCSIN fault has risen since the reset. -/
def State.aliveStart (s : State) : State :=
  if s.get Fld.FLT.CFG.TOCSIN_MODE = 1 ∧ ¬ s.aon.tocsinFault then s.on Fld.FLT.STATUS.ALIVE else s

/-- The role of R142 and R143: owner is the device that holds the reservation on the lowest-numbered keeper in step. -/
def State.roleSet (s : State) (holds : Bool) : State :=
  let role := if ¬ s.mirrorOn then 0 else if holds then 1 else 2
  (s.put Fld.GNT.STATUS.ROLE role).putB Fld.ZMP.ANA.OWNER (role == 1)

/-- This device's reservation key, a free value (R142; log entry 48). -/
def State.resKey (s : State) : Nat := Config.freeNat 31 (s.devNum + 4 * s.jn.keyGen) % 2 ^ 64

/-- A partnered device reserves a member that is powered (R142): the owner registers and holds a Write Exclusive reservation, which
it preempts from a device it has taken over from; the standby is registered. (DEDUCED, log entry 48.) -/
def State.reserveOn (s : State) (c : Nat) : State :=
  let n := s.slotOfCol c
  let role := s.get Fld.GNT.STATUS.ROLE
  if ¬ s.mirrorOn ∨ role = 0 then s
  else
    let s1 := s.emit (.reserve n 0x0D 0 0 s.resKey)
    if role ≠ 1 then s1
    else match s.jn.preKey with
      | some k => s1.emit (.reserve n 0x11 1 s.resKey k)
      | none => s1.emit (.reserve n 0x11 0 s.resKey 0)

/-- Every member that is powered is reserved, and the OWNER record names the owner's key (R120, R142). -/
def State.reserveAll (s : State) : State :=
  let s1 := (s.columns.filter s.poweredUp).foldl State.reserveOn s
  if s1.mirrorOn ∧ s1.get Fld.GNT.STATUS.ROLE = 1 ∧ (s1.tb.owner ≠ s1.devNum ∨ s1.tb.ownerKey ≠ s1.resKey) then
    s1.recNow (.owner s1.devNum s1.resKey)
  else s1

/-- What GNT and ZMP show once the tables stand (R123, R130 to R132); the copies to keepers that a restart cut short begin anew
(R132). -/
def State.journalShow (s : State) (q : Nat) : State :=
  let s1 := ((s.wr64 Reg.GNT.CKPT_SEQ_LO q).setN Reg.GNT.CKPT_NUM s.ckptNumber).setN Reg.GNT.RING_USE s.ringUse
  let s2 := (s1.put Fld.GNT.SPARE_LINES.V s1.nv.spareLines).put Fld.GNT.WEAR.PERMILLE (s1.nv.maxWear / 1024 / 1000000000)
  let ks := maskOf 3 fun i => match s2.tb.keepers[i]? with
    | some c => (s2.col c).st == 2 && (match tget s2.nv.klogs c with | some k => k.store.isSome && k.num == s2.ckptNumber | none => false)
    | none => false
  let s3 := (((s2.keepersShow).put Fld.GNT.KEEPERS.IN_STEP ks).wr64 Reg.GNT.MSEQ_SENT_LO s2.nv.mseq).wr64 Reg.GNT.MSEQ_APPLIED_LO
    s2.nv.mirApplied
  let redo := (List.range 3).filter fun i => !bit ks i && (match s3.tb.keepers[i]? with
    | some c => (s3.col c).st == 2
    | none => false)
  (s3.modJn fun j => { j with keeperCopy := redo }).zoneShow.zmpShow.mbrShow.headerUpdate

/-- Failed columns without a context wait for one again after a restart (R157): their records keep no order, so they are taken in
column order. (DESIGN CHOICE, log entry 158.) -/
def State.ctxResume (s : State) : State :=
  (s.columns.filter fun c => (s.col c).st == 4 && (s.col c).ctx.isNone).foldl State.ctxStart s

/-- The end of replay (R134): REPLAY_DONE, what waited for it, ANA and TOCSIN. -/
def State.replayEnd (s : State) (q : Nat) (holds : Bool) : State :=
  let s1 := ((((s.journalShow q).on Fld.GNT.STATUS.REPLAY_DONE).off Fld.GNT.STATUS.DUMP_PENDING).roleSet holds).carStart
  let s2 := (s1.modBoot fun b => { b with phase := 8 }).recDrain.keyWaitShow
  let s3 := ((if s2.get Fld.GNT.STATUS.ROLE = 2 then s2 else s2.ctxResume.logFill 4).nsRun 2049).dramShow.reserveAll
  (s3.anaTo s3.anaServe).aliveStart

/-- REPLAY (R134, R135, R143): `readable` says that a keeper yields a complete table store; without one the tables cannot be
restored, and the device reports Persistent Loss (R43).  `holds` says that this device holds the reservation on the
lowest-numbered keeper in step; of the lines read, those of `fixed` needed a 2-bit correction, and the records `bad` read
damaged and do not stand whole in the partner's mirror either (R115, R117). -/
def State.replay (s0 : State) (readable holds : Bool) (fixed bad : List Nat) : State :=
  if s0.boot.phase ≠ 7 ∨ s0.lay.isNone ∨ ¬ s0.aon.coreUp ∨ s0.stopped then s0
  else
    let s := s0.linesRetire fixed
    match s.tableStore with
    | some (t, q) =>
      if ¬ readable then s.carStart.anaSet 4
      else if s.mirrorOn ∧ ¬ holds then (s.rejoin t q).replayEnd q holds
      else if s.garnetLost then (s.restore t q).replayEnd q holds
      else (s.replayRing t q bad).replayEnd q holds
    | none => s.carStart.anaSet 4

/-- REPLAY (R134). -/
def execReplay (readable holds : Bool) (fixed bad : List Nat) (s : State) : Host.Outcome State Fault Refusal :=
  if ¬ s.aon.coreUp then .next s else
  .next (s.replay readable holds fixed bad).settle

end Sys2Proof.Machine
end

