-- ==== Sys2Proof/Machine/Mirror.lean ====
section
/-! DEFINITION. The partner mirror: receiving (R139, R140, R144), acknowledgements, resends, paths (R138), resynchronisation
(R141), silence, the reservation contest, takeover and standing down (R142, R143), failback (R44). -/

namespace Sys2Proof.Machine
open Sys2Proof

/-- Path 0 or 1 of the mirror (GNT.MIRROR.PATH_A_UP, PATH_B_UP). -/
def pathField (p : Nat) : FieldAt := if p = 0 then Fld.GNT.MIRROR.PATH_A_UP else Fld.GNT.MIRROR.PATH_B_UP

/-- Something has arrived on a path: it is up. -/
def State.pathUp (s : State) (p : Nat) : State := if p < 2 then s.on (pathField p) else s

/-- The mark A of the receiver (R139). -/
def State.mirA (s : State) : Nat := s.nv.mirApplied

/-- An acknowledgement of A leaves on both paths, as traffic class C1 (R139).  How a sender learns that its standby is out of step
the spec leaves open: the acknowledgement's content says so. (DESIGN CHOICE, log entry 46.) -/
def State.mirAck (s : State) : State := s.sendMirror s.mirA 1 1 1 (leBytes 1 (b2n s.jn.rebase))

/-! ### Receiving -/

/-- A ring record held lies on some line of `n` lines from `line` on. -/
def MirRec.meets (e : MirRec) (line n : Nat) : Bool := decide (e.line < line + n) && decide (line < e.line + e.n)

/-- A mirror record would overwrite a position that no release covers (R140).  A record equal to what stands there is
resent content and overwrites nothing (log entry 45). -/
def State.mirBlocked (s : State) (b : MirBody) : Bool :=
  match b with
  | .ring line n j r => s.nv.mirRing.any fun e =>
      e.meets line n && decide (s.nv.mirReleased < e.mseq) && !(e.line == line && e.n == n && e.jseq == j && e.body == r)
  | .tail k i x => match tget s.nv.mirTails (16 * k + i) with
    | some (m, y) => decide (s.nv.mirReleased < m) && y != x
    | none => false
  | _ => false

/-- VERIFY_COMPARE (R144): the received digest against the device's own after M. -/
def State.verifyCompare (s : State) (m : Nat) (d : BitVec 64) : State :=
  let s1 := s.put Fld.GNT.VERIFY.AGE_S 0
  if d = s.jn.digRx then s1.on Fld.GNT.VERIFY.LAST_OK
  else
    let s2 := (s1.off Fld.GNT.VERIFY.LAST_OK).satInc Fld.GNT.VERIFY.MISMATCHES
    let s3 := (s2.evAt 402 Fld.GNT.EVENT.VERIFY_MISMATCH).detail 0x23 (402 + Fld.GNT.EVENT.VERIFY_MISMATCH.lo) (m % 2 ^ 32)
      (m / 2 ^ 32 % 2 ^ 32) (s2.get Fld.GNT.VERIFY.MISMATCHES)
    s3.outOfStep

/-- Lines of a mirror record in the receive region: the first as the sender's ring or tail offset has it, and their number. -/
def mirLines (b : MirBody) : Option (Nat × Nat) :=
  match b with
  | .ring line n _ _ => some (line, n)
  | .tail k i _ => some (ringLines + 1024 * k + 65 * i, 65)
  | _ => none

/-- The lines of a mirror record are written to the mirror-receive region, behind the ring, tail and staging regions, and
verified: the lines of `bad` failed and are retired; with no spare line left for one the region is damaged and the mirror out of
step (R115 to R117, R141). -/
def State.mirWrite (s : State) (b : MirBody) (bad : List Nat) : State :=
  match mirLines b with
  | none => s
  | some (l, n) =>
    let s1 := s.wearLines (mirrorBase + l) n 2
    let b := bad.filter fun i => decide (i < n)
    let s2 := s1.badRetire (mirrorBase + l) n b
    if s1.nv.spareLines < b.length then s2.outOfStep else s2

/-- Apply the record with the next MSEQ (R136, R139, R140, R144). -/
def State.mirApply (s0 : State) (m : Nat) (b : MirBody) (bad : List Nat) : State :=
  let s := s0.mirWrite b bad
  let s1 : State := match b with
    | .ring line n j r => s.modNv fun v => { v with
        mirRing := (v.mirRing.filter fun e => !e.meets line n && e.jseq != j) ++ [⟨m, line, n, j, r⟩] }
    | .tail k i x => s.modNv fun v => { v with mirTails := tput v.mirTails (16 * k + i) (m, x) }
    | .release x => s.modNv fun v => { v with mirReleased := if v.mirReleased < x then x else v.mirReleased }
    | .verify k d => s.verifyCompare k d
  ((s1.modJn fun j => { j with digRx := mirDigest j.digRx b }).modNv fun v => { v with mirApplied := m }).wr64 Reg.GNT.MSEQ_APPLIED_LO m

/-- Apply held records that now follow in sequence. -/
def State.mirHeld (s : State) : Nat → State
  | 0 => s
  | n + 1 => match s.jn.rxHeld.find? fun e => e.mseq == s.mirA + 1 with
    | some e =>
      if s.mirBlocked e.body then s
      else ((s.modJn fun j => { j with rxHeld := j.rxHeld.filter fun x => x.mseq ≠ e.mseq }).mirApply e.mseq e.body e.bad).mirHeld n
    | none => s

/-- MIRROR_RECORD_RECEIVE (R137, R139): by its MSEQ the record is applied, held, dropped, or acknowledged again.  A device
whose key is missing drops it; a halted device takes nothing (R267).  A standby out of step takes none until it has taken up its
mark anew (R141; log entry 45). -/
def State.mirReceive (s0 : State) (p m : Nat) (b : MirBody) (bad : List Nat) : State :=
  let s := s0.pathUp p
  if ¬ s0.mirrorOn ∨ s0.stopped then s0
  else if s.mirrorKeyMissing then s
  else if s.jn.rebase ∧ s.get Fld.GNT.STATUS.ROLE = 2 then s.mirAck
  else if m ≤ s.mirA then (s.satInc Fld.GNT.DUP_COUNT.V).mirAck
  else if s.mirA + 1024 < m then s
  else if m = s.mirA + 1 ∧ ¬ s.mirBlocked b then
    (((s.modJn fun j => { j with rxHeld := j.rxHeld.filter fun e => e.mseq ≠ m }).mirApply m b bad).mirHeld 1024).mirAck
  else if s.jn.rxHeld.any fun e => e.mseq == m then s
  else s.modJn fun j => { j with rxHeld := j.rxHeld ++ [⟨m, b, bad⟩] }

/-- MIRROR_RECORD_RECEIVE (R139). -/
def execMirrorRecordReceive (path mseq : Nat) (body : MirBody) (bad : List Nat) (s : State) : Host.Outcome State Fault Refusal :=
  if ¬ s.aon.coreUp then .next s else
  .next (s.mirReceive path mseq body bad)

/-! ### Acknowledgements and resends -/

/-- The resynchronisation is complete once the acknowledgement covers its last record (R141). -/
def State.resyncCheck (s : State) : State :=
  match s.jn.resyncTo with
  | some x =>
    if s.mseqAcked < x then s
    else (((s.modJn fun j => { j with resyncTo := none }).off Fld.GNT.MIRROR.RESYNC).on Fld.GNT.MIRROR.IN_STEP).evAt 402
      Fld.GNT.EVENT.MIRROR_IN_STEP
  | none => s

/-- MIRROR_ACK_RECEIVE (R138, R123, R140, R141): a cumulative acknowledgement.  `out` says that the standby is out of step: so then
is the owner (R141, R144; log entry 46). -/
def State.mirAcked (s0 : State) (p x : Nat) (out : Bool) : State :=
  let s := s0.pathUp p
  if ¬ s0.mirrorOn ∨ s0.stopped then s0
  else if out then (if s.get Fld.GNT.STATUS.ROLE = 1 ∧ (s.inStep ∨ s.flag Fld.GNT.MIRROR.RESYNC) then s.outOfStep.commitAll else s)
  else if s.nv.mseq < x ∨ x ≤ s.mseqAcked then s
  else
    let s1 := (s.wr64 Reg.GNT.MSEQ_ACKED_LO x).modJn fun j => { j with tx := j.tx.filter fun e => decide (x < e.1) }
    s1.resyncCheck.commitAll.relCheck

/-- MIRROR_ACK_RECEIVE (R138). -/
def execMirrorAckReceive (path upTo : Nat) (out : Bool) (s : State) : Host.Outcome State Fault Refusal :=
  if ¬ s.aon.coreUp then .next s else
  .next (s.mirAcked path upTo out).settle

/-- MIRROR_RETX_TIMEOUT (R137, R138): a record not acknowledged within RETX_US is sent again on both paths, but not while only
heartbeats may leave. -/
def execMirrorRetxTimeout (mseq : Nat) (s : State) : Host.Outcome State Fault Refusal :=
  if ¬ s.aon.coreUp then .next s else
  .next (match s.jn.tx.find? fun e => e.1 == mseq with
    | some (m, b) => if s.mirrorOn ∧ ¬ s.stopped ∧ ¬ s.mirrorKeyMissing ∧ ¬ s.jn.partnerWait then
      (s.satInc Fld.GNT.RETX_COUNT.V).sendMirror m 0 1 (mirCls b) (s.mirContent m b) else s
    | none => s)

/-- MIRROR_PATH_DOWN (R138): a path has carried nothing for 3 ms. -/
def execMirrorPathDown (path : Nat) (s : State) : Host.Outcome State Fault Refusal :=
  if ¬ s.aon.coreUp then .next s else
  .next (if path < 2 ∧ s.flag (pathField path) then ((s.off (pathField path)).evAt 402 Fld.GNT.EVENT.PATH_DOWN).settle else s)

/-! ### Heartbeats and resynchronisation -/

/-- HEARTBEAT_SEND (R136, R142): MSEQ_SENT, the role and KEY_WAIT on both paths; a halted device sends none (R266). -/
def execHeartbeatSend (s : State) : Host.Outcome State Fault Refusal :=
  if ¬ s.aon.coreUp then .next s else
  .next (if s.mirrorOn ∧ ¬ s.stopped then
      (s.sendMirror s.nv.mseq 2 (s.get Fld.GNT.STATUS.ROLE + 4 * b2n s.mirrorKeyMissing) 4 []).modJn fun j => { j with hbSent := true }
    else s)

/-- MIRROR_RESYNC (R141): the ring from CKPT_SEQ + 1 and every tail below the write pointers go out as ordinary mirror
records.  The digest starts anew with the first of them (R144). (DESIGN CHOICE, log entry 169.) -/
def State.resyncStart (s : State) : State :=
  let s0 := (s.on Fld.GNT.MIRROR.RESYNC).modJn fun j => { j with digTx := 0 }
  let s1 := s.nv.ring.foldl (fun s r =>
    let (m, a) := s.mirSend (.ring r.line r.lines r.jseq r.body)
    a.modNv fun v => { v with ring := v.ring.map fun x => if x.jseq = r.jseq then { x with mseq := some m } else x }) s0
  let s2 := (s.nv.tails.filter fun e =>
      let z := s.zoneOfStripe e.2.tag.stripe
      decide ((e.2.tag.stripe - z * s.spz) * s.stripeBlocks + 16 * e.2.tag.pos + e.2.tag.block < (s.zone z).wp)).foldl (fun s e =>
    let (m, a) := s.mirSend (.tail (e.1 / 16) (e.1 % 16) e.2)
    a.modJn fun j => { j with tailSeq := tput j.tailSeq e.1 m }) s1
  (s2.modJn fun j => { j with resyncTo := some s2.nv.mseq }).resyncCheck

/-- The owner's heartbeat at a standby (R139, R141, R143).  Out of step it takes up its mark anew, at the MSEQ the owner had sent
before the resynchronisation that follows: what it holds counts as released, and its digest starts anew.  It is in step again once
it holds every record sent, its own heartbeat having left meanwhile. (DESIGN CHOICE, log entries 45 and 46.) -/
def State.standbyBeat (s : State) (sent : Nat) : State :=
  if s.jn.rebase then
    let a := max s.mirA sent
    (((s.modNv fun v => { v with mirApplied := a, mirReleased := a }).modJn fun j =>
      { j with rxHeld := [], digRx := 0, rebase := false, hbSent := false }).wr64 Reg.GNT.MSEQ_APPLIED_LO a).mirAck
  else if ¬ s.inStep ∧ s.jn.hbSent ∧ sent ≤ s.mirA then
    let s1 := (s.on Fld.GNT.MIRROR.IN_STEP).evAt 402 Fld.GNT.EVENT.MIRROR_IN_STEP
    if s1.get Fld.ZMP.ANA.STATE = 3 then s1.anaTo 2 else s1
  else s

/-- HEARTBEAT_RECEIVE (R137, R141): a partner that waits for its key takes the mirror out of step; otherwise an owner out of
step whose own heartbeat has left resynchronises, and a standby follows the owner's (log entries 45 and 46). -/
def State.heartbeat (s0 : State) (p sent role : Nat) (wait : Bool) : State :=
  if ¬ s0.mirrorOn ∨ s0.stopped then s0
  else
    let s := ((s0.pathUp p).modJn fun j => { j with partnerWait := wait }).keyWaitShow
    if wait then
      ((s.evAt 402 Fld.GNT.EVENT.MIRROR_KEY_MISSING).outOfStep).commitAll
    else if s.mirrorKeyMissing then s
    else if s.get Fld.GNT.STATUS.ROLE = 1 ∧ ¬ s.inStep ∧ ¬ s.flag Fld.GNT.MIRROR.RESYNC then
      (if s.jn.hbSent then s.resyncStart else s)
    else if s.get Fld.GNT.STATUS.ROLE = 2 ∧ role = 1 then s.standbyBeat sent
    else s

/-- HEARTBEAT_RECEIVE (R137). -/
def execHeartbeatReceive (path sent role : Nat) (keyWait : Bool) (s : State) : Host.Outcome State Fault Refusal :=
  if ¬ s.aon.coreUp then .next s else
  .next (s.heartbeat path sent role keyWait).settle

/-- VERIFY_RECORD_SEND (R144): the owner's digest after the record before. -/
def execVerifyRecordSend (s : State) : Host.Outcome State Fault Refusal :=
  if ¬ s.aon.coreUp then .next s else
  .next (if s.mirrorSends ∧ s.get Fld.GNT.STATUS.ROLE = 1 ∧ ¬ s.stopped then (s.mirSend (.verify s.nv.mseq s.jn.digTx)).2 else s)

/-! ### Silence, takeover, standing down -/

/-- The lowest-numbered keeper in step (R142). -/
def State.lowKeeper (s : State) : Option Nat :=
  ((List.range 3).find? fun i => bit (s.get Fld.GNT.KEEPERS.IN_STEP) i && (s.tb.keepers[i]?).isSome).bind fun i => s.tb.keepers[i]?

/-- The owner's reservation key as a standby knows it: from the last OWNER record of the mirrored ring, else of the tables (R120,
R142). -/
def State.partnerKey (s : State) : Nat :=
  match s.nv.mirRing.reverse.findSome? fun e => match e.body with | .owner _ k => some k | _ => none with
  | some k => k
  | none => s.tb.ownerKey

/-- PARTNER_SILENT (R142): the reservation contest starts on the keeper: the owner replaces its key, the standby
preempts. -/
def State.partnerSilent (s : State) : State :=
  if ¬ s.mirrorOn ∨ s.stopped ∨ s.jn.contest then s
  else
    let s1 := (s.evAt 402 Fld.GNT.EVENT.PARTNER_SILENT).modJn fun j => { j with contest := true }
    match s1.lowKeeper with
    | some c =>
      let n := s1.slotOfCol c
      s1.emit (if s1.get Fld.GNT.STATUS.ROLE = 1 then .reserve n 0x0D 2 s1.resKey (s1.modJn fun j => { j with keyGen := j.keyGen + 1 }).resKey
        else .reserve n 0x11 1 s1.resKey s1.partnerKey)
    | none => s1

/-- PARTNER_SILENT (R142). -/
def execPartnerSilent (s : State) : Host.Outcome State Fault Refusal :=
  if ¬ s.aon.coreUp then .next s else
  .next s.partnerSilent.settle

/-- STAND_DOWN (R142, R143): ANA Inaccessible; the commands held for an acknowledgement end with it; ring, tails and dump are
discarded, and the device is standby. (DEDUCED, log entry 48.) -/
def State.standDown (s : State) : State :=
  let s1 := ((((s.put Fld.GNT.STATUS.ROLE 2).outOfStep).off Fld.ZMP.ANA.OWNER).anaSet 3).modJn fun j =>
    { j with contest := false, tx := [], waitRecs := [], taking := false }
  let held := s1.fr.cmds.filter fun x => match x.2.io with | some io => IoOpWrite io.op && x.2.st != .completing | none => false
  let s2 := held.foldl (fun s x => (s.modCmd x.1 fun c => { c with zone := none, claimed := false }).cmdEnd x.1 0x302 false) s1
  let s3 := s2.modNv fun v => { v with ring := [], tails := [], dump := none, head := 0, nextJseq := s2.jseq + 1 }
  (((s3.setSlots []).setN Reg.GNT.RING_USE 0).zmpShow).evAt 402 Fld.GNT.EVENT.STOOD_DOWN

/-- TAKEOVER (R44, R142): the owner's key is preempted on every other member, of one without power when it is next powered; ANA
Change, the keepers' tables, the partner's ring and tails, the budget; the partials are recomputed, then Optimized as owner
(`takeoverEnd`).  Of the lines read, those of `fixed` needed a 2-bit correction, and the records `bad` read damaged (R115, R117). -/
def State.takeover (s : State) (fixed bad : List Nat) : State :=
  let old := s.partnerKey
  let s0 := (s.columns.filter fun c => s.poweredUp c && s.lowKeeper != some c).foldl
    (fun s c => s.emit (.reserve (s.slotOfCol c) 0x11 1 s.resKey old)) s.outOfStep
  let s1 := (((s0.put Fld.GNT.STATUS.ROLE 3).anaTo 0xF).modJn fun j => { j with contest := false, preKey := some old }).linesRetire fixed
  match s1.tableStore with
  | none => s1.anaSet 4
  | some (t, q) =>
    let rs := s1.nv.mirRing.map fun e => (⟨e.jseq, e.line, e.n, e.body, recCrc e.jseq e.n e.body, true, none, 0, none⟩ : RingRec)
    let head := match s1.nv.mirRing.getLast? with | some e => (e.line + e.n) % ringLines | none => 0
    let s2 := s1.modNv fun v => { v with ring := rs, head := head, tails := v.mirTails.map fun e => (e.1, e.2.2), dump := none }
    let s3 := (s2.replayRing t q bad).journalShow q
    let s4 := ((s3.put Fld.GNT.STATUS.ROLE 1).on Fld.ZMP.ANA.OWNER).recNow (.owner s3.devNum s3.resKey)
    (((s4.ctxResume.logFill 4).dramShow).modJn fun j => { j with taking := true }).takeoverEnd

/-- RESERVATION_RESULT (R142): `first` says that the keeper executed this device's command first. -/
def State.reservation (s : State) (first : Bool) (fixed bad : List Nat) : State :=
  if ¬ s.jn.contest ∨ s.stopped ∨ ¬ s.mirrorOn then s
  else if s.get Fld.GNT.STATUS.ROLE = 1 then
    if first then
      let s1 := ((s.evAt 402 Fld.GNT.EVENT.PARTNER_LOST).outOfStep).modJn fun j => { j with contest := false, keyGen := j.keyGen + 1 }
      (s1.recNow (.owner s1.devNum s1.resKey)).commitAll
    else s.standDown
  else if first then (s.evAt 402 Fld.GNT.EVENT.PARTNER_LOST).takeover fixed bad
  else (s.outOfStep.modJn fun j => { j with contest := false }).evAt 402 Fld.GNT.EVENT.STOOD_DOWN

/-- RESERVATION_RESULT (R142). -/
def execReservationResult (first : Bool) (fixed bad : List Nat) (s : State) : Host.Outcome State Fault Refusal :=
  if ¬ s.aon.coreUp then .next s else
  .next (s.reservation first fixed bad).settle

/-! ### Failback -/

/-- A write of 1 to ZMP.ANA.FAILBACK (R44, R144): on the repaired device, with the mirror in step and the last verify good, and
its namespaces not held Inaccessible by R15; otherwise refused. -/
def State.failback (s : State) : State :=
  if s.get Fld.GNT.STATUS.ROLE = 2 ∧ s.inStep ∧ s.flag Fld.GNT.VERIFY.LAST_OK ∧ ¬ s.flag Fld.TOP.STATUS.DRAM_SHORT then s.anaTo 0xF
  else s.evAt 320 Fld.ZMP.EVENT.FAILBACK_REFUSED

/-- FAILBACK_REQUEST (R44). -/
def execFailbackRequest (s : State) : Host.Outcome State Fault Refusal :=
  if ¬ s.aon.coreUp then .next s else
  .next s.failback.settle

/-- FAILBACK_OWNERSHIP_PASS (R44): the owner shows Change and accepts no more I/O; once it holds no command ownership passes: the
repaired device becomes Optimized, the former owner Non-optimized. (DEDUCED, log entry 149.) -/
def State.ownershipPass (s : State) (fixed bad : List Nat) : State :=
  if ¬ s.mirrorOn ∨ s.stopped then s
  else if s.get Fld.GNT.STATUS.ROLE = 2 ∧ s.get Fld.ZMP.ANA.STATE = 0xF then s.takeover fixed bad
  else if s.get Fld.GNT.STATUS.ROLE = 1 ∧ ¬ s.jn.taking then
    let s1 := s.anaTo 0xF
    if s1.fr.cmds.any fun x => x.2.io.isSome then s1
    else ((s1.put Fld.GNT.STATUS.ROLE 2).off Fld.ZMP.ANA.OWNER).outOfStep.anaTo 2
  else s

/-- FAILBACK_OWNERSHIP_PASS (R44). -/
def execFailbackOwnershipPass (fixed bad : List Nat) (s : State) : Host.Outcome State Fault Refusal :=
  if ¬ s.aon.coreUp then .next s else
  .next (s.ownershipPass fixed bad).settle

end Sys2Proof.Machine
end

