-- ==== Sys2Proof/Machine/Requests.lean ====
section
/-! DEFINITION. Member requests at the drive ports: issue (R54, R273, R276), completion and its checks (R83, R148, R278),
timeouts and quarantine (R277), the inbound window (R274), and reconstruction for host reads (R91, R92). -/

namespace Sys2Proof.Machine
open Sys2Proof

/-- Live tags of a port. -/
def Port.live (p : Port) : Nat := (p.tags.filter fun t => !t.2.quarantined).length

/-- DRP_Pn.TAGS shows the live and quarantined tags. -/
def State.tagsShow (s : State) (n : Nat) : State :=
  (s.put (Fld.DRP_P.TAGS.LIVE n) (s.port n).live).put (Fld.DRP_P.TAGS.QUARANTINED n)
    ((s.port n).tags.length - (s.port n).live)

/-! ### Issue -/

/-- The first waiting request of a class. -/
def Port.first (p : Port) (cls : Nat) : Option MReq := p.reqs.find? fun r => r.cls == cls

/-- The weight of High, Medium and Low in NVQ.ARB (R51, R54). (DEDUCED, log entry 131.) -/
def State.arbWeight (s : State) (cls : Nat) : Nat :=
  match cls with
  | 1 => s.get Fld.NVQ.ARB.HPW + 1
  | 2 => s.get Fld.NVQ.ARB.MPW + 1
  | _ => s.get Fld.NVQ.ARB.LPW + 1

/-- Background is below its floor in the present window (R54). (DEDUCED, log entry 130.) -/
def State.bgOwed (s : State) (p : Port) : Bool := decide (64 * p.bgNs < s.get Fld.NVQ.BG.FLOOR * (p.fgNs + p.bgNs))

/-- The request a port serves next, and its round-robin state after it (R54): Urgent first; Background up to its floor
while the gate is open; then High, Medium and Low by weight; then Background with what is left. -/
def State.pickReq (s : State) (p : Port) : Option (MReq × Nat × Nat) :=
  let bg := if s.flag Fld.NVQ.BG.GATE_OPEN then p.first 4 else none
  let nextCls := [(p.wrr.1 % 3) + 1, ((p.wrr.1 + 1) % 3) + 1, ((p.wrr.1 + 2) % 3) + 1].find? fun c => (p.first c).isSome
  let fair : Option (MReq × Nat × Nat) :=
    match (if p.wrr.2 = 0 then none else p.first p.wrr.1), nextCls with
    | some r, _ => some (r, p.wrr.1, p.wrr.2 - 1)
    | none, some c => (p.first c).map fun r => (r, c, s.arbWeight c - 1)
    | none, none => none
  match p.first 0 with
  | some r => some (r, p.wrr)
  | none =>
    match (if s.bgOwed p then bg else none) with
    | some r => some (r, p.wrr)
    | none => if s.bgOwed p ∧ p.bgWaits ∧ s.flag Fld.NVQ.BG.GATE_OPEN then none else fair.or (bg.map fun r => (r, p.wrr))

/-- The member-write check (R83): SEAL_CRC, MEMBER, STRIPE, POSITION, KIND and BLOCK against the target. -/
def State.writeCheck (s : State) (r : MReq) : List (Nat × Nat) :=
  (r.blks.zipIdx.map fun e =>
    let x : Seal := { e.1.tag with
      member := s.memberIdOf r.col, stripe := r.stripe, pos := r.pos, kind := s.kindOf r.pos, block := r.b0 + e.2 }
    (r.b0 + e.2, blkDiff e.1 x)).filter fun e => e.2 != 0

/-- Strip index on column `c` where the run of part zone `z` starts (R275): that of its first stripe on the column. -/
def State.runStart (s : State) (c z : Nat) : Nat :=
  match (List.range s.layout.rows.length).find? fun j => decide (c ∈ s.layout.row (z * s.spz + j)) with
  | some j => s.layout.index (z * s.spz + j) c
  | none => 0

/-- Member zone, place in it and length of the run, of strip `i` of column `d`; `n` is the stripe of a strip in its own
place (R275). -/
def State.mzone (s : State) (d n i cap : Nat) : Nat × Nat × Nat :=
  let l := s.layout
  if i < l.dataStrips then
    let z := s.zoneOfStripe n
    (z, i - s.runStart d z, s.runStart d (z + 1) - s.runStart d z)
  else
    let e := (i - l.dataStrips) / 4096
    let t := (i - l.dataStrips) % 4096
    let x := (4096 + cap - 1) / cap
    (s.rd64 Reg.ZMP.ZONE_COUNT_LO + e * x + t / cap, t % cap, if (t / cap + 1) * cap ≤ 4096 then cap else 4096 - t / cap * cap)

/-- A write of a whole strip reaches a zoned member (R276): below the member zone's write pointer the strips under the
target are read (kind 4), the member zone is reset (kind 5) and they are rewritten (kind 6) first; a complete run is
finished (kind 7). (DEDUCED, log entry 53.) -/
def State.mzoneWrite (s : State) (d n lba : Nat) : State :=
  let slot := s.slotOfCol d
  match (s.port slot).drive with
  | some v =>
    if ¬ v.zoned ∨ v.zoneCap = 0 then s
    else
      let (mz, off, len) := s.mzone d n (lba / 16) v.zoneCap
      let s1 := if off < tgetD (s.port slot).mzones mz 0 then
          ((s.emit (.member slot 0 4 (lba - 16 * off) (16 * off) [])).emit (.member slot 0 5 mz 0 [])).emit
            (.member slot 0 6 (lba - 16 * off) (16 * off) [])
        else s
      let s2 := s1.modPort slot fun p => { p with mzones := tput p.mzones mz (off + 1) }
      if off + 1 = len then s2.emit (.member slot 0 7 mz 0 []) else s2
  | none => s

/-- Blocks that fail the member-write check (R83): they are counted and recorded, and no write leaves the part. -/
def State.mwriteBad (s : State) (r : MReq) (bad : List (Nat × Nat)) : State :=
  bad.foldl (fun s e =>
    (((s.satInc Fld.BRL.ERR_MWRITE.V).event Fld.BRL.EVENT.MWRITE_MISMATCH 369).sealMismatch 3 (s.memberIdOf r.col)
      r.stripe r.pos e.1 e.2 369).count { code := 0x0B, n := 1, masters := [(2, s.slotOfCol r.col)] }) s

/-- A member write of a zone waits while the zone's slot is rebuilt (R87). -/
def State.heldBack (s : State) (r : MReq) : Bool :=
  match r.own with
  | .strip k _ | .parity k => (s.slot k).st == 3 && !(s.slot k).freeing
  | _ => false

/-- The blocks that one command of a request at port `n` carries: all of them, or as many as the member's MDTS admits (R274).
(DESIGN CHOICE, log entry 189.) -/
def State.cmdBlks (s : State) (n : Nat) (r : MReq) : Nat :=
  match (s.port n).drive with
  | some d => if d.mdts = 0 then r.n else d.mdts
  | none => r.n

/-- The NVMe command of a request's blocks from index `k` on goes out on tag `t` (R273, R274): kind 1 read, 2 write. -/
def State.cmdOut (s : State) (n t : Nat) (r : MReq) (k : Nat) : State :=
  let m := min (s.cmdBlks n r) (r.n - k)
  s.emit (.member n t (if r.write then 2 else 1) (r.lba + k) m ((r.blks.drop k).take m))

/-- MEMBER_REQUEST_ISSUE at a port (R273): the request that is next takes the lowest free tag and goes out as an NVMe
command (kind 1 read, 2 write), a write only after the member-write check. -/
def State.reqIssue (s : State) (n : Nat) : State :=
  let p := s.port n
  if s.stopped ∨ s.pt n ≠ ptUp ∨ 1024 ≤ p.live then s
  else match s.pickReq { p with reqs := p.reqs.filter fun r => !s.heldBack r }, (List.range 2048).find? fun t => (tget p.tags t).isNone with
    | some (r, wrr), some t =>
      let bad := if r.write then s.writeCheck r else []
      if bad ≠ [] then s.mwriteBad r bad
      else
        let s1 := s.modPort n fun p => { p with
          reqs := p.reqs.filter fun q => q.id ≠ r.id, tags := tput p.tags t ⟨r, false, s.now, [], 0⟩, wrr := wrr }
        let s2 := if r.write then s1.mzoneWrite r.col r.stripe r.lba else s1
        ((s2.cmdOut n t r 0).usedNow r.col).tagsShow n
    | _, _ => s

/-- MEMBER_REQUEST_ISSUE (R273). -/
def execMemberRequestIssue (slot : Nat) (s : State) : Host.Outcome State Fault Refusal :=
  if ¬ s.aon.coreUp then .next s else
  .next (s.reqIssue slot).settle

/-! ### Checks of reads -/

/-- Namespace and LBA expected in block `b` of data position `p` of stripe `n` (R81): of a log block what the conventional
map names it, where it does. -/
def State.identOf (s : State) (n p b : Nat) : Nat × Option Nat :=
  let (z, o) := s.zoneOffset n p b
  if (s.zone z).log then
    ((s.zone z).nsid, (s.tb.conv.find? fun e => e.2 == n + 2 ^ 40 * (16 * p + b)).map fun e => e.1 % 2 ^ 40)
  else ((s.zone z).nsid, some (s.lbaOf z o))

/-- The member-read check of block `i` of a request (R81, R83): the mismatch mask. -/
def State.readDiff (s : State) (r : MReq) (i : Nat) (b : Blk) : Nat :=
  let (nsid, lba) := s.identOf r.stripe r.pos (r.b0 + i)
  let want := match r.own with
    | .host t k => match s.cmd? t with
      | some c => some (c.lba + k + i)
      | none => lba
    | _ => lba
  blkDiff b (s.expSeal (s.memberIdOf r.col) r.stripe r.pos (r.b0 + i) nsid (want.getD b.tag.lba))

/-- A request reads a spare or repair location as a probe (R151). -/
def State.isProbe (s : State) (r : MReq) : Bool :=
  let x := s.col (s.layout.colAt r.stripe r.pos)
  let gone := x.st == 4 || x.st == 5
  (gone || (x.st == 6 && decide (x.copyCur ≤ r.stripe))) && (r.loc == 2 || (r.loc == 1 && !(gone && decide (r.stripe < x.cursor))))

/-- Times of a list not older than `span` ns. -/
def recent (now span : Nat) (l : List Nat) : List Nat := l.filter fun t => decide (now < t + span)

/-- Mismatching blocks of an ordinary member read are counted against the member (R83, R148). -/
def State.countMismatch (s : State) (r : MReq) (bad : List (Nat × Nat)) : State :=
  let n := s.slotOfCol r.col
  let s1 := bad.foldl (fun s e =>
    (((s.satInc Fld.BRL.ERR_MREAD.V).event Fld.BRL.EVENT.MREAD_MISMATCH 371).sealMismatch 4 (s.memberIdOf r.col) r.stripe
      r.pos e.1 e.2 371).count { code := 0x0B, n := 1, masters := [(2, n)] }) s
  let times := recent s.now 86400000000000 (tgetD s.mb.misTimes n []) ++ bad.map fun _ => s.now
  let s2 := s1.modMb fun m => { m with
    misTimes := tput m.misTimes n times, misCount := tput m.misCount n (satAdd32 (tgetD m.misCount n 0) bad.length) }
  if s2.get Fld.MBR.FAIL_CFG.MISMATCH_MAX < times.length then s2.failMark r.col 0x04 else s2

/-- Blocks of a position become an unreadable range awaiting repair (R148), which may lower a row's limit (R112). -/
def State.addUnread (s : State) (stripe pos : Nat) (blks : List Nat) : State :=
  let new := (zoneRuns blks).filter fun u => !decide ((stripe, pos, u.1, u.2) ∈ s.mb.unread)
  if new = [] then s
  else (s.modMb fun m => { m with unread := m.unread ++ new.map fun u => (stripe, pos, u.1, u.2) }).limitFall

/-- Blocks of a host read go to reconstruction, one job for each run of them. -/
def State.reconBlks (s : State) (r : MReq) (t idx : Nat) (blks : List Nat) : State :=
  (zoneRuns blks).foldl (fun s u => s.addRecon r.stripe r.pos u.1 u.2 t (idx + u.1 - r.b0) r.cls false) s

/-- A member read has ended (R83, R148, R151): blocks that pass go on; the others are reconstructed, and those of an
ordinary read become an unreadable range. -/
def State.readEnd (s : State) (r : MReq) (ok : Bool) (blks : List Blk) : State :=
  let all := (List.range r.n).map fun i => r.b0 + i
  let diff := if ok then (List.range r.n).map fun i => match blks[i]? with
      | some b => (r.b0 + i, s.readDiff r i b)
      | none => (r.b0 + i, 256)
    else []
  let bad := if ok then diff.filter fun e => e.2 != 0 else all.map fun b => (b, 0)
  let s1 := if s.isProbe r then s
    else (if ok ∧ bad ≠ [] then s.countMismatch r bad else s).addUnread r.stripe r.pos (bad.map (·.1))
  match r.own with
  | .host t i =>
    if bad ≠ [] ∧ s.isProbe r then s1.reconBlks r t i all
    else
      let s2 := s1.reconBlks r t i (bad.map (·.1))
      (all.filter fun b => !decide (b ∈ bad.map (·.1))).foldl (fun s b => match blks[b - r.b0]? with
        | some x => s.readGot t (i + b - r.b0) [x]
        | none => s) s2
  | .recon j p =>
    if bad ≠ [] then s1.reconRestart j (if s.isProbe r then [p] else [])
    else s1.modMb fun m => { m with
      recons := m.recons.map fun x => if x.id = j then
        { x with got := x.got ++ blks.zipIdx.map fun e => (p, r.b0 + e.2, e.1), waiting := x.waiting - 1 } else x }
  | _ => s1

/-! ### Completion -/

/-- PMC events of a member command that ended (R346, R353): bytes moved and busy time. (DEDUCED, log entry 91.) -/
def State.memberCount (s : State) (n : Nat) (r : MReq) (ok : Bool) (us : Nat) : State :=
  let host := match r.own with
    | .host t _ | .strip _ (t :: _) => (match s.cmd? t with | some c => [(1, c.host)] | none => [])
    | _ => []
  let priv := if r.cls = 4 then 2 else 0
  let e : PmcEv := { code := if r.write then 9 else 8, n := 4096 * r.n, priv := some priv, masters := (2, n) :: host,
                     zone := some (s.zoneOfStripe r.stripe), cls := some r.cls }
  let s1 := if ok then (s.count e).bwAdd (8 + n) (if r.write then 0 else 4096 * r.n) (if r.write then 4096 * r.n else 0) else s
  let s2 := s1.count { e with code := 0x17, n := us, masters := [(2, n)], lba := none, zone := none }
  s2.modPort n fun p =>
    let q := { p with cfsTried := p.cfsTried && !ok }
    if r.cls = 4 then { q with bgNs := q.bgNs + 1000 * us, bgWaits := false } else { q with fgNs := q.fgNs + 1000 * us }

/-- With more Active members than ACTIVE_MAX, those without a request go to Idle, least recently used first (R102, R114). -/
def State.capFall (s : State) : Nat → State
  | 0 => s
  | k + 1 =>
    if s.get Fld.MBR.PWR_CFG.ACTIVE_MAX < (s.inPs 1).length then
      match (s.inPs 1).filter s.quiet with
      | [] => s
      | c :: r => (s.toIdle (s.lru c r)).capFall k
    else s

/-- A request waits for an Idle member: at the cap, the first member without a request gives up its place (R102). -/
def State.roomWanted (s : State) : State :=
  if s.mb.deferred.any fun r => (s.power r.col).ps == 2 then s.makeRoom else s

/-- What follows once a tag of port `n` is free again: a Darkening member's port quiesces (R109), the cap is held and a place found
for a member that is needed (R102). -/
def State.tagFreed (s : State) (n : Nat) : State :=
  (((s.onSlot n fun s c => if (s.power c).ps = 3 then s.quiesce n else s).tagsShow n).capFall 48).roomWanted

/-- MEMBER_COMPLETION (R274, R278): an unexpected completion is discarded and recorded; a live tag's command ends, and the next
of its request's commands goes out, or the request ends.  An owner whose write meets a Reservation Conflict stands down
(R142). -/
def State.memberDone (s : State) (n t status : Nat) (blks : List Blk) : State :=
  match tget (s.port n).tags t with
  | none => (s.satInc (Fld.DRP_P.LATE_CPL.V n)).detail 0x21 (drpSrc n 5) (n + 2 ^ 16 * t) 0 0
  | some x =>
    if x.quarantined then
      (s.satInc (Fld.DRP_P.LATE_CPL.V n)).detail 0x21 (drpSrc n 5) (n + 2 ^ 16 * t) ((s.now - x.at_) / 1000) 0
    else
      let r := x.req
      let k := x.moved + s.cmdBlks n r
      if status = 0 ∧ k < r.n then
        (s.modPort n fun p => { p with tags := tput p.tags t { x with moved := k, at_ := s.now } }).cmdOut n t r k
      else
      let s1 := (s.modPort n fun p => { p with tags := tdel p.tags t }).memberCount n r (status == 0) ((s.now - x.at_) / 1000)
      let s2 := s1.tagFreed n
      if r.write then
        if status = 0 then (s2.writeOver r.own r.stripe r.pos).relCheck.finishAll
        else if status = 0x83 ∧ s2.get Fld.GNT.STATUS.ROLE = 1 then s2.standDown
        else (s2.failMark r.col 0x01).modMb fun m => { m with downReqs := m.downReqs ++ [r] }
      else s2.readEnd r (status == 0) blks

/-- MEMBER_COMPLETION (R278): `blks` are the blocks that stand in the tag's buffer. (DESIGN CHOICE, log entry 19.)
(DEDUCED, log entry 90.) -/
def execMemberCompletion (slot tag status : Nat) (blks : List Blk) (s : State) : Host.Outcome State Fault Refusal :=
  if ¬ s.aon.coreUp then .next s else
  .next (if slot < 48 ∧ tag < 2048 then (s.memberDone slot tag status blks).settle else s)

/-- COMPLETION_TIMEOUT (R277): the timeout is counted, an Abort goes out (kind 3), the tag is quarantined; a read is
reconstructed and counts toward TIMEOUT_MAX, a write fails its column. -/
def State.cplTimeout (s : State) (n t : Nat) : State :=
  match tget (s.port n).tags t with
  | none => s
  | some x =>
    if x.quarantined then s
    else
      let r := x.req
      let s1 := (s.satInc (Fld.DRP_P.TIMEOUTS.V n)).modMb fun m =>
        { m with toCount := tput m.toCount n (satAdd32 (tgetD m.toCount n 0) 1) }
      let s2 := (s1.eventHeld Fld.DRP.EVENT.TIMEOUT (drpSrc n 5)).emit (.member n t 3 r.lba r.n [])
      let s3 := (s2.modPort n fun p => { p with tags := tput p.tags t { x with quarantined := true, at_ := s.now, buf := [] } }).tagFreed n
      if r.write then (s3.failMark r.col 0x01).modMb fun m => { m with downReqs := m.downReqs ++ [r] }
      else
        let times := recent s.now 60000000000 (tgetD s.mb.toTimes n []) ++ [s.now]
        let s4 := s3.modMb fun m => { m with toTimes := tput m.toTimes n times }
        let s5 := if s4.get Fld.MBR.FAIL_CFG.TIMEOUT_MAX < times.length then s4.failMark r.col 0x03 else s4
        match r.own with
        | .host tag i => s5.reconBlks r tag i ((List.range r.n).map fun i => r.b0 + i)
        | .recon j _ => s5.reconRestart j
        | _ => s5

/-- COMPLETION_TIMEOUT (R277). -/
def execCompletionTimeout (slot tag : Nat) (s : State) : Host.Outcome State Fault Refusal :=
  if ¬ s.aon.coreUp then .next s else
  .next (s.cplTimeout slot tag).settle

/-- TAG_QUARANTINE_END (R277). -/
def execTagQuarantineEnd (slot tag : Nat) (s : State) : Host.Outcome State Fault Refusal :=
  if ¬ s.aon.coreUp then .next s else
  .next (match tget (s.port slot).tags tag with
    | some x => if x.quarantined then (s.modPort slot fun p => { p with tags := tdel p.tags tag }).tagsShow slot else s
    | none => s)

/-! ### The inbound window -/

/-- Bytes of a tag's buffer (R274). -/
abbrev tagBytes : Nat := 131072

/-- MEMBER_INBOUND_WRITE (R274): accepted into a live tag's buffer, counted when it falls in a quarantined tag's, and
discarded anywhere else. -/
def execMemberInboundWrite (slot addr : Nat) (bytes : List Byte) (s : State) : Host.Outcome State Fault Refusal :=
  if ¬ s.aon.coreUp then .next s else
  .next (match tget (s.port slot).tags (addr / tagBytes) with
    | some x =>
      if x.quarantined then s.satInc (Fld.DRP_P.LATE_DATA.V slot)
      else if addr % tagBytes + bytes.length ≤ tagBytes then
        s.modPort slot fun p => { p with
          tags := tput p.tags (addr / tagBytes) { x with
            buf := bytes.zipIdx.foldl (fun b e => tput b (addr % tagBytes + e.2) e.1) x.buf } }
      else s
    | none => s)

/-- MEMBER_INBOUND_READ (R274): a live tag's buffer is served, the blocks of a write in extended-LBA form; anything else is
answered with Unsupported Request. -/
def execMemberInboundRead (slot addr len : Nat) (s : State) : Host.Outcome State Fault Refusal :=
  if ¬ s.aon.coreUp then .next s else
  .next (match tget (s.port slot).tags (addr / tagBytes) with
    | some x =>
      if x.quarantined ∨ tagBytes < addr % tagBytes + len then s.emit (.pcie 1 [])
      else
        let stored := x.req.blks.flatMap blkBytes
        s.emit (.pcie 0 ((List.range len).map fun i =>
          let o := addr % tagBytes + i
          (tget x.buf o).getD (stored.getD o 0)))
    | none => s.emit (.pcie 1 []))

/-! ### Reconstruction for host reads -/

/-- BRL.RECON_JOBS.IN_USE. -/
def State.reconShow (s : State) : State := s.put Fld.BRL.RECON_JOBS.IN_USE (s.mb.recons.filter fun x => x.started).length

/-- A block that counts as zero in Beryl's sums (R91). -/
def nilBlk : Blk := ⟨[], [], ⟨0, 0, 0, 0, 0, 0, 0, false, 0, 0, 0⟩, 0, 0⟩

/-- What a data position of a stripe contributes without a member read, for block `b`: zero beyond the data, or a block of
the strip now filling of an open slot (R91). -/
def State.standIn (s : State) (n p b : Nat) : Option Blk :=
  match s.slotOfStripe n with
  | some k =>
    let x := s.slot k
    if x.folded ≤ 16 * p + b then some nilBlk
    else if p = x.folded / 16 then x.cur[b]? else none
  | none => if p < s.layout.k ∧ s.unwritten n p then some nilBlk else none

/-- A data position needs no member read over a range. -/
def State.standsIn (s : State) (n p b0 k : Nat) : Bool := (List.range k).all fun i => (s.standIn n p (b0 + i)).isSome

/-- The positions that a reconstruction job reads from members or partials (R77, R91): none when there are too few sources. -/
def State.reconPlan (s : State) (j : Recon) : Option (List Nat) :=
  let k := s.layout.k
  let others := (List.range k).filter fun p => p != j.pos
  let second (p : Nat) : Bool := j.pos2.any fun e => e.1 == p
  let ready (p : Nat) : Bool := s.available j.stripe p j.b0 j.n && !decide (p ∈ j.noSrc)
  let sl := (s.slotOfStripe j.stripe).isSome
  let miss := others.filter fun p => second p || (!ready p && !s.standsIn j.stripe p j.b0 j.n)
  let read := others.filter fun p => !second p && ready p && !s.standsIn j.stripe p j.b0 j.n
  let pOk := sl || ready k
  let qOk := sl || ready (k + 1)
  match miss with
  | [] => if pOk ∧ ¬ (j.retried ∧ qOk) then some (read ++ [k]) else if qOk then some (read ++ [k + 1]) else none
  | [_] => if pOk ∧ qOk then some (read ++ [k, k + 1]) else none
  | _ => none

/-- Positions of a job's stripe that cannot serve it: lacking, or with a probe that did not pass (R151, R420). -/
def State.jobLack (s : State) (j : Recon) : List Nat :=
  s.positions.filter fun p => (s.lacking j.stripe p j.b0 j.n || decide (p ∈ j.noSrc)) && !s.unwritten j.stripe p

/-- RECONSTRUCTION_START (R92): a job begins when one is free and its sources are there, not while the stripe's slot is rebuilt
(R87); with more than two positions lacking over its range the blocks are looked at one by one, and one at which more than two
lack is lost; a read whose holder is merely unpowered goes back to waiting for
either (R100, R420). -/
def State.reconStart (s : State) (id : Nat) : State :=
  match s.mb.recons.find? fun x => x.id == id with
  | none => s
  | some j =>
    let drop := s.modMb fun m => { m with recons := m.recons.filter fun x => x.id ≠ id }
    if j.started ∨ s.stopped ∨ s.slotRebuilding j.stripe ∨ 126 ≤ (s.mb.recons.filter fun x => x.started).length then s
    else match s.reconPlan j with
      | some ps =>
        let open_ := s.slotOfStripe j.stripe
        let busy : Bool := match open_ with | some k => (s.slot k).strips != 0 | none => false
        if busy then s
        else
          let rd := ps.filter fun p => decide (p < s.layout.k) || open_.isNone
          let held := ((List.range s.layout.k).flatMap fun p => (List.range j.n).filterMap fun i =>
              if p = j.pos ∨ (j.pos2.any fun e => e.1 == p) then none else (s.standIn j.stripe p (j.b0 + i)).map fun b => (p, j.b0 + i, b))
            ++ (match open_ with
              | some k => (ps.filter fun p => decide (s.layout.k ≤ p)).flatMap fun p => (List.range j.n).map fun i =>
                  (p, j.b0 + i, s.parityBlk (s.slot k) (p - s.layout.k + 1) (j.b0 + i) 0)
              | none => [])
          let s1 := s.modMb fun m => { m with
            recons := m.recons.map fun x => if x.id = id then { x with started := true, got := held, waiting := rd.length } else x }
          (rd.foldl (fun s p => match s.readPlace j.stripe p with
            | some (loc, d) =>
              let r : MReq := ⟨s.mb.nextReq, d, false, j.stripe, p, j.b0, j.n, s.reqLba j.stripe p loc j.b0, loc, j.cls,
                .recon id p, [], s.now⟩
              let s2 := s.modMb fun m => { m with nextReq := m.nextReq + 1 }
              if (s.power d).ps = 1 then s2.enqueueReq r else s2.makeRoom.deferReq r
            | none => s) s1).reconShow
      | none =>
        if 1 < j.n ∧ 2 < (s.jobLack j).length then
          (List.range j.n).foldl (fun s i => j.parts.foldl (fun s e =>
            s.addRecon j.stripe e.1 (j.b0 + i) 1 j.tag (e.2 + i) j.cls j.retried j.noSrc) s) drop
        else if 2 < (s.jobLack j).length then
          ((drop.lossRange j.stripe j.b0 j.n (s.jobLack j)).event Fld.BRL.EVENT.RECON_FAIL 372).cmdFail j.tag 0x281 true
        else if j.parts.all fun e => decide (e.1 ∈ s.jobLack j) then s
        else j.parts.foldl (fun s e =>
          if e.1 ∈ s.jobLack j then s.addRecon j.stripe e.1 j.b0 j.n j.tag e.2 j.cls j.retried j.noSrc
          else s.routeRead j.stripe e.1 j.b0 j.n j.tag e.2 j.cls) drop

/-- RECONSTRUCTION_START (R92). -/
def execReconstructionStart (job : Nat) (s : State) : Host.Outcome State Fault Refusal :=
  if ¬ s.aon.coreUp then .next s else
  .next (s.reconStart job).settle

/-- Block `b` of data position `pos`, from what a job's sources give, once it passes the reconstruction check (R77, R83); `idx` is
the position's index in the command. -/
def State.reconAt (s : State) (j : Recon) (pos idx b : Nat) (src : Nat → Option Blk) : Option Blk :=
  let (nsid, lba) := s.identOf j.stripe pos b
  let want := match s.cmd? j.tag with
    | some c => c.lba + idx + (b - j.b0)
    | none => lba.getD 0
  (recoverAny s.layout.k pos src false).bind fun v =>
    reconBlk v (s.expSeal (s.memberIdOf (s.layout.colAt j.stripe pos)) j.stripe pos b nsid want)

/-- What a job recovers at block `b` (R92): its position, and its second one with the first as a source; each with its position,
its index in the command, and the block where it passed. -/
def State.reconOuts (s : State) (j : Recon) (b : Nat) : List (Nat × Nat × Option Blk) :=
  let src (p : Nat) : Option Blk := (j.got.find? fun g => g.1 == p && g.2.1 == b).map fun g => g.2.2
  let x := s.reconAt j j.pos j.idx b src
  (j.pos, j.idx, x) :: (j.pos2.toList.map fun e =>
    (e.1, e.2, x.bind fun d => s.reconAt j e.1 e.2 b fun p => if p = j.pos then some d else src p))

/-- RECONSTRUCTION_DONE (R83, R92): the recovered blocks join the read; a block that fails its check is retried once with
the other syndrome where one is available, then it is lost and the read ends with Unrecovered Read Error. -/
def State.reconDone (s : State) (id : Nat) : State :=
  match s.mb.recons.find? fun x => x.id == id with
  | none => s
  | some j =>
    if ¬ j.started ∨ j.waiting ≠ 0 then s
    else
      let drop := (s.modMb fun m => { m with
        recons := m.recons.filter (fun x => x.id ≠ id), brlFg := m.brlFg + s.layout.k * j.n }).reconShow
      let out := (List.range j.n).flatMap fun i => (s.reconOuts j (j.b0 + i)).map fun e => (e.1, j.b0 + i, e.2.1 + i, e.2.2)
      let bad := out.filter fun e => e.2.2.2.isNone
      let n := s.slotOfCol (s.layout.colAt j.stripe j.pos)
      if bad = [] then
        let host := match s.cmd? j.tag with | some c => [(1, c.host)] | none => []
        let s1 := (drop.add64 Reg.BRL.RECON_BLOCKS_LO out.length).count
          { code := 0x0A, n := out.length, priv := some 0, masters := (2, n) :: host, zone := some (s.zoneOfStripe j.stripe), cls := some j.cls }
        out.foldl (fun s e => s.readGot j.tag e.2.2.1 e.2.2.2.toList) (s1.modCmd j.tag fun c => { c with recon := true })
      else
        let s1 := bad.foldl (fun s e =>
          ((s.satInc Fld.BRL.ERR_RECON.V).sealMismatch 5 (s.memberIdOf (s.layout.colAt j.stripe e.1)) j.stripe e.1 e.2.1 256
            372).count { code := 0x0B, n := 1, masters := [(2, s.slotOfCol (s.layout.colAt j.stripe e.1))] }) drop
        let other : Bool := !j.retried && (s.reconPlan { j with retried := true }).isSome
          && s.reconPlan { j with retried := true } != s.reconPlan { j with retried := false }
        if other then s1.reconAgain j true j.noSrc
        else
          let s2 := bad.foldl (fun s e => let (z, o) := s.zoneOffset j.stripe e.1 e.2.1; s.lossAdd z 3 o 1) s1
          (s2.event Fld.BRL.EVENT.RECON_FAIL 372).cmdFail j.tag 0x281 true

/-- RECONSTRUCTION_DONE (R92). -/
def execReconstructionDone (job : Nat) (s : State) : Host.Outcome State Fault Refusal :=
  if ¬ s.aon.coreUp then .next s else
  .next (s.reconDone job).settle

/-- BERYL_SHARE_WINDOW_END (R93): the account of the 1 ms window begins anew. -/
def execBerylShareWindowEnd (s : State) : Host.Outcome State Fault Refusal :=
  if ¬ s.aon.coreUp then .next s else
  .next (s.modMb fun m => { m with brlFg := 0, brlBg := 0 })

/-- BACKGROUND_WINDOW_END (R54): the account of the 100 ms window begins anew; a floor missed is not owed. -/
def execBackgroundWindowEnd (slot : Nat) (s : State) : Host.Outcome State Fault Refusal :=
  if ¬ s.aon.coreUp then .next s else
  .next (s.modPort slot fun p => { p with fgNs := 0, bgNs := 0, bgWaits := false })

/-- DEFER_EXPIRY (R101): a read's member request, or its reconstruction, has waited DEFER_MAX seconds: its command ends
with Namespace Not Ready. -/
def State.deferExpire (s : State) (req : Nat) : State :=
  if s.get Fld.MBR.WAKE_CFG.DEFER_MAX = 0 then s
  else
    let t? := match s.mb.deferred.find? fun r => r.id == req && s.waits r with
      | some r => match r.own with
        | .host t _ => some t
        | .recon j _ => (s.mb.recons.find? fun x => x.id == j).map (·.tag)
        | _ => none
      | none => (s.mb.recons.find? fun x => x.id == req && !x.started).map (·.tag)
    match t? with
    | none => s
    | some t =>
      (((s.detach t).evAt 463 Fld.MBR.PWR_EVENT.DEFER_EXPIRED).mbrShow.reconShow).cmdFail t 0x82 false

/-- DEFER_EXPIRY (R101). (DEDUCED, log entry 58.) -/
def execDeferExpiry (req : Nat) (s : State) : Host.Outcome State Fault Refusal :=
  if ¬ s.aon.coreUp then .next s else
  .next (s.deferExpire req).settle

end Sys2Proof.Machine
end

