-- ==== Sys2Proof/Machine/Background.lean ====
section
/-! DEFINITION. Background work on one stripe as a step of its own (R54, R91 to R93): the strips read from the members, their
checks, what is recovered from them (R77), what is lost (R161), the strips written, repair extents (R160), and the recompute of a
partial slot (R87, R126). -/

namespace Sys2Proof.Machine
open Sys2Proof

/-! ### What a stripe's members give -/

/-- Background member requests may be issued now (R54). -/
def State.bgOk (s : State) : Bool := s.flag Fld.NVQ.BG.GATE_OPEN && !s.stopped && s.lay.isSome

/-- The request of Background work for the 16 blocks of position `p` of stripe `n` at place `loc` on column `d`. -/
def bgReq (d : Nat) (write : Bool) (n p lba loc : Nat) (blks : List Blk) : MReq :=
  ⟨0, d, write, n, p, 0, 16, lba, loc, 4, .parity 256, blks, 0⟩

/-- The strip of position `p` as its member gave it, if the step read it. -/
def gave (io : BgIo) (p : Nat) : Option (List Blk) := (io.strips.find? fun e => e.1 == p).map fun e => e.2

/-- The step reads position `p` of stripe `n`: the strip was asked for and is available at some block (R150). -/
def State.bgReadAt (s : State) (n : Nat) (io : BgIo) (p : Nat) : Bool :=
  (gave io p).isSome && !s.unwritten n p && (List.range 16).any fun b => s.available n p b 1

/-- Block `b` of position `p` as it was read, where its member serves it and it passes the member-read check (R83, R150). -/
def State.bgGood (s : State) (n : Nat) (io : BgIo) (p b : Nat) : Option Blk :=
  match s.readPlace n p with
  | some (loc, d) =>
    if s.bgReadAt n io p && s.available n p b 1 then
      (((gave io p).getD [])[b]?).filter fun x => s.readDiff (bgReq d false n p 0 loc []) b x == 0
    else none
  | none => none

/-- Position `p` cannot serve block `b`: it is lacking, or its place was read and the block did not pass (R151, R420). -/
def State.bgMiss (s : State) (n : Nat) (io : BgIo) (p b : Nat) : Bool :=
  !s.unwritten n p && (s.lacking n p b 1 || (s.bgReadAt n io p && (s.bgGood n io p b).isNone))

/-- Block `b` of position `p` as a source: read from its member, or standing in for it (R91). -/
def State.bgSrc (s : State) (n : Nat) (io : BgIo) (p b : Nat) : Option Blk :=
  if p < s.layout.k then (s.standIn n p b).or (s.bgGood n io p b)
  else match s.slotOfStripe n with
    | some k => some (s.parityBlk (s.slot k) (p - s.layout.k + 1) b 0)
    | none => s.bgGood n io p b

/-- Positions that cannot serve block `b` (R420). -/
def State.bgLack (s : State) (n : Nat) (io : BgIo) (b : Nat) : List Nat := s.positions.filter fun p => s.bgMiss n io p b

/-- Blocks at which more than two positions cannot serve: there the data positions among them are lost (R161, R420). -/
def State.bgLossBlocks (s : State) (n : Nat) (io : BgIo) : List Nat :=
  (List.range 16).filter fun b => decide (2 < (s.bgLack n io b).length)

/-- Record those losses, and what a third column failure among them does to the zone (R161). -/
def State.bgLossAll (s : State) (n : Nat) (io : BgIo) : State :=
  if s.bgLossBlocks n io = [] then s
  else ((s.bgLossBlocks n io).foldl (fun s b => s.lossRange n b 1 (s.bgLack n io b)) s) |> fun t =>
    if (s.bgLossBlocks n io).any fun b => s.thirdFailure n (s.bgLack n io b) then t.stripeGone n else t

/-- At every block that is not lost, k positions serve as sources; otherwise the work waits (R420). -/
def State.bgEnough (s : State) (n : Nat) (io : BgIo) : Bool :=
  (List.range 16).all fun b => decide (b ∈ s.bgLossBlocks n io) ||
    decide (s.layout.k ≤ (s.positions.filter fun p => !s.bgMiss n io p b && (s.bgSrc n io p b).isSome).length)

/-- Block `b` of position `p` is covered by a data-loss descriptor (R157). -/
def State.bgLost (s : State) (n p b : Nat) : Bool :=
  let (z, o) := s.zoneOffset n p b
  decide (p < s.layout.k) && s.isLost z o

/-! ### Recovery -/

/-- The expected seal of block `b` of position `p`, without a member (R81); the LBA of a log block that no map entry names is a free
value (log entry 8). -/
def State.bgSeal (s : State) (n p b : Nat) : Seal :=
  let (nsid, lba) := s.identOf n p b
  s.expSeal 0 n p b nsid (lba.getD (Config.freeNat 25 (n * 512 + 16 * p + b)))

/-- What the sources of block `b` of position `p` give by the first syndrome, or by the other one (R77). -/
def State.bgSum (s : State) (n : Nat) (io : BgIo) (p b : Nat) (other : Bool) : Option (List Byte) :=
  recoverAny s.layout.k p (fun q => if q = p ∨ s.bgMiss n io q b then none else s.bgSrc n io q b) other

/-- Recover block `b` of position `p` (R77, R83, R92): a data block passes the reconstruction check, with the other syndrome where
the first does not give it; a syndrome block is recomputed from the data.  A log block that no map entry names has no expected
LBA, so that its check is left out (log entry 8). -/
def State.bgRecov (s : State) (n : Nat) (io : BgIo) (p b : Nat) : Option Blk :=
  let x := s.bgSeal n p b
  let asBlk (v : List Byte) (syn : BitVec 64) : Blk := sealed ⟨v.take 4096, (v.drop 4096).take 16, x, syn, 0⟩
  if s.layout.k ≤ p then
    (s.bgSum n io p b false).map fun v => asBlk v (BitVec.ofNat 64 (leNat ((v.drop 4112).take 8)))
  else if (s.identOf n p b).2.isNone then (s.bgSum n io p b false).map fun v => asBlk v 0
  else ((s.bgSum n io p b false).bind fun v => reconBlk v x).or ((s.bgSum n io p b true).bind fun v => reconBlk v x)

/-- How often the recovery of block `b` of position `p` fails the reconstruction check (R83): with the first syndrome, and on the
retry with the other one. -/
def State.bgFails (s : State) (n : Nat) (io : BgIo) (p b : Nat) : Nat :=
  let fails (o : Bool) : Bool := match s.bgSum n io p b o with | some v => (reconBlk v (s.bgSeal n p b)).isNone | none => false
  if s.layout.k ≤ p ∨ (s.identOf n p b).2.isNone ∨ ¬ fails false then 0
  else if fails true ∧ s.bgSum n io p b true ≠ s.bgSum n io p b false then 2 else 1

/-- Block `b` of position `p` as it is to be written (R160, R161): a lost block is poison; a block that its own place gives is taken
from there; any other is recovered, and poison where that fails. -/
def State.bgBlock (s : State) (n : Nat) (io : BgIo) (p b : Nat) : Blk :=
  if s.bgLost n p b then poisonBlk (s.bgSeal n p b)
  else match s.bgGood n io p b with
    | some x => blkFor x 0
    | none => (s.bgRecov n io p b).getD (poisonBlk (s.bgSeal n p b))

/-- The strip of position `p` as it is to be written. -/
def State.bgStrip (s : State) (n : Nat) (io : BgIo) (p : Nat) : List Blk := (List.range 16).map fun b => s.bgBlock n io p b

/-- A recovery of block `b` of position `p` fails the reconstruction check (R83): it is counted and recorded. -/
def State.bgMismatch (s : State) (n p b : Nat) : State :=
  ((s.satInc Fld.BRL.ERR_RECON.V).sealMismatch 5 (s.memberIdOf (s.layout.colAt n p)) n p b 256 372).count
    { code := 0x0B, n := 1, masters := [(2, s.slotOfCol (s.layout.colAt n p))] }

/-- The checks of the recovered blocks `bs` of position `p` (R83): each failure is counted; a block that no syndrome gives is lost
with cause 3. -/
def State.bgFail (s : State) (n : Nat) (io : BgIo) (p : Nat) (bs : List Nat) : State :=
  bs.foldl (fun s1 b =>
    let s2 := (List.range (s.bgFails n io p b)).foldl (fun t _ => t.bgMismatch n p b) s1
    let (z, o) := s.zoneOffset n p b
    if p < s.layout.k ∧ (s.bgRecov n io p b).isNone then (s2.lossAdd z 3 o 1).event Fld.BRL.EVENT.RECON_FAIL 372 else s2) s

/-- Beryl recovers blocks `bs` of a position (R93, R346). -/
def State.bgRecovers (s : State) (n : Nat) (io : BgIo) (p : Nat) (bs : List Nat) : State :=
  let m := bs.length
  let slot := s.slotOfCol (s.layout.colAt n p)
  ((((s.modMb fun x => { x with brlBg := x.brlBg + m * s.layout.k }).add64 Reg.BRL.RECON_BLOCKS_LO m).count
    { code := 0x0A, n := m, priv := some 2, masters := [(2, slot)], zone := some (s.zoneOfStripe n), cls := some 4 })).bgFail n io p bs

/-- Beryl recovers the blocks of a position that its place does not give. -/
def State.bgRecover (s : State) (n : Nat) (io : BgIo) (p : Nat) : State :=
  s.bgRecovers n io p ((List.range 16).filter fun b => !s.bgLost n p b && (s.bgGood n io p b).isNone)

/-! ### Member requests of a step -/

/-- A Background request may go to the member of column `d` (R54): no foreground request waits at its port, or Background is below
its floor there and nothing Urgent waits. -/
def State.bgMay (s : State) (d : Nat) : Bool :=
  let p := s.port (s.slotOfCol d)
  (p.reqs.all fun r => r.cls == 4) || (s.bgOwed p && (p.first 0).isNone)

/-- Beryl may serve Background now (R92, R93): a job is free, and no other reconstruction is ready, or Background has had less than
its share of the window. -/
def State.brlMay (s : State) : Bool :=
  decide ((s.mb.recons.filter fun x => x.started).length < 126)
    && (!(s.mb.recons.any fun x => x.started && x.waiting == 0)
        || decide (16 * s.mb.brlBg < s.get Fld.BRL.ARB.BG_SHARE * (s.mb.brlFg + s.mb.brlBg)))

/-- The member of column `c`, one of `cols` that a step works on, is made Active under the cap (R91, R102); none when it cannot be
reached now. -/
def State.reach1 (s : State) (cols : List Nat) (c : Nat) : Option State :=
  if (s.power c).ps = 1 then some s
  else if (s.power c).ps ≠ 2 then none
  else if (s.inPs 1).length < s.get Fld.MBR.PWR_CFG.ACTIVE_MAX then some (s.toActive c).redispatch
  else match (s.inPs 1).filter fun v => s.quiet v && !decide (v ∈ cols) with
    | [] => none
    | v :: r => some (((s.toIdle (s.lru v r)).toActive c).redispatch)

/-- The members that a step of Background work works on are Active (R91, R102): Idle ones are activated, under the cap; none when one of them cannot be
reached now. -/
def State.bgReach (s : State) (cols : List Nat) : Option State :=
  cols.foldl (fun (a : Option State) c => a.bind fun s => if s.bgMay c then s.reach1 cols c else none) (some s)

/-- Background work that cannot go to these members now waits at their ports (R54). -/
def State.bgAsk (s : State) (cols : List Nat) : State :=
  cols.foldl (fun s c => if s.bgMay c then s else s.modPort (s.slotOfCol c) fun p => { p with bgWaits := true }) s

/-- The step reads its strips (R83, R148, R346): each is a member read (kind 1); blocks that do not pass are counted, and become an
unreadable range, unless the place was read as a probe (R151). -/
def State.bgReads (s : State) (n : Nat) (io : BgIo) : State :=
  ((io.strips.map (·.1)).filter fun p => s.bgReadAt n io p).foldl (fun s p =>
    match s.readPlace n p with
    | some (loc, d) =>
      let lba := s.reqLba n p loc 0
      let r := bgReq d false n p lba loc []
      let blks := (gave io p).getD []
      let bad := ((List.range 16).filter fun b => s.available n p b 1).filterMap fun b => match blks[b]? with
        | some x => let m := s.readDiff r b x; if m = 0 then none else some (b, m)
        | none => some (b, 0)
      let s1 := ((s.emit (.member (s.slotOfCol d) 0 1 lba 16 [])).memberCount (s.slotOfCol d) r true io.us).usedNow d
      if s.isProbe r then s1
      else (s1.countMismatch r (bad.filter fun e => e.2 != 0)).addUnread n p (bad.map (·.1))
    | none => s) s

/-- The columns that the reads of a step work on. -/
def State.bgCols (s : State) (n : Nat) (io : BgIo) : List Nat :=
  ((io.strips.map (·.1)).filter fun p => s.bgReadAt n io p).filterMap fun p => (s.readPlace n p).map fun e => e.2

/-- A step of Background work on stripe `n` begins (R54, R91, R93): its members are reached and its strips read, not while a slot's
folded blocks are on their way (R91).  Answers whether it did, or has to wait. -/
def State.bgBegin (s : State) (n : Nat) (io : BgIo) : Bool × State :=
  let busy : Bool := match s.slotOfStripe n with | some k => (s.slot k).strips != 0 | none => false
  if s.brlMay ∧ ¬ s.slotRebuilding n ∧ ¬ busy then
    match s.bgReach (s.bgCols n io) with
    | some s1 => (true, s1.bgReads n io)
    | none => (false, s.bgAsk (s.bgCols n io))
  else (false, s)

/-- Blocks sealed for the drive they go to; poison stays poison (R80, R161). -/
def sealFor (m : Nat) (l : List Blk) : List Blk :=
  l.map fun b => if sealCrc b = b.crc then blkFor b m else poisonBlk { b.tag with member := m }

/-- Write a whole strip to column `d` as Background (R83, R148): it passes the member-write check, which poison meets in all but its
SEAL_CRC.  Answers whether the write stands: a drive that cannot be reached leaves the work waiting, one that ends the write with an
error fails. -/
def State.bgWrite (s : State) (d n p loc lba : Nat) (blks : List Blk) (io : BgIo) : Bool × State :=
  match s.bgReach [d] with
  | none => (false, s.bgAsk [d])
  | some s1 =>
    let slot := s1.slotOfCol d
    let r := bgReq d true n p lba loc (sealFor (s1.memberIdOf d) blks)
    match (s1.writeCheck r).filter fun e => e.2 != 256 with
    | e :: l => (false, s1.mwriteBad r (e :: l))
    | [] =>
      let s2 := if loc = 0 ∨ loc = 1 ∨ loc = 2 then s1.mzoneWrite d n lba else s1
      let s3 := ((s2.emit (.member slot 0 2 lba 16 r.blks)).memberCount slot r (!decide (d ∈ io.wrBad ∨ d ∈ io.conflict)) io.us).usedNow d
      if d ∈ io.conflict ∧ s.get Fld.GNT.STATUS.ROLE = 1 then (false, s3.standDown)
      else if d ∈ io.wrBad ∨ d ∈ io.conflict then (false, s3.failMark d 0x01) else (true, s3)

/-! ### Repair -/

/-- The unreadable ranges of position `p` of stripe `n` are over. -/
def State.unreadDone (s : State) (n p : Nat) : State :=
  s.modMb fun m => { m with unread := m.unread.filter fun u => ¬ (u.1 = n ∧ u.2.1 = p) }

/-- Every block of position `p` that cannot be served is lost (R157): nothing is left to repair. -/
def State.unreadLost (s : State) (n p : Nat) (io : BgIo) : Bool :=
  (List.range 16).all fun b => !s.bgMiss n io p b || s.bgLost n p b

/-- Where the repair of column `c`'s strip of stripe `n` goes (R155, R160): the repair extent of its key, or a new one. -/
def State.repairPlace (s : State) (c n : Nat) : Option (Nat × Nat) × State :=
  let (g, k, _) := s.keyOf c n
  match s.tb.extents.find? fun e => e.col == c && e.grp == g && e.rank == k && e.repair with
  | some e => (some (e.holder, e.ext), s)
  | none =>
    if 4096 ≤ (s.tb.extents.filter fun e => e.repair).length then (none, s.evAt 448 Fld.MBR.EVENT.REPAIR_FULL)
    else match (s.holders c n).find? fun d => (s.power d).ps != 4 with
      | some d => (some (d, s.freeExtent d), s)
      | none => match s.holders c n with
        | d :: _ => (none, s.stow d)
        | [] => (none, s.evAt 448 Fld.MBR.EVENT.SPARE_EXHAUSTED)

/-- A repair is complete (R148, R160): recorded in the repair table; too many on a member fail it. -/
def State.repaired (s : State) (c n p d e : Nat) : State :=
  let (g, k, t) := s.keyOf c n
  let s1 := ((((s.recNow (.stripeBits 8 c 0 0 0 g k d e t)).unreadDone n p).placed c n).evAt 448 Fld.MBR.EVENT.REPAIRED).mbrShow.redispatch
  if (s1.col c).st = 2 ∧ s1.get Fld.MBR.FAIL_CFG.REPAIR_MAX < (s1.tb.extents.filter fun x => x.col == c && x.repair).length then
    s1.failMark c 0x07 else s1

/-- A range of column `c`'s strips is repaired by R160: the column is Online, or its strips stand on other members (R155, R162). -/
def State.repairable (s : State) (c : Nat) : Bool := (s.col c).st != 3 && (s.col c).st != 0

/-- The strip of position `p` can be read and this step did not read it (R160 step 1). -/
def State.unreadStrip (s : State) (n : Nat) (io : BgIo) (p : Nat) : Bool :=
  !s.bgReadAt n io p && (List.range 16).any fun b => s.available n p b 1

/-- Repair position `p` of stripe `n` from the strips read, its own blocks that pass among them (R160, R420).  Answers whether it was
repaired; without a place, or without sources, the range stays unreadable. -/
def State.repairFrom (s0 : State) (n p : Nat) (io : BgIo) : Bool × State :=
  let c := s0.layout.colAt n p
  let s := s0.bgLossAll n io
  if s.unreadLost n p io then (false, s.unreadDone n p)
  else if ¬ s.bgEnough n io ∨ s.unreadStrip n io p then (false, s)
  else match s.repairPlace c n with
    | (none, s1) => (false, s1)
    | (some (d, e), s1) =>
      let lba := (s1.layout.dataStrips + 4096 * e + (s1.keyOf c n).2.2) * 16
      let (ok, s2) := (s1.bgRecover n io p).bgWrite d n p 2 lba (s1.bgStrip n io p) io
      if ok then (true, s2.repaired c n p d e) else (false, s2)

/-- REPAIR_DONE (R160): the repair of an unreadable range. -/
def State.repair (s : State) (c n : Nat) (io : BgIo) : State :=
  let p := (s.layout.posOf n c).getD 0
  if s.unreadLost n p io then s.unreadDone n p
  else match s.bgBegin n io with
    | (true, s1) => (s1.repairFrom n p io).2
    | (false, s1) => s1

/-- REPAIR_DONE (R160, R162): the repair of an unreadable range completes. -/
def execRepairDone (col stripe : Nat) (io : BgIo) (s : State) : Host.Outcome State Fault Refusal :=
  if ¬ s.aon.coreUp then .next s else
  .next (if s.bgOk ∧ s.repairable col ∧ s.mb.unread.any fun u => u.1 == stripe && s.layout.colAt stripe u.2.1 == col then
      (s.repair col stripe io).settle
    else s)

/-! ### Recompute of a slot -/

/-- The member write of position `p` of stripe `n` that is still on its way, if there is one (R87). -/
def State.wayWrite (s : State) (n p : Nat) : Option MReq :=
  (s.mb.deferred ++ s.mb.downReqs ++ s.mb.ports.flatMap fun q => q.reqs ++ (q.tags.filter fun x => !x.2.quarantined).map fun x => x.2.req).find?
    fun r => r.write && r.stripe == n && r.pos == p

/-- Block `i` of a stripe that is rebuilt, as the part holds it (R87, R125): the tail block where it is the expected one, else that of
its strip's write on its way. -/
def State.recHeld (s : State) (k i : Nat) : Option Blk :=
  let x := s.slot k
  let ok (y : Blk) : Bool := s.zoneSealOk x.zone x.stripe (i / 16) (i % 16) y
  ((tget s.nv.tails (16 * k + i % 16)).filter ok).or (((s.wayWrite x.stripe (i / 16)).bind fun r => r.blks[i % 16]?).filter ok)

/-- What a recompute has for block `i` of its stripe: what the part holds of it, else the member's (R87, R125). -/
def State.recSrc (s : State) (k : Nat) (io : BgIo) (i : Nat) : Option Blk :=
  let x := s.slot k
  ((s.recHeld k i).or (s.bgGood x.stripe io (i / 16) (i % 16))).map fun b => blkFor b 0

/-- The strips that a recompute reads (R87): the data strips below the pointer that hold a block the part does not; the others only
where those blocks are not all there, so that they are reconstructed.  A strip on its way to its member is not read. -/
def State.recIo (s : State) (k : Nat) (io : BgIo) : BgIo :=
  let below := List.range (s.slot k).folded
  let away := { io with strips := io.strips.filter fun e => (s.wayWrite (s.slot k).stripe e.1).isNone }
  let near := { away with strips := away.strips.filter fun e => below.any fun i => i / 16 == e.1 && (s.recHeld k i).isNone }
  if below.all fun i => (s.recSrc k near i).isSome then near else away

/-- Block `i` of a stripe that is rebuilt and had not closed, from the P partial of before and the blocks at the same index of the
other folded positions, or with the Q partial where one of those is unavailable (R87, R91, R126).  A log block's identity is its tail
block's, where it has one. -/
def State.partRecover (s : State) (k : Nat) (io : BgIo) (i : Nat) (t : Option Blk) : Option Blk :=
  let x := s.slot k
  let (pos, j) := (i / 16, i % 16)
  let at_ (p : Nat) : Option Blk :=
    ((x.kept.find? fun e => e.1 == 16 * p + j).map fun e => blkFor e.2 0).or (s.recSrc k io (16 * p + j))
  let others := (List.range s.layout.k).filter fun p => p != pos && decide (16 * p + j < x.was)
  let y := others.find? fun p => (at_ p).isNone
  let e := s.expSeal 0 x.stripe pos j (s.zone x.zone).nsid (s.lbaOf x.zone ((x.stripe - x.zone * s.spz) * s.stripeBlocks + i))
  if x.p = [] then none
  else match recover1 pos y (others.filterMap fun p => (at_ p).map fun b => (p, b)) (some (s.parityBlk x 1 j 0))
      (some (s.parityBlk x 2 j 0)) with
    | some v => match t with
      | some b => reconBlk v (if (s.zone x.zone).log then { e with nsid := b.tag.nsid, lba := b.tag.lba } else e)
      | none =>
        if (s.zone x.zone).log then some (sealed ⟨v.take 4096, (v.drop 4096).take 16, s.bgSeal x.stripe pos j, 0, 0⟩) else reconBlk v e
    | none => none

/-- Block `i` of a recompute (R87, R126): as it stands in the tail or on its member; else recovered, a tail block from the
partials, any other from the stripe's members; else a tail block is lost and counts as zeroes, and so does a block at which more
than two positions are lacking or whose recovery fails its check; none while the sources are not there. (DEDUCED, log entry 84.) -/
def State.recBlock (s : State) (k : Nat) (io : BgIo) (i : Nat) : Option Blk × State :=
  let x := s.slot k
  let (pos, j) := (i / 16, i % 16)
  let o := (x.stripe - x.zone * s.spz) * s.stripeBlocks + i
  let e := s.expSeal 0 x.stripe pos j (s.zone x.zone).nsid (s.lbaOf x.zone o)
  match s.recSrc k io i with
  | some b => (some b, s)
  | none => match (tget s.nv.tails (16 * k + j)).filter fun _ => decide (x.folded / 16 * 16 ≤ i) with
    | some t =>
      let s1 := s.tailBad k pos j t e
      let (b, s2) := match s.partRecover k io i (some t) with
        | some b => (b, s1)
        | none => s1.tailLost k o e
      (some b, s2.modNv fun v => { v with tails := tput v.tails (16 * k + j) b })
    | none => match (s.partRecover k io i none).or (s.bgRecov x.stripe io pos j) with
      | some b => (some (blkFor b 0), s.bgRecovers x.stripe io pos [j])
      | none =>
        if (s.bgSum x.stripe io pos j false).isSome then
          (some (sealed ⟨List.replicate 4096 0, List.replicate 16 0, e, 0, 0⟩), s.bgRecovers x.stripe io pos [j])
        else if 2 < (s.bgLack x.stripe io j).length then
          (some (sealed ⟨List.replicate 4096 0, List.replicate 16 0, e, 0, 0⟩), s.lossRange x.stripe j 1 (s.bgLack x.stripe io j))
        else (none, s)

/-- The members that a recompute reads are Active (R91): it is no Background work. -/
def State.recReach (s : State) (cols : List Nat) : Option State :=
  cols.foldl (fun (a : Option State) c => a.bind fun s => s.reach1 cols c) (some s)

/-- SLOT_RECOMPUTE_DONE (R87, R89): the blocks below the pointer, read back from Garnet and from the members, are folded into the
cleared slot, which is Open again. -/
def State.recomputeDone (s0 : State) (k : Nat) (io : BgIo) : State :=
  let x := s0.slot k
  if x.st ≠ 3 ∨ x.freeing then s0
  else
    let io := s0.recIo k io
    match s0.recReach (s0.bgCols x.stripe io) with
    | none => s0
    | some s' =>
    let s := s'.bgReads x.stripe io
    let (l, s1) := (List.range x.folded).foldl (fun (a : List (Option Blk) × State) i =>
      let (b, t) := a.2.recBlock k io i; (a.1 ++ [b], t)) ([], s)
    if l.any fun b => b.isNone then s0
    else
      let l := l.filterMap fun b => b
      let y := l.zipIdx.foldl (fun y e => foldBlk y (e.2 / 16) (e.2 % 16) e.1)
        { x with folded := 0, p := [], q := [], pm := [], qm := [], was := 0, kept := [] }
      ((s1.setSlot k { y with st := 1, cur := l.drop (x.folded / 16 * 16) }).pump x.zone).linesRetire io.fixed

/-- SLOT_RECOMPUTE_DONE (R87). -/
def execSlotRecomputeDone (slot : Nat) (io : BgIo) (s : State) : Host.Outcome State Fault Refusal :=
  if ¬ s.aon.coreUp then .next s else
  .next (s.recomputeDone slot io)

end Sys2Proof.Machine
end

