-- ==== Sys2Proof/Machine/MemberEvents.lean ====
section
/-! DEFINITION. Events of members: power transitions (R98 to R114), absence, admission and adoption (R146, R147), member
commands, rebuild, resynchronisation, copyback, scrub and repair (R154 to R167). -/

namespace Sys2Proof.Machine
open Sys2Proof

/-! ### Power -/

/-- DARK_EPOCH_BOUNDARY (R98): a new dark set is chosen and its change starts. -/
def execDarkEpochBoundary (s : State) : Host.Outcome State Fault Refusal :=
  if ¬ s.aon.coreUp then .next s else
  .next (if s.get Fld.MBR.DARK_EPOCH.MINUTES = 0 ∨ s.lay.isNone then s
    else (s.darkChange s.chooseDark).settle)

/-- IDLE_TIMEOUT (R102, R103): a member without a request for IDLE_AFTER goes to Idle. -/
def State.idleTimeout (s : State) (c : Nat) : State :=
  if (s.power c).ps = 1 ∧ s.quiet c then
    s.toIdle c
  else s

/-- IDLE_TIMEOUT (R102). -/
def execIdleTimeout (slot : Nat) (s : State) : Host.Outcome State Fault Refusal :=
  if ¬ s.aon.coreUp then .next s else
  .next (s.onSlot slot State.idleTimeout)

/-- ACTIVATION_DONE (R102, R103): an Idle member that a request needs becomes Active while the cap has a place. -/
def State.activationDone (s : State) (c : Nat) : State :=
  if (s.power c).ps = 2 ∧ (s.inPs 1).length < s.get Fld.MBR.PWR_CFG.ACTIVE_MAX ∧ s.mb.deferred.any (fun r => r.col == c) then
    (s.toActive c).redispatch
  else s

/-- ACTIVATION_DONE (R103). -/
def execActivationDone (slot : Nat) (s : State) : Host.Outcome State Fault Refusal :=
  if ¬ s.aon.coreUp then .next s else
  .next (s.onSlot slot State.activationDone).settle

/-- The controller's shutdown is over, or no longer waited for: PERST_N falls, and a Darkening member reaches its target
(R109, R113), Stowed where it may not enter Dark any more (R19, R96). -/
def State.shutdownOver (s : State) (n : Nat) : State :=
  (s.perst n false).onSlot n fun s c =>
    if (s.power c).ps = 3 then
      ((s.setPs c (if (s.power c).target = 4 ∧ ¬ s.darkMay c then 5 else (s.power c).target)).takeUp c).darkPhase else s

/-- MEMBER_SHUTDOWN_COMPLETE (R109). -/
def execMemberShutdownComplete (slot : Nat) (s : State) : Host.Outcome State Fault Refusal :=
  if ¬ s.aon.coreUp then .next s else
  .next (if s.pt slot = ptQuiescing ∧ bit s.aon.slotPerst slot then (s.shutdownOver slot).settle else s)

/-- SHUTDOWN_WAIT_TIMEOUT (R109): the slot goes off anyway, with ABRUPT_OFF and a record that names the member. -/
def execShutdownWaitTimeout (slot waitMs : Nat) (s : State) : Host.Outcome State Fault Refusal :=
  if ¬ s.aon.coreUp then .next s else
  .next (if s.pt slot = ptQuiescing ∧ bit s.aon.slotPerst slot then
      let s1 := (s.evAt 463 Fld.MBR.PWR_EVENT.ABRUPT_OFF).onSlot slot fun s c => s.detail 0x22 465 (s.memberIdOf c) waitMs 0
      (s1.shutdownOver slot).settle
    else s)

/-- The identity of the drive in a slot is the one recorded for its column. -/
def isDrive (x : Column) (d : DriveId) : Bool := x.serial == d.serial && x.nguidCrc == d.nguidCrc

/-- A column whose member has not been identified yet: layout creation takes the drive found at its first wake (R145). -/
def unnamedCol (x : Column) : Bool := x.serial == 0 && x.nguidCrc == 0

/-- A member is Idle after its wake or its return (R106, R110): Set Features 0Ch turns its own transitions off and it enters its low
state (R103); it catches up when its bitmap is not empty, and darkens at once when its ON gate has closed (R108). -/
def State.memberIdle (s : State) (c : Nat) (d : DriveId) : State :=
  let n := s.slotOfCol c
  let s1 := s.modPort n fun p => { p with drive := some d, probe := false }
  let s2 := (s1.modPower c fun p => { p with catching := (s.col c).groups != [] }).modMb fun m => { m with
    resyncPos := tdel m.resyncPos c }
  let s3 := ((((s2.emit (.member n 0 0x13 0x0C 0 [])).reserveOn c).toIdle c).keepersRetry.darkPhase).redispatch
  if s3.onOpen c then s3 else s3.darken c (if c ∈ s3.chooseFrom s3.darkNow then 4 else 5)

/-- WAKE_TIMEOUT (R110). -/
def execWakeTimeout (slot : Nat) (s : State) : Host.Outcome State Fault Refusal :=
  if ¬ s.aon.coreUp then .next s else
  .next (s.onSlot slot fun s c => if (s.power c).ps = 6 then s.wakeFail c else s).settle

/-- A write of an MBR power register, 0 PWR_CFG to 3 WAKE_CFG (R102, R114), in force at once; LIMIT 3, an ACTIVE_MAX and a
TIMEOUT out of range leave their fields (R389). -/
def State.pwrWrite (s : State) (which v : Nat) : State :=
  match which with
  | 0 =>
    let old := s.get Fld.MBR.PWR_CFG.LIMIT
    let cap := if v % 64 < s.layout.width ∨ 48 < v % 64 then s.get Fld.MBR.PWR_CFG.ACTIVE_MAX else v % 64
    let lim := if bits v 16 2 = 3 then old else bits v 16 2
    let s1 := s.setN Reg.MBR.PWR_CFG (cap + 65536 * lim)
    (if lim < old then s1.limitFall else s1).capFall 48
  | 1 => s.setN Reg.MBR.DARK_EPOCH (v % 16384)
  | 2 => s.setN Reg.MBR.IDLE_CFG (v % 65536 + 2 ^ 24 * bits v 24 8)
  | 3 =>
    let t := if v % 64 < 5 ∨ 60 < v % 64 then s.get Fld.MBR.WAKE_CFG.TIMEOUT else v % 64
    s.setN Reg.MBR.WAKE_CFG (t + 65536 * bits v 16 16)
  | _ => s

/-- PWR_CONFIG_WRITE (R114). -/
def execPwrConfigWrite (which value : Nat) (s : State) : Host.Outcome State Fault Refusal :=
  if ¬ s.aon.coreUp then .next s else
  .next (s.pwrWrite which value).settle

/-! ### Absence -/

/-- LINK_DOWN_ABSENT (R147): the link of a member that is powered, or whose removal is done, has been down for more than
2 s. -/
def execLinkDownAbsent (slot : Nat) (s : State) : Host.Outcome State Fault Refusal :=
  if ¬ s.aon.coreUp then .next s else
  .next (s.onSlot slot fun s c =>
    if s.pt slot ≠ ptUp ∧ (s.poweredUp c ∨ (s.col c).st = 6 ∨ ((s.port slot).removing ∧ s.pt slot = ptOff)) then
      let s1 := s.absentColumn c
      (if s.pt slot = ptOff then s1.awaitAbsent slot c else s1).modPort slot fun p => { p with removing := false }
    else s).settle

/-- ABSENT_HOLD_EXPIRY (R147): not while a drive in the slot waits for its probe. -/
def execAbsentHoldExpiry (col : Nat) (s : State) : Host.Outcome State Fault Refusal :=
  if ¬ s.aon.coreUp then .next s else
  let p := s.port (s.slotOfCol col)
  .next (if (s.col col).st = 3 ∧ ¬ p.awaiting ∧ ¬ p.probe then (s.failColumn col 0x08).settle else s)

/-! ### Admission -/

/-- Size that counts for check 0x12: enough blocks, and for a zoned member zones as R275 asks. -/
def State.sizeOk (s : State) (d : DriveId) : Bool :=
  let l := s.layout
  let x := (4096 + d.zoneCap - 1) / d.zoneCap
  decide (l.memberStrips * 16 ≤ d.blocks)
    && (!d.zoned || (d.zoneCap != 0 && decide (s.get Fld.DRP.ZONED.RUN_MAX ≤ d.zoneCap)
      && decide (s.rd64 Reg.ZMP.ZONE_COUNT_LO + (l.spareStrips + 4095) / 4096 * x ≤ d.zones) && decide (263 ≤ d.morMar)))

/-- The first failing check of R146 for a drive in the slot of column `c` (none for an unmapped slot); 0 when it passes. -/
def State.admitCode (s : State) (c : Option Nat) (d : DriveId) : Nat :=
  if ¬ d.fmtOk then 0x11
  else if ¬ s.sizeOk d then 0x12
  else if s.flag Fld.SWC.TOPO_CFG.PARTNERED ∧ ¬ d.resvOk then 0x13
  else if s.columns.any fun k => some k ≠ c ∧ (s.col k).st ≠ 0 ∧ ¬ unnamedCol (s.col k) ∧ isDrive (s.col k) d then 0x14
  else match c with
    | none => 0x16
    | some k =>
      if ((s.col k).st = 4 ∨ (s.col k).st = 5) ∧ ¬ unnamedCol (s.col k) ∧ isDrive (s.col k) d then 0x15
      else if (s.col k).st = 0 ∨ (s.col k).st = 3 ∨ (s.col k).st = 4 ∨ (s.col k).st = 5 then 0
      else 0x16

/-- A drive is refused (R146): REFUSED, the code, the count, and the slot goes off; a slot that no column has keeps the code
itself. -/
def State.refuse (s : State) (n code : Nat) : State :=
  let s1 := (s.evAt 448 Fld.MBR.EVENT.REFUSED).satInc Fld.MBR.MCMD_RESULT.REFUSALS
  (match s1.colOfSlot n with
    | some c => s1.setCol c { s1.col c with refused := true, cause := code }
    | none => s1.modPort n fun p => { p with refusal := code }).powerDown n

/-- A drive is adopted into column `c` (R145, R147): formatted (kind 8), its incarnation counted, the rebuild context
closed; copyback begins.  It is Idle when its port is Up, otherwise it waits for its wake.  CAUSE reads 0 then. (DESIGN CHOICE,
log entry 156.) -/
def State.adopt (s : State) (c : Nat) (d : DriveId) : State :=
  let n := s.slotOfCol c
  let x := s.col c
  let s0 := if x.ctx.isSome then s.ctxEnd c else s.modMb fun m => { m with ctxWait := dropEl m.ctxWait c }
  let s1 := (s0.emit (.member n 0 8 0 0 [])).setCol c
    { x with st := 6, inc := (x.inc + 1) % 1024, cause := 0, refused := false, serial := d.serial, nguidCrc := d.nguidCrc,
             groups := [], ctx := none, cursor := 0, crit := 0, copyCur := 0 }
  let s2 := s1.modMb fun m => { m with
    misTimes := tdel m.misTimes n, toTimes := tdel m.toTimes n, resyncPos := tdel m.resyncPos c }
  let s3 := s2.modPort n fun p => { p with awaiting := false, mzones := [] }
  if s3.pt n = ptUp then s3.memberIdle c d
  else (s3.modPort n fun p => { p with drive := some d, probe := false }).setPs c 5

/-- DRIVE_ADMISSION_CHECK (R146, R147, R285): the probed drive is refused, returns from Absent, or is adopted; otherwise its
slot goes off again.  A different drive in the slot of an Absent column fails the column first.  CAUSE reads 0 after a return.
(DESIGN CHOICE, log entry 156.) -/
def State.admission (s0 : State) (n : Nat) (d : DriveId) : State :=
  if ¬ (s0.port n).probe ∨ s0.pt n ≠ ptUp then s0
  else
    let differs (c : Nat) : Bool := (s0.col c).st == 3 && !unnamedCol (s0.col c) && !isDrive (s0.col c) d
    let s := s0.onSlot n fun s c => if differs c then s.failColumn c 0x09 else s
    let s1 := s.modPort n fun p => { p with drive := some d }
    let code := s1.admitCode (s1.colOfSlot n) d
    if code ≠ 0 then s1.refuse n code
    else match s1.colOfSlot n with
      | none => s1.powerDown n
      | some c =>
        if (s1.col c).st = 3 then
          let s2 := (s1.setCol c { s1.col c with st := 2, cause := 0, serial := d.serial, nguidCrc := d.nguidCrc }).evAt 448
            Fld.MBR.EVENT.MEMBER_RETURNED
          (if unnamedCol (s1.col c) then s2.emit (.member n 0 8 0 0 []) else s2).memberIdle c d
        else if s1.flag Fld.MBR.ABSENT_CFG.AUTO_ADOPT then s1.adopt c d
        else s1.powerDown n

/-- DRIVE_ADMISSION_CHECK (R146). -/
def execDriveAdmissionCheck (slot : Nat) (drive : DriveId) (s : State) : Host.Outcome State Fault Refusal :=
  if ¬ s.aon.coreUp then .next s else
  .next (s.admission slot drive).settle

/-- WAKE_COMPLETE (R110): the identity and one block's seal are checked; a different drive fails the column with CAUSE 0x09
(R148).  A column whose member has not been identified yet takes the drive found, checked and formatted as R146 asks; a drive that
is refused ends the wait for the wake. (DEDUCED, log entry 93.) -/
def State.wakeComplete (s : State) (c : Nat) (d : DriveId) (sealOk : Bool) (ms : Nat) : State :=
  let x := s.col c
  let n := s.slotOfCol c
  let code := s.admitCode (some c) d
  if (s.power c).ps ≠ 6 ∨ s.pt n ≠ ptUp then s
  else if ¬ unnamedCol x ∧ ¬ isDrive x d then (s.powerDown n).failColumn c 0x09
  else if unnamedCol x ∧ code ≠ 0 ∧ code < 0x15 then s.refuse n code
  else if ¬ unnamedCol x ∧ ¬ sealOk then s.wakeFail c
  else
    let s1 := if unnamedCol x then (s.emit (.member n 0 8 0 0 [])).setCol c { x with serial := d.serial, nguidCrc := d.nguidCrc } else s
    (s1.setN Reg.MBR.WAKE_LAST (ms % 65536 + 65536 * n)).memberIdle c d

/-- WAKE_COMPLETE (R110). -/
def execWakeComplete (slot : Nat) (drive : DriveId) (sealOk : Bool) (ms : Nat) (s : State) :
    Host.Outcome State Fault Refusal :=
  if ¬ s.aon.coreUp then .next s else
  .next (s.onSlot slot fun s c => s.wakeComplete c drive sealOk ms).settle

/-! ### Member commands -/

/-- MBR.MCMD_RESULT.CODE of the last command. -/
def State.mcmdCode (s : State) (c : Nat) : State := s.put Fld.MBR.MCMD_RESULT.CODE c

/-- Without column `c` some stripe would have more than two lacking positions over a range (R420): at its first block, or where an
unreadable range begins. -/
def State.wouldLose (s : State) (c : Nat) : Bool :=
  (s.tb.zones.flatMap fun z => s.zoneStripes z.1).any fun n =>
    (0 :: (s.mb.unread.filter fun u => u.1 == n).map fun u => u.2.2.1).any fun b =>
      decide (2 < (s.positions.filter fun p => !s.unwritten n p && (s.lacking n p b 1
        || (match s.readPlace n p with | some (_, d) => d == c | none => false))).length)

/-- MEMBER_FAIL_CMD (R148): FAIL, refused with code 2 when data would be at stake. -/
def State.memberFailCmd (s : State) (n : Nat) : State :=
  match s.colOfSlot n with
  | none => s.mcmdCode 1
  | some c =>
    if ¬ ((s.col c).st = 2 ∨ (s.col c).st = 3 ∨ (s.col c).st = 6) then s.mcmdCode 1
    else if s.wouldLose c then s.mcmdCode 2
    else (s.failColumn c 0x0A).mcmdCode 0

/-- MEMBER_FAIL_CMD (R148). -/
def execMemberFailCmd (slot : Nat) (s : State) : Host.Outcome State Fault Refusal :=
  if ¬ s.aon.coreUp then .next s else
  .next (s.memberFailCmd slot).settle

/-- MEMBER_ADOPT (R147): the drive in the slot, which its probe has shown to pass R146. -/
def State.memberAdopt (s : State) (n : Nat) : State :=
  if ¬ s.flag (Fld.DRP_P.SLOT_STATUS.PRESENT n) then s.mcmdCode 3
  else match s.colOfSlot n, (s.port n).drive with
    | some c, some d =>
      if ((s.col c).st = 0 ∨ (s.col c).st = 4 ∨ (s.col c).st = 5) ∧ ¬ (s.col c).refused ∧ s.admitCode (some c) d = 0 then
        (s.adopt c d).mcmdCode 0
      else s.mcmdCode 1
    | _, _ => s.mcmdCode 1

/-- MEMBER_ADOPT (R147). -/
def execMemberAdopt (slot : Nat) (s : State) : Host.Outcome State Fault Refusal :=
  if ¬ s.aon.coreUp then .next s else
  .next (s.memberAdopt slot).settle

/-- MEMBER_CLEAR_REFUSED (R146): the refusal is lifted; the slot awaits its probe as any present slot of such a column.
(DEDUCED, log entry 54.) -/
def State.clearRefused (s : State) (n : Nat) : State :=
  if ¬ s.flag (Fld.DRP_P.SLOT_STATUS.PRESENT n) then s.mcmdCode 3
  else match s.colOfSlot n with
    | some c =>
      if (s.col c).refused then
        ((s.setCol c { s.col c with refused := false }).modPort n fun p => { p with awaiting := true }).mcmdCode 0
      else s.mcmdCode 1
    | none =>
      if (s.port n).refusal ≠ 0 then (s.modPort n fun p => { p with refusal := 0, awaiting := true }).mcmdCode 0 else s.mcmdCode 1

/-- MEMBER_CLEAR_REFUSED (R146). -/
def execMemberClearRefused (slot : Nat) (s : State) : Host.Outcome State Fault Refusal :=
  if ¬ s.aon.coreUp then .next s else
  .next (s.clearRefused slot).settle

/-! ### Background work -/

/-- Stripe `n` lies in a zone neither Empty nor Offline, at or below its write pointer (R157). -/
def State.inData (s : State) (n : Nat) : Bool :=
  let z := s.zoneOfStripe n
  s.zoneData z && decide ((n - z * s.spz) * s.stripeBlocks < (s.zone z).wp)

/-- The next stripe from `n` on whose row holds column `c`; the end of the layout when there is none. -/
def State.nextStripe (s : State) (c n : Nat) : Nat :=
  match (List.range s.layout.rows.length).find? fun j => decide (c ∈ s.layout.row (n + j)) with
  | some j => if n + j < s.layout.stripes then n + j else s.layout.stripes
  | none => s.layout.stripes

/-- Position `p` of stripe `n` has a spare or repair place that only a read can judge, and this step did not read it (R151, R157):
the work waits for it. -/
def State.unprobed (s : State) (n : Nat) (io : BgIo) (p : Nat) : Bool :=
  let x := s.col (s.layout.colAt n p)
  (x.st == 4 || x.st == 6) && !s.unwritten n p && !s.bgReadAt n io p
    && (match s.readPlace n p with | some (loc, _) => loc != 0 && !(x.st == 4 && decide (n < x.cursor)) | none => false)

/-- One strip of rebuild_stripe (R157, R160, R165): to the new member where its column is the target, to its spare place for a
Failed column, repaired for an Online one.  Answers whether the sweep may go on. -/
def State.rebuildPos (s : State) (n : Nat) (io : BgIo) (target : Option Nat) (p : Nat) : Bool × State :=
  let c := s.layout.colAt n p
  let blks := s.bgStrip n io p
  if target = some c then (s.bgRecover n io p).bgWrite c n p 0 (s.layout.index n c * 16) blks io
  else match (s.col c).st with
    | 4 => match (s.bgRecover n io p).placeKey c n with
      | (some e, s1) =>
        let (ok, s2) := s1.bgWrite e.holder n p 1 (s1.extentLba e (s1.keyOf c n).2.2) blks io
        (ok, if ok then (s2.unreadDone n p).redispatch else s2)
      | (none, s1) => (s1.holders c n == [], s1)
    | 2 => (true, (s.repairFrom n p io).2)
    | _ => (true, s)

/-- rebuild_stripe of R157, with the strips of stripe `n` read: losses are recorded, then every position that cannot serve is
recovered and goes to its place.  Answers whether the sweep may go on; a stripe short of sources, or of a powered holder,
waits. -/
def State.rebuildOne (s0 : State) (n : Nat) (io : BgIo) (target : Option Nat) : Bool × State :=
  let s := s0.bgLossAll n io
  if ¬ s.bgEnough n io ∨ s.positions.any (s.unprobed n io) then (false, s)
  else (s.positions.filter fun p => target == some (s.layout.colAt n p)
      || (List.range 16).any fun b => s.bgMiss n io p b && !s.bgLost n p b).foldl
    (fun (a : Bool × State) p => if a.1 then a.2.rebuildPos n io target p else a) (true, s)

/-- present(n, c) of R157: below the cursor, or the probe of R151, read in this step, passes for all 16 blocks. -/
def State.present (s : State) (n c : Nat) (io : BgIo) : Bool :=
  decide (n < (s.col c).cursor) || (List.range 16).all fun b => (s.bgGood n io ((s.layout.posOf n c).getD 0) b).isSome

/-- A sweep visits stripe `n` for the columns `es` (R157): where the strip of one of them is not present, the stripe is rebuilt.
Answers whether the sweep may go on. -/
def State.sweepStripe (s : State) (n : Nat) (es : List Nat) (io : BgIo) : Bool × State :=
  if ¬ s.inData n ∨ es.all fun e => decide (n < (s.col e).cursor) then (true, s)
  else match s.bgBegin n io with
    | (false, s1) => (false, s1)
    | (true, s1) => if es.all fun e => s1.present n e io then (true, s1) else s1.rebuildOne n io none

/-- Strips of column `c` that data needs and no place holds (R157): those of a key without an extent, and those passed for want of a
holder before their key had one. -/
def State.unplaced (s : State) (c : Nat) : Bool :=
  (s.mb.unplacedAt.any fun e => e.1 == c && s.inData e.2 && (s.extentOf c e.2 true).isNone
    && match s.layout.posOf e.2 c with | some p => !s.unwritten e.2 p && !s.stripeLost e.2 p | none => false)
  || s.tb.zones.any fun z => (s.zoneStripes z.1).any fun n => match s.layout.posOf n c with
    | some p => (s.extentOf c n false).isNone && (s.extentOf c n true).isNone && !s.unwritten n p && !s.stripeLost n p
    | none => false

/-- A cursor moves on: with a MEMBER record at every 65,536 stripes (R158). -/
def State.cursorMove (s : State) (c old new : Nat) (f : Column → Column) : State :=
  if old / 65536 = new / 65536 then s.modCol c f else s.setCol c (f (s.col c))

/-- Both sweeps of column `c` are complete and nothing is unplaced: it becomes Rebuilt (R147, R157).  CAUSE keeps its code.
(DESIGN CHOICE, log entry 156.) -/
def State.rebuildEnd (s : State) (c : Nat) : State :=
  if (s.col c).cursor < s.layout.stripes ∨ (s.col c).crit < s.layout.stripes ∨ s.unplaced c then s
  else
    let s1 := (s.setCol c { s.col c with st := 5, ctx := none }).evAt 448 Fld.MBR.EVENT.REBUILD_DONE
    s1.ctxEnd c

/-- The critical sweep of column `c` takes its next stripe (R157, R159). -/
def State.critStripe (s : State) (c : Nat) (io : BgIo) : State :=
  let end_ := s.layout.stripes
  let n := s.nextStripe c (s.col c).crit
  if end_ ≤ n then ((s.cursorMove c 0 65536 fun x => { x with crit := end_ }).critShow).rebuildEnd c
  else
    let earlier := s.openCtxs.filter fun e => decide ((s.col e).ctx.getD 0 < (s.col c).ctx.getD 0) && decide (e ∈ s.layout.row n)
    let (ok, s1) := s.sweepStripe n earlier io
    if ok then ((s1.cursorMove c (s1.col c).crit (n + 1) fun x => { x with crit := n + 1 }).critShow).rebuildEnd c else s1

/-- The normal sweep of column `c` takes its next stripe (R157). -/
def State.normalStripe (s : State) (c : Nat) (io : BgIo) : State :=
  let end_ := s.layout.stripes
  let n := s.nextStripe c (s.col c).cursor
  if end_ ≤ (s.col c).cursor then s.rebuildEnd c
  else if end_ ≤ n then (s.cursorMove c 0 65536 fun x => { x with cursor := end_ }).rebuildEnd c
  else
    let (ok, s1) := s.sweepStripe n [c] io
    if ok then (s1.cursorMove c (s1.col c).cursor (n + 1) fun x => { x with cursor := n + 1 }).rebuildEnd c else s1

/-- The context whose normal sweep is next (R157): round robin in failure order, among those that have stripes left. -/
def State.nextSweep (s : State) : Option Nat :=
  let ready := s.openCtxs.filter fun c => decide ((s.col c).cursor < s.layout.stripes)
  let last := (s.col s.mb.lastSweep).ctx
  (ready.find? fun c => decide (last.isSome ∧ last.getD 0 < (s.col c).ctx.getD 0)).or ready.head?

/-- REBUILD_STRIPE (R157): critical sweeps come first, in failure order; then the normal sweeps take a stripe each in turn, one
that has to wait passing its turn; a column whose sweeps are complete may become Rebuilt at any time. (DEDUCED, log entry 50.) -/
def State.rebuildStripe (s : State) (col : Nat) (io : BgIo) : State :=
  match s.openCtxs.find? fun c => decide ((s.col c).crit < s.layout.stripes) with
  | some c => if c = col then s.critStripe c io else s
  | none =>
    if (s.col col).ctx.isNone then s
    else if s.layout.stripes ≤ (s.col col).cursor then s.normalStripe col io
    else if s.nextSweep = some col then (s.modMb fun m => { m with lastSweep := col }).normalStripe col io
    else s

/-- REBUILD_STRIPE (R157). -/
def execRebuildStripe (col : Nat) (io : BgIo) (s : State) : Host.Outcome State Fault Refusal :=
  if ¬ s.aon.coreUp then .next s else
  .next (if s.bgOk then (s.rebuildStripe col io).settle else s)

/-- Group bit `grp` of column `c` clears, and STALE of each of its stripes that no other member needs (R154). -/
def State.groupDone (s : State) (c grp : Nat) : State :=
  let s1 := s.recNow (.stripeBits 4 c 0 grp 1 0 0 0 0 0)
  let mine := s1.tb.stale.filter fun n => n / 65536 == grp
    && !(s1.layout.row n).any fun d => d != c && decide (grp ∈ (s1.col d).groups)
  let s2 := (zoneRuns mine).foldl (fun s u => s.recNow (.stripeBits 2 c 0 u.1 u.2 0 0 0 0 0)) s1
  if (s2.col c).groups = [] then
    ((s2.modPower c fun p => { p with catching := false }).modMb fun m => { m with resyncPos := tdel m.resyncPos c }).evAt 448
      Fld.MBR.EVENT.RESYNC_DONE |>.mbrShow
  else s2.mbrShow

/-- Stale strips of group `grp` that the resynchronisation of column `c` has not written yet (R154). -/
def State.resyncTodo (s : State) (c grp : Nat) : List Nat :=
  let pos := tgetD s.mb.resyncPos c 0
  s.tb.stale.filter fun n => n / 65536 == grp && (pos == 0 || (pos - 1) / 65536 != grp || decide (pos ≤ n)) && (s.layout.posOf n c).isSome

/-- The least of some numbers. -/
def leastOf (n : Nat) (r : List Nat) : Nat := r.foldl (fun m x => if x < m then x else m) n

/-- The stale strip of stripe `n` is made anew and written to column `c`'s member (R154): lost blocks as poison (R161), a strip
that is wholly lost without a read; a strip that the zone, reset since, no longer has needs nothing.  Answers whether the sweep may pass. -/
def State.resyncOne (s : State) (c n : Nat) (io : BgIo) : Bool × State :=
  let p := (s.layout.posOf n c).getD 0
  let put (s : State) : Bool × State := s.bgWrite c n p 0 (s.layout.index n c * 16) (s.bgStrip n io p) io
  if ¬ s.inData n ∨ s.unwritten n p then (true, s)
  else if s.stripeLost n p then put s
  else match s.bgBegin n io with
    | (false, s1) => (false, s1)
    | (true, s1) =>
      let s2 := s1.bgLossAll n io
      if s2.bgEnough n io then put (s2.bgRecover n io p) else (false, s2)

/-- RESYNC_STRIP (R154): the next stale strip of a powered member, groups and stripes in ascending order, or the end of a
group; writes that waited for it to pass their stripe go on. -/
def State.resyncStrip (s : State) (c : Nat) (io : BgIo) : State :=
  match (s.col c).groups with
  | [] => s
  | g :: gs =>
    let grp := leastOf g gs
    match s.resyncTodo c grp with
    | [] => (s.groupDone c grp).redispatch
    | n :: r =>
      let n := leastOf n r
      let (ok, s1) := s.resyncOne c n io
      if ok then
        let s2 := s1.modMb fun m => { m with resyncPos := tput m.resyncPos c (n + 1) }
        (if s2.resyncTodo c grp = [] then s2.groupDone c grp else s2).redispatch
      else s1

/-- RESYNC_STRIP (R154). -/
def execResyncStrip (col : Nat) (io : BgIo) (s : State) : Host.Outcome State Fault Refusal :=
  if ¬ s.aon.coreUp then .next s else
  .next (if s.bgOk ∧ s.poweredUp col then (s.resyncStrip col io).settle else s)

/-- The copy cursor passed the last stripe (R165): the column's spare and repair extents are freed and it is Online.  CAUSE keeps
its code. (DESIGN CHOICE, log entry 156.) -/
def State.copybackEnd (s : State) (c : Nat) : State :=
  let s1 := (s.freeExtents (s.tb.extents.filter fun e => e.col == c)).modMb fun m => { m with
    unplacedAt := m.unplacedAt.filter fun e => e.1 != c }
  ((s1.setCol c { s1.col c with st := 2, copyCur := 0 }).evAt 448 Fld.MBR.EVENT.COPYBACK_DONE).mbrShow.redispatch

/-- The strip of stripe `n` for the new member (R165): poison where it is lost, else a copy of its spare or repair place, else by
rebuild_stripe.  Answers whether it was written. -/
def State.copybackOne (s : State) (c n : Nat) (io : BgIo) : Bool × State :=
  let p := (s.layout.posOf n c).getD 0
  let put (s : State) : Bool × State := s.bgWrite c n p 0 (s.layout.index n c * 16) (s.bgStrip n io p) io
  if ¬ s.inData n ∨ s.unwritten n p then (true, s)
  else if s.stripeLost n p then put s
  else match s.bgBegin n io with
    | (false, s1) => (false, s1)
    | (true, s1) => if s1.present n c io then put s1 else s1.rebuildOne n io (some c)

/-- COPYBACK_STRIPE (R165): the next strip of the new member, or the end of copyback. -/
def State.copybackStripe (s : State) (c : Nat) (io : BgIo) : State :=
  let n := s.nextStripe c (s.col c).copyCur
  if s.layout.stripes ≤ n then s.copybackEnd c
  else
    let (ok, s1) := s.copybackOne c n io
    if ok then (s1.unreadDone n ((s.layout.posOf n c).getD 0)).cursorMove c (s1.col c).copyCur (n + 1) fun x => { x with copyCur := n + 1 }
    else s1

/-- COPYBACK_STRIPE (R165). -/
def execCopybackStripe (col : Nat) (io : BgIo) (s : State) : Host.Outcome State Fault Refusal :=
  if ¬ s.aon.coreUp then .next s else
  .next (if s.bgOk ∧ (s.col col).st = 6 ∧ s.poweredUp col then (s.copybackStripe col io).settle else s)

/-! ### Scrub -/

/-- A scrub pass may run (R66, R166): while MBR.SCRUB_CFG.ENABLE is 1, or as the extended self-test. -/
def State.scrubRuns (s : State) : Bool := s.flag Fld.MBR.SCRUB_CFG.ENABLE || s.mb.scrubSelf

/-- Stripe `n` counts as scrubbed in the running pass (R166). -/
def State.scrubbed (s : State) (n : Nat) : Bool := decide (n ∈ s.tb.scrubBits) == (s.tb.scrubPass % 2 == 1)

/-- Stripes marked in the running pass (R166). -/
def State.scrubMarked (s : State) : Nat :=
  if s.tb.scrubPass % 2 = 1 then s.tb.scrubBits.length else s.layout.stripes - s.tb.scrubBits.length

/-- MBR.SCRUB_CURSOR and SCRUB_PASS, and the percentage of the extended self-test (R66, R166). -/
def State.scrubShow (s : State) : State :=
  let all := s.layout.stripes
  let pct := if all = 0 then 0 else 100 * s.scrubMarked / all
  let s := if s.mb.scrubSelf then s.put Fld.NVQ.SELFTEST.PERCENT pct else s
  (s.wr64 Reg.MBR.SCRUB_CURSOR_LO s.tb.scrubCur).setN Reg.MBR.SCRUB_PASS (pct + 256 * (s.tb.scrubPass % 2 ^ 24))

/-- A new pass begins at stripe 0 (R166). -/
def State.scrubBegin (s : State) : State :=
  ((s.modTb fun t => { t with scrubPass := t.scrubPass + 1, scrubCur := 0 }).modMb fun m =>
    { m with scrubOn := true, scrubDeferred := [], scrubAgain := [] }).scrubShow

/-- SCRUB_STOP (R166). -/
def State.scrubStop (s : State) : State := (s.modMb fun m => { m with scrubOn := false }).scrubShow

/-- SCRUB_START (R166). -/
def execScrubStart (s : State) : Host.Outcome State Fault Refusal :=
  if ¬ s.aon.coreUp then .next s else
  .next (if s.lay.isNone then s.mcmdCode 1 else s.scrubBegin.mcmdCode 0)

/-- SCRUB_STOP (R166). -/
def execScrubStop (s : State) : Host.Outcome State Fault Refusal :=
  if ¬ s.aon.coreUp then .next s else
  .next (s.scrubStop.mcmdCode 0)

/-- Mark a stripe in the running pass, with its record (R166, R169). -/
def State.scrubMark (s : State) (n : Nat) : State :=
  (s.recNow (.stripeBits 5 0 (s.tb.scrubPass % 2) n 1 0 0 0 0 0)).modMb fun m => { m with scrubDeferred := dropEl m.scrubDeferred n }

/-- Positions of a stripe that did not give all their blocks in this step (R83, R167). -/
def State.scrubBad (s : State) (n : Nat) (io : BgIo) : List Nat :=
  s.positions.filter fun p => (List.range 16).any fun b => (s.bgGood n io p b).isNone

/-- P or Q disagrees with the data (R167): the positions that do. -/
def State.scrubParity (s : State) (n : Nat) (io : BgIo) : List Nat :=
  let k := s.layout.k
  [k, k + 1].filter fun q => (List.range 16).any fun b =>
    let ds := (List.range k).filterMap fun p => (s.bgGood n io p b).map fun x => (p, x)
    match s.bgGood n io q b with
    | some y => fitBytes 4120 (coverOf y) != fitBytes 4120 (sumCover ds fun p => if q = k then 1 else gexp p)
    | none => false

/-- Repair what scrub found at position `p` (R160, R167), wherever the strip stands; MBR.SCRUB_REPAIRS counts the repairs made. -/
def State.scrubRepair (s : State) (n : Nat) (io : BgIo) (p : Nat) : State :=
  if ¬ s.repairable (s.layout.colAt n p) then s
  else match s.repairFrom n p io with
    | (true, s1) => s1.satInc Fld.MBR.SCRUB_REPAIRS.V
    | (false, s1) => s1

/-- The stripe that scrub visits next (R166): a deferred one after a change of the dark set, else the sweep's, else with all
visited the first deferred one, or one that is not marked. (DEDUCED, log entry 51.) -/
def State.scrubNext (s : State) : Option Nat :=
  (s.mb.scrubAgain.find? fun n => !s.scrubbed n).or
    (if s.tb.scrubCur < s.layout.stripes then some s.tb.scrubCur
    else (s.mb.scrubDeferred.head?).or ((List.range s.layout.stripes).find? fun n => !s.scrubbed n))

/-- The end of a visit (R166): with every stripe visited and marked the pass ends.  An extended self-test ends with it, or at
once, with result 7, when a range has been recorded as lost during the pass: whether the pass goes on then is not stated.  (R66;
DESIGN CHOICE, log entry 157.) -/
def State.scrubFin (s : State) : State :=
  if s.mb.scrubSelf ∧ s.mb.scrubLost then (s.selftestEnd 7).scrubShow
  else if s.tb.scrubCur < s.layout.stripes ∨ s.scrubMarked < s.layout.stripes then s.scrubShow
  else
    let s1 := s.scrubStop.evAt 448 Fld.MBR.EVENT.SCRUB_PASS_DONE
    if s1.mb.scrubSelf then s1.selftestEnd 0 else s1

/-- Scrub checks a stripe whose strips it has read (R166, R167): blocks that do not pass are unreadable ranges and are repaired;
with every data block in order, a syndrome strip that disagrees with the data is made anew. -/
def State.scrubCheck (s : State) (n : Nat) (io : BgIo) : State :=
  let bad := s.scrubBad n io
  let absent := bad.filter fun p => (gave io p).isNone
  let s1 := absent.foldl (fun s p => s.addUnread n p (List.range 16)) s
  let par := if bad.any fun p => decide (p < s.layout.k) then [] else (s1.scrubParity n io).filter fun p => !decide (p ∈ bad)
  let s2 := par.foldl (fun s p => s.addUnread n p (List.range 16)) s1
  ((bad ++ par).foldl (fun s p => s.scrubRepair n io p) s2).scrubMark n

/-- SCRUB_STRIPE (R166, R167): the next stripe of the pass.  A stripe that is not whole, is open, or has a position that is not
available is deferred; what more than two lacking positions lose is recorded, and the stripe is marked. (DEDUCED, log entry
51.)  DESIGN CHOICE (log entry 172): a stripe above the write pointer of a zone neither Empty nor Offline is marked without a read. -/
def State.scrubStripe (s0 : State) (io : BgIo) : State :=
  let s := if s0.mb.scrubOn then s0 else s0.scrubBegin
  let seen (s : State) (n : Nat) : State :=
    (if n = s.tb.scrubCur then s.modTb fun t => { t with scrubCur := n + 1 } else s).modMb fun m => { m with
      scrubAgain := dropEl m.scrubAgain n }
  match s.scrubNext with
  | none => s.scrubFin
  | some n =>
    let whole := !s.unwritten n s.layout.k
    if ¬ s.inData n then ((seen s n).scrubMark n).scrubFin
    else if ¬ whole ∨ (s.slotOfStripe n).isSome ∨ s.slotRebuilding n ∨ s.positions.any fun p => !s.available n p 0 16 then
      if s.lossBlocks n ≠ [] then (((seen s n).lossAll n).scrubMark n).scrubFin
      else ((seen s n).modMb fun m => { m with scrubDeferred := dropEl m.scrubDeferred n ++ [n] }).scrubFin
    else match s.bgBegin n io with
      | (false, s1) => s1
      | (true, s1) => ((seen s1 n).scrubCheck n io).scrubFin

/-- SCRUB_STRIPE (R166): while a pass may run and no rebuild context is open. -/
def execScrubStripe (io : BgIo) (s : State) : Host.Outcome State Fault Refusal :=
  if ¬ s.aon.coreUp then .next s else
  .next (if s.bgOk ∧ ¬ s.ctxOpen ∧ s.scrubRuns then (s.scrubStripe io).settle else s)

end Sys2Proof.Machine
end

