-- ==== Sys2Proof/Machine/Admin.lean ====
section
/-! DEFINITION. Fabrics and admin commands (R23 to R29, R46 to R53, R61, R64 to R67, R164, R352).

Each row stands for the command's acceptance and execution: the tag that arbitration gave it, if it has one, is freed
with its completion. -/

namespace Sys2Proof.Machine
open Sys2Proof

/-! ### Connect and Disconnect -/

/-- The valid host identity entry whose NQN equals the given one byte for byte (R24). -/
def State.hostOf (s : State) (nqn : List Nat) : Option Nat :=
  (s.fr.hosts.find? fun x => bit x.2.perm 0 && decide (nqn.length ≤ 223)
    && x.2.nqn == nqn ++ List.replicate (224 - nqn.length) 0).map (·.1)

/-- Connections past Fabrics Connect. -/
def State.established (s : State) : Nat := (s.fab.conns.filter fun x => x.2.st != 1).length

/-- The checks of a Connect in the order of R24: 0 when it is accepted. -/
def State.connectCheck (s : State) (c : Conn) (qid cntlid sqsize : Nat) (nqn : List Nat) : Nat :=
  let io : Bool := qid != 0
  let ct := s.ctrl? cntlid
  let full : Bool := decide (s.get Fld.NVQ.CAPSULE_SLOTS.V < s.get Fld.NVQ.CAPSULE_GRANTED.V + sqsize + 1)
  match s.hostOf nqn with
  | none => 0x184
  | some h =>
    if io ∧ (match ct with | some x => x.host != h | none => false) = true then 0x184
    else if io ∧ ((match ct with | some x => !bit x.csts 0 | none => true) = true ∨ (s.queue? cntlid qid).isSome) then 0x182
    else if io ∧ ((match ct with | some x => x.port != c.port | none => true) = true ∨ 64 < qid) then 0x182
    else if sqsize ≠ c.hsq ∨ sqsize < (if io then 1 else 31) ∨ (if io then 1023 else 63) < sqsize then 0x182
    else if (¬ io ∧ 2048 ≤ s.fr.ctrls.length) ∨ 16384 ≤ s.established ∨ full then 0x181
    else 0

/-- The lowest controller identifier free on this device (R23). -/
def State.freeCntlid (s : State) : Nat :=
  let b := 0x1000 * s.devNum
  (((List.range 2048).map fun i => b + 1 + i).find? fun n => (s.ctrl? n).isNone).getD (b + 1)

/-- FABRICS_CONNECT (R24, R47, R48, R187, R191): the connection's Connect creates a controller or an I/O queue, or fails and
ends the connection.  It is the Connect of a connection that holds a setup context on that port with that HSQSIZE.
Its own capsule is the
queue's first entry, which SQHD has passed (R47, R49).
(DESIGN CHOICE, log entry 36.) (DEDUCED, log entry 37.) (DESIGN CHOICE, log entry 39.) (DEDUCED, log entry 77.) -/
def execFabricsConnect (conn port qid cntlid sqsize hsqsize kato cid : Nat) (nqn : List Nat) (s : State) :
    Host.Outcome State Fault Refusal :=
  if ¬ s.aon.coreUp then .next s else
  .next (match s.conn? conn with
    | none => s
    | some c =>
      if c.st ≠ 1 ∨ c.port ≠ port ∨ c.hsq ≠ hsqsize then s
      else
        let e := s.connectCheck c qid cntlid sqsize nqn
        let full : Bool := decide (s.get Fld.NVQ.CAPSULE_SLOTS.V < s.get Fld.NVQ.CAPSULE_GRANTED.V + sqsize + 1)
        if e ≠ 0 then
          let s1 := if e = 0x181 ∧ full then s.event Fld.NVQ.EVENT.CAPSULE_REFUSED 289 else s
          ((s1.emit (.completion cntlid qid cid e false 0 0 1)).connClose conn).settle
        else
          let id := if qid = 0 then s.freeCntlid else cntlid
          let h := (s.hostOf nqn).getD 0
          let ct : Ctrl := { host := h, port := port, cc := 0, csts := 0, kato := kato, aec := 0, nq := 64, aers := [],
                             events := [], chNs := [], chZones := [] }
          let q : Queue := { cntlid := id, qid := qid, depth := sqsize + 1, conn := conn, sqhd := 1 % (sqsize + 1), caps := [] }
          let s1 := s.modFr fun f =>
            { f with ctrls := if qid = 0 then tput f.ctrls id ct else f.ctrls, queues := f.queues ++ [q] }
          let s2 := s1.capShow.setConn conn { c with cntlid := some id, qid := qid, host := h, st := 3 }
          s2.respond id qid cid 0 false id 0)

/-- FABRICS_DISCONNECT (R29, R26, R48): the response is sent, then the queue is removed; with its admin queue, the
controller. -/
def execFabricsDisconnect (cntlid qid cid : Nat) (s : State) : Host.Outcome State Fault Refusal :=
  if ¬ s.aon.coreUp then .next s else
  .next (match s.queue? cntlid qid with
    | none => s
    | some q =>
      let s1 := s.respond cntlid qid cid 0 false 0 0
      if qid = 0 then (s1.ctrlDelete cntlid).settle
      else (((s1.queuesDrop fun x => x.cntlid == cntlid && x.qid == qid).modConn q.conn fun c => { c with tr := 2 })).settle)

/-- KEEP_ALIVE_EXPIRY (R26): of a controller whose timer runs. (DESIGN CHOICE, log entry 16.) -/
def execKeepAliveExpiry (cntlid : Nat) (s : State) : Host.Outcome State Fault Refusal :=
  if ¬ s.aon.coreUp then .next s else
  .next (match s.ctrl? cntlid with
    | some c => if c.kato = 0 then s else (s.ctrlDelete cntlid).settle
    | none => s)

/-- Delete every controller of a host (R46). -/
def State.hostDelete (s : State) (h : Nat) : State :=
  (s.fr.ctrls.filter fun x => x.2.host == h).foldl (fun s x => s.ctrlDelete x.1) s

/-- HOST_INVALIDATE (R46): HOST_PERM.VALID of the entry is cleared. -/
def execHostInvalidate (host : Nat) (s : State) : Host.Outcome State Fault Refusal :=
  if ¬ s.aon.coreUp then .next s else
  .next (if 1024 ≤ host then s
    else ((s.modHost host fun h => { h with perm := putBit h.perm 0 false }).hostDelete host).settle)

/-! ### Properties -/

/-- CAP: the fields the spec states, MQES, AMS and MPSMIN, over open ones (R27, R47, R51). -/
def capValue (r : Nat) : Nat :=
  let low := r / 2 ^ 16 % 2 ^ 32 * 2 ^ 16
  let r1 := putBit (putBit (low + 0x3FF) 17 true) 18 false
  r1 - bits r1 48 4 * 2 ^ 48

/-- PROPERTY_GET (R29): CAP, VS, CC and CSTS; VS is a value the spec does not state. -/
def execPropertyGet (cntlid cid off : Nat) (s : State) : Host.Outcome State Fault Refusal :=
  if ¬ s.aon.coreUp then .next s else
  .next (match s.ctrl? cntlid with
    | none => s
    | some c =>
      let (r, s1) := s.fresh 9
      if off = 0x00 then s1.adminDone cntlid cid 0 false (capValue r % 2 ^ 32) (capValue r / 2 ^ 32)
      else if off = 0x08 then s1.adminDone cntlid cid 0 false (r % 2 ^ 32) 0
      else if off = 0x14 then s.adminDone cntlid cid 0 false c.cc 0
      else if off = 0x1C then s.adminDone cntlid cid 0 false c.csts 0
      else s.adminDone cntlid cid 0x02)

/-- CC.EN = 0 resets the controller (R53): its I/O queues go, its Asynchronous Event Requests are dropped, a self-test it
started ends (R67). -/
def State.ctrlReset (s : State) (id : Nat) : State :=
  let ks := (s.fab.conns.filter fun x => x.2.cntlid == some id && x.2.qid != 0).map (·.1)
  let s1 := (ks.foldl State.connClose s).queuesDrop fun q => q.cntlid == id && q.qid != 0
  let s2 := s1.modCtrl id fun c => { c with csts := 0, aers := [], events := [] }
  if s2.get Fld.NVQ.SELFTEST.OP ≠ 0 ∧ s2.get Fld.NVQ.SELFTEST.CNTLID = id then s2.selftestEnd 2 else s2

/-- PROPERTY_SET (R53): a write of CC enables the controller, or fails with CSTS.CFS for an arbitration mechanism other than
000b and 001b, or resets it. (DEDUCED, log entry 40.) -/
def execPropertySet (cntlid cid off value : Nat) (s : State) : Host.Outcome State Fault Refusal :=
  if ¬ s.aon.coreUp then .next s else
  .next (match s.ctrl? cntlid with
    | none => s
    | some c =>
      if off ≠ 0x14 then s.adminDone cntlid cid 0x02
      else
        let s1 := s.modCtrl cntlid fun x => { x with cc := value % 2 ^ 32 }
        if ¬ bit value 0 then ((s1.ctrlReset cntlid).adminDone cntlid cid 0).settle
        else if bit c.cc 0 then s1.adminDone cntlid cid 0
        else
          (s1.modCtrl cntlid fun x =>
            { x with csts := if bits value 11 3 < 2 then setBit x.csts 0 else setBit x.csts 1 }).adminDone cntlid cid 0)

/-! ### Admin commands -/

/-- An admin command of a controller that exists: with CSTS.RDY 0 it completes with Command Sequence Error (R53).
(DESIGN CHOICE, log entry 43.) -/
def State.admin (s : State) (cntlid cid : Nat) (f : Ctrl → State) : State :=
  match s.ctrl? cntlid with
  | none => s
  | some c => if bit c.csts 0 then f c else s.adminDone cntlid cid 0x0C

/-- An admin command that moves data (R178): as any, and its SGL1 descriptor is a Keyed SGL Data Block of sub-type Address or
Invalidate Key, else SGL Descriptor Type Invalid; the length rule names blocks, which such a command has none of. (DEDUCED, log entry
184.) (DEDUCED, log entry 184.) -/
def State.adminData (s : State) (cntlid cid : Nat) (sgl : Sgl) (f : Ctrl → State) : State :=
  s.admin cntlid cid fun c => if keyedSgl sgl.ty then f c else s.adminDone cntlid cid 0x11

/-- Data of an admin command goes to the host under the descriptor's key, from its address on, and the command completes (R178,
R180). -/
def State.sendAdmin (s : State) (cntlid cid : Nat) (sgl : Sgl) (bytes : List Byte) : State :=
  (s.emit (.adminData cntlid cid sgl.key sgl.addr bytes)).adminDone cntlid cid 0 false 0 0 (if sgl.ty = 0x4F then some sgl.key else none)

/-- KEEP_ALIVE (R26): the timer restarts. -/
def execKeepAlive (cntlid cid : Nat) (s : State) : Host.Outcome State Fault Refusal :=
  if ¬ s.aon.coreUp then .next s else
  .next (s.admin cntlid cid fun _ => s.adminDone cntlid cid 0)

/-- ASYNC_EVENT_REQUEST (R50): at most 4 are kept; an event that waits completes it at once. -/
def execAsyncEventRequest (cntlid cid : Nat) (s : State) : Host.Outcome State Fault Refusal :=
  if ¬ s.aon.coreUp then .next s else
  .next (s.admin cntlid cid fun c =>
    if 4 ≤ c.aers.length then s.adminDone cntlid cid 0x105
    else match c.events with
      | [] => s.modCtrl cntlid fun x => { x with aers := x.aers ++ [cid] }
      | k :: r => (((s.modCtrl cntlid fun x => { x with events := r }).emit (.asyncEvent cntlid k)).adminDone cntlid cid 0 false
          (asyncDw0 k) 0))

/-- Bytes placed over a background at the given offsets. -/
def overlayBytes (bg : List Byte) : List (Nat × List Byte) → List Byte
  | [] => bg
  | (o, b) :: r => overlayBytes (bg.take o ++ b ++ bg.drop (o + b.length)) r

/-- Answer an admin command with a page: what the spec states of it over open bytes. -/
def State.page (s : State) (cntlid cid : Nat) (sgl : Sgl) (size : Nat) (fields : List (Nat × List Byte)) (off len : Nat) : State :=
  let (bg, s1) := s.freshBytes 11
  s1.sendAdmin cntlid cid sgl (((overlayBytes (fitBytes size bg) fields).drop off).take len)

/-- The identifiers of the namespaces visible to a host, rising. -/
def State.visibleNs (s : State) (h : Nat) : List Nat := (s.tb.nss.map (·.1)).filter fun n => s.visible h n

/-- A field of an identify structure: offset, bytes, value. -/
def fieldLe (o n v : Nat) : Nat × List Byte := (o, leBytes n v)

/-- IDENTIFY (R25, R27, R28, R29). (PRESUMED, log entry 34.) -/
def execIdentify (cntlid cid cns csi nsid : Nat) (sgl : Sgl) (s : State) : Host.Outcome State Fault Refusal :=
  if ¬ s.aon.coreUp then .next s else
  .next (s.adminData cntlid cid sgl fun c =>
    let send (f : List (Nat × List Byte)) : State := s.page cntlid cid sgl 4096 f 0 4096
    let ofNs (f : Ns → List (Nat × List Byte)) : State :=
      match s.ns? nsid with
      | some n => if s.visible c.host nsid then send (f n) else s.adminDone cntlid cid 0x0B
      | none => s.adminDone cntlid cid 0x0B
    match cns with
    | 0x00 => ofNs fun n =>
        [fieldLe 0 8 (s.nsBlocks n), fieldLe 8 8 (s.nsBlocks n), fieldLe 25 1 2, fieldLe 27 1 1,
         fieldLe 28 1 (5 + 8 * (Config.freeNat 13 s.freeCtr % 4)),
         fieldLe 29 1 (if n.lbaf = 0 then 0 else (if n.type3 then 3 else 1) + 8 * (Config.freeNat 13 s.freeCtr / 4 % 2)),
         fieldLe 26 1 (16 + n.lbaf), fieldLe 33 1 1, fieldLe 36 2 255,
         fieldLe 92 4 1, fieldLe 128 4 (2 ^ 16 * 12), fieldLe 132 4 (2 ^ 16 * 12 + 8), fieldLe 136 4 (2 ^ 16 * 12 + 16)]
    | 0x01 => send [fieldLe 77 1 0x0A, fieldLe 78 2 cntlid, fieldLe 258 1 3, fieldLe 259 1 3, fieldLe 316 2 (s.get Fld.NVQ.EDSTT.EDSTT),
        fieldLe 318 1 1, fieldLe 342 1 10, fieldLe 343 1 0x5F, fieldLe 344 4 1, fieldLe 348 4 1, fieldLe 516 4 1024,
        fieldLe 525 1 0, fieldLe 526 2 255, (768, fitBytes 256 s.boot.nqn), fieldLe 528 2 255, fieldLe 1792 4 4, fieldLe 1796 4 1]
    | 0x02 => send [(0, fitBytes 4096 (((s.visibleNs c.host).filter fun n => decide (nsid < n)).flatMap fun n => leBytes 4 n))]
    | 0x03 => ofNs fun _ => []
    | 0x05 =>
      if csi = 0 then ofNs fun _ => [fieldLe 12 4 0, fieldLe 16 4 0, fieldLe 20 4 0x100]
      else if csi = 2 then ofNs fun n =>
        if n.conv then [] else [fieldLe 2 2 1, fieldLe 4 4 (n.mar - 1), fieldLe 8 4 (n.mar - 1),
          fieldLe 2816 8 s.zoneBlocks, fieldLe 2832 8 s.zoneBlocks, fieldLe 2848 8 s.zoneBlocks]
      else s.adminDone cntlid cid 0x02
    | 0x06 =>
      if csi = 0 then send [] else if csi = 2 then send [fieldLe 0 1 8] else s.adminDone cntlid cid 0x02
    | _ => s.adminDone cntlid cid 0x02)

/-- A result of the Device Self-test log, 28 bytes (R64, R67). -/
def stBytes (r : StResult) : List Byte :=
  leBytes 1 (16 * r.code + r.result) ++ leBytes 1 r.seg ++ leBytes 10 0 ++ leBytes 4 r.nsid ++ leBytes 12 0

/-- A data-loss descriptor as a page shows it, with LBAs in place of zone offsets (R163, R164).
(DEDUCED, log entry 133.) -/
def lossPage (i : Nat) (next : Nat) (l : Loss) (lba count : Nat) : List Byte :=
  leBytes 4 i ++ leBytes 4 next ++ leBytes 5 l.zone ++ leBytes 1 l.cause ++ leBytes 2 0 ++ leBytes 3 (lba % 2 ^ 24)
    ++ leBytes 3 count ++ leBytes 2 0 ++ leBytes 8 l.time

/-- The descriptors of a loss in a visible namespace: one for a zoned one; one for each LBA still mapped into it for a
conventional one (R164). -/
def State.lossShown (s : State) (h i : Nat) (l : Loss) : List Byte :=
  let id := (s.zone l.zone).nsid
  match s.ns? id with
  | none => []
  | some n =>
    if ¬ s.visible h id then []
    else if n.conv then
      (s.tb.conv.filter fun e => e.1 / 2 ^ 40 == id && (match s.locate n id (e.1 % 2 ^ 40) with
        | some (z, o) => z == l.zone && decide (l.off ≤ o) && decide (o < l.off + l.count)
        | none => false)).flatMap fun e => lossPage i (s.lossNext i l) l (e.1 % 2 ^ 40) 1
    else match n.zones.findIdx? fun z => z == l.zone with
      | some k => lossPage i (s.lossNext i l) l (k * s.zoneBlocks + l.off) l.count
      | none => []

/-- Counters a host may read on page C2h: enabled, filtered to the tenant privilege alone and to this host (R352). -/
def State.tenantCtrs (s : State) (h : Nat) : List (Nat × Ctr) :=
  s.pmc.ctrs.filter fun x => bit x.2.cfg 31 && bits x.2.cfg 24 3 == 1 && bits x.2.master 16 3 == 1 && x.2.master % 1024 == h

/-- Opcodes that page 05h says are supported (R29): admin, the vendor commands for a host with VENDOR_ADMIN only, and I/O. -/
def supported (vendor io : Bool) (op : Nat) : Bool :=
  if io then decide (op ∈ [0x00, 0x01, 0x02, 0x08, 0x09, 0x79, 0x7A, 0x7D])
  else decide (op ∈ [0x02, 0x06, 0x08, 0x09, 0x0A, 0x0C, 0x14, 0x18, 0x81, 0x82]) || (vendor && decide (op ∈ [0xC0, 0xC1]))

/-- The page of Commands Supported and Effects: CSUPP of every opcode, what the spec says of it, over open bytes (R29).
(PRESUMED, log entry 150.) -/
def effectsPage (vendor : Bool) (bg : List Byte) : List Byte :=
  (fitBytes 4096 bg).mapIdx fun i b =>
    if i % 4 = 0 ∧ i < 2048 then BitVec.ofNat 8 (putBit b.toNat 0 (supported vendor (decide (1024 ≤ i)) (i % 1024 / 4))) else b

/-- GET_LOG_PAGE (R25, R29, R43, R64, R117, R164, R352); reading a list of changes empties it. (PRESUMED, log entry 150.) -/
def execGetLogPage (cntlid cid lid nsid off len : Nat) (sgl : Sgl) (s : State) : Host.Outcome State Fault Refusal :=
  if ¬ s.aon.coreUp then .next s else
  .next (s.adminData cntlid cid sgl fun c =>
    let send (n : Nat) (f : List (Nat × List Byte)) : State := s.page cntlid cid sgl n f off len
    if nsid ≠ 0 ∧ nsid ≠ 0xFFFFFFFF ∧ ¬ s.visible c.host nsid then s.adminDone cntlid cid 0x0B
    else match lid with
      | 0x01 => send 64 []
      | 0x02 =>
        let bad := s.tb.cols.any (fun x => x.st == 4) || !s.tb.losses.isEmpty || s.flag Fld.GNT.STATUS.RESTORED
        let (r, s1) := s.fresh 12
        s1.page cntlid cid sgl 512 [fieldLe 0 1 (putBit (putBit (r % 256) 2 bad) 3 s.writeProtected),
          fieldLe 3 1 (s.nv.spareLines * 100 / 98304), fieldLe 4 1 10] off len
      | 0x04 =>
        (s.page cntlid cid sgl 4096 [(0, fitBytes 4096 (c.chNs.flatMap (leBytes 4)))] off len).modCtrl cntlid fun x => { x with chNs := [] }
      | 0x05 =>
        let (bg, s1) := s.freshBytes 11
        let p := effectsPage (bit (s.host c.host).perm 2) bg
        s1.sendAdmin cntlid cid sgl ((p.drop off).take len)
      | 0x06 =>
        send 564 [fieldLe 0 1 (s.get Fld.NVQ.SELFTEST.OP), fieldLe 1 1 (s.get Fld.NVQ.SELFTEST.PERCENT),
          (4, s.fr.stLog.flatMap stBytes ++ (List.replicate (20 - s.fr.stLog.length) (leBytes 1 0x0F ++ leBytes 27 0)).flatten)]
      | 0x0C =>
        let ids := s.visibleNs c.host
        let size := 48 + 4 * ids.length
        send size [fieldLe 8 2 1, fieldLe 16 4 1, fieldLe 20 4 ids.length, fieldLe 32 1 (s.get Fld.ZMP.ANA.STATE),
          (48, ids.flatMap fun n => leBytes 4 n)]
      | 0xBF =>
        let zs := (c.chZones.filter fun e => e.1 == nsid).map (·.2)
        (s.page cntlid cid sgl 4096 [(0, fitBytes 4096 (leBytes 2 zs.length ++ leBytes 6 0 ++ zs.flatMap (leBytes 8)))] off len).modCtrl
          cntlid fun x => { x with chZones := x.chZones.filter fun e => e.1 != nsid }
      | 0xC1 =>
        let b := s.tb.losses.zipIdx.flatMap fun x => s.lossShown c.host x.2 x.1
        send b.length [(0, b)]
      | 0xC2 =>
        if ¬ bit (s.host c.host).perm 1 then s.adminDone cntlid cid 0x109
        else
          let l := s.tenantCtrs c.host
          let b := leBytes 2 l.length ++ leBytes 6 0 ++ leBytes 8 s.ptpTime ++ l.flatMap fun x =>
            leBytes 1 x.1 ++ leBytes 1 (x.2.cfg % 256) ++ leBytes 1 (bits x.2.cfg 16 8) ++ leBytes 5 0 ++ leBytes 8 x.2.val
          send b.length [(0, b)]
      | _ => s.adminDone cntlid cid 0x109)

/-- SET_FEATURES (R29, R52). (DEDUCED, log entry 41.) -/
def execSetFeatures (cntlid cid fid value : Nat) (s : State) : Host.Outcome State Fault Refusal :=
  if ¬ s.aon.coreUp then .next s else
  .next ((s.admin cntlid cid fun c =>
    match fid with
    | 0x01 =>
      if bit (s.host c.host).perm 2 then
        ((((((s.put Fld.NVQ.ARB.AB value).put Fld.NVQ.ARB.LPW (bits value 8 8)).put Fld.NVQ.ARB.MPW (bits value 16 8)).put
          Fld.NVQ.ARB.HPW (bits value 24 8)).event Fld.NVQ.EVENT.ARB_CHANGED 292)).adminDone cntlid cid 0
      else s.adminDone cntlid cid 0x10E
    | 0x07 =>
      let want := if value % 2 ^ 16 < value / 2 ^ 16 % 2 ^ 16 then value / 2 ^ 16 % 2 ^ 16 else value % 2 ^ 16
      let n := if want < 63 then want else 63
      (s.modCtrl cntlid fun x => { x with nq := n + 1 }).adminDone cntlid cid 0 false (n + 2 ^ 16 * n)
    | 0x0B => (s.modCtrl cntlid fun x => { x with aec := value % 2 ^ 32 }).adminDone cntlid cid 0
    | 0x0F =>
      if value < 1000 ∨ 120000 < value then s.adminDone cntlid cid 0x02
      else (s.modCtrl cntlid fun x => { x with kato := value }).adminDone cntlid cid 0
    | _ => s.adminDone cntlid cid 0x02).settle)

/-- GET_FEATURES (R29, R52). -/
def execGetFeatures (cntlid cid fid : Nat) (s : State) : Host.Outcome State Fault Refusal :=
  if ¬ s.aon.coreUp then .next s else
  .next (s.admin cntlid cid fun c =>
    match fid with
    | 0x01 => s.adminDone cntlid cid 0 false (s.regN Reg.NVQ.ARB)
    | 0x07 => s.adminDone cntlid cid 0 false ((c.nq - 1) + 2 ^ 16 * (c.nq - 1))
    | 0x0B => s.adminDone cntlid cid 0 false c.aec
    | 0x0F => s.adminDone cntlid cid 0 false c.kato
    | _ => s.adminDone cntlid cid 0x02)

/-! ### Abort -/

/-- Abort commands of a controller that were accepted before command `cid` and have not completed (R61). -/
def State.abortsBefore (s : State) (cntlid cid : Nat) : Nat :=
  let mine := match s.tagOf cntlid 0 cid with
    | some t => (match s.cmd? t with | some c => c.order | none => s.fr.nextOrder)
    | none => s.fr.nextOrder
  (s.fr.cmds.filter fun x => x.2.cntlid == cntlid && x.2.qid == 0 && x.2.opcode == 8 && decide (x.2.order < mine)).length

/-- Mark a Received capsule (R61): it completes with 0x07 at its turn.  None where no unmarked one has the identifier. -/
def State.abortMark (s : State) (cntlid qid cid : Nat) : Option State :=
  match s.queue? cntlid qid with
  | some q =>
    if q.caps.any fun x => x.1.cid == cid && !x.2.1 then
      some (s.modQueue cntlid qid fun q =>
        { q with caps := q.caps.map fun x => if x.1.cid = cid then (x.1, true, x.2.2) else x })
    else none
  | none => none

/-- ABORT (R61, R62): the outcome of the table of R61, counted in NVQ.ABORT_COUNT. (DEDUCED, log entry 42.) -/
def execAbort (cntlid cid sqid target : Nat) (s : State) : Host.Outcome State Fault Refusal :=
  if ¬ s.aon.coreUp then .next s else
  .next ((s.admin cntlid cid fun c =>
    let hit (s : State) : State := (s.satInc Fld.NVQ.ABORT_COUNT.ABORTED).adminDone cntlid cid 0
    let miss (s : State) : State := (s.satInc Fld.NVQ.ABORT_COUNT.NOT_ABORTED).adminDone cntlid cid 0 false 1
    if 4 ≤ s.abortsBefore cntlid cid then s.adminDone cntlid cid 0x103
    else match s.abortMark cntlid sqid target with
      | some s1 => hit s1
      | none =>
        if sqid = 0 then
          if target ∈ c.aers then
            hit ((s.modCtrl cntlid fun x => { x with aers := dropEl x.aers target }).respond cntlid 0 target 0x07 false 0 0)
          else miss s
        else match s.tagOf cntlid sqid target with
          | none => miss s
          | some t => match s.cmd? t with
            | none => miss s
            | some x => if x.claimed then miss s else hit (s.abortClaim t)).settle)

/-! ### Device self-test -/

/-- The NSID field of a Device Self-test is one that R64 accepts. -/
def State.stNsidOk (s : State) (c : Ctrl) (nsid : Nat) : Bool := nsid == 0 || nsid == 0xFFFFFFFF || s.visible c.host nsid

/-- Start a self-test (R64): one at a time on the device, and across both devices of a pair; `busy` says that the partner runs
one. -/
def State.selftestStart (s : State) (cntlid cid nsid op : Nat) (busy : Bool) : State :=
  s.admin cntlid cid fun c =>
    if ¬ s.stNsidOk c nsid then s.adminDone cntlid cid 0x0B
    else if s.get Fld.NVQ.SELFTEST.OP ≠ 0 ∨ (s.flag Fld.SWC.TOPO_CFG.PARTNERED ∧ busy) then s.adminDone cntlid cid 0x11D
    else
      let s1 := ((s.setN Reg.NVQ.SELFTEST (op + 16 + 2 ^ 16 * (cntlid % 2 ^ 16))).modFr fun f => { f with stNsid := nsid })
      let s2 := if op = 2 then (s1.modMb fun m => { m with scrubSelf := true, scrubLost := false }).scrubBegin else s1
      s2.adminDone cntlid cid 0

/-- SELFTEST_SHORT (R64, R65). (PRESUMED, log entry 44.) -/
def execSelftestShort (cntlid cid nsid : Nat) (partnerBusy : Bool) (s : State) : Host.Outcome State Fault Refusal :=
  if ¬ s.aon.coreUp then .next s else
  .next (s.selftestStart cntlid cid nsid 1 partnerBusy)

/-- SELFTEST_EXTENDED (R64, R66): one scrub pass. -/
def execSelftestExtended (cntlid cid nsid : Nat) (partnerBusy : Bool) (s : State) : Host.Outcome State Fault Refusal :=
  if ¬ s.aon.coreUp then .next s else
  .next (s.selftestStart cntlid cid nsid 2 partnerBusy)

/-- SELFTEST_ABORT (R64, R67): a Device Self-test whose STC starts no test.  With STC Fh the operation in progress ends with 1h;
with none it succeeds and does nothing.  Any other STC ends with Invalid Field in Command. -/
def execSelftestAbort (cntlid cid stc : Nat) (s : State) : Host.Outcome State Fault Refusal :=
  if ¬ s.aon.coreUp then .next s else
  .next ((s.admin cntlid cid fun _ =>
    if stc ≠ 0xF then s.adminDone cntlid cid 0x02 else (s.selftestEnd 1).scrubShow.adminDone cntlid cid 0).settle)

/-- Some member's last health sample shows critical warning bits (R65 segment 2, R283). -/
def State.healthBad (s : State) : Bool := s.columns.any fun c => s.get (Fld.DRP_P.MI_STATUS.CRIT_WARN (s.slotOfCol c)) != 0

/-- SELFTEST_SEGMENT_DONE (R65, R67): a segment of the short test ends; the test moves on or ends.  Segment 2 also fails by the
members' health samples.  PERCENT between segments is not stated. -/
def execSelftestSegmentDone (failed : Bool) (s : State) : Host.Outcome State Fault Refusal :=
  if ¬ s.aon.coreUp then .next s else
  .next (if s.get Fld.NVQ.SELFTEST.OP ≠ 1 then s
    else if failed ∨ (s.get Fld.NVQ.SELFTEST.SEGMENT = 2 ∧ s.healthBad) then (s.selftestEnd 7).settle
    else if 3 ≤ s.get Fld.NVQ.SELFTEST.SEGMENT then (s.selftestEnd 0).settle
    else
      let (r, s1) := s.fresh 10
      (s1.inc Fld.NVQ.SELFTEST.SEGMENT).put Fld.NVQ.SELFTEST.PERCENT (r % 101))

end Sys2Proof.Machine
end

