-- ==== Sys2Proof/Machine/Image.lean ====
section
/-! DEFINITION. The register map's access rules (R4, R386 to R390) and the configuration image: directory, header, sections,
records, signatures and the checks of R363. -/

namespace Sys2Proof.Machine
open Sys2Proof

/-! ### Registers by offset -/

/-- A summary line defines the register at an offset. -/
def RegRow.has (r : RegRow) (a : Nat) : Bool :=
  let d := a - r.base
  let i := if r.istride = 0 then 0 else d / r.istride
  decide (r.base ≤ a) && decide (i < r.icount) && decide (d - i * r.istride < 4 * r.span)

/-- The summary line of the register at a dword offset; none for reserved space (R388). -/
def rowAt (a : Nat) : Option RegRow := regRows.find? fun r => r.has a

/-- Every field of the register is RO (R391). -/
def RegRow.ro (r : RegRow) : Bool := r.rw == 0 && r.rws == 0 && r.w1c == 0 && r.w1s == 0 && r.wo == 0 && r.rc == 0

/-- The low words of the 64-bit pairs (R5, R392): unreplicated ones. -/
def pairLows : List Nat :=
  [Reg.ZMP.NS_SIZE_LO, Reg.ZMP.ZONE_COUNT_LO, Reg.ZMP.ZONE_FREE_LO, Reg.STR.MEMBER_STRIPS_LO, Reg.STR.DATA_STRIPS_LO,
   Reg.STR.SPARE_STRIPS_LO, Reg.STR.STRIPES_LO, Reg.STR.PROBE_STRIPE_LO, Reg.STR.PROBE_INDEX_LO, Reg.BRL.SLOT_STRIPE_LO,
   Reg.BRL.RECON_BLOCKS_LO, Reg.MBR.DARK_SET_LO, Reg.MBR.WAKE_PENDING_LO, Reg.GNT.JSEQ_LO, Reg.GNT.CKPT_SEQ_LO,
   Reg.GNT.MSEQ_SENT_LO, Reg.GNT.MSEQ_ACKED_LO, Reg.GNT.MSEQ_APPLIED_LO, Reg.MBR.CURSOR_LO, Reg.MBR.LEFT_LO,
   Reg.MBR.SCRUB_CURSOR_LO, Reg.MBR.FAILED_SET_LO, Reg.MBR.ABSENT_SET_LO, Reg.MBR.MISSED_SET_LO, Reg.MBR.SPARE_HOLDER_LO,
   Reg.FAB.WIN_BASE_LO, Reg.FAB.WIN_LEN_LO, Reg.QPC.HITS_LO, Reg.QPC.MISSES_LO, Reg.PTP.TIME_LO, Reg.PTP.SET_TIME_LO,
   Reg.PTP.OFFSET_LO, Reg.PTP.PPS_IN_TS_LO, Reg.TGS.L_BASE_LO, Reg.TGS.L_CYCLE_LO, Reg.TGS.SKIP_CYCLES_LO, Reg.TGS.L_START_LO,
   Reg.TGS.CAL_BASE_LO, Reg.DMA.BYTES_LO, Reg.AES.BYTES_STORAGE_LO, Reg.AES.BYTES_DESC_LO, Reg.DRP.PRESENT_LO,
   Reg.DRP.UP_LO, Reg.SLP.PG_SET_LO, Reg.SLP.LATCHED_LO, Reg.EPF.BAR2_MAP_LO, Reg.FLT.FIRST_TIME_LO, Reg.PMC.CFIRST_LO,
   Reg.PMC.CLAST_LO, Reg.PMC.CVAL_LO, Reg.PMC.SMP_BASE_LO, Reg.PMC.SMP_SEEN_LO, Reg.CFG.UID_LO, Reg.CFG.IMAGE_GEN_LO,
   Reg.CFG.UPD_ADDR_LO]

/-- The register at an offset is the low word of a pair. -/
def isPairLow (a : Nat) : Bool :=
  decide (a ∈ pairLows)
    || (List.range 7).any (fun n => a == Reg.FAB_E.MAC_LO n)
    || (List.range 32).any (fun n => a == Reg.DMA_C.HEAD_LO n || a == Reg.DMA_C.CUR_DESC_LO n)
    || (List.range 2).any (fun n => a == Reg.DDC_C.ERR_ADDR_LO n || a == Reg.DDC_C.PATROL_POS_LO n)

/-! ### Value ranges -/

/-- The values a chapter allows a field: of the registers `base + i × istride + 4j`, `i < icount`, `j < span`, the field at
`lo` of `w` bits takes `min` to `max`.  `mode` 0: only the image is held to it; 1: a register write of another value leaves
the field; 2: such a write is ignored whole. -/
structure Range where
  base : Nat
  istride : Nat
  icount : Nat
  span : Nat
  lo : Nat
  w : Nat
  min : Nat
  max : Nat
  mode : Nat

/-- A range of one unreplicated register. -/
def Range.of (f : FieldAt) (min max mode : Nat) : Range := ⟨f.reg, 0, 1, 1, f.lo, f.w, min, max, mode⟩

/-- A range of a replicated register, from the field of its instance 0. -/
def Range.each (f : FieldAt) (stride count span min max mode : Nat) : Range := ⟨f.reg, stride, count, span, f.lo, f.w, min, max, mode⟩

/-- A range covers an offset. -/
def Range.has (r : Range) (a : Nat) : Bool := RegRow.has ⟨r.base, r.istride, r.icount, r.span, 0, 0, 0, 0, 0, 0⟩ a

/-- The ranges that the chapters give, blocks ZMP to SWC. -/
def ranges1 : List Range :=
  [.of Fld.ZMP.ZONE_GEOM.ZONE_SIZE 0 4 0, .of Fld.NVQ.BG.FLOOR 0 16 1, .of Fld.BRL.ARB.BG_SHARE 0 8 1,
   .of Fld.MBR.PWR_CFG.LIMIT 0 2 1, .of Fld.GNT.CKPT_CFG.RING_PCT 10 90 2, .of Fld.GNT.CKPT_CFG.STREAM_MS 1 100 2,
   .of Fld.GNT.CKPT_CFG.INTERVAL 0 3600 2, .of Fld.GNT.MIRROR_TIME.LOSS_MS 5 255 2, .of Fld.GNT.MIRROR_TIME.RETX_US 5 255 2,
   .of Fld.MBR.FAIL_CFG.MISMATCH_MAX 1 255 2, .of Fld.MBR.FAIL_CFG.TIMEOUT_MAX 1 255 2, .of Fld.MBR.FAIL_CFG.REPAIR_MAX 1 64 2,
   .of ⟨Reg.MBR.REBUILD_CFG, 0, 8⟩ 1 126 1, .of Fld.MBR.SCRUB_CFG.RATE 1 255 0, .of Fld.MBR.IDLE_CFG.EXLAT_MAX 1 255 0,
   .of Fld.MBR.IDLE_CFG.IDLE_AFTER 100 60000 0, .of Fld.MBR.WAKE_CFG.TIMEOUT 5 60 1, .of Fld.FAB.RC_CFG.ACK_TIMEOUT 10 20 1,
   .of Fld.FAB.CC_CFG.CNP_INTERVAL 1 255 0, .of Fld.FAB.CC_CFG.RAI 1 255 0, .of Fld.FAB.CC_CFG.INC_US 1 255 0,
   .each (Fld.FAB_E.PORT_CFG.PMTU_MAX 0) 0x400 7 1 0 2 0, .each (Fld.FAB_E.PFC_CFG.WD_MS 0) 0x400 7 1 1 1000 0,
   .of ⟨Reg.SWC.Q_MAX, 0, 18⟩ 256 82688 1, .of ⟨Reg.SWC.PFC_THRESH, 0, 17⟩ 1024 65536 1]

/-- A rate of each traffic class of each port, Mb/s: 1 to the port's rate (R170, R230, R231). -/
def portRanges (f : Nat → FieldAt) : List Range :=
  [.each (f 0) 0x100 2 8 1 400000 1, .each (f 2) 0x100 4 8 1 200000 1, .each (f 6) 0x100 1 8 1 2500 1]

/-- The ranges of blocks PTP to DRP. -/
def ranges2 : List Range :=
  [.of Fld.PTP.CFG.PROFILE 0 2 0, .of Fld.PTP.CFG.TRANSPORT 0 2 0, .of Fld.PTP.CFG.LOG_SYNC 0 4 0,
   .of Fld.PTP.SERVO.LOCK_NS 1 65535 1, .of Fld.PTP.SERVO.STEP_US 1 65535 1, .of Fld.PTP.PPS.IN_MODE 0 2 1,
   .of Fld.PTP.PPS.OUT_WIDTH_MS 1 500 1]
  ++ portRanges (Fld.TGS_P.SHAPE_RATE.RATE · 0) ++ portRanges (Fld.TGS_P.POLICE.RATE · 0)
  ++ (List.range 8).map (fun j => ⟨Reg.TGS_P.WEIGHT0 0 + 4 * (j / 4), 0x100, 7, 1, 8 * (j % 4), 7, 1, 127, 1⟩)
  ++ [.each (Fld.DMA_C.CFG.BURST 0) 0x100 32 1 0 5 1, .of Fld.AES.ARB.DESC_FLOOR 0 4 1, .of ⟨Reg.DRP.CPL_TIMEOUT, 0, 10⟩ 1 1000 1,
   .of ⟨Reg.DRP.MI_CFG, 8, 8⟩ 1 60 0]

/-- The ranges of blocks SLP to DDC. -/
def ranges3 : List Range :=
  [.of ⟨Reg.SLP.CFG, 0, 6⟩ 1 48 1, .of Fld.SLP.FEED_CFG.RETURN_S 1 255 2, .of Fld.SLP.FEED_CFG.DEAD_US 2 50 2,
   .of Fld.SLP.FEED_CFG.QUAL_MS 1 255 2, .of ⟨Reg.SLP.FEED_LIMITS, 0, 8⟩ 100 130 0, .of ⟨Reg.SLP.FEED_LIMITS, 8, 8⟩ 120 150 0,
   .each (Fld.SLP_C.CFG.FAST 0) 0x40 48 1 8 16 2, .each (Fld.SLP_C.CFG.ILIM 0) 0x40 48 1 10 200 2,
   .each (Fld.SLP_C.RAMP.INRUSH_T 0) 0x40 48 1 1 1000 2, .each (Fld.SLP_C.RAMP.SLEW 0) 0x40 48 1 10 255 2,
   .each (Fld.SLP_C.RAMP.INRUSH 0) 0x40 48 1 10 200 2, .each ⟨Reg.SLP_C.TIMER 0, 0, 10⟩ 0x40 48 1 1 1000 2,
   .each ⟨Reg.SLP_C.TIMER 0, 16, 8⟩ 0x40 48 1 90 120 2, .each ⟨Reg.SLP_C.SHUNT 0, 0, 14⟩ 0x40 48 1 500 10000 0,
   .of ⟨Reg.EPF.BAR2_CFG, 0, 6⟩ 30 37 0, .of Fld.EPF.LOCK.TIMEOUT_S 1 255 1, .of Fld.FLT.CFG.TOCSIN_MODE 0 2 0,
   .of Fld.FLT.TOCSIN_CTRL.PULSE_MS 10 255 1, .of Fld.EVR.CTRL.FREEZE_S 1 255 1, .of Fld.PMC.CCFG.EVENT 0 0x17 1,
   .of Fld.PMC.CMASTER.KIND 0 4 1, .of Fld.PMC.CADDR.KIND 0 2 1, .of ⟨Reg.PMC.BW_CFG, 0, 14⟩ 1 10000 1,
   .each ⟨Reg.DDC_C.CFG 0, 0, 2⟩ 0x1000 2 1 1 2 0]

/-- Every range. -/
def ranges : List Range := ranges1 ++ ranges2 ++ ranges3

/-- The ranges of the register at an offset. -/
def rangesAt (a : Nat) : List Range := ranges.filter fun r => r.has a

/-- A value lies in a range. -/
def Range.ok (r : Range) (v : Nat) : Bool := decide (r.min ≤ bits v r.lo r.w) && decide (bits v r.lo r.w ≤ r.max)

/-- FAB_En.PFC_CFG. -/
def isPfcCfg (a : Nat) : Bool := (List.range 7).any fun n => a == Reg.FAB_E.PFC_CFG n

/-- The value a write leaves in a register, the fields that ignore it as they were: a field out of its range (mode 1), the
third lossless priority of a port and every one of MGT (R174), the bits of MGT and INT in SWC.CT_CFG1; a write that some range of mode 2 ignores
leaves the register as it is. (DEDUCED, log entry 95.) -/
def rangeWrite (a old v : Nat) : Nat :=
  let l := rangesAt a
  if l.any fun r => r.mode == 2 && !r.ok v then old
  else
    let v1 := l.foldl (fun v r => if r.mode = 1 ∧ ¬ r.ok v then v - bits v r.lo r.w * 2 ^ r.lo + bits old r.lo r.w * 2 ^ r.lo else v) v
    if a = Reg.FAB_E.PFC_CFG 6 then v1 - v1 % 256
    else if isPfcCfg a ∧ 2 < popcount (v1 % 256) 8 then v1 - v1 % 256 + old % 256
    else if a = Reg.SWC.CT_CFG1 then v1 % 65536
    else v1

/-! ### The flash and the image -/

/-- One entry of the section table (R359). -/
structure Section where
  ty : Nat
  idx : Nat
  off : Nat
  len : Nat
  crc : Nat
  deriving DecidableEq, Repr

/-- A patch record (R362). -/
structure PRec where
  off : Nat
  op : Nat
  data : List Nat
  deriving DecidableEq, Repr

/-- A directory copy's MAGIC and CRC are valid (R358). -/
def dirOk (d : List Byte) : Bool := d.take 4 == ascii "DVDR" && leAt d 60 4 == (crc32c (d.take 60)).toNat

/-- The directory copy in use: none when neither is valid. -/
def dirPick (f : FlashImage) : Option (List Byte) :=
  if dirOk f.dir0 ∧ (¬ dirOk f.dir1 ∨ leAt f.dir1 4 4 ≤ leAt f.dir0 4 4) then some f.dir0
  else if dirOk f.dir1 then some f.dir1
  else none

/-- Bytes of image copy `c`: 0 A, 1 B. -/
def copyBytes (f : FlashImage) (c : Nat) : List Byte := if c = 0 then f.imgA else f.imgB

/-- The section table. -/
def sections (b : List Byte) : List Section :=
  (List.range (byteAt b 6)).map fun i =>
    let o := 64 + 16 * i
    ⟨byteAt b o, byteAt b (o + 1), leAt b (o + 4) 4, leAt b (o + 8) 4, leAt b (o + 12) 4⟩

/-- The section of a type and index. -/
def sectionOf (b : List Byte) (ty idx : Nat) : Option Section := (sections b).find? fun x => x.ty == ty && x.idx == idx

/-- Bytes of a section. -/
def secBytes (b : List Byte) (x : Section) : List Byte := (b.drop x.off).take x.len

/-- Bytes of the section of a type and index; none of an absent one. -/
def secOf (b : List Byte) (ty idx : Nat) : List Byte := match sectionOf b ty idx with | some x => secBytes b x | none => []

/-- The overlay numbers an image holds, rising. -/
def overlaysOf (b : List Byte) : List Nat := (List.range 16).filter fun n => n != 0 && (sectionOf b 2 n).isSome

/-- Sections of a table do not overlap. -/
def disjointFrom (x : Section) : List Section → Bool
  | [] => true
  | y :: r => (decide (x.off + x.len ≤ y.off) || decide (y.off + y.len ≤ x.off)) && disjointFrom x r

/-- Every two sections are disjoint. -/
def disjointAll : List Section → Bool
  | [] => true
  | x :: r => disjointFrom x r && disjointAll r

/-- The image length its header states. -/
def totalLen (b : List Byte) : Nat := leAt b 12 4

/-- Header, section table and section CRCs (R359; code 2 of R363). -/
def formOk (b : List Byte) : Bool :=
  let l := sections b
  let n (t : Nat) : Nat := (l.filter fun x => x.ty == t).length
  b.take 4 == ascii "DVCI" && leAt b 4 2 == 1 && decide (4 ≤ byteAt b 6) && decide (byteAt b 6 ≤ 19)
    && decide (totalLen b ≤ 32505856) && decide (totalLen b ≤ b.length) && decide (64 + 16 * byteAt b 6 ≤ totalLen b)
    && l.all (fun x => decide (1 ≤ x.ty) && decide (x.ty ≤ 5) && (x.ty == 2) == (x.idx != 0) && decide (x.idx ≤ 15)
        && x.off % 64 == 0 && decide (x.off + x.len ≤ totalLen b) && (crc32c (secBytes b x)).toNat == x.crc)
    && n 1 == 1 && n 3 == 1 && n 4 == 1 && n 5 == 1
    && (List.range 16).all (fun i => decide ((l.filter fun x => x.ty == 2 && x.idx == i).length ≤ 1))
    && disjointAll l
    && (match sectionOf b 5 0 with | some x => x.len == 96 && x.off + x.len == totalLen b | none => false)
    && (match sectionOf b 4 0 with | some x => x.len == 96 | none => false)

/-- Length of the firmware payload (R360). -/
def fwLen (f : List Byte) : Nat := leAt f 8 4

/-- The firmware's root key and signature are accepted (R360; code 3). -/
def fwOk (fu : Fuses) (f : List Byte) : Bool :=
  let n := fwLen f
  let key := (f.drop (12 + n)).take 96
  let sig := (f.drop (108 + n)).take 96
  f.take 4 == ascii "DVFW" && decide (204 + n ≤ f.length) && Config.sha384 key == fu.rootHash
    && Config.ecdsaVerify key (Config.sha384 (f.take (12 + n))) sig

/-- The firmware's payload. -/
def fwPayload (f : List Byte) : List Byte := (f.drop 12).take (fwLen f)

/-- The owner's signature is accepted (R361; code 5). -/
def ownerOk (fu : Fuses) (b : List Byte) : Bool :=
  let key := secOf b 4 0
  Config.ecdsaVerify key (Config.sha384 (b.take (totalLen b - 96))) (secOf b 5 0)
    && (match fu.ownerHash with | some h => Config.sha384 key == h | none => true)

/-- The records of a section from byte 24 on (R362): none where one does not fit. -/
def parseRecs (b : List Byte) : Nat → Option (List PRec)
  | 0 => some []
  | n + 1 =>
    let c := leAt b 4 2
    if b.length < 8 + 4 * c then none
    else
      match parseRecs (b.drop (8 + 4 * c)) n with
      | some l => some (⟨leAt b 0 4, byteAt b 6, (List.range c).map fun i => leAt b (8 + 4 * i) 4⟩ :: l)
      | none => none

/-- The records of a BASE or OVERLAY section (R362): NAME in bytes 0 to 15, the count in 16 to 19, four reserved bytes. -/
def recsOf (b : List Byte) : Option (List PRec) := parseRecs (b.drop 24) (leAt b 16 4)

/-- The writes of a record: offset, mask and value. -/
def PRec.writes (r : PRec) : List (Nat × Nat × Nat) :=
  match r.op with
  | 0 => r.data.zipIdx.map fun e => (r.off + 4 * e.2, 2 ^ 32 - 1, e.1)
  | 1 => r.data.map fun v => (r.off, 2 ^ 32 - 1, v)
  | 2 => [(r.off, r.data.getD 0 0, r.data.getD 1 0)]
  | _ => []

/-- A register after a masked write (R362 OP 2). -/
def maskWrite (old m v : Nat) : Nat := (List.range 32).foldl (fun x i => if bit m i then putBit x i (bit v i) else x) old

/-- A write's target, and the value `v` that it leaves there, are ones an image may hold (code 6 of R363): each field of which it writes
a bit, by mask `m`, takes a value of its range. -/
def writeOk (overlay : Bool) (a m v : Nat) : Bool :=
  match rowAt a with
  | none => false
  | some r =>
    decide (a < 2 ^ 25) && a % 4 == 0 && !r.ro && !(overlay && r.rws != 0)
      && (rangesAt a).all (fun x => bits m x.lo x.w == 0 || x.ok v)
      && !(isPfcCfg a && m % 256 != 0 && decide (2 < popcount (v % 256) 8))
      && !(a == Reg.SLP.TREF && m % 256 != 0 && decide (125 < v % 256) && decide (v % 256 < 216))

/-- A record is one an image may hold. -/
def PRec.ok (overlay : Bool) (r : PRec) : Bool :=
  (match r.op with
    | 0 => decide (1 ≤ r.data.length) && decide (r.data.length ≤ 1024)
    | 1 => decide (1 ≤ r.data.length) && decide (r.data.length ≤ 1024)
    | 2 => r.data.length == 2
    | 3 => r.data.length == 3 && !overlay && r.off % 4 == 0 && (rowAt r.off).isSome
    | _ => false)

/-- What a list of records leaves in the registers that they write, and in those they start from. -/
def recRegs (base : Tab Nat) (l : List PRec) : Tab Nat :=
  (l.flatMap PRec.writes).foldl (fun t w => tput t w.1 (maskWrite (tgetD t w.1 0) w.2.1 w.2.2)) base

/-- Every write of a list leaves its register with a value that an image may hold, each on what the writes before it left. -/
def writesOk (overlay : Bool) : Tab Nat → List (Nat × Nat × Nat) → Bool
  | _, [] => true
  | t, w :: r =>
    let v := maskWrite (tgetD t w.1 0) w.2.1 w.2.2
    writeOk overlay w.1 w.2.1 v && writesOk overlay (tput t w.1 v) r

/-- INRUSH at most ILIM in every channel the records set (R290), ACTIVE_MAX from W to 48 (R102), DEV_NUM below the number of
devices, and no lossless priority on CP0 to CP3 of a board of three or four devices (R383). -/
def crossOk (t base : Tab Nat) : Bool :=
  let v (a : Nat) : Option Nat := (tget t a).or (tget base a)
  (List.range 48).all (fun n => match tget t (Reg.SLP_C.RAMP n), v (Reg.SLP_C.CFG n) with
    | some r, some c => decide (r % 256 ≤ c % 256)
    | _, _ => true)
  && (match tget t Reg.MBR.PWR_CFG, tget base Reg.STR.GEOM with
    | some p, some g => decide (g % 64 ≤ p % 64) && decide (p % 64 ≤ 48)
    | _, _ => true)
  && decide (bits (tgetD base Reg.SWC.TOPO_CFG 0) 2 2 ≤ (tgetD base Reg.SWC.TOPO_CFG 0) % 4)
  && (decide ((tgetD base Reg.SWC.TOPO_CFG 0) % 4 < 2)
    || (List.range 4).all fun n => (tgetD t (Reg.FAB_E.PFC_CFG (2 + n)) 0) % 256 == 0)

/-- The BASE section passes code 6. -/
def baseOk (b : List Byte) : Bool :=
  match recsOf (secOf b 1 0) with
  | some l => decide (l.length ≤ 65536) && l.all (PRec.ok false) && writesOk false [] (l.flatMap PRec.writes)
      && crossOk (recRegs [] l) (recRegs [] l)
  | none => false

/-- Overlay `n` passes code 6 (R370). -/
def overlayOk (b : List Byte) (n : Nat) : Bool :=
  match sectionOf b 2 n with
  | none => false
  | some x => match recsOf (secBytes b x), recsOf (secOf b 1 0) with
    | some l, some base => decide (l.length ≤ 1024) && decide (((l.map fun r => r.data.length).foldl (· + ·) 0) ≤ 4096)
        && l.all (PRec.ok true) && writesOk true (recRegs [] base) (l.flatMap PRec.writes)
        && crossOk (recRegs (recRegs [] base) l) (recRegs [] base)
    | _, _ => false

/-- The DEFAULT_OVERLAY of an image. -/
def defaultOverlay (b : List Byte) : Nat := byteAt b 24 % 16

/-- Codes 2 to 5 of R363, found while the image is streamed: 0 when none applies.  `entry` is the directory's GEN and LEN for
the copy. -/
def imageCheck1 (fu : Fuses) (floor : Nat) (entry : Option (Nat × Nat)) (b : List Byte) : Nat :=
  let fw := secOf b 3 0
  let dirBad : Bool := match entry with | some (g, n) => g != leAt b 16 8 || n != totalLen b | none => false
  if dirBad ∨ ¬ formOk b then 2
  else if ¬ fwOk fu fw then 3
  else if byteAt fw 4 < floor ∨ 63 < byteAt fw 4 then 4
  else if ¬ ownerOk fu b then 5
  else 0

/-- Codes 6 and 9 of R363, found before a record is applied: every record of the base and of each overlay, and TARGET.
(DEDUCED, log entry 96.) -/
def imageCheck2 (id : Nat) (b : List Byte) : Nat :=
  if ¬ baseOk b ∨ (defaultOverlay b ≠ 0 ∧ ¬ overlayOk b (defaultOverlay b)) then 6
  else if leAt b 8 4 ≠ id then 9
  else 0

end Sys2Proof.Machine
end

