-- ==== Sys2Proof/Machine/Tabor.lean ====
section
/-! DEFINITION. The PTP clock and its servo, gate lists, calendar, shapers and policers (R213 to R231). -/

namespace Sys2Proof.Machine
open Sys2Proof

/-- Gate list `l`. -/
def State.glist (s : State) (l : Nat) : GList := s.tg.lists.getD l GList.reset
/-- Change gate list `l`. -/
def State.modList (s : State) (l : Nat) (f : GList → GList) : State :=
  { s with tg := { s.tg with lists := s.tg.lists.modify l f } }
/-- Change Tabor's part. -/
def State.modTg (s : State) (f : Tabor → Tabor) : State := { s with tg := f s.tg }

/-- An event that is due at PTP time `t` happens then: the clock stands at least there (log entry 4). -/
def State.advTo (s : State) (t : Nat) : State :=
  if s.ptpTime < t then { s.wr64 Reg.PTP.TIME_LO t with now := s.now + (t - s.ptpTime) } else s

/-- Nanoseconds in the interval unit of list `l` (R220). -/
def listUnit (l : Nat) : Nat := if l = 7 then 1000 else 1

/-- The defaults a list's gates hold before it first starts (R222). -/
def gateDefault (l : Nat) : Nat := if l = 7 then 0x100FF else 0xFF

/-- Start of entry `pos` within a cycle, ns. -/
def GSet.entryOffset (g : GSet) (l pos : Nat) : Nat := ((g.entries.take pos).map fun e => e.2 * listUnit l).foldl (· + ·) 0

/-- The entry in force `off` nanoseconds into a cycle. -/
def entryAt (l : Nat) : List (Nat × Nat) → Nat → Nat → Nat
  | [], _, i => i
  | e :: r, off, i => if off < e.2 * listUnit l ∨ r = [] then i else entryAt l r (off - e.2 * listUnit l) (i + 1)

/-- The gate bits of list `l` in force. -/
def State.gatesNow (s : State) (l : Nat) : Nat :=
  match (s.glist l).running with
  | none => gateDefault l
  | some g => (g.entries.getD (s.glist l).pos (0, 0)).1

/-- The gates of list `l` take effect: port gates are shown in TGS.PORT_GATES; the power list's are combined with the
calendar (R221). -/
def State.applyGates (s : State) (l : Nat) : State :=
  let g := s.gatesNow l
  if l < 4 then s.put ⟨Reg.TGS.PORT_GATES0, 8 * l, 8⟩ g
  else if l < 7 then s.put ⟨Reg.TGS.PORT_GATES1, 8 * (l - 4), 8⟩ g
  else
    let mask := if (s.glist 7).running.isSome then s.tg.calMask else 0x1FF
    let s1 := s.put Fld.MBR.DOMAIN_GATE.ON ((BitVec.ofNat 8 g &&& BitVec.ofNat 8 mask).toNat)
    (s1.put Fld.MBR.DOMAIN_GATE.WAKE (bits g 8 8)).putB Fld.NVQ.BG.GATE_OPEN (bit g 16 && bit mask 8)

/-- RUNNING and PENDING of TGS.STATUS. -/
def State.tgsStatus (s : State) : State :=
  (s.put Fld.TGS.STATUS.RUNNING (maskOf 8 fun l => (s.glist l).running.isSome)).put Fld.TGS.STATUS.PENDING
    (maskOf 8 fun l => (s.glist l).pending.isSome)

/-! ### Commit and start -/

/-- The check of a commit, in the order 3, 4, 2, 1, 5, 6 (R223); 0 when the set passes. -/
def commitCheck (l : Nat) (g : GList) (c : Cal) : Nat :=
  let es := (List.range g.sLen).map fun i => tgetD g.sEnt i (0, 0)
  let calLen := bits c.cfg 0 6
  let times := (List.range calLen).map fun i => (tgetD c.ents i (0, 0)).1
  let period := if bit c.cfg 16 then 604800 else 86400
  if g.sLen = 0 ∨ (if l = 7 then 64 else 256) < g.sLen ∨ (l = 7 ∧ 32 < calLen) then 3
  else if (if l = 7 then g.sCycle < 10 ^ 9 ∨ 604800 * 10 ^ 9 < g.sCycle else g.sCycle < 1000 ∨ 10 ^ 9 < g.sCycle) then 4
  else if es.any fun e => decide (e.2 < if l = 7 then 1000 else 64) then 2
  else if (es.map fun e => e.2 * listUnit l).foldl (· + ·) 0 ≠ g.sCycle then 1
  else if l < 7 ∧ (List.range 8).any (fun t => es.all fun e => !bit e.1 t) then 5
  else if l = 7 ∧ (times.any (fun t => decide (period ≤ t)) ∨ (times.zip (times.drop 1)).any fun p => decide (p.2 ≤ p.1)) then 6
  else 0

/-- The start time of a set committed at PTP time `c`, and the cycles skipped (R223). -/
def startTime (b cyc c : Nat) : Nat × Nat :=
  if c + 1000 ≤ b then (b, 0)
  else
    let n := if cyc = 0 then 0 else (c + 1000 - b + cyc - 1) / cyc
    (b + n * cyc, n)

/-- Compute the start of list `l`'s pending set from the present time (R223). -/
def State.schedule (s : State) (l : Nat) : State :=
  match (s.glist l).pending with
  | none => s
  | some g =>
    let (st, n) := startTime g.base g.cycle s.ptpTime
    let s1 := s.modList l fun x => { x with pending := some { g with start := st, skip := n }, skip := n, waitLock := false }
    if 0 < n then s1.event Fld.TGS.EVENT.LATE_BASE 128 else s1

/-- A write of 1 to TGS.L_COMMIT.GO (R223).  A set that waits for LOCKED has no start time yet; L_START shows 0 for it. (DESIGN CHOICE,
log entry 178.) -/
def State.listCommit (s : State) : State :=
  let l := s.get Fld.TGS.LSEL.V
  let g := s.glist l
  let code := commitCheck l g s.tg.cal
  if code ≠ 0 then (s.modList l fun x => { x with error := code }).event Fld.TGS.EVENT.LIST_REFUSED 130
  else
    let set : GSet := ⟨g.sBase, g.sCycle, (List.range g.sLen).map fun i => tgetD g.sEnt i (0, 0), 0, 0⟩
    let wait := s.flag ⟨Reg.TGS.CFG, 0, 1⟩ && !s.flag Fld.PTP.STATUS.LOCKED
    let s1 := s.modList l fun x => { x with error := 0, pending := some set, waitLock := wait }
    let s2 := if l = 7 then s1.modTg fun t => { t with calPend := some t.cal } else s1
    (if wait then s2 else s2.schedule l).tgsStatus

/-- LIST_COMMIT (R223). -/
def execListCommit (s : State) : Host.Outcome State Fault Refusal :=
  if ¬ s.aon.coreUp then .next s else
  .next s.listCommit.settle

/-- The calendar entry in force at time `t`: its number, the time it counts as made at, its action (R225, R227). -/
def Cal.inForce (c : Cal) (t : Nat) : Option (Nat × Nat × Nat) :=
  let n := bits c.cfg 0 6
  let period := if bit c.cfg 16 then 604800 else 86400
  let off : Int := ((t : Int) - (c.base : Int)) % ((period * 10 ^ 9 : Nat) : Int)
  let cand := (List.range n).filter fun i => decide (((tgetD c.ents i (0, 0)).1 * 10 ^ 9 : Nat) ≤ off.toNat)
  match cand.getLast? with
  | some i =>
    let e := tgetD c.ents i (0, 0)
    some (i, t - (off.toNat - e.1 * 10 ^ 9), e.2)
  | none =>
    if n = 0 then none
    else
      let e := tgetD c.ents (n - 1) (0, 0)
      some (n - 1, t - (off.toNat + (period - e.1) * 10 ^ 9), e.2)

/-- An overlay number is valid (TOP.OVL_VALID). -/
def State.ovlValid (s : State) (n : Nat) : Bool := bit (s.regN Reg.TOP.OVL_VALID) n && s.flag Fld.CFG.STATUS.IMAGE_APPLIED

/-- A request for an invalid overlay has no effect but its event (R370). -/
def State.ovlRefuse (s : State) : State := s.event Fld.TOP.EVENT.OVL_REFUSED 2

/-- A change of overlay is pending while a request of management software waits (R227). -/
def State.ovlShow (s : State) : State := s.putB Fld.TGS.OVL_STATUS.PENDING_VALID (!s.boot.ovlReqs.isEmpty)

/-- The times that entry `i`'s last occurrence at or before `t` counts as made at (R227). -/
def Cal.madeAt (c : Cal) (i t : Nat) : Nat :=
  let period := if bit c.cfg 16 then 604800 else 86400
  t - (((t : Int) - (c.base : Int) - ((tgetD c.ents i (0, 0)).1 * 10 ^ 9 : Nat)) % ((period * 10 ^ 9 : Nat) : Int)).toNat

/-- The overlays that calendar entries ask for at a boundary at `t`, each with the time that it counts as made at: of every entry whose
time has come since the last boundary, whatever entry is in force now, and of the entry in force where it is not the one of the last
boundary; at the power list's start of the entry in force alone (R224, R226). -/
def Cal.asks (c : Cal) (last : Option (Nat × Nat)) (t : Nat) : List (Nat × Nat) :=
  let now := (c.inForce t).map fun x => (x.1, x.2.1)
  (List.range (bits c.cfg 0 6)).filterMap fun i =>
    let act := (tgetD c.ents i (0, 0)).2
    let made := c.madeAt i t
    let due : Bool := (now == some (i, made) && last != now) || (match last with | some (_, m) => decide (m < made) | none => false)
    if bit act 20 ∧ due then some (bits act 16 4, made) else none

/-- Of overlays that fall due at one boundary, the one made later; of two made at one time, the later in the list. -/
def lastMade : List (Nat × Nat) → Option Nat
  | [] => none
  | x :: r => some (r.foldl (fun b y => if b.2 ≤ y.2 then y else b) x).1

/-- A power-list cycle boundary at the present time: the masks of the calendar entry in force take effect, and of the overlays that
fall due at it, of calendar entries and of requests made at least 1 µs before, the one made later, management software's on a tie
(R226, R227). -/
def State.boundary (s : State) : State :=
  let t := s.ptpTime
  let due := s.boot.ovlReqs.filter fun r => decide (r.2 + 1000 ≤ t)
  let s0 := s.modBoot fun b => { b with ovlReqs := b.ovlReqs.filter fun r => !decide (r.2 + 1000 ≤ t) }
  let asks := match s.tg.calRun with | some c => c.asks s.tg.calLast t | none => []
  let s1 := match s.tg.calRun.bind fun c => c.inForce t with
    | none => s0.modTg fun x => { x with calMask := 0x1FF, calLast := none }
    | some (i, made, act) => s0.modTg fun x => { x with calMask := act % 512, calLast := some (i, made) }
  let s2 := if asks.any fun r => !s.ovlValid r.1 then s1.ovlRefuse else s1
  match lastMade (asks.filter (fun r => s.ovlValid r.1) ++ due) with
  | some n => s2.modTg fun x => { x with ovlDue := some n }
  | none => s2

/-- What TGS.CAL_CURRENT shows: the calendar entry in force at PTP time, while the power list runs (R225). -/
def State.calCurrent (s : State) : Nat :=
  if (s.glist 7).running.isNone then 0
  else match s.tg.calRun.bind fun c => c.inForce s.ptpTime with
    | some (i, _, _) => 32 + i
    | none => 0

/-- Where a set with start S stands at time `t`, before S too, as if it had run throughout: its entry and its cycle (R221, R224). -/
def GSet.position (g : GSet) (l t : Nat) : Nat × Int :=
  let d : Int := (t : Int) - (g.start : Int)
  (entryAt l g.entries (d % (g.cycle : Int)).toNat 0, d / (g.cycle : Int))

/-- The pending set of list `l` starts (R223): it replaces the list in force; for the power list the start is a
boundary.  A set whose start lies in the past after a step of PTP time stands where it would stand had it run from then (R224). -/
def State.listStart (s : State) (l : Nat) : State :=
  match (s.glist l).pending with
  | none => s
  | some g =>
    if (s.glist l).waitLock then s
    else
      let s0 := s.advTo g.start
      let place := g.position l s0.ptpTime
      let s1 := s0.modList l fun x => { x with pending := none, running := some g, pos := place.1, cyc := place.2 }
      let s2 := if l = 7 then
          (s1.modTg fun t => { t with calRun := if t.calPend.isSome then t.calPend else t.calRun, calPend := none, calLast := none }).boundary
        else s1
      ((s2.applyGates l).tgsStatus).event Fld.TGS.EVENT.LIST_STARTED 129

/-- LIST_START (R223). -/
def execListStart (list : Nat) (s : State) : Host.Outcome State Fault Refusal :=
  if ¬ s.aon.coreUp then .next s else
  if list < 8 then .next (s.listStart list).settle else .next s

/-- The next entry of list `l` starts (R221). -/
def State.gateEntry (s : State) (l : Nat) : State :=
  match (s.glist l).running with
  | none => s
  | some g =>
    let x := s.glist l
    let wrap := decide (g.entries.length ≤ x.pos + 1)
    let pos := if wrap then 0 else x.pos + 1
    let cyc := if wrap then x.cyc + 1 else x.cyc
    let s1 := (s.advTo ((g.start : Int) + cyc * g.cycle + g.entryOffset l pos).toNat).modList l fun y => { y with pos := pos, cyc := cyc }
    (if l = 7 ∧ wrap then s1.boundary else s1).applyGates l

/-- GATE_ENTRY_START (R221). -/
def execGateEntryStart (list : Nat) (s : State) : Host.Outcome State Fault Refusal :=
  if ¬ s.aon.coreUp then .next s else
  if list < 8 then .next (s.gateEntry list).settle else .next s

/-- After a step of PTP time, realign running list `l` to its start, or start a pending list whose start has passed
(R224). (DEDUCED, log entry 137.) -/
def State.realign (s : State) (l : Nat) : State :=
  let t := s.ptpTime
  let s1 := match (s.glist l).running with
    | none => s
    | some g =>
      let place := g.position l t
      (s.modList l fun y => { y with pos := place.1, cyc := place.2 }).applyGates l
  match (s1.glist l).pending with
  | none => s1
  | some g => if ¬ (s1.glist l).waitLock ∧ g.start ≤ t then s1.listStart l else s1

/-- PTP time is stepped to `t` (R217, R219, R224). -/
def State.timeStep (s : State) (t : Nat) : State :=
  let s1 := (s.wr64 Reg.PTP.TIME_LO (t % 2 ^ 64)).event Fld.PTP.EVENT.STEPPED 115
  ((List.range 8).foldl State.realign s1).event Fld.TGS.EVENT.TIME_STEP 132

/-! ### PTP -/

/-- The state of PTP port `n` (PTP.PORT_STATE). -/
def portState (n : Nat) : FieldAt := ⟨Reg.PTP.PORT_STATE, 4 * n, 4⟩

/-- LOCKED rises: pending commits that waited compute their start (R223). -/
def State.lockRise (s : State) : State :=
  let s1 := (s.on Fld.PTP.STATUS.LOCKED).event Fld.PTP.EVENT.LOCKED 113
  ((List.range 8).foldl (fun s l => if (s.glist l).waitLock then s.schedule l else s) s1).tgsStatus

/-- The servo leaves Free-running or Holdover for Acquiring (R217). -/
def State.servoAcquire (s : State) : State :=
  let sv := s.get Fld.PTP.STATUS.SERVO
  if sv = 0 ∨ sv = 4 then
    (s.put Fld.PTP.STATUS.SERVO 1).modTg fun t => { t with good := 0, miss := 0, ppsHold := false }
  else s

/-- The servo enters Holdover (R217). -/
def State.servoHold (s : State) : State :=
  let pps := s.get Fld.PTP.STATUS.SERVO = 3
  (((s.put Fld.PTP.STATUS.SERVO 4).modTg fun t => { t with ppsHold := pps, good := 0, miss := 0 }).off
    Fld.PTP.STATUS.LOCKED).event Fld.PTP.EVENT.LOCK_LOST 114

/-- A new offset sample (R217).  The rate correction is the output of firmware's loop, whose gains are not exposed: a
free value (log entry 13). -/
def State.servoSample (s : State) (off : Int) : State :=
  let s1 := s.wr64 Reg.PTP.OFFSET_LO (codeOf 64 off)
  let sv := s1.get Fld.PTP.STATUS.SERVO
  let lock := (s1.get Fld.PTP.SERVO.LOCK_NS : Int)
  let inside := decide (-lock ≤ off) && decide (off ≤ lock)
  if sv = 0 ∨ sv = 4 then s1
  else
    let (k, s2) := s1.fresh 5
    let s3 := s2.setN Reg.PTP.ADJ_RATE k
    if sv = 1 then
      if (s3.get Fld.PTP.SERVO.STEP_US : Int) * 1000 < off.natAbs then
        (s3.modTg fun t => { t with good := 0 }).timeStep ((s3.ptpTime : Int) - off).toNat
      else if ¬ inside then s3.modTg fun t => { t with good := 0 }
      else if s3.tg.good + 1 < 16 then s3.modTg fun t => { t with good := t.good + 1 }
      else
        ((s3.put Fld.PTP.STATUS.SERVO (if s3.get Fld.PTP.PPS.IN_MODE = 2 then 3 else 2)).modTg fun t =>
          { t with good := 0, miss := 0 }).lockRise
    else if inside then s3.modTg fun t => { t with miss := 0 }
    else if s3.tg.miss + 1 < 4 then s3.modTg fun t => { t with miss := t.miss + 1 }
    else s3.servoHold

/-- At most one port is SLAVE (R214): the one that was leaves that state, for which the spec names no other: a free value of 1 to 8
(log entry 129). -/
def State.slaveOnly (s : State) (n : Nat) : State :=
  let q := s.get Fld.PTP.STATUS.SLAVE_PORT
  if q = n ∨ 6 < q then s
  else
    let (v, s1) := s.fresh 28
    s1.put (portState q) (1 + v % 8)

/-- A port takes the state that the best master clock algorithm decides (R214, R217). -/
def State.ptpPort (s : State) (n st : Nat) : State :=
  let was := s.get (portState n)
  let s1 := s.put (portState n) st
  if was = st then s1
  else if st = 9 then
    let s2 := (s1.slaveOnly n).put Fld.PTP.STATUS.SLAVE_PORT n
    if s2.get Fld.PTP.PPS.IN_MODE = 2 then s2 else s2.servoAcquire.event Fld.PTP.EVENT.MASTER_CHANGED 112
  else if was = 9 then (s1.put Fld.PTP.STATUS.SLAVE_PORT 15).event Fld.PTP.EVENT.MASTER_CHANGED 112
  else s1

/-- PTP.CFG has been written: a port enabled there is initialising, one that is not has no state (R214, PTP.PORT_STATE). -/
def State.ptpCfg (s : State) : State :=
  (List.range 7).foldl (fun s n =>
    let st := s.get (portState n)
    if bit (bits (s.regN Reg.PTP.CFG) 8 7) n then (if st = 0 then s.put (portState n) 1 else s)
    else if st = 0 then s else s.ptpPort n 0) s

/-- The PHY latency fused for a port, ns, taken as that of either direction (R215, R357). (DESIGN CHOICE, log entry 129.) -/
def State.phyLat (s : State) (n : Nat) : Nat := match s.fuse with | some f => f.phyLat.getD n 0 | none => 0

/-- The stamp of an event message that leaves now by port `n`, at the end of its start-of-frame delimiter, corrected (R215). -/
def State.txStamp (s : State) (n : Nat) : Nat := s.ptpTime + s.phyLat n

/-- Send a PTP message by port `n`, in the domain and over the transport of PTP.CFG: Layer 2 in the 802.1AS profile (R214). -/
def State.ptpSend (s : State) (n kind arg : Nat) : State :=
  s.emit (.ptp n kind arg (s.get Fld.PTP.CFG.DOMAIN) (if s.get Fld.PTP.CFG.PROFILE = 2 then 0 else s.get Fld.PTP.CFG.TRANSPORT)
    (s.frmHdr n 0x88F7))

/-- What the part sends on a message received by port `n` (R214), by the types of IEEE 1588: a Delay_Req on a Sync at the slave port, or
in the profiles with peer delay a Pdelay_Req; a master port's Delay_Resp with the stamp of the request; a Pdelay_Resp and its
Follow_Up, two-step.  When a delay request is sent the spec does not say. (DESIGN CHOICE, log entry 129.) -/
def State.ptpAnswer (s : State) (n kind : Nat) : State :=
  let peer := decide (s.get Fld.PTP.CFG.PROFILE ≠ 0)
  let rx := tgetD s.tg.rxStamp n 0
  match kind with
  | 0 => if s.get (portState n) = 9 then s.ptpSend n (if peer then 2 else 1) (s.txStamp n) else s
  | 1 => if ¬ peer ∧ s.get (portState n) = 6 then s.ptpSend n 9 rx else s
  | 2 => if peer then (s.ptpSend n 3 rx).ptpSend n 0xA (s.txStamp n) else s
  | _ => s

/-- The master of the slave port is `parent` now (R217). -/
def State.ptpParent (s : State) (n parent : Nat) : State :=
  if s.get Fld.PTP.STATUS.SLAVE_PORT ≠ n ∨ s.tg.master = parent then s
  else
    let s1 := s.modTg fun t => { t with master := parent }
    if s.get Fld.PTP.PPS.IN_MODE = 2 then s1 else s1.event Fld.PTP.EVENT.MASTER_CHANGED 112

/-- A received PTP message (R215 to R217): an event message is stamped, with the port's latency taken off; `state` is the port state that
the best master clock algorithm of IEEE 1588 decides from it, `parent` the master that the port then follows, `offset` the offset it
yields. (DESIGN CHOICE, log entry 129.) -/
def State.ptpMessage (s0 : State) (n kind : Nat) (mine : Bool) (offset : Option Int) (st : Option Nat) (parent : Nat) : State :=
  if ¬ mine then s0.satInc ⟨Reg.PTP.RX_DROP, 0, 32⟩
  else if ¬ bit (bits (s0.regN Reg.PTP.CFG) 8 7) n then s0
  else
    let s := if kind < 4 then s0.modTg fun t => { t with rxStamp := tput t.rxStamp n (s0.ptpTime - s0.phyLat n) } else s0
    let s1 := ((match st with
      | some x => s.ptpPort n x
      | none => s).ptpParent n parent).ptpAnswer n kind
    match offset with
    | some o => if s1.get Fld.PTP.PPS.IN_MODE = 2 ∨ s1.get Fld.PTP.STATUS.SLAVE_PORT ≠ n then s1 else s1.servoSample o
    | none => s1

/-- PTP_MESSAGE_RECEIVE (R216). -/
def execPtpMessageReceive (port kind : Nat) (mine : Bool) (offset : Option Int) (state : Option Nat) (parent : Nat) (s : State) :
    Host.Outcome State Fault Refusal :=
  if ¬ s.aon.coreUp then .next s else
  if port < 7 then .next (s.ptpMessage port kind mine offset state parent).settle else .next s

/-- SYNC_LOSS_TIMEOUT (R217). -/
def execSyncLossTimeout (s : State) : Host.Outcome State Fault Refusal :=
  if ¬ s.aon.coreUp then .next s else
  if s.get Fld.PTP.STATUS.SERVO = 2 ∨ s.get Fld.PTP.STATUS.SERVO = 3 then .next s.servoHold.settle else .next s

/-- The clock class the part announces (R214). -/
def State.clockClass (s : State) : Nat :=
  if s.get Fld.PTP.PPS.IN_MODE = 2 ∧ s.get Fld.PTP.STATUS.SERVO = 3 then 6
  else if s.get Fld.PTP.STATUS.SERVO = 4 ∧ s.tg.ppsHold then 7
  else 248

/-- What the part announces: its class, PRIORITY1 of PTP.CFG, PRIORITY2 128 (R214). -/
def State.announced (s : State) : Nat := s.clockClass + 2 ^ 8 * s.get Fld.PTP.CFG.PRIORITY1 + 2 ^ 16 * 128

/-- PTP_SYNC_SEND (R214, R215): a port in MASTER state sends a two-step Sync, its Follow_Up with the Sync's corrected stamp, and an
Announce. -/
def execPtpSyncSend (port : Nat) (s : State) : Host.Outcome State Fault Refusal :=
  if ¬ s.aon.coreUp then .next s else
  if port < 7 ∧ s.get (portState port) = 6 then
    .next (((s.ptpSend port 0 (s.txStamp port)).ptpSend port 8 (s.txStamp port)).ptpSend port 0xB s.announced)
  else .next s

/-- PPS_IN_EDGE (R218). -/
def execPpsInEdge (s : State) : Host.Outcome State Fault Refusal :=
  if ¬ s.aon.coreUp then .next s else
  let mode := s.get Fld.PTP.PPS.IN_MODE
  if mode = 0 ∨ mode = 3 then .next s
  else
    let t := s.ptpTime
    let s1 := s.wr64 Reg.PTP.PPS_IN_TS_LO t
    if mode = 1 then .next s1
    else
      let r : Nat := t % 10 ^ 9
      let off : Int := if r < 500000000 then (r : Int) else (r : Int) - 1000000000
      .next ((if s1.get Fld.PTP.STATUS.SERVO = 0 then s1.servoAcquire.event Fld.PTP.EVENT.MASTER_CHANGED 112 else s1.servoAcquire).servoSample
        off).settle

/-- PPS_IN_LOST (R218). -/
def execPpsInLost (s : State) : Host.Outcome State Fault Refusal :=
  if ¬ s.aon.coreUp then .next s else
  if s.get Fld.PTP.PPS.IN_MODE = 2 then .next (s.event Fld.PTP.EVENT.PPS_IN_LOST 116).settle else .next s

/-- PPS_OUT_RISE (R218): at a second boundary of PTP time. -/
def execPpsOutRise (s : State) : Host.Outcome State Fault Refusal :=
  if ¬ s.aon.coreUp then .next s else
  if s.flag Fld.PTP.PPS.OUT_EN then
    let t := s.ptpTime
    .next ((if t % 10 ^ 9 = 0 then s else s.advTo (t + (10 ^ 9 - t % 10 ^ 9))).modAon fun a => { a with ppsOut := true })
  else .next s

/-- PPS_OUT_FALL (R218). -/
def execPpsOutFall (s : State) : Host.Outcome State Fault Refusal :=
  if ¬ s.aon.coreUp then .next s else
  .next (s.modAon fun a => { a with ppsOut := false })

/-- PTP.SET_GO (R219): ignored while a port is SLAVE, except in IN_MODE 2. (DEDUCED, log entry 67.) -/
def State.setGo (s : State) : State :=
  if (List.range 7).any (fun n => s.get (portState n) = 9) ∧ s.get Fld.PTP.PPS.IN_MODE ≠ 2 then s
  else s.modTg fun t => { t with setGo := some (s.rd64 Reg.PTP.SET_TIME_LO) }

/-- PTP_SET_GO (R219). -/
def execPtpSetGo (s : State) : Host.Outcome State Fault Refusal :=
  if ¬ s.aon.coreUp then .next s else
  .next s.setGo

/-- PTP_TIME_SET (R219): at the next whole microsecond, PTP time is set. -/
def execPtpTimeSet (s : State) : Host.Outcome State Fault Refusal :=
  if ¬ s.aon.coreUp then .next s else
  match s.tg.setGo with
  | none => .next s
  | some v =>
    let t := s.ptpTime
    let s1 := (s.advTo ((t / 1000 + 1) * 1000)).modTg fun t => { t with setGo := none }
    .next (s1.timeStep v).settle

/-- ANNOUNCE_RECEIPT_TIMEOUT (R214, R219): the port leaves SLAVE, or another state in which IEEE 1588 lets that timeout act (4 LISTENING, 7
PASSIVE, 8 UNCALIBRATED), for the state IEEE 1588 gives it. -/
def execAnnounceReceiptTimeout (port newState : Nat) (s : State) : Host.Outcome State Fault Refusal :=
  if ¬ s.aon.coreUp then .next s else
  if port < 7 ∧ s.get (portState port) ∈ [4, 7, 8, 9] ∧ newState % 16 ≠ 9 then .next (s.ptpPort port (newState % 16)).settle
  else .next s

/-! ### Shapers and policers -/

/-- The whole part of a credit in 1/1,024 byte (R229). (DEDUCED, log entry 68.) -/
def creditWhole (c : Int) : Int := Int.tdiv c 1024

/-- Set the shaper credit of a queue; SHAPE_CREDIT shows its whole part. -/
def State.setCredit (s : State) (p t : Nat) (c : Int) : State :=
  (s.modTg fun x => { x with credit := tputD x.credit (8 * p + t) c 0 }).setN (Reg.TGS_P.SHAPE_CREDIT p t)
    (codeOf 32 (creditWhole c))

/-- The shaper credit of a queue. -/
def State.credit (s : State) (p t : Nat) : Int := tgetD s.tg.credit (8 * p + t) 0

/-- One refill tick of a shaper (R229, R230): debt is kept, positive credit is clamped to the ceiling. -/
def State.shapeTick (s : State) (p t : Nat) : State :=
  if s.flag (Fld.TGS_P.SHAPE_RATE.ENABLE p t) then
    let c := s.credit p t + 128 * (s.get (Fld.TGS_P.SHAPE_RATE.RATE p t) : Int)
    let top := 1024 * (s.get (Fld.TGS_P.SHAPE_BURST.V p t) : Int)
    s.setCredit p t (if top < c ∧ 0 < c then (if 0 ≤ top then top else 0) else c)
  else s.setCredit p t 0

/-- The 56 queues of ports 0 to 6. -/
def queues56 : List (Nat × Nat) := (List.range 7).flatMap fun p => (List.range 8).map fun t => (p, t)

/-- SHAPER_REFILL (R229): one 1 µs tick of every shaper. -/
def execShaperRefill (s : State) : Host.Outcome State Fault Refusal :=
  if ¬ s.aon.coreUp then .next s else
  .next (queues56.foldl (fun s x => s.shapeTick x.1 x.2) s)

/-- The policer credit of a class. -/
def State.policeCredit (s : State) (p t : Nat) : Nat := tgetD s.tg.police (8 * p + t) 0

/-- One refill tick of a policer (R231); its credit starts at 0 and stands still while ENABLE is 0. (DESIGN CHOICE, log entry 177.) -/
def State.policeTick (s : State) (p t : Nat) : State :=
  if s.flag (Fld.TGS_P.POLICE.ENABLE p t) then
    let c := s.policeCredit p t + 128 * s.get (Fld.TGS_P.POLICE.RATE p t)
    let top := 1024 * s.get (Fld.TGS_P.POLICE_BURST.V p t)
    s.modTg fun x => { x with police := tputD x.police (8 * p + t) (min c top) 0 }
  else s

/-- POLICER_REFILL (R231): one 1 µs tick of every policer. -/
def execPolicerRefill (s : State) : Host.Outcome State Fault Refusal :=
  if ¬ s.aon.coreUp then .next s else
  .next (queues56.foldl (fun s x => s.policeTick x.1 x.2) s)

/-- The verdict of a policer on a frame: 0 passes, 1 passes marked CE, 2 dropped (R231).  `lossless` says whether the
class is a lossless priority of the port. -/
def State.policeFrame (s : State) (p t len : Nat) (ecn lossless : Bool) : Nat × State :=
  if ¬ s.flag (Fld.TGS_P.POLICE.ENABLE p t) then (0, s)
  else if len * 1024 ≤ s.policeCredit p t then
    (0, s.modTg fun x => { x with police := tputD x.police (8 * p + t) (s.policeCredit p t - len * 1024) 0 })
  else if (s.flag (Fld.TGS_P.POLICE.MARK p t) ∨ lossless) ∧ ecn then (1, s.satInc (Fld.TGS_P.POLICE_MARK.V p))
  else if lossless then (0, s)
  else (2, s.satInc (Fld.TGS_P.POLICE_DROP.V p))

end Sys2Proof.Machine
end

