-- ==== Sys2Proof/Machine/Boot.lean ====
section
/-! DEFINITION. Measurement slots, the configuration seal, overlay requests and the CFG commands (R227, R368 to R373). -/

namespace Sys2Proof.Machine
open Sys2Proof

/-! ### Measurement -/

/-- Measurement slot `n` extended with a digest (R372). -/
def State.mslExtend (s : State) (n : Nat) (d : Digest) : State :=
  s.modBoot fun b => { b with msl := b.msl.modify n fun m => Config.sha384 (digBytes m ++ digBytes d) }

/-- A digest from its 48 bytes. -/
def digOf (l : List Byte) : Digest := BitVec.ofNat 384 (leNat l.reverse)

/-- The 48 bytes of CFG.DATA0 to DATA11. -/
def State.cfgData (s : State) : List Byte := (List.range 12).flatMap fun m => leBytes 4 (s.regN (Reg.CFG.DATA m))

/-- CFG.MSL_DATAm: byte 4m of the selected slot in [7:0] (R372). -/
def State.mslData (s : State) (m : Nat) : Nat :=
  leAt (digBytes (s.boot.msl.getD (s.get Fld.CFG.MSL_SELECT.V) 0)) (4 * m) 4

/-! ### The seal -/

/-- The configuration seal is set: every RWS field becomes read-only and MSL7 is extended (R368). -/
def State.sealSet (s : State) : State :=
  (((s.on Fld.TOP.STATUS.SEALED).off Fld.TOP.STATUS.HOLD_SEAL).mslExtend 7 (Config.sha384 (ascii "SEAL"))).event
    Fld.TOP.EVENT.SEALED 4

/-- A write of 1 to TOP.SEAL.GO: under HOLD_SEAL the seal is set and start-up continues from step 9; a write while the seal
is set is ignored (R368). -/
def State.sealGo (s : State) : State :=
  if s.flag Fld.TOP.STATUS.HOLD_SEAL ∧ ¬ s.flag Fld.TOP.STATUS.SEALED then
    (s.sealSet.put Fld.TOP.STATUS.MODE 1).modBoot fun b => { b with phase := 6 }
  else s

/-- SEAL_GO (R368). (DEDUCED, log entry 97.) -/
def execSealGo (s : State) : Host.Outcome State Fault Refusal :=
  if ¬ s.aon.coreUp then .next s else
  .next s.sealGo.settle

/-! ### Overlay requests -/

/-- A write of TOP.OVL_REQ (R227, R369, R370): the request waits for its own boundary, with those made before it. (DEDUCED, log entry
101.) (DEDUCED, log entry 101.) -/
def State.ovlRequest (s : State) (v : Nat) : State :=
  let n := v % 16
  if ¬ s.ovlValid n then s.ovlRefuse
  else
    let s1 := s.modBoot fun b => { b with ovlReqs := b.ovlReqs ++ [(n, s.ptpTime)] }
    (s1.put Fld.TGS.OVL_STATUS.PENDING n).on Fld.TGS.OVL_STATUS.PENDING_VALID

/-- OVL_REQUEST (R369). -/
def execOvlRequest (ovl : Nat) (s : State) : Host.Outcome State Fault Refusal :=
  if s.aon.coreUp then .next (s.ovlRequest ovl).settle else .next s

/-! ### CFG commands -/

/-- The last command's outcome (CFG.CMD_RESULT.CODE). -/
def State.cfgCode (s : State) (c : Nat) : State := s.put Fld.CFG.CMD_RESULT.CODE c

/-- EXTEND (R373). -/
def State.cfgExtend (s : State) (arg : Nat) : State :=
  if arg < 12 ∨ 15 < arg then s.cfgCode 2 else (s.mslExtend arg (digOf s.cfgData)).cfgCode 0

/-- RAISE_SVN (R371): the fused floor rises to the running firmware's SVN. -/
def State.cfgRaise (s : State) : State :=
  match s.fuse with
  | none => s.cfgCode 1
  | some f =>
    if ¬ s.flag Fld.CFG.STATUS.FW_VERIFIED then s.cfgCode 1
    else
      let v := max f.svnFloor (s.get Fld.CFG.SVN.FW_SVN)
      ((s.setFuse { f with svnFloor := v }).put Fld.CFG.SVN.FLOOR v).cfgCode 0

/-- OWNER_FUSE (R371): refused once the hash is set. -/
def State.cfgOwner (s : State) : State :=
  match s.fuse with
  | none => s.cfgCode 1
  | some f =>
    if f.ownerHash.isSome then s.cfgCode 7
    else ((s.setFuse { f with ownerHash := some (digOf s.cfgData) }).on Fld.CFG.STATUS.OWNER_SET).cfgCode 0

/-- The code a STAGE's checks end with: codes 2, 6 and 9 of R363 are the record check's, 3 and 5 the signatures', 4 the
SVN's. (DEDUCED, log entry 99.) -/
def stageCode (c : Nat) : Nat := if c = 3 ∨ c = 5 then 3 else if c = 4 then 5 else 4

/-- The first failure among codes 2 to 6 and 9 of R363, as start-up finds them (R371). -/
def State.stageCheck (s : State) (f : Fuses) (img : List Byte) : Nat :=
  let c := imageCheck1 f (s.get Fld.CFG.SVN.FLOOR) none img
  if c ≠ 0 then c else imageCheck2 (s.regN Reg.TOP.ID) img

/-- The image copy a STAGE writes: the one not running; in failsafe the one the directory does not prefer (R367).
(DEDUCED, log entry 100.) -/
def State.stageCopy (s : State) : Nat :=
  if s.get Fld.TOP.STATUS.MODE = 2 then
    match s.flash.bind dirPick with
    | some d => 1 - byteAt d 8 % 2
    | none => 1
  else 1 - s.get Fld.CFG.COPY.RUNNING

/-- STAGE (R371, R367): the image is read from DRAM, or from the staging buffer while the DRAM is not trained, and checked;
programming then runs until STAGE_COMPLETE. -/
def State.cfgStage (s : State) : State :=
  let a := s.rd64 Reg.CFG.UPD_ADDR_LO
  let n := s.get Fld.CFG.UPD_LEN.V
  let trained := s.flag Fld.DDC.STATUS.TRAINED
  let top := if trained then s.get Fld.TOP.DRAM_FITTED.V * 2 ^ 20 else 2 ^ 25
  if top < a + n then s.cfgCode 8
  else
    let img := if trained then s.dramRead a n else memGetAll s.boot.buffer a n
    match s.fuse with
    | none => s.cfgCode 1
    | some f =>
      let c := s.stageCheck f img
      if c ≠ 0 then s.cfgCode (stageCode c)
      else ((s.modBoot fun b => { b with stage := some (img, s.stageCopy) }).cfgCode 0).on Fld.CFG.CMD_RESULT.BUSY

/-- A write of CFG.CMD (R371): ignored while a command is in progress; in failsafe only EXTEND, STAGE and ACTIVATE work
(R366). (DEDUCED, log entry 98.) -/
def State.cfgCommand (s : State) (v : Nat) : State :=
  let op := v % 16
  if s.flag Fld.CFG.CMD_RESULT.BUSY then s
  else if s.get Fld.TOP.STATUS.MODE = 2 ∧ 3 < op then s.cfgCode 1
  else match op with
    | 1 => s.cfgExtend (bits v 4 4)
    | 2 => s.cfgStage
    | 3 => (s.coreReset 5).setN Reg.CFG.COPY 0
    | 4 => s.cfgRaise
    | 5 => s.cfgOwner
    | _ => s.cfgCode 1

/-- CFG_EXTEND (R373). -/
def execCfgExtend (arg : Nat) (s : State) : Host.Outcome State Fault Refusal :=
  if s.aon.coreUp then .next (s.cfgCommand (1 + 16 * (arg % 16))) else .next s

/-- CFG_STAGE (R371). -/
def execCfgStage (s : State) : Host.Outcome State Fault Refusal := if s.aon.coreUp then .next (s.cfgCommand 2) else .next s

/-- CFG_ACTIVATE (R371). -/
def execCfgActivate (s : State) : Host.Outcome State Fault Refusal := if s.aon.coreUp then .next (s.cfgCommand 3) else .next s

/-- CFG_RAISE_SVN (R371). -/
def execCfgRaiseSvn (s : State) : Host.Outcome State Fault Refusal := if s.aon.coreUp then .next (s.cfgCommand 4) else .next s

/-- CFG_OWNER_FUSE (R371). -/
def execCfgOwnerFuse (s : State) : Host.Outcome State Fault Refusal := if s.aon.coreUp then .next (s.cfgCommand 5) else .next s

/-- The 64 bytes of a directory copy (R358): sequence, preferred copy, GEN and LEN of both images. -/
def dirBytes (seq pref genA genB lenA lenB : Nat) : List Byte :=
  let b := ascii "DVDR" ++ leBytes 4 seq ++ leBytes 1 pref ++ List.replicate 7 0 ++ leBytes 8 genA ++ leBytes 8 genB
    ++ leBytes 4 lenA ++ leBytes 4 lenB ++ List.replicate 20 0
  b ++ leBytes 4 (crc32c b).toNat

/-- The directory after an image has been staged to copy `c`. -/
def nextDir (f : FlashImage) (c : Nat) (img : List Byte) : List Byte :=
  let d := (dirPick f).getD (List.replicate 64 0)
  let g := leAt img 16 8
  let n := totalLen img
  dirBytes (leAt d 4 4 + 1) c (if c = 0 then g else leAt d 16 8) (if c = 0 then leAt d 24 8 else g)
    (if c = 0 then n else leAt d 32 4) (if c = 0 then leAt d 36 4 else n)

/-- Flash programming has ended (R371): the image stands in its copy and both directory copies hold the same new bytes; a
failed write leaves the directory unchanged and counts in SIO.SPI_ERR. -/
def State.stageDone (s : State) (ok : Bool) : State :=
  match s.boot.stage, s.flash with
  | some (img, c), some f =>
    let s1 := (s.modBoot fun b => { b with stage := none }).off Fld.CFG.CMD_RESULT.BUSY
    if ok then
      let d := nextDir f c img
      let put (old : List Byte) : List Byte := img ++ old.drop img.length
      let f1 : FlashImage := { f with dir0 := d, dir1 := d, imgA := if c = 0 then put f.imgA else f.imgA,
                                      imgB := if c = 0 then f.imgB else put f.imgB }
      ((s1.setFlash f1).emit (.flashWrite c img)).cfgCode 0
    else ((s1.cfgCode 6).satInc ⟨Reg.SIO.SPI_ERR, 0, 32⟩).event Fld.SIO.EVENT.SPI_ERROR 1396
  | _, _ => s

/-- STAGE_COMPLETE (R371). -/
def execStageComplete (ok : Bool) (s : State) : Host.Outcome State Fault Refusal :=
  if ¬ s.aon.coreUp then .next s else
  .next (s.stageDone ok)

end Sys2Proof.Machine
end

