-- ==== Sys2Proof/Machine/Attest.lean ====
section
/-! DEFINITION. SPDM, its carriers, and the MCTP control commands (R374 to R377).

The spec names the messages, capabilities and algorithms; codes and layouts are those of the DMTF documents it names. -/

namespace Sys2Proof.Machine
open Sys2Proof

/-! ### Contexts -/

/-- A context after GET_VERSION. -/
def Spdm.start (owner used : Nat) : Spdm := ⟨owner, used, true, false, false, none⟩

/-- The context of a request: the carrier's own, or on the NVMe carrier the one its controller holds. -/
def State.spdmKey (s : State) (carrier sender : Nat) : Option Nat :=
  if carrier < 2 then some carrier
  else ((s.boot.spdm.filter fun x => decide (2 ≤ x.1) && x.2.owner == sender).map (·.1)).head?

/-- The NVMe context a new controller takes: a free one, or the least recently used (R377). -/
def State.spdmTake (s : State) : Nat :=
  match ((List.range 8).map (· + 2)).find? fun k => (tget s.boot.spdm k).isNone with
  | some k => k
  | none => (((s.boot.spdm.filter fun x => decide (2 ≤ x.1)).foldl (fun (b : Option (Nat × Nat)) x =>
      match b with
      | some (k, u) => if x.2.used < u then some (x.1, x.2.used) else some (k, u)
      | none => some (x.1, x.2.used)) none).map (·.1)).getD 2

/-- CFG.SPDM: NVMe contexts in use, and the carriers one of whose contexts has completed NEGOTIATE_ALGORITHMS. -/
def State.spdmShow (s : State) : State :=
  let algs (k : Nat) : Bool := match tget s.boot.spdm k with | some x => x.algs | none => false
  let nv := (s.boot.spdm.filter fun x => decide (2 ≤ x.1))
  let s1 := s.put Fld.CFG.SPDM.NVME_CTX nv.length
  s1.put Fld.CFG.SPDM.NEGOTIATED (b2n (algs 0) + 2 * b2n (algs 1) + 4 * b2n (nv.any fun x => x.2.algs))

/-- Set a context, the most recently used. -/
def State.setSpdm (s : State) (k : Nat) (x : Spdm) : State :=
  (s.modBoot fun b => { b with spdm := tput b.spdm k { x with used := b.tick + 1 }, tick := b.tick + 1 }).spdmShow

/-! ### Responses -/

/-- A response: code, first parameter, payload. -/
structure SpdmResp where
  code : Nat
  param : Nat
  payload : List Byte
  deriving DecidableEq, Repr

/-- ERROR with a code. -/
def spdmError (e : Nat) : SpdmResp := ⟨0x7F, e, []⟩

/-- The certificate chain of slot 0 (R375). -/
def State.spdmChain (s : State) : List Byte :=
  Config.certChain (if s.flag Fld.CFG.STATUS.FW_VERIFIED then fwPayload (secOf s.boot.image 3 0) else [])
    (match s.fuse with | some f => f.cert | none => [])

/-- A signature of the device identity key, counted in CFG.SPDM.SIGNED (R375). -/
def State.spdmSign (s : State) (msg : List Byte) : List Byte × State :=
  (Config.deviceSign (match s.fuse with | some f => f.secret | none => []) msg, s.satInc Fld.CFG.SPDM.SIGNED)

/-- The SPDM value type of a measurement slot (R372). -/
def mslType (n : Nat) : Nat := if n < 3 then n else 3

/-- The measurement block of slot `n` (R372, R374): its index is n + 1. -/
def State.mslBlock (s : State) (n : Nat) : List Byte :=
  leBytes 1 (n + 1) ++ leBytes 1 1 ++ leBytes 2 51 ++ leBytes 1 (mslType n) ++ leBytes 2 48 ++ digBytes (s.boot.msl.getD n 0)

/-- The responder's nonce: 32 bytes the spec leaves open. -/
def State.spdmNonce (s : State) : List Byte × State :=
  let (b, s1) := s.freshBytes 13
  (fitBytes 32 b, s1)

/-- The answer to a request in a context that has negotiated far enough (R374, R375, R377). -/
def State.spdmBody (s : State) (r : SpdmReq) : SpdmResp × State :=
  match r with
  | .getVersion => (⟨0x04, 0, [0, 1] ++ leBytes 2 0x1200⟩, s)
  | .getCapabilities => (⟨0x61, 0, [0, 16, 0, 0] ++ leBytes 4 0x16 ++ leBytes 4 4096 ++ leBytes 4 4096⟩, s)
  | .negotiate p h => if p ∧ h then (⟨0x63, 0, [1, 0] ++ leBytes 4 2 ++ leBytes 4 0x80 ++ leBytes 4 2⟩, s) else (spdmError 1, s)
  | .getDigests => (⟨0x01, 1, digBytes (Config.sha384 s.spdmChain)⟩, s)
  | .getCertificate slot off len =>
    let c := s.spdmChain
    if slot ≠ 0 ∨ c.length ≤ off then (spdmError 1, s)
    else
      let part := (c.drop off).take (min len (4096 - 8))
      (⟨0x02, 0, leBytes 2 part.length ++ leBytes 2 (c.length - off - part.length) ++ part⟩, s)
  | .challenge slot nonce =>
    if slot ≠ 0 then (spdmError 1, s)
    else
      let (n, s1) := s.spdmNonce
      let body := digBytes (Config.sha384 s.spdmChain) ++ n
      let (sig, s2) := s1.spdmSign (nonce ++ body)
      (⟨0x03, 0, body ++ sig⟩, s2)
  | .getMeasurements index sign nonce =>
    let (n, s1) := s.spdmNonce
    let blocks := if index = 0xFF then List.range 16 else if 1 ≤ index ∧ index ≤ 16 then [index - 1] else []
    if index ≠ 0 ∧ blocks = [] then (spdmError 1, s)
    else
      let recd := blocks.flatMap s.mslBlock
      let body := leBytes 1 blocks.length ++ leBytes 3 recd.length ++ recd ++ n
      if sign then
        let (sig, s2) := s1.spdmSign (nonce ++ body)
        (⟨0x60, if index = 0 then 16 else 0, body ++ sig⟩, s2)
      else (⟨0x60, if index = 0 then 16 else 0, body⟩, s1)

/-- A request is in order in its context: version, capabilities, algorithms, then the others.
(DEDUCED, log entry 103.) -/
def spdmInOrder (x : Spdm) : SpdmReq → Bool
  | .getVersion => true
  | .getCapabilities => x.version
  | .negotiate _ _ => x.caps
  | _ => x.algs

/-- The context after a request that was answered without error. -/
def spdmAfter (x : Spdm) : SpdmReq → Spdm
  | .getVersion => Spdm.start x.owner x.used
  | .getCapabilities => { x with caps := true }
  | .negotiate _ _ => { x with algs := true }
  | _ => x

/-- A request on a carrier (R374 to R377): the response, sent on the MCTP carriers, held for Security Receive on the NVMe
carrier. (PRESUMED, log entry 102.) -/
def State.spdmRequest (s : State) (carrier sender : Nat) (r : SpdmReq) : State :=
  let hold (s : State) (k : Nat) (x : Spdm) (a : SpdmResp) : State :=
    if carrier < 2 then (s.setSpdm k { x with response := none }).emit (.spdm carrier a.code a.param a.payload)
    else (s.setSpdm k { x with response := some (leBytes 1 0x12 ++ leBytes 1 a.code ++ leBytes 1 a.param ++ [0] ++ a.payload) }).modBoot
      fun b => { b with resynch := dropEl b.resynch sender }
  let key : Option Nat := match s.spdmKey carrier sender with
    | some k => some k
    | none => if r = .getVersion then some s.spdmTake else none
  match key with
  | none => s.modBoot fun b => { b with resynch := addNew b.resynch sender }
  | some k =>
    let x0 := tgetD s.boot.spdm k ⟨sender, 0, false, false, false, none⟩
    let x := if x0.owner = sender ∨ carrier < 2 then x0 else ⟨sender, 0, false, false, false, none⟩
    if ¬ spdmInOrder x r then hold s k x (spdmError 4)
    else
      let (a, s1) := s.spdmBody r
      hold s1 k (if a.code = 0x7F then x else spdmAfter x r) a

/-- The carrier reaches the part: the endpoint's link, the sideband target, an enabled controller. -/
def State.carrierUp (s : State) (carrier sender : Nat) : Bool :=
  s.aon.coreUp && s.fuse.isSome &&
    (if carrier = 0 then s.flag Fld.EPF.STATUS.LINK_UP
     else if carrier = 1 then s.flag Fld.EPF.SB_CFG.ENABLE
     else carrier == 2 && (s.ctrl? sender).isSome)

/-- A request that arrives on a carrier; on the NVMe carrier it comes in a Security Send, which a controller that is not ready ends
with Command Sequence Error (R53). -/
def State.spdmArrive (s : State) (carrier sender : Nat) (r : SpdmReq) : State :=
  if carrier = 2 ∧ (s.ctrl? sender).isSome ∧ ¬ s.ctrlReady sender then
    match s.fr.cmds.find? fun x => x.2.cntlid == sender && x.2.qid == 0 && x.2.opcode == 0x81 with
    | some x => s.adminDone sender x.2.cid 0x0C
    | none => s
  else if s.carrierUp carrier sender then s.spdmRequest carrier sender r else s

/-- GET_VERSION (R377). -/
def execGetVersion (carrier sender : Nat) (s : State) : Host.Outcome State Fault Refusal :=
  if ¬ s.aon.coreUp then .next s else
  .next (s.spdmArrive carrier sender .getVersion)

/-- GET_CAPABILITIES (R374). -/
def execGetCapabilities (carrier sender : Nat) (s : State) : Host.Outcome State Fault Refusal :=
  if ¬ s.aon.coreUp then .next s else
  .next (s.spdmArrive carrier sender .getCapabilities)

/-- NEGOTIATE_ALGORITHMS (R374). -/
def execNegotiateAlgorithms (carrier sender : Nat) (p384 sha384 : Bool) (s : State) : Host.Outcome State Fault Refusal :=
  if ¬ s.aon.coreUp then .next s else
  .next (s.spdmArrive carrier sender (.negotiate p384 sha384))

/-- GET_DIGESTS (R374). -/
def execGetDigests (carrier sender : Nat) (s : State) : Host.Outcome State Fault Refusal :=
  if ¬ s.aon.coreUp then .next s else
  .next (s.spdmArrive carrier sender .getDigests)

/-- GET_CERTIFICATE (R375). -/
def execGetCertificate (carrier sender slot off len : Nat) (s : State) : Host.Outcome State Fault Refusal :=
  if ¬ s.aon.coreUp then .next s else
  .next (s.spdmArrive carrier sender (.getCertificate slot off len))

/-- CHALLENGE (R375). -/
def execChallenge (carrier sender slot : Nat) (nonce : List Byte) (s : State) : Host.Outcome State Fault Refusal :=
  if ¬ s.aon.coreUp then .next s else
  .next (s.spdmArrive carrier sender (.challenge slot nonce))

/-- GET_MEASUREMENTS (R377). -/
def execGetMeasurements (carrier sender index : Nat) (sign : Bool) (nonce : List Byte) (s : State) :
    Host.Outcome State Fault Refusal :=
  if ¬ s.aon.coreUp then .next s else
  .next (s.spdmArrive carrier sender (.getMeasurements index sign nonce))

/-- SECURITY_SEND with protocol E8h (R376, R377). -/
def execSecuritySend (cntlid cid : Nat) (sgl : Sgl) (req : SpdmReq) (s : State) : Host.Outcome State Fault Refusal :=
  if ¬ s.aon.coreUp then .next s else
  .next (s.adminData cntlid cid sgl fun _ => (s.spdmRequest 2 cntlid req).adminDone cntlid cid 0)

/-- SECURITY_RECEIVE with protocol E8h (R377): the response that is ready, once; none completes with zero length. -/
def execSecurityReceive (cntlid cid alloc : Nat) (sgl : Sgl) (s : State) : Host.Outcome State Fault Refusal :=
  if ¬ s.aon.coreUp then .next s else
  .next (s.adminData cntlid cid sgl fun _ =>
    let done (s : State) (l : List Byte) : State := s.sendAdmin cntlid cid sgl (l.take alloc)
    if cntlid ∈ s.boot.resynch then
      done (s.modBoot fun b => { b with resynch := dropEl b.resynch cntlid }) (leBytes 1 0x12 ++ leBytes 1 0x7F ++ leBytes 1 0x43 ++ [0])
    else match s.spdmKey 2 cntlid with
      | some k => match tget s.boot.spdm k with
        | some x => done (s.modBoot fun b => { b with spdm := tput b.spdm k { x with response := none } }) (x.response.getD [])
        | none => done s []
      | none => done s [])

/-! ### MCTP control commands -/

/-- An MCTP control response on carrier 0 or 1: command code, completion code, payload. -/
def State.mctp (s : State) (carrier cmd code : Nat) (l : List Byte) : State :=
  if carrier < 2 ∧ s.carrierUp carrier 0 then s.emit (.spdm carrier cmd code l) else s

/-- SET_ENDPOINT_ID (R376): the bus owner's endpoint ID is accepted. (PRESUMED, log entry 104.) -/
def execSetEndpointId (carrier eid : Nat) (s : State) : Host.Outcome State Fault Refusal :=
  if ¬ s.aon.coreUp then .next s else
  .next (if eid < 8 ∨ 254 < eid then s.mctp carrier 1 2 []
    else if carrier < 2 ∧ s.carrierUp carrier 0 then
      (s.modBoot fun b => { b with eid := b.eid.set carrier eid }).mctp carrier 1 0 ([0] ++ leBytes 1 eid ++ [0])
    else s)

/-- GET_ENDPOINT_ID (R376). -/
def execGetEndpointId (carrier : Nat) (s : State) : Host.Outcome State Fault Refusal :=
  if ¬ s.aon.coreUp then .next s else
  .next (s.mctp carrier 2 0 (leBytes 1 (s.boot.eid.getD carrier 0) ++ [0, 0]))

/-- GET_ENDPOINT_UUID (R376): the spec gives the part no UUID, so it is open, one value for each device. -/
def execGetEndpointUuid (carrier : Nat) (s : State) : Host.Outcome State Fault Refusal :=
  if ¬ s.aon.coreUp then .next s else
  .next (s.mctp carrier 3 0 (fitBytes 16 (Config.freeBytes 14 (s.rd64 Reg.CFG.UID_LO))))

/-- GET_MCTP_VERSION_SUPPORT (R376): the versions of a supported message type are open. -/
def execGetMctpVersionSupport (carrier msgType : Nat) (s : State) : Host.Outcome State Fault Refusal :=
  if ¬ s.aon.coreUp then .next s else
  .next (if msgType = 0xFF ∨ msgType = 0 ∨ msgType = 5 then s.mctp carrier 4 0 (Config.freeBytes 15 msgType)
    else s.mctp carrier 4 0x80 [])

/-- GET_MESSAGE_TYPE_SUPPORT (R376): types 0x00 and 0x05. -/
def execGetMessageTypeSupport (carrier : Nat) (s : State) : Host.Outcome State Fault Refusal :=
  if ¬ s.aon.coreUp then .next s else
  .next (s.mctp carrier 5 0 [2, 0x00, 0x05])

end Sys2Proof.Machine
end

