-- ==== Sys2Proof/Machine/Checkpoint.lean ====
section
/-! DEFINITION. Checkpoints of the table store, ring copies and the copy to a new keeper (R130 to R132). -/

namespace Sys2Proof.Machine
open Sys2Proof

/-- Some keeper is both powered and in step (R132). -/
def State.keeperUp (s : State) : Bool := s.keepersIn.any s.poweredUp

/-- Use of the ring has passed RING_PCT (R131). -/
def State.ringOver (s : State) : Bool := decide (s.get Fld.GNT.CKPT_CFG.RING_PCT * ringLines < 100 * s.regN Reg.GNT.RING_USE)

/-- The tables as a checkpoint latches them (R131, R136): with the sequence counters, and with the JSEQs above CKPT_SEQ whose records
they hold already, so that replay applies no record to a page twice (R134). -/
def State.latched (s : State) : Tables :=
  { s.tb with mseq := s.nv.mseq, early := (s.nv.ring.filter fun r => decide (s.jseq < r.jseq) && !commitsLater r.body).map (·.jseq) }

/-- CHECKPOINT_START (R131, R132): by ring use, by the interval or by a keeper's replacement; the trigger is kept while no
keeper is powered and in step. -/
def State.ckptStart (s : State) : State :=
  let due : Bool := s.ringOver || s.jn.ckptDue || s.get Fld.GNT.CKPT_CFG.INTERVAL != 0
  if ¬ s.flag Fld.GNT.STATUS.REPLAY_DONE ∨ s.jn.ckpt.isSome ∨ ¬ due ∨ s.stopped then s
  else if ¬ s.keeperUp then s.modJn fun j => { j with ckptDue := true }
  else (s.modJn fun j => { j with ckpt := some (s.latched, s.jseq, j.dirty), ckptDue := false, dirty := [] }).on Fld.GNT.STATUS.CKPT_RUNNING

/-- CHECKPOINT_START (R131). -/
def execCheckpointStart (s : State) : Host.Outcome State Fault Refusal :=
  if ¬ s.aon.coreUp then .next s else
  .next s.ckptStart

/-- The strips that the log of column `c` has taken since `k0` went out as member writes of this class (R54, R346): one that ends with
an error fails the member (R148). -/
def State.logDone (s : State) (c cls : Nat) (k0 : KeepLog) (io : BgIo) : State :=
  let new := (s.keepLog c).dirs.filter fun e => tget k0.dirs e.1 ≠ some e.2
  let r : MReq := { bgReq c true 0 0 0 0 [] with cls := cls }
  let s1 := new.foldl (fun s _ => s.memberCount (s.slotOfCol c) r (!decide (c ∈ io.wrBad ∨ c ∈ io.conflict)) io.us) s
  let s2 := (s1.usedNow c).linesRetire io.fixed
  if new = [] then s
  else if c ∈ io.conflict ∧ s.get Fld.GNT.STATUS.ROLE = 1 then s2.standDown
  else if c ∈ io.wrBad ∨ c ∈ io.conflict then s2.failMark c 0x01 else s2

/-- CHECKPOINT_COMMIT (R54, R131): as Background writes, the pages latched and the COMMIT go to every keeper in step; once they stand
on all of them the ring is reclaimed up to CKPT_SEQ, then the CHECKPOINT record is written, then the records that waited for
space (R124). -/
def State.ckptCommit (s : State) (io : BgIo) : State :=
  match s.jn.ckpt with
  | none => s
  | some (t, q, ps) =>
    if ¬ s.bgOk ∨ s.keepersIn = [] then s
    else match s.bgReach s.keepersIn with
    | none => s.bgAsk s.keepersIn
    | some s' =>
      let n := (s'.ckptNumber + 1) % 2 ^ 32
      let s0 := s'.keepersIn.foldl (fun s c => (s.logCommit c t q n ps).logDone c 4 (s.keepLog c) io) s'
      if s'.keepersIn.any fun c => decide (c ∈ io.wrBad ∨ c ∈ io.conflict) then s0
      else
        let s1 := s0.modNv fun v => { v with ring := v.ring.filter fun r => decide (q < r.jseq) }
        let s2 := ((s1.setN Reg.GNT.RING_USE s1.ringUse).wr64 Reg.GNT.CKPT_SEQ_LO q).setN Reg.GNT.CKPT_NUM n
        let w := s2.jn.waitRecs
        let s3 := (s2.modJn fun j => { j with ckpt := none, waitRecs := [] }).recIssue (.checkpoint n q)
        let s4 := (s3.modJn fun j => { j with waitRecs := j.waitRecs ++ w }).off Fld.GNT.STATUS.CKPT_RUNNING
        (s4.evAt 402 Fld.GNT.EVENT.CKPT_DONE).recDrain.relCheck

/-- CHECKPOINT_COMMIT (R131). -/
def execCheckpointCommit (io : BgIo) (s : State) : Host.Outcome State Fault Refusal :=
  if ¬ s.aon.coreUp then .next s else
  .next (s.ckptCommit io).settle

/-- RING_COPY_STREAM (R131, R132): the records written since the last copy go to the logs of the keepers in step that are powered;
R54 does not count them as Background. (DESIGN CHOICE, log entry 147.) -/
def State.ringCopy (s : State) (io : BgIo) : State :=
  if s.stopped then s
  else (s.keepersIn.filter s.poweredUp).foldl (fun s c => (s.logCopies c).logDone c 3 (s.keepLog c) io) s

/-- RING_COPY_STREAM (R131). -/
def execRingCopyStream (io : BgIo) (s : State) : Host.Outcome State Fault Refusal :=
  if ¬ s.aon.coreUp then .next s else
  .next (s.ringCopy io).settle

/-- KEEPER_COPY_DONE (R54, R132): the new keeper whose copy was started first holds the table store and the ring copies, written as
Background. -/
def State.keeperDone (s : State) (io : BgIo) : State :=
  match s.jn.keeperCopy with
  | [] => s
  | i :: r =>
    match s.tb.keepers[i]? with
    | none => s.modJn fun j => { j with keeperCopy := r }
    | some c =>
      if ¬ s.bgOk then s
      else match s.bgReach [c] with
      | none => s.bgAsk [c]
      | some s' =>
        let s1 := ((s'.modJn fun j => { j with keeperCopy := r }).logFull c).logDone c 4 (KeepLog.empty (0, 0)) io
        if c ∈ io.wrBad ∨ c ∈ io.conflict then s1
        else (s1.put Fld.GNT.KEEPERS.IN_STEP (setBit (s1.get Fld.GNT.KEEPERS.IN_STEP) i)).evAt 402 Fld.GNT.EVENT.KEEPER_IN_STEP

/-- KEEPER_COPY_DONE (R132). -/
def execKeeperCopyDone (io : BgIo) (s : State) : Host.Outcome State Fault Refusal :=
  if ¬ s.aon.coreUp then .next s else
  .next (s.keeperDone io).settle

end Sys2Proof.Machine
end

