-- ==== Sys2Proof/Machine/DmaEngine.lean ====
section
/-! DEFINITION. The DMA engine (R232 to R251) and the descriptor modes of the cipher (R256 to R258). -/

namespace Sys2Proof.Machine
open Sys2Proof

/-- Fitted DRAM in bytes (TOP.DRAM_FITTED, MiB). -/
def State.dramTop (s : State) : Nat := s.get Fld.TOP.DRAM_FITTED.V * 2 ^ 20

/-- A range of DRAM overlaps the storage-path budget outside the command-sampling ring (R238). -/
def State.dramProtected (s : State) (a n : Nat) : Bool :=
  let top := s.get Fld.TOP.DRAM_REQUIRED.V * 2 ^ 20
  let lo := s.rd64 Reg.PMC.SMP_BASE_LO
  let hi := lo + 64 * s.get Fld.PMC.SMP_RECORDS.V
  let e := if a + n < top then a + n else top
  decide (a < e) && !(decide (lo ≤ a) && decide (e ≤ hi))

/-- Decode the 64 bytes of a descriptor (R236). -/
def decodeDesc (b : List Byte) : Desc :=
  { src := leAt b 0 8, dst := leAt b 8 8, len := leAt b 16 4 % 2 ^ 25 + 1, ctrl := leAt b 20 2, sspace := byteAt b 22 % 8,
    dspace := byteAt b 23 % 8, next := leAt b 24 8, iv := leNat ((b.drop 32).take 16).reverse, key := leAt b 48 2 % 4096,
    cipher := byteAt b 50, line := byteAt b 51 % 16 }

/-- The cipher mode, the direction and the data unit of a descriptor. -/
def Desc.mode (d : Desc) : Nat := d.cipher % 8
/-- XTS data unit in bytes. -/
def Desc.unit (d : Desc) : Nat := 2 ^ (9 + d.cipher / 16)
/-- The descriptor names a peripheral space. -/
def Desc.periph (d : Desc) : Bool := d.sspace == 2 || d.dspace == 2
/-- END. -/
def Desc.isEnd (d : Desc) : Bool := bit d.ctrl 0

/-- The key slot a descriptor may use: kind DATA, of a size that suits its mode (R256). -/
def State.descKey (s : State) (d : Desc) : Option KeySlot :=
  match tget s.keys.slots d.key with
  | some k => if k.kind = 3 ∧ (if d.mode = 4 then 2 ≤ k.size else k.size < 2) then some k else none
  | none => none

/-- The checks a descriptor meets when it is fetched (R237 to R239, R245): 0 when it may run. -/
def State.descCheck (s : State) (n : Nat) (d : Desc) : Nat :=
  if 4 < d.sspace ∨ 4 < d.dspace ∨ 4 < d.mode ∨ 2 ^ 24 < d.len ∨ (d.periph ∧ 10 ≤ d.line)
      ∨ (d.mode = 4 ∧ 11 < d.cipher / 16) ∨ (d.mode ≠ 0 ∧ d.len % 16 ≠ 0) ∨ (d.mode = 4 ∧ d.len % d.unit ≠ 0) then 0x12
  else if 3 ≤ d.dspace ∨ (d.sspace = 3 ∧ 8 ≤ n) ∨ (d.sspace = 2 ∧ d.line % 2 = 1) ∨ (d.dspace = 2 ∧ d.line % 2 = 0)
      ∨ (d.periph ∧ d.line < 2 ∧ 8 ≤ n) then 0x13
  else if 8 ≤ n ∧ d.dspace = 0 ∧ s.dramProtected d.dst d.len then 0x14
  else if (d.dspace = 0 ∧ s.dramTop < d.dst + d.len) ∨ (d.sspace = 0 ∧ s.dramTop < d.src + d.len) then 0x15
  else if d.mode ≠ 0 ∧ (s.descKey d).isNone then 0x30
  else 0

/-- Channel `n` enters Error with a code: CUR_DESC keeps the descriptor's address (R245). (DEDUCED, log entry 65.) -/
def State.dmaError (s : State) (n a code : Nat) : State :=
  let s1 := (((s.setDma n 7).put (Fld.DMA_C.STATUS.CODE n) code).wr64 (Reg.DMA_C.CUR_DESC_LO n) a).modDma n fun c =>
    { c with fetch := none, stopping := false }
  (s1.event (Fld.DMA_C.EVENT.ERROR n) (1233 + 2 * n)).event Fld.DMA.EVENT.CH_ERROR 1296

/-- Start fetching the descriptor at `a`; DB_COUNT is latched (R248, R250). -/
def State.dmaFetch (s : State) (n a : Nat) : State :=
  ((s.modDma n fun c =>
    { c with fetch := some a, latched := s.get (Fld.DMA_C.DB_COUNT.V n), burst := s.get (Fld.DMA_C.CFG.BURST n) }).setDma n 1).wr64 (Reg.DMA_C.CUR_DESC_LO n) a

/-- Start rereading the tail; DB_COUNT is latched (R250). -/
def State.dmaRefetch (s : State) (n : Nat) : State :=
  (s.modDma n fun c => { c with latched := s.get (Fld.DMA_C.DB_COUNT.V n) }).setDma n 6

/-- The channel has reached END (R250): refetch the tail when a doorbell has come since the fetch. -/
def State.dmaAtEnd (s : State) (n : Nat) : State :=
  if s.get (Fld.DMA_C.DB_COUNT.V n) ≠ (s.dmaCh n).latched then s.dmaRefetch n else s.setDma n 5

/-- The last read burst of a descriptor has been issued (R248, R251). -/
def State.dmaReadDone (s : State) (n : Nat) (d : Desc) : State :=
  if d.isEnd then s.dmaAtEnd n else s.dmaFetch n d.next

/-- A write to DMA_Cn.DOORBELL (R248 to R250). -/
def State.doorbell (s : State) (n : Nat) : State :=
  let s1 := s.put (Fld.DMA_C.DB_COUNT.V n) (s.get (Fld.DMA_C.DB_COUNT.V n) + 1)
  if s1.flag Fld.AES.STATUS.HALTED ∨ s1.aon.dumpPhase ≠ 0 then s1
  else if s1.dmaSt n = 0 then s1.dmaFetch n (s1.rd64 (Reg.DMA_C.HEAD_LO n))
  else if s1.dmaSt n = 5 then s1.dmaRefetch n
  else s1

/-- Firmware's channels take no write from management software (R232). -/
def State.dmaGuard (s : State) (path : Path) (n : Nat) (f : State → State) : State :=
  if 32 ≤ n then s
  else if n < 8 ∧ path ≠ .fw then s.event Fld.DMA.EVENT.FW_WRITE 1297
  else f s

/-- DMA_DOORBELL (R248). -/
def execDmaDoorbell (path : Path) (ch : Nat) (s : State) : Host.Outcome State Fault Refusal :=
  if ¬ s.aon.coreUp then .next s else
  .next (s.dmaGuard path ch fun s => s.doorbell ch).settle

/-- Take up a claimed line for channel `n`: STATUS shows it (R243). -/
def State.dmaClaim (s : State) (n line : Nat) : State :=
  if (tget s.dma.owner line).isSome then s
  else
    let s1 := s.modDmac fun d => { d with owner := tput d.owner line n }
    let s2 := s1.setN Reg.DMA.LINES (setBit (s1.regN Reg.DMA.LINES) (16 + line))
    (s2.put (Fld.DMA_C.STATUS.LINE n) line).on (Fld.DMA_C.STATUS.CLAIMED n)

/-- A descriptor of channel `n` holds the line it names, if it names one (R243). -/
def State.lineHeld (s : State) (n : Nat) (d : Desc) : Bool := !d.periph || tget s.dma.owner d.line == some n

/-- A descriptor of channel `n` may have its line now: it is the owner's, and the line is asserted, by a full request or
a final one (R242 to R244). -/
def State.lineReady (s : State) (n : Nat) (d : Desc) : Bool :=
  !d.periph || (tget s.dma.owner d.line == some n
    && (bit (s.regN Reg.DMA.LINES) d.line || (tget s.dma.finals d.line).isSome))

/-- The line of a descriptor, if it is free, is claimed. -/
def State.lineTake (s : State) (n : Nat) (d : Desc) : State := if d.periph then s.dmaClaim n d.line else s

/-- Active, or Waiting for peripheral (R242, R251); a line that has come free meanwhile is claimed. -/
def State.dmaGo (s : State) (n : Nat) (d : Desc) : State :=
  let s1 := s.lineTake n d
  s1.setDma n (if s1.lineReady n d then 3 else 4)

/-- Arbitration samples the request lines (R242): a channel that is Active or waits for its peripheral is one or the other
by its line. -/
def State.lineArb (s : State) : State :=
  (List.range 32).foldl (fun s n => match (s.dmaCh n).jobs.getLast? with
    | some j => if j.d.periph ∧ ¬ j.closed ∧ (s.dmaSt n = 3 ∨ s.dmaSt n = 4) then s.dmaGo n j.d else s
    | none => s) s

/-- A valid descriptor joins the channel (R251): its line is claimed; Barrier wait, Active or Waiting. -/
def State.dmaAccept (s : State) (n a : Nat) (d : Desc) : State :=
  let wait := bit d.ctrl 2 && !(s.dmaCh n).jobs.isEmpty
  let s1 := s.modDma n fun c =>
    { c with fetch := none, want := if d.periph then some d.line else none,
             jobs := c.jobs ++ [⟨a, d, 0, 0, none, false, []⟩] }
  let s2 := s1.lineTake n d
  if wait then s2.setDma n 2 else s2.dmaGo n d

/-- A descriptor that cannot run ends its chain (R245): at once when it is alone, else once the earlier ones are
complete, in descriptor order. -/
def State.dmaRefuse (s : State) (n a code : Nat) (d : Desc) : State :=
  let j : Job := ⟨a, d, 0, 0, some code, true, []⟩
  if (s.dmaCh n).jobs.isEmpty then
    (if code < 0x12 then s else s.dmaBack j code).dmaError n a code
  else s.modDma n fun c => { c with fetch := none, jobs := c.jobs ++ [j] }

/-- The read of a descriptor completes (R245, R251). -/
def State.descFetched (s : State) (n : Nat) (ecc : Bool) : State :=
  match (s.dmaCh n).fetch with
  | none => s
  | some a =>
    if s.dmaSt n ≠ 1 then s
    else if a % 64 ≠ 0 then s.dmaRefuse n a 0x11 (decodeDesc [])
    else if ecc ∨ s.dramTop < a + 64 then s.dmaRefuse n a 0x10 (decodeDesc [])
    else
      let d := decodeDesc (s.dramRead a 64)
      let c := s.descCheck n d
      if c = 0 then s.dmaAccept n a d else s.dmaRefuse n a c d

/-- DESC_FETCH_DONE (R251). -/
def execDescFetchDone (ch : Nat) (ecc : Bool) (s : State) : Host.Outcome State Fault Refusal :=
  if ¬ s.aon.coreUp then .next s else
  .next (s.descFetched ch ecc).settle

/-! ### The read engine -/

/-- The burst of a descriptor: the line's for peripheral spaces, else CFG.BURST (R235, R243). -/
def DmaCh.size (c : DmaCh) (d : Desc) : Nat :=
  if d.periph then (if d.line < 2 then 256 else 16) else 256 * 2 ^ c.burst

/-- Bytes of the next burst. -/
def DmaCh.nextLen (c : DmaCh) (j : Job) : Nat := min (c.size j.d) (j.d.len - j.issued)

/-- AES blocks that 16 pipelines take in a window of 1 ms at 800 MHz (R253). -/
def aesWindow : Nat := 12800000

/-- The pipelines have cycles for a descriptor burst of `n` bytes in this window (R253): those the storage lane leaves, and
DESC_FLOOR sixteenths of all at least. (DESIGN CHOICE, log entry 69.) -/
def State.aesRoom (s : State) (d : Desc) (n : Nat) : Bool :=
  d.mode == 0 || decide (s.keys.winDesc + (n + 15) / 16
    ≤ max (aesWindow - s.keys.winStorage) (s.get Fld.AES.ARB.DESC_FLOOR * aesWindow / 16))

/-- A descriptor that stands before another of its channel has met an error: the chain ends with it (R245). -/
def chainEnded (l : List Job) : Bool := l.any fun j => match j.code with | some c => decide (0x10 ≤ c) | none => false

/-- Channel `n` is ready for the read engine (R233, R235): its next burst has room, and a peripheral source asserts its
line.  A peripheral destination need only hold its line (R242, R243). -/
def State.readReady (s : State) (n : Nat) : Bool :=
  let c := s.dmaCh n
  match c.jobs.getLast? with
  | none => false
  | some j => decide (s.dmaSt n = 3 ∨ s.dmaSt n = 4) && !j.closed && !chainEnded c.jobs.dropLast
      && decide (s.dmaShare n + c.nextLen j ≤ 131072)
      && (if j.d.sspace = 2 then s.lineReady n j.d else s.lineHeld n j.d) && s.aesRoom j.d (c.nextLen j)

/-- Channel `n` is ready for the write engine (R235). -/
def State.writeReady (s : State) (n : Nat) : Bool :=
  match (s.dmaCh n).bursts, s.dmaWriting n with
  | _ :: _, some j => !chainEnded ((s.dmaCh n).jobs.takeWhile fun k => k.written = k.issued)
      && (!decide (j.d.dspace = 2) || s.lineReady n j.d)
  | _, _ => false

/-- The first ready channel after `last`, in round robin. -/
def rrPick (ready : Nat → Bool) (last : Nat) : Option Nat :=
  ((List.range 32).map fun i => (last + 1 + i) % 32).find? ready

/-- The channel an engine grants: high priority first, each level in round robin (R235). -/
def State.dmaPick (s : State) (ready : Nat → Bool) (last : Nat × Nat) : Option (Nat × Bool) :=
  match rrPick (fun n => ready n && s.flag (Fld.DMA_C.CFG.PRIO n)) last.1 with
  | some n => some (n, true)
  | none => (rrPick (fun n => ready n && !s.flag (Fld.DMA_C.CFG.PRIO n)) last.2).map fun n => (n, false)

/-- Change the newest descriptor of channel `n`. -/
def State.modLast (s : State) (n : Nat) (f : Job → Job) : State :=
  s.modDma n fun c => { c with jobs := c.jobs.dropLast ++ (c.jobs.getLast?.map f).toList }

/-- The byte at a byte offset of Garnet that one of the model's records stands at (R16, R119, R125, R339): zone tails from
32 MiB, the ring from 48 MiB, Carillon from 80 MiB, the partner's ring and tails from 90 MiB. (DESIGN CHOICE, log entry 180.) -/
def State.garnetAt (s : State) (o : Nat) : Option Byte :=
  let mib := 2 ^ 20
  let tail (i : Nat) (blk : Nat → Option Blk) : Option Byte :=
    let r := i % 65536
    if r < 62400 then (blk (16 * (i / 65536) + r / 4160)).bind fun b => (blkBytes b)[r % 4160]? else none
  if 32 * mib ≤ o ∧ o < 48 * mib then tail (o - 32 * mib) (tget s.nv.tails)
  else if 48 * mib ≤ o ∧ o < 80 * mib then
    let i := o - 48 * mib
    (s.nv.ring.find? fun r => decide (64 * r.line ≤ i) && decide (i < 64 * (r.line + r.lines))).bind fun r =>
      (recImage r.jseq r.lines r.crc.toNat r.body)[i - 64 * r.line]?
  else if 80 * mib ≤ o ∧ o < 82 * mib then
    (tget s.nv.carillon ((o - 80 * mib) / 32)).bind fun r => (carBytes r)[o % 32]?
  else if 90 * mib ≤ o ∧ o < 122 * mib then
    let i := o - 90 * mib
    (s.nv.mirRing.find? fun r => decide (64 * r.line ≤ i) && decide (i < 64 * (r.line + r.n))).bind fun r =>
      (recBytes r.jseq r.n r.body)[i - 64 * r.line]?
  else if 122 * mib ≤ o ∧ o < 138 * mib then tail (o - 122 * mib) fun k => (tget s.nv.mirTails k).map (·.2)
  else none

/-- Bytes of Garnet (R237): what the model's records do not give is a free value (log entry 180). -/
def State.garnetRead (s : State) (o n : Nat) : List Byte :=
  (List.range n).map fun i => (s.garnetAt (o + i)).getD ((Config.freeBytes 29 (0x10000000 * s.freeCtr + (o + i))).headD 0)

/-- The data of a burst: DRAM, Garnet and FILL from the state, other spaces from the operand (R237). -/
def State.burstData (s : State) (d : Desc) (off n : Nat) (data : List Byte) : List Byte :=
  if d.sspace = 0 then s.dramRead (d.src + off) n
  else if d.sspace = 3 then s.garnetRead (d.src + off) n
  else if d.sspace = 4 then (List.range n).map fun i => (leBytes 8 d.src).getD ((off + i) % 8) 0
  else fitBytes n data

/-- The bytes `off` to `off + len` of a descriptor's data after the cipher, `inp` being its data so far (R239, R256 to R258).
Of a last block that a final request leaves part-filled, the modes that need whole blocks give a free value. (DESIGN CHOICE,
log entry 180.) -/
def State.descOut (s : State) (key : List Byte) (d : Desc) (inp : List Byte) (off len : Nat) : List Byte :=
  let out := (descCrypt key d.mode (bit d.cipher 3) d.unit d.iv inp).drop off
  out ++ fitBytes (len - out.length) (Config.freeBytes 30 s.freeCtr)

/-- Bytes a CTR descriptor may produce before its counter would repeat (R258). -/
def Desc.ctrLimit (d : Desc) : Nat := 16 * (2 ^ 32 - d.iv % 2 ^ 32)

/-- The final request a descriptor of a receive line meets (R244). -/
def State.finalOf (s : State) (d : Desc) : Option (List Byte) := if d.sspace = 2 then tget s.dma.finals d.line else none

/-- One burst of the newest descriptor of channel `n` is read and passes the cipher (R233, R239, R256 to R258).  A final
request of a receive line moves its count as the last burst: the descriptor ends with SHORT, one that it fills to its LENGTH
included (R244). (DESIGN CHOICE, log entry 179.) -/
def State.readBurst (s : State) (n : Nat) (j : Job) (data : List Byte) (err : Nat) : State :=
  let c := s.dmaCh n
  let fin := s.finalOf j.d
  let want := match fin with | some b => min b.length (c.nextLen j) | none => c.nextLen j
  let wrap := decide (j.d.mode = 3) && decide (j.d.ctrLimit < j.issued + want)
  let len := if wrap then j.d.ctrLimit - j.issued else want
  let fail := if err ≠ 0 then some err
    else if j.d.sspace = 1 ∧ ¬ bit s.ep.command 2 then some 0x21
    else if j.d.mode ≠ 0 ∧ (s.descKey j.d).isNone then some 0x30
    else none
  match fail with
  | some code => s.modLast n fun j => { j with closed := true, code := some code }
  | none =>
    let raw := s.burstData j.d j.issued len (fin.getD data)
    let inp := if j.d.mode = 0 then [] else j.inp ++ raw
    let out := match (if j.d.mode = 0 then none else s.descKey j.d) with
      | none => raw
      | some k => s.descOut k.material j.d inp j.issued len
    let full := fin.isSome || decide (j.issued + len = j.d.len)
    let s00 := (if j.d.sspace = 1 then s.bwAdd 56 len 0 else s).modDmac fun d =>
      { d with finals := if fin.isSome then tdel d.finals j.d.line else d.finals }
    let s0 := if j.d.sspace = 3 ∨ j.d.mode ≠ 0 then (s00.fresh 29).2 else s00
    let s1 := s0.modDma n fun c => { c with bursts := c.bursts ++ (if len = 0 then [] else [(j.addr, out)]) }
    let s2 := s1.modLast n fun j => { j with issued := j.issued + len, inp := inp, closed := full || wrap, code := if wrap then some 0x31 else if fin.isSome then some 1 else none }
    let s3 := (s2.put (Fld.DMA_C.BUF_USE.V n) (s2.dmaShare n))
    let s4 := if j.d.mode = 0 then s3
      else
        let s' := (s3.add64 Reg.AES.BYTES_DESC_LO len).modKeys fun k => { k with winDesc := k.winDesc + (len + 15) / 16 }
        s'.count { code := 0x16, n := (len + 15) / 16, priv := some (if n < 8 then 2 else 1), masters := [(3, n)] }
    if wrap then ((s4.satInc Fld.AES.WRAP_COUNT.V).event Fld.AES.EVENT.COUNTER_WRAP 1316)
    else if full then s4.dmaReadDone n j.d else s4

/-- DMA_READ_BURST (R235): the read engine grants one ready channel one burst.  `data` and `err` are what a source
outside the part answers: 0 none, 0x20, 0x21 or 0x22. -/
def execDmaReadBurst (data : List Byte) (err : Nat) (s : State) : Host.Outcome State Fault Refusal :=
  if ¬ s.aon.coreUp then .next s else
  if s.flag Fld.AES.STATUS.HALTED then .next s
  else
    let s := s.lineArb
    match s.dmaPick s.readReady s.dma.rrRead with
    | none => .next s
    | some (n, hi) =>
      match (s.dmaCh n).jobs.getLast? with
      | none => .next s
      | some j =>
        let rr := if hi then (n, s.dma.rrRead.2) else (s.dma.rrRead.1, n)
        .next ((s.modDmac fun d => { d with rrRead := rr }).readBurst n j data err).settle

/-! ### The write engine -/

/-- Drop the oldest bursts of a share, `n` bytes of them. -/
def dropBursts : Nat → List (Nat × List Byte) → List (Nat × List Byte)
  | _, [] => []
  | n, b :: r => if n = 0 then b :: r else dropBursts (n - b.2.length) r

/-- An error at the destination of the first descriptor that meets `p`, all earlier ones being written: its remaining bursts
are dropped, and it ends with the code (R245). -/
def State.writeFail (s : State) (n : Nat) (p : Job → Bool) (code : Nat) : State :=
  match (s.dmaCh n).jobs.find? p with
  | none => s
  | some j =>
    let s1 := s.modDma n fun c =>
      { c with bursts := dropBursts (j.issued - j.written) c.bursts,
               jobs := modJob p (fun j => { j with closed := true, issued := j.written, code := some code }) c.jobs }
    s1.put (Fld.DMA_C.BUF_USE.V n) (s1.dmaShare n)

/-- One granted burst of channel `n` is written (R233, R245): the endpoint takes none while bus mastering is disabled. -/
def State.writeGrant (s : State) (n err : Nat) : State :=
  let ep : Bool := match s.dmaWriting n with
    | some j => j.d.dspace == 1
    | none => false
  let code := if err ≠ 0 then err else if ep = true ∧ ¬ bit s.ep.command 2 then 0x21 else 0
  if code = 0 then s.dmaWrite1 n else s.writeFail n Job.writing code

/-- DMA_WRITE_BURST (R233): the write engine grants one ready channel one burst; `err` is what a destination outside
the part answers. -/
def execDmaWriteBurst (err : Nat) (s : State) : Host.Outcome State Fault Refusal :=
  if ¬ s.aon.coreUp then .next s else
  if s.flag Fld.AES.STATUS.HALTED then .next s
  else
    let s := s.lineArb
    match s.dmaPick s.writeReady s.dma.rrWrite with
    | none => .next s
    | some (n, hi) =>
      let rr := if hi then (n, s.dma.rrWrite.2) else (s.dma.rrWrite.1, n)
      let s1 := s.modDmac fun d => { d with rrWrite := rr }
      .next (s1.writeGrant n err)

/-- The lowest channel that waits for a free line takes it (R243; which of several waits is the model's choice, log
entry 12). (DESIGN CHOICE, log entry 12.) -/
def State.lineHandOver (s : State) (line : Nat) : State :=
  match (List.range 32).find? fun m => decide (s.dmaSt m = 4) && (s.dmaCh m).want == some line with
  | none => s
  | some m =>
    let s1 := s.dmaClaim m line
    match (s1.dmaCh m).jobs.getLast? with
    | some j => s1.dmaGo m j.d
    | none => s1

/-- Release a line of channel `n` and hand it over. -/
def State.lineFree (s : State) (n line : Nat) : State :=
  if tget s.dma.owner line = some n then (s.dmaUnclaim n line).lineHandOver line else s

/-- Release every line of channel `n` and hand it over. -/
def State.lineRelease (s : State) (n : Nat) : State :=
  let lines := (s.dma.owner.filter fun p => p.2 = n).map (·.1)
  lines.foldl (fun s line => s.lineFree n line) s

/-- A stopped channel whose descriptors have all been written back enters Idle (R246). -/
def State.dmaStopped (s : State) (n : Nat) : State :=
  if (s.dmaCh n).stopping ∧ (s.dmaCh n).jobs = [] then
    ((s.modDma n fun c => { c with stopping := false, fetch := none }).setDma n 0).event (Fld.DMA_C.EVENT.STOPPED n)
      (1232 + 2 * n)
  else s

/-- The channel's only descriptor left could not be used (R245): the earlier ones being complete, it ends its chain. -/
def State.dmaRefused (s : State) (n : Nat) (j : Job) (code : Nat) : State :=
  ((if code < 0x12 then s else s.dmaBack j code).modDma n fun c => { c with jobs := [] }).dmaError n j.addr code

/-- The oldest descriptor of channel `n` is complete: write-back, counts, events, the line, and what follows it (R240,
R241, R245, R246).  An error met in confirming its writes goes before a SHORT or a STOPPED. -/
def State.descComplete (s : State) (n : Nat) (j : Job) (rest : List Job) (err : Nat) : State :=
  let code := match j.code with
    | some c => if c < 0x10 ∧ err ≠ 0 then err else c
    | none => err
  let s1 := (s.modDma n fun c => { c with jobs := rest }).put (Fld.DMA_C.STATUS.CODE n) code
  let s2 := if code = 0x10 ∨ code = 0x11 then s1 else s1.dmaBack j code
  let s3 := if j.d.periph ∧ (rest.all fun k => k.d.line ≠ j.d.line ∨ ¬ k.d.periph) ∧ code < 0x10 then s2.lineFree n j.d.line else s2
  let s4 := if code < 2 then s3.satInc (Fld.DMA_C.DONE_COUNT.V n) else s3
  let s5 := if code < 2 ∧ bit j.d.ctrl 3 then s4.event (Fld.DMA_C.EVENT.DESC_DONE n) (1232 + 2 * n) else s4
  if 0x10 ≤ code then
    (s5.modDma n fun c => { c with jobs := [], bursts := [] }).dmaError n j.addr code
  else
    match rest with
    | [k] =>
      if s5.dmaSt n = 2 then (s5.lineTake n k.d).setDma n 3
      else match k.code with
        | some c => if 0x10 ≤ c ∧ k.issued = 0 then s5.dmaRefused n k c else s5.dmaStopped n
        | none => s5.dmaStopped n
    | _ => s5.dmaStopped n

/-- DMA_WRITE_COMPLETE (R240): every write of the channel's oldest descriptor is complete at the destination; `err` is
an endpoint or peripheral error met in confirming it. -/
def execDmaWriteComplete (ch err : Nat) (s : State) : Host.Outcome State Fault Refusal :=
  if ¬ s.aon.coreUp then .next s else
  match (s.dmaCh ch).jobs with
  | [] => .next s
  | j :: rest =>
    if j.closed ∧ j.written = j.issued then
      .next (s.descComplete ch j rest err).settle
    else .next s

/-- The reread of the tail completes (R250): only END and NEXT are used.  One that fails ends the chain once the writes of
the descriptors read are complete, in descriptor order (R245). -/
def State.tailRefetched (s : State) (n : Nat) (ecc : Bool) : State :=
  if s.dmaSt n ≠ 6 ∨ (s.dmaCh n).stopping ∨ chainEnded (s.dmaCh n).jobs then s
  else
    let a := s.rd64 (Reg.DMA_C.CUR_DESC_LO n)
    if ecc then s.dmaRefuse n a 0x10 (decodeDesc [])
    else
      let d := decodeDesc (s.dramRead a 64)
      if d.isEnd then s.dmaAtEnd n else s.dmaFetch n d.next

/-- TAIL_REFETCH (R250). -/
def execTailRefetch (ch : Nat) (ecc : Bool) (s : State) : Host.Outcome State Fault Refusal :=
  if ¬ s.aon.coreUp then .next s else
  .next (s.tailRefetched ch ecc).settle

/-- DMA_Cn.CTRL.STOP (R246): no new burst; granted bursts complete; a descriptor whose last burst was granted ends with
its own code.  Idle at end goes to Idle at once. -/
def State.dmaStop (s : State) (n : Nat) : State :=
  let st := s.dmaSt n
  if st = 0 ∨ st = 7 then s
  else if st = 5 then
    (s.setDma n 0).event (Fld.DMA_C.EVENT.STOPPED n) (1232 + 2 * n)
  else
    let s1 := (s.modDma n fun c => { c with stopping := true, fetch := none }).setDma n 6
    (s1.modLast n fun j => if j.closed then j else { j with closed := true, code := some 2 }).dmaStopped n

/-- DMA_STOP (R246). -/
def execDmaStop (path : Path) (ch : Nat) (s : State) : Host.Outcome State Fault Refusal :=
  if ¬ s.aon.coreUp then .next s else
  .next (s.dmaGuard path ch fun s => s.dmaStop ch).settle

/-- DMA_Cn.CTRL.RESET (R247): Error to Idle, the line released, the share emptied; ignored in other states. -/
def State.dmaReset (s : State) (n : Nat) : State :=
  if s.dmaSt n ≠ 7 then s
  else
    let s1 := (s.modDma n fun c => { c with jobs := [], bursts := [], fetch := none, stopping := false, want := none }).setDma n 0
    (s1.put (Fld.DMA_C.BUF_USE.V n) 0).lineRelease n

/-- DMA_RESET (R247). -/
def execDmaReset (path : Path) (ch : Nat) (s : State) : Host.Outcome State Fault Refusal :=
  if ¬ s.aon.coreUp then .next s else
  .next (s.dmaGuard path ch fun s => s.dmaReset ch).settle

/-- A request line changes (R242): asserted, the channel that holds it goes on; withdrawn, it waits from the next
arbitration on. -/
def State.lineChange (s : State) (line : Nat) (asserted : Bool) : State :=
  let s1 := s.setN Reg.DMA.LINES (putBit (s.regN Reg.DMA.LINES) line asserted)
  match tget s1.dma.owner line with
  | none => s1
  | some n =>
    if asserted ∧ s1.dmaSt n = 4 ∧ (s1.dmaCh n).want = some line then s1.setDma n 3
    else if ¬ asserted ∧ s1.dmaSt n = 3 ∧ (s1.dmaCh n).want = some line then s1.setDma n 4
    else s1

/-- PERIPH_REQUEST_CHANGE (R242). -/
def execPeriphRequestChange (line : Nat) (asserted : Bool) (s : State) : Host.Outcome State Fault Refusal :=
  if ¬ s.aon.coreUp then .next s else
  if line < 10 then .next (s.lineChange line asserted) else .next s

/-- A final request of a receive peripheral (R244): the descriptor of the line that reads still meets it at its next grant
(R235). -/
def State.finalRequest (s : State) (n line count : Nat) (data : List Byte) : State :=
  match (s.dmaCh n).jobs.getLast? with
  | none => s
  | some j =>
    if j.d.sspace = 2 ∧ j.d.line = line ∧ ¬ j.closed then
      let s1 := s.modDmac fun d => { d with finals := tput d.finals line (fitBytes count data) }
      if s1.dmaSt n = 3 ∨ s1.dmaSt n = 4 then s1.dmaGo n j.d else s1
    else s

/-- PERIPH_FINAL_REQUEST (R244). -/
def execPeriphFinalRequest (line count : Nat) (data : List Byte) (s : State) : Host.Outcome State Fault Refusal :=
  if ¬ s.aon.coreUp then .next s else
  match tget s.dma.owner line with
  | none => .next s
  | some n => .next (s.finalRequest n line count data)

end Sys2Proof.Machine
end

