-- ==== Sys2Proof/Machine/Faults.lean ====
section
/-! DEFINITION. Faults, TOCSIN and Carillon: the commands of Fault collection, reactions and the Carillon recorder. -/

namespace Sys2Proof.Machine
open Sys2Proof

/-- Sources of EVC.PEND word `m` whose bit is among `v` and that are still asserted: they rise again (R325). -/
def State.riseAgain (s : State) (m v : Nat) : List (Nat × Nat) :=
  ((List.range 32).filter fun i => bit v i && s.srcAsserted (32 * m + i)).map fun i => (32 * m + i, 0)

/-- A W1C write to EVC.PENDm (R325, R396): the pending bits clear; a source still asserted rises again. -/
def State.pendClear (s : State) (m value : Nat) : State :=
  let s1 := s.pruneHeld
  let a := Reg.EVC.PEND m
  let old := s1.reg a
  let v := BitVec.ofNat 32 value
  let s2 := s1.setReg a (old &&& ~~~ v)
  s2.raiseAll (s2.riseAgain m (old &&& v).toNat)

/-- PEND_CLEAR (R325). -/
def execPendClear (m value : Nat) (s : State) : Host.Outcome State Fault Refusal :=
  if m < 48 ∧ s.aon.coreUp then .next (s.pendClear m value).settle else .next s

/-- FLT.CLEAR.FIRST (R328): FIRST, FIRST_TIME and OVERFLOW clear. -/
def State.clearFirst (s : State) : State :=
  ((s.setN Reg.FLT.FIRST 0).wr64 Reg.FLT.FIRST_TIME_LO 0).setN Reg.FLT.OVERFLOW 0

/-- FLT_CLEAR_FIRST (R328). -/
def execFltClearFirst (s : State) : Host.Outcome State Fault Refusal :=
  if ¬ s.aon.coreUp then .next s else
  .next s.clearFirst

/-- CORE_RESET_CMD (R332): FLT.CMD.CORE_RESET, cause 4. -/
def execCoreResetCmd (s : State) : Host.Outcome State Fault Refusal :=
  if s.aon.coreUp then .next (s.coreReset 4) else .next s

/-- HALT_HOLD_EXPIRY (R332): a halted part whose HALT_HOLD_S is not 0 performs a core reset, cause 3. -/
def execHaltHoldExpiry (s : State) : Host.Outcome State Fault Refusal :=
  if ¬ s.aon.coreUp then .next s else
  if s.flag Fld.FLT.STATUS.HALTED ∧ s.get Fld.FLT.CFG.HALT_HOLD_S ≠ 0 then .next (s.coreReset 3) else .next s

/-- CORE_WATCHDOG_MISS (R331): FLT_CORE_WDOG rises, class B. -/
def execCoreWatchdogMiss (s : State) : Host.Outcome State Fault Refusal :=
  if s.aon.coreUp then .next (s.raise 64).settle else .next s

/-- CARILLON_RECORD_WRITE (R341 to R343): the next record is written when Carillon is ready and not frozen. -/
def execCarillonRecordWrite (lineBad : Bool) (s : State) : Host.Outcome State Fault Refusal :=
  if ¬ s.aon.coreUp then .next s else
  if s.flag Fld.EVR.STATUS.READY ∧ ¬ s.flag Fld.EVR.CTRL.FREEZE then
    let t := s.carNext
    .next (if lineBad ∧ t.regN Reg.EVR.NEXT_SEQ ≠ s.regN Reg.EVR.NEXT_SEQ then
      t.lineRetire (carillonBase + carSlot (s.regN Reg.EVR.NEXT_SEQ) / 2) else t)
  else .next s

/-- A write of EVR.CTRL (R343): FREEZE_S of 0 is ignored; FREEZE 1 freezes, 0 releases the held records. -/
def State.freezeWrite (s : State) (value : Nat) : State :=
  let s1 := if bits value 8 8 = 0 then s else s.put Fld.EVR.CTRL.FREEZE_S (bits value 8 8)
  if bit value 0 then (s1.on Fld.EVR.CTRL.FREEZE).on Fld.EVR.STATUS.FROZEN
  else if s1.flag Fld.EVR.CTRL.FREEZE then s1.unfreeze else s1

/-- EVR_FREEZE_WRITE (R343). -/
def execEvrFreezeWrite (value : Nat) (s : State) : Host.Outcome State Fault Refusal :=
  if ¬ s.aon.coreUp then .next s else
  .next (s.freezeWrite value)

/-- FREEZE_EXPIRY (R343): FREEZE_S seconds have passed. -/
def execFreezeExpiry (s : State) : Host.Outcome State Fault Refusal :=
  if ¬ s.aon.coreUp then .next s else
  if s.flag Fld.EVR.CTRL.FREEZE then .next s.unfreeze else .next s

/-- The path codes of R319; the firmware path has none and shows 0. (DESIGN CHOICE, log entry 10.) -/
def pathCode : Path → Nat
  | .e => 1
  | .s => 2
  | .v => 3
  | .fw => 0

/-- CARILLON_CLEAR (R344). -/
def execCarillonClear (path : Path) (s : State) : Host.Outcome State Fault Refusal :=
  if ¬ s.aon.coreUp then .next s else
  .next (s.carClear (pathCode path))

/-- A USER record with the parameters of EVR.SW_P (R340). -/
def State.userRecord (s : State) (tag : Nat) : State :=
  s.carillon (s.carOwn (0x100 + tag % 256) (s.regN (Reg.EVR.SW_P 0)) (s.regN (Reg.EVR.SW_P 1)) (s.regN (Reg.EVR.SW_P 2)))

/-- USER_RECORD (R340). -/
def execUserRecord (tag : Nat) (s : State) : Host.Outcome State Fault Refusal :=
  if ¬ s.aon.coreUp then .next s else
  .next (s.userRecord tag)

/-- Put 32 bytes into EVR.RDATA0 to RDATA7 (R345). -/
def State.putRdata (s : State) (l : List Byte) : State :=
  (List.range 8).foldl (fun s m => s.setN (Reg.EVR.RDATA m) (leAt l (4 * m) 4)) s

/-- A slot never written since the last clear reads free bytes whose CRC does not match (R345). -/
def State.torn (s : State) : List Byte × State :=
  let (b, s1) := s.freshBytes 2
  let (k, s2) := s1.fresh 2
  let body := (b ++ List.replicate 28 0).take 28
  (body ++ leBytes 4 (((crc32c body).toNat + 1 + k % (2 ^ 32 - 1)) % 2 ^ 32), s2)

/-- A write of EVR.RSEL latches the slot's record (R345). -/
def State.recordLatch (s : State) (slot : Nat) : State :=
  let n := slot % 65536
  let s1 := s.setN Reg.EVR.RSEL n
  match tget s.nv.carillon n with
  | some r => s1.putRdata (carBytes r)
  | none => let (b, s2) := s1.torn; s2.putRdata b

/-- RECORD_LATCH (R345). -/
def execRecordLatch (slot : Nat) (s : State) : Host.Outcome State Fault Refusal :=
  if ¬ s.aon.coreUp then .next s else
  .next (s.recordLatch slot)

/-- The pulse of R338 ends: TOCSIN returns to LEVEL, as a write during the pulse may have left it. -/
def State.pulseEnd (s : State) : State :=
  let s1 := s.off Fld.FLT.STATUS.PULSING
  s1.put Fld.FLT.STATUS.TOCSIN (if s1.aon.levelSet then s1.get Fld.FLT.TOCSIN_CTRL.LEVEL else 0)

/-- TOCSIN_PULSE_END (R338). -/
def execTocsinPulseEnd (s : State) : Host.Outcome State Fault Refusal :=
  if ¬ s.aon.coreUp then .next s else
  if s.flag Fld.FLT.STATUS.PULSING then .next s.pulseEnd else .next s

/-- A TOCSIN fault source is pending (R337). -/
def State.tocsinPending (s : State) : Bool :=
  (List.range 1536).any fun n => s.srcPending n && decide (0 < s.srcClass n) && bit (s.srcCfg n) 28

/-- FLT.TOCSIN_CTRL.RESTART (R337): in alive mode the wave starts again unless a TOCSIN fault source is
pending. (DEDUCED, log entry 25.) -/
def State.tocsinRestart (s : State) : State :=
  if s.get Fld.FLT.CFG.TOCSIN_MODE = 1 ∧ ¬ s.tocsinPending then
    (s.on Fld.FLT.STATUS.ALIVE).modAon fun a => { a with tocsinHold := false }
  else s

/-- TOCSIN_RESTART (R337). -/
def execTocsinRestart (s : State) : Host.Outcome State Fault Refusal :=
  if ¬ s.aon.coreUp then .next s else
  .next s.tocsinRestart

/-- TOCSIN_ALIVE_EDGE (R337): each half period toggles the pin; a fault latched while the wave was high stops the wave at
this falling edge. -/
def execTocsinAliveEdge (s : State) : Host.Outcome State Fault Refusal :=
  if ¬ s.aon.coreUp then .next s else
  if s.flag Fld.FLT.STATUS.ALIVE then
    if s.flag Fld.FLT.STATUS.TOCSIN then
      let s1 := s.off Fld.FLT.STATUS.TOCSIN
      if s.aon.tocsinHold then .next ((s1.off Fld.FLT.STATUS.ALIVE).modAon fun a => { a with tocsinHold := false })
      else .next s1
    else .next (s.on Fld.FLT.STATUS.TOCSIN)
  else .next s

/-- FIRMWARE_SOURCE_RAISE (R323): firmware raises one of its sources. -/
def execFirmwareSourceRaise (source : Nat) (s : State) : Host.Outcome State Fault Refusal :=
  if 1424 ≤ source ∧ source < 1536 ∧ s.aon.coreUp then .next (s.raise source).settle else .next s

end Sys2Proof.Machine
end

