-- ==== Sys2Proof/Machine/SlotPower.lean ====
section
/-! DEFINITION. Slot power, inrush and electronic fusing (R288 to R307): the commands of SLP. -/

namespace Sys2Proof.Machine
open Sys2Proof

/-- Channel `n` exists in the mode in force (R268). (DEDUCED, log entry 63.) -/
def State.slotOk (s : State) (n : Nat) : Bool := decide (n < s.slotsInUse)

/-- The channel's shunt and limits meet R288: at fast trip at most 100 mV, at the current limit at least 1 mV. -/
def State.shuntOk (s : State) (n : Nat) : Bool :=
  let r := s.get (Fld.SLP_C.SHUNT.V n)
  let i := s.get (Fld.SLP_C.CFG.ILIM n)
  let f := s.get (Fld.SLP_C.CFG.FAST n)
  decide (500 ≤ r) && decide (r ≤ 10000) && decide (r * i * f ≤ 8000000) && decide (20000 ≤ r * i)

/-- Port `n` calls for power: MBR asks and ENABLE is 1 (R286). -/
def State.portCalls (s : State) (n : Nat) : Bool := (s.port n).wanted && s.flag (Fld.DRP_P.CTRL.ENABLE n)

/-- Latch channel `n` off (R294, R298, R299): the LATCHED events, the port Off, the request that powered it at its end, its
demand with it, and the column to fail with CAUSE 0x06. -/
def State.latchCh (s : State) (n : Nat) : State :=
  let s1 := ((s.setCh n chLatched).off (Fld.SLP_C.STATUS.LIMITING n)).modChan n fun c => { c with bad := 0 }
  let s2 := (((s1.pgLost n).portDrop n).event (Fld.SLP_C.EVENT.LATCHED n) (slpSrc n 6)).event Fld.SLP.EVENT.SLOT_LATCHED 1223
  let s3 := ((s2.modPort n fun p => { p with wanted := false, probe := false }).off (Fld.DRP_P.STATUS.PENDING n)).modChan n fun c =>
    { c with demand := false }
  s3.modMb fun m => { m with failReq := m.failReq ++ [(n, 6)] }

/-- A fault of causes 1 to 4 (R294, R298): the gate goes off, power-good with it; Back-off, or Latched when no retry is
left.  The sources of the fault rise in one cycle (R327). -/
def State.slotFault (s : State) (n cause : Nat) (ev : FieldAt) : State :=
  let rises := (if cause = 1 ∧ ¬ s.srcAsserted (slpSrc n 0) then [(slpSrc n 0, 0)] else [])
    ++ (if s.srcAsserted (slpSrc n 1) then [] else [(slpSrc n 1, 0)])
  let last := s.get (Fld.SLP_C.STATUS.ATTEMPT n) = s.get (Fld.SLP_C.CFG.RETRIES n)
  let s1 := ((s.put (Fld.SLP_C.STATUS.CAUSE n) cause).on ev).off (Fld.SLP_C.STATUS.LIMITING n)
  let s2 := (s1.setCh n chBackoff).modChan n fun c => { c with bad := 0 }
  let s3 := (s2.pgLost n).raiseAll rises
  if last ∧ s3.ch n = chBackoff then s3.latchCh n else s3

/-- Power-good reaches the drive port: Powering becomes Reset (R272). -/
def State.portPg (s : State) (n : Nat) : State :=
  if s.pt n = ptPowering then s.put (Fld.DRP_P.STATUS.STATE n) ptReset else s

/-- A port that asks for power gets its channel queued, or the demand latched as pending (R272, R286, R294, R301). -/
def State.slotDemand (s : State) (n : Nat) : State :=
  if ¬ s.slotOk n ∨ ¬ s.portCalls n ∨ ¬ s.shuntOk n ∨ s.ch n = chLatched then s
  else if s.pt n = ptQuiescing then s.on (Fld.DRP_P.STATUS.PENDING n)
  else if s.pt n ≠ ptOff then s
  else
    let s1 := s.modChan n fun c => { c with demand := true }
    if s1.ch n = chShut ∨ s1.ch n = chMinOff then
      (s1.on (Fld.SLP_C.STATUS.PENDING n)).on (Fld.DRP_P.STATUS.PENDING n)
    else
      let s2 := (s1.put (Fld.DRP_P.STATUS.STATE n) ptPowering).off (Fld.DRP_P.STATUS.PENDING n)
      if s2.ch n = chOff ∧ s2.demandCounts n then s2.enqueueCh n
      else if s2.flag (Fld.SLP_C.STATUS.PG n) then s2.portPg n
      else s2

/-- SLOT_DEMAND (R294). -/
def execSlotDemand (slot : Nat) (s : State) : Host.Outcome State Fault Refusal :=
  if ¬ s.aon.coreUp then .next s else
  .next (s.slotDemand slot)

/-- No channel that waits in Queued stands before channel `n` (R295). -/
def State.rampHead (s : State) (n : Nat) : Bool :=
  (List.range 48).all fun m => decide (s.ch m ≠ chQueued) || decide ((s.chan n).order ≤ (s.chan m).order)

/-- The reference clock output of a slot (R271). -/
def State.dclkOf (s : State) (n : Nat) : Nat := if s.flag Fld.DRP.MODE.X4 then n / 2 else n / 4

/-- Open sense found on channel `n`: it latches with cause 5 and no retry (R305). -/
def State.openSense (s : State) (n : Nat) : State :=
  if s.ch n = chOff ∨ s.ch n = chLatched then s
  else ((s.put (Fld.SLP_C.STATUS.CAUSE n) 5).event (Fld.SLP_C.EVENT.OPEN_SENSE n) (slpSrc n 4)).latchCh n

/-- A ramp place is free and channel `n` heads the queue: the open-sense check, then the ramp (R295, R305, R271). -/
def State.rampGrant (s : State) (n senseMv : Nat) : State :=
  if s.slotOk n ∧ s.ch n = chQueued ∧ s.demandCounts n ∧ s.rampHead n
      ∧ s.get Fld.SLP.STATUS.RAMPING < s.get Fld.SLP.CFG.RAMP_MAX then
    if 200 < senseMv then s.openSense n
    else
      let s1 := (s.setCh n chRamping).modChan n fun c => { c with bad := 0 }
      s1.setN Reg.DRP.DCLK_EN (setBit (s1.regN Reg.DRP.DCLK_EN) (s.dclkOf n))
  else s

/-- RAMP_GRANT (R295). -/
def execRampGrant (slot senseMv : Nat) (s : State) : Host.Outcome State Fault Refusal :=
  if ¬ s.aon.coreUp then .next s else
  .next (s.rampGrant slot senseMv).settle

/-- The ramp completes after `us` microseconds; a bad sample wins over power-good (R295, R297). -/
def State.rampComplete (s : State) (n us : Nat) (bad : Bool) : State :=
  if s.ch n = chRamping then
    let s1 := s.put (Fld.SLP_C.LAST_RAMP.V n) us
    if bad then (s1.setCh n chOverload).modChan n fun c => { c with bad := 1 }
    else ((s1.setCh n chOn).pgGive n).portPg n
  else s

/-- RAMP_COMPLETE (R295, R297). -/
def execRampComplete (slot us : Nat) (bad : Bool) (s : State) : Host.Outcome State Fault Refusal :=
  if ¬ s.aon.coreUp then .next s else
  .next (s.rampComplete slot us bad)

/-- INRUSH_TIMER_EXPIRY (R295): cause 2. -/
def execInrushTimerExpiry (slot : Nat) (s : State) : Host.Outcome State Fault Refusal :=
  if ¬ s.aon.coreUp then .next s else
  if s.ch slot = chRamping then .next (s.slotFault slot 2 (Fld.SLP_C.EVENT.INRUSH_TIMEOUT slot)).settle else .next s

/-- A fast trip (R291): cause 1, TRIPS, the class A and class C sources; in Shutting down the gate is already on its way
off, so the trip is recorded and the channel stays there. (DEDUCED, log entry 30.) -/
def State.fastTrip (s : State) (n : Nat) : State :=
  let s1 := s.satInc (Fld.SLP_C.TRIPS.V n)
  if s.ch n = chShut then
    let rises := (if s.srcAsserted (slpSrc n 0) then [] else [(slpSrc n 0, 0)])
      ++ (if s.srcAsserted (slpSrc n 1) then [] else [(slpSrc n 1, 0)])
    ((s1.put (Fld.SLP_C.STATUS.CAUSE n) 1).on (Fld.SLP_C.EVENT.FAST_TRIP n)).raiseAll rises
  else s1.slotFault n 1 (Fld.SLP_C.EVENT.FAST_TRIP n)

/-- FAST_TRIP (R291): the comparator is armed while the gate is not off. -/
def execFastTrip (slot : Nat) (s : State) : Host.Outcome State Fault Refusal :=
  if ¬ s.aon.coreUp then .next s else
  if s.ch slot = chRamping ∨ s.ch slot = chOn ∨ s.ch slot = chOverload ∨ s.ch slot = chShut then
    .next (s.fastTrip slot).settle
  else .next s

/-- The transistor temperature in use, in sixteenths of a degree (SLP_Cn.TEMP). -/
def State.temp16 (s : State) (n : Nat) : Int := signedOf 16 (s.get (Fld.SLP_C.TEMP.V n))

/-- A new temperature: shown, and a fault with cause 3 when it reaches 150 °C while the gate is on (R292, R294). -/
def State.newTemp (s : State) (n : Nat) (t : Int) : State :=
  let s1 := s.put (Fld.SLP_C.TEMP.V n) (codeOf 16 t)
  if 2400 ≤ t ∧ (s1.ch n = chRamping ∨ s1.ch n = chOn ∨ s1.ch n = chOverload) then
    s1.slotFault n 3 (Fld.SLP_C.EVENT.OVERTEMP n)
  else s1

/-- DIODE_MEASURE (R292): a reading in sixteenths of a degree; out of −40 to 200 °C the diode is given up. -/
def execDiodeMeasure (slot : Nat) (temp16 : Int) (s : State) : Host.Outcome State Fault Refusal :=
  if ¬ s.aon.coreUp then .next s else
  if slot < 48 ∧ s.flag (Fld.SLP_C.CFG.TSRC slot) ∧ ¬ (s.chan slot).diodeBad then
    if temp16 < -640 ∨ 3200 < temp16 then
      .next (((s.modChan slot fun c => { c with diodeBad := true }).off (Fld.SLP_C.STATUS.TSRC_ACTIVE slot)).event
        (Fld.SLP_C.EVENT.DIODE_FAULT slot) (slpSrc slot 5)).settle
    else .next ((s.on (Fld.SLP_C.STATUS.TSRC_ACTIVE slot)).newTemp slot temp16).settle
  else .next s

/-- One pole's advance over 1 µs: thermal resistance in 0.01 °C/W, time constant in 10 µs (R293).  A time constant of 0
has no stated result: a free value (log entry 11). -/
def State.pole (s : State) (d : Rat) (pw : Nat) (r tau : Nat) : Rat × State :=
  if tau = 0 then let (k, s1) := s.fresh 3; ((k : Rat) / 16, s1)
  else (d + ((pw : Rat) / 1000 * ((r : Rat) / 100) - d) / (10 * (tau : Rat)), s)

/-- THERMAL_MODEL_UPDATE (R293): `powerMw` is the mean dissipation over the last 25 samples.  TEMP's last bit is a
free value where the temperature is no multiple of 1/16 °C (log entry 11). -/
def execThermalModelUpdate (slot powerMw : Nat) (s : State) : Host.Outcome State Fault Refusal :=
  if ¬ s.aon.coreUp then .next s else
  if slot < 48 then
    let c := s.chan slot
    let (d1, s1) := s.pole c.d1 powerMw (s.get (Fld.SLP_C.MODEL0.R1 slot)) (s.get (Fld.SLP_C.MODEL0.TAU1 slot))
    let (d2, s2) := s1.pole c.d2 powerMw (s1.get (Fld.SLP_C.MODEL1.R2 slot)) (s1.get (Fld.SLP_C.MODEL1.TAU2 slot))
    let s3 := s2.modChan slot fun c => { c with d1 := d1, d2 := d2 }
    if s3.flag (Fld.SLP_C.STATUS.TSRC_ACTIVE slot) then .next s3
    else
      let t := ((signedOf 8 (s3.get Fld.SLP.TREF.V) : Rat) + d1 + d2) * 16
      let (k, s4) := s3.fresh 4
      .next (s4.newTemp slot (if t.den = 1 then t.floor else t.floor + (k % 2 : Nat))).settle
  else .next s

/-- A sample of channel `n` is bad (R296); an undervoltage sample counts as good during and shortly after a feed
switchover. -/
def State.badSample (s : State) (n voutMv : Nat) (limiting : Bool) : Bool :=
  limiting || (decide (voutMv < 100 * s.get (Fld.SLP_C.TIMER.PG_V n)) && !s.mb.uvMask)

/-- OVERLOAD_ENTRY (R296): a sample; a bad one in On withdraws power-good and starts the fault timer, in Overload it
counts on. -/
def execOverloadEntry (slot curMa voutMv : Nat) (limiting : Bool) (s : State) : Host.Outcome State Fault Refusal :=
  if ¬ s.aon.coreUp then .next s else
  if slot < 48 then
    let s1 := ((s.put (Fld.SLP_C.MEAS.CURRENT slot) curMa).put (Fld.SLP_C.MEAS.VOUT slot) voutMv).putB
      (Fld.SLP_C.STATUS.LIMITING slot) limiting
    if ¬ s1.badSample slot voutMv limiting then .next s1
    else if s1.ch slot = chOn then
      .next (((s1.setCh slot chOverload).modChan slot fun c => { c with bad := c.bad + 1 }).pgLost slot).settle
    else if s1.ch slot = chOverload then .next (s1.modChan slot fun c => { c with bad := c.bad + 1 })
    else .next s1
  else .next s

/-- PG_RETURN (R297): 1 ms of good samples; the fault timer clears. -/
def execPgReturn (slot : Nat) (s : State) : Host.Outcome State Fault Refusal :=
  if ¬ s.aon.coreUp then .next s else
  if s.ch slot = chOverload then
    .next ((((s.setCh slot chOn).modChan slot fun c => { c with bad := 0 }).off (Fld.SLP_C.STATUS.LIMITING slot)).pgGive
      slot |>.portPg slot)
  else .next s

/-- FAULT_TIMER_EXPIRY (R296): cause 4. -/
def execFaultTimerExpiry (slot : Nat) (s : State) : Host.Outcome State Fault Refusal :=
  if ¬ s.aon.coreUp then .next s else
  if s.ch slot = chOverload then .next (s.slotFault slot 4 (Fld.SLP_C.EVENT.OVERLOAD slot)).settle else .next s

/-- BACKOFF_EXPIRY (R298): at or below 130 °C and with demand, the retry queues. -/
def execBackoffExpiry (slot : Nat) (s : State) : Host.Outcome State Fault Refusal :=
  if ¬ s.aon.coreUp then .next s else
  if s.ch slot = chBackoff ∧ s.demandCounts slot ∧ s.temp16 slot ≤ 2080 then
    .next ((s.enqueueCh slot).inc (Fld.SLP_C.STATUS.ATTEMPT slot))
  else .next s

/-- ATTEMPT_RESET (R298): 10 s of continuous power-good. -/
def execAttemptReset (slot : Nat) (s : State) : Host.Outcome State Fault Refusal :=
  if ¬ s.aon.coreUp then .next s else
  if s.flag (Fld.SLP_C.STATUS.PG slot) then .next (s.put (Fld.SLP_C.STATUS.ATTEMPT slot) 0) else .next s

/-- The demand of channel `n` is withdrawn (R294, R300, R301). -/
def State.demandGone (s : State) (n : Nat) : State :=
  let s1 := (s.off (Fld.SLP_C.STATUS.PENDING n)).off (Fld.DRP_P.STATUS.PENDING n)
  let st := s.ch n
  if st = chQueued then s1.setCh n chOff
  else if st = chRamping ∨ st = chOn ∨ st = chOverload then
    (((s1.setCh n chShut).off (Fld.SLP_C.STATUS.LIMITING n)).modChan n fun c => { c with bad := 0 }).pgLost n |>.portDrop n
  else if st = chBackoff then s1.setCh n chMinOff
  else s1

/-- The demand of channel `n` ends with its port's way to Off (R272, R300); a call for power that the port latched meanwhile is
carried out after the minimum off time (R286, R301). -/
def State.demandOver (s : State) (n : Nat) : State :=
  let s1 := (s.modChan n fun c => { c with demand := s.portCalls n }).demandGone n
  if s.flag (Fld.DRP_P.STATUS.PENDING n) ∧ ¬ s.flag (Fld.SLP_C.CTRL.FORCE_OFF n) then s1.slotDemand n else s1

/-- SLOT_DEMAND_WITHDRAWN (R300): the port, Off by now (R270), no longer calls for power, or calls for it anew (R286), or
FORCE_OFF is set. -/
def execSlotDemandWithdrawn (slot : Nat) (s : State) : Host.Outcome State Fault Refusal :=
  if ¬ s.aon.coreUp then .next s else
  if slot < 48 ∧ (s.chan slot).demand ∧ (((¬ s.portCalls slot ∨ s.flag (Fld.DRP_P.STATUS.PENDING slot)) ∧ s.pt slot = ptOff)
      ∨ s.flag (Fld.SLP_C.CTRL.FORCE_OFF slot)) then
    .next (s.demandOver slot).settle
  else .next s

/-- SHUTDOWN_COMPLETE (R300): the output is below 1 V, or 50 ms have passed. -/
def execShutdownComplete (slot : Nat) (s : State) : Host.Outcome State Fault Refusal :=
  if ¬ s.aon.coreUp then .next s else
  if s.ch slot = chShut then .next (s.setCh slot chMinOff)
  else .next s

/-- The minimum off time of channel `n` has passed (R301). -/
def State.minOffEnd (s : State) (n : Nat) : State :=
  let s1 := ((s.setCh n chOff).off (Fld.SLP_C.STATUS.PENDING n)).off (Fld.DRP_P.STATUS.PENDING n)
  let s2 := if s1.portCalls n ∧ s1.pt n = ptOff ∧ (s1.chan n).demand then s1.put (Fld.DRP_P.STATUS.STATE n) ptPowering else s1
  if s2.demandCounts n then s2.enqueueCh n else s2

/-- MIN_OFF_EXPIRY (R301). -/
def execMinOffExpiry (slot : Nat) (s : State) : Host.Outcome State Fault Refusal :=
  if ¬ s.aon.coreUp then .next s else
  if s.ch slot = chMinOff then .next (s.minOffEnd slot) else .next s

/-- SLP_Cn.CTRL.CLEAR (R294): Latched to Minimum off, ATTEMPT 0, the cause kept. -/
def State.slotClear (s : State) (n : Nat) : State :=
  if s.ch n = chLatched then
    (s.setCh n chMinOff).put (Fld.SLP_C.STATUS.ATTEMPT n) 0
  else s

/-- SLOT_CLEAR (R298). -/
def execSlotClear (slot : Nat) (s : State) : Host.Outcome State Fault Refusal :=
  if ¬ s.aon.coreUp then .next s else
  .next (s.slotClear slot)

/-! ### Feeds -/

/-- FEED_STATUS bit of feed 0 A or 1 B: usable at 3, reversed at 5, open at 7. -/
def feedBit (base feed : Nat) : FieldAt := ⟨Reg.SLP.FEED_STATUS, base + feed % 2, 1⟩
/-- The measured voltage of a feed (SLP.FEED_V). (DEDUCED, log entry 62.) -/
def feedV (feed : Nat) : FieldAt := ⟨Reg.SLP.FEED_V, 16 * (feed % 2), 16⟩

/-- A feed may be selected (R303). -/
def State.feedUsable (s : State) (f : Nat) : Bool := s.flag (feedBit 3 f)

/-- The stops named end, and channels with demand queue (R303, R306); the selected feed's gate is driven again, but for a
switchover under way. -/
def State.stopEnds (s : State) (bits : List Nat) : State :=
  let s1 := s.modMb fun m => { m with stopWhy := bits.foldl clrBit m.stopWhy }
  if s1.mb.stopWhy = 0 ∧ s1.flag Fld.SLP.STATUS.SHELF_STOPPED then
    let s2 := s1.off Fld.SLP.STATUS.SHELF_STOPPED
    let sel := s2.get Fld.SLP.FEED_STATUS.SELECTED
    (s2.modAon fun a => { a with feedGates := if sel = 0 ∨ s2.flag Fld.SLP.FEED_STATUS.SWITCHING then 0 else 2 ^ (sel - 1) }).queueDemands 48
  else s1

/-- With no feed selected, select the usable feed of higher priority (R303). -/
def State.selectFeed (s : State) : State :=
  let p := s.get Fld.SLP.FEED_CFG.PRIMARY
  let pick := if s.feedUsable p then some p else if s.feedUsable (1 - p) then some (1 - p) else none
  match pick with
  | none => s
  | some f =>
    let s1 := s.put Fld.SLP.FEED_STATUS.SELECTED (f + 1)
    (if s1.flag Fld.SLP.STATUS.SHELF_STOPPED && s1.mb.stopWhy != 1 then s1
     else s1.modAon fun a => { a with feedGates := 2 ^ f }).stopEnds [0]

/-- Start a switchover to feed `f`: the old gate low, SWITCHING 1, slot undervoltage masked (R296, R303). -/
def State.feedSwitch (s : State) (f : Nat) : State :=
  ((s.on Fld.SLP.FEED_STATUS.SWITCHING).modMb fun m => { m with feedNext := f + 1, uvMask := true }).modAon fun a =>
    { a with feedGates := 0 }

/-- No feed is usable: none is selected, NO_FEED is set and the shelf stops (R306). -/
def State.noFeed (s : State) : State :=
  let s1 := ((s.put Fld.SLP.FEED_STATUS.SELECTED 0).off Fld.SLP.FEED_STATUS.SWITCHING).modMb fun m =>
    { m with feedNext := 0, uvMask := false }
  (s1.event Fld.SLP.EVENT.NO_FEED 1222).shelfStop 0

/-- Feed `f` stops being usable (R303): when it is the selected feed, or the one being switched to, the selector acts. -/
def State.feedLost (s : State) (f : Nat) : State :=
  let s1 := s.off (feedBit 3 f)
  let concerned := s1.get Fld.SLP.FEED_STATUS.SELECTED = f + 1 ∧ ¬ s1.flag Fld.SLP.FEED_STATUS.SWITCHING
    ∨ s1.flag Fld.SLP.FEED_STATUS.SWITCHING ∧ s1.mb.feedNext = f + 1
  if ¬ concerned then s1
  else if s1.feedUsable (1 - f) then s1.feedSwitch (1 - f)
  else s1.noFeed

/-- FEED_UNUSABLE (R303): 25 consecutive samples out of range. -/
def execFeedUnusable (feed : Nat) (mv : Int) (s : State) : Host.Outcome State Fault Refusal :=
  if ¬ s.aon.coreUp then .next s else
  if feed < 2 ∧ s.feedUsable feed then .next ((s.put (feedV feed) (codeOf 16 mv)).feedLost feed).settle
  else .next s

/-- FEED_QUALIFIED (R303): in range for QUAL_MS, neither reversed nor open. -/
def execFeedQualified (feed : Nat) (mv : Int) (s : State) : Host.Outcome State Fault Refusal :=
  if ¬ s.aon.coreUp then .next s else
  if feed < 2 ∧ ¬ s.flag (feedBit 5 feed) ∧ ¬ s.flag (feedBit 7 feed) then
    let s1 := (s.put (feedV feed) (codeOf 16 mv)).on (feedBit 3 feed)
    .next (if s1.get Fld.SLP.FEED_STATUS.SELECTED = 0 then s1.selectFeed else s1)
  else .next s

/-- FEED_DEAD_TIME_EXPIRY (R303): the new gate is driven. -/
def execFeedDeadTimeExpiry (s : State) : Host.Outcome State Fault Refusal :=
  if ¬ s.aon.coreUp then .next s else
  if s.flag Fld.SLP.FEED_STATUS.SWITCHING ∧ ¬ s.flag Fld.SLP.STATUS.SHELF_STOPPED then
    .next (s.modAon fun a => { a with feedGates := 2 ^ (s.mb.feedNext - 1) })
  else .next s

/-- FEED_SWITCH_COMPLETE (R303): the new feed is selected. -/
def execFeedSwitchComplete (s : State) : Host.Outcome State Fault Refusal :=
  if ¬ s.aon.coreUp then .next s else
  if s.flag Fld.SLP.FEED_STATUS.SWITCHING ∧ s.aon.feedGates ≠ 0 then
    let s1 := ((s.put Fld.SLP.FEED_STATUS.SELECTED s.mb.feedNext).off Fld.SLP.FEED_STATUS.SWITCHING).modMb fun m =>
      { m with feedNext := 0 }
    .next ((s1.satInc Fld.SLP.FEED_SWITCHES.V).event Fld.SLP.EVENT.FEED_SWITCHED 1219).settle
  else .next s

/-- FEED_UV_MASK_END (R296). -/
def execFeedUvMaskEnd (s : State) : Host.Outcome State Fault Refusal :=
  if ¬ s.aon.coreUp then .next s else
  if s.flag Fld.SLP.FEED_STATUS.SWITCHING then .next s else .next (s.modMb fun m => { m with uvMask := false })

/-- FEED_REVERT (R303): the primary has been usable for RETURN_S. -/
def execFeedRevert (s : State) : Host.Outcome State Fault Refusal :=
  if ¬ s.aon.coreUp then .next s else
  let p := s.get Fld.SLP.FEED_CFG.PRIMARY
  let sel := s.get Fld.SLP.FEED_STATUS.SELECTED
  if s.flag Fld.SLP.FEED_CFG.REVERT ∧ s.feedUsable p ∧ sel ≠ 0 ∧ sel ≠ p + 1
      ∧ ¬ s.flag Fld.SLP.FEED_STATUS.SWITCHING then .next (s.feedSwitch p)
  else .next s

/-- FEED_REVERSED (R304): below −0.3 V; the gate is held low whatever the feed's priority. -/
def execFeedReversed (feed : Nat) (mv : Int) (s : State) : Host.Outcome State Fault Refusal :=
  if ¬ s.aon.coreUp then .next s else
  if feed < 2 ∧ mv < -300 then
    let s1 := ((s.put (feedV feed) (codeOf 16 mv)).on (feedBit 5 feed)).event Fld.SLP.EVENT.FEED_REVERSED 1220
    .next (s1.feedLost feed).settle
  else .next s

/-- FEED_REVERSE_CLEAR (R304): at or above 0 V for 1 s. -/
def execFeedReverseClear (feed : Nat) (s : State) : Host.Outcome State Fault Refusal :=
  if ¬ s.aon.coreUp then .next s else
  if feed < 2 then .next (s.off (feedBit 5 feed)) else .next s

/-- The feed part of an open-sense injection: above the equivalent of 20 V the pin is open (R305). -/
def State.feedSense (s : State) (x : Nat × Nat) : State :=
  if 2 ≤ x.1 then s
  else if 20000 < x.2 then
    ((s.on (feedBit 7 x.1)).event Fld.SLP.EVENT.FEED_OPEN_SENSE 1221).feedLost x.1
  else s.off (feedBit 7 x.1)

/-- OPEN_SENSE_INJECTION (R305): the shunt reading beyond the measured current of each slot, the reading of each feed
pin. -/
def execOpenSenseInjection (slotMv feedMv : List (Nat × Nat)) (s : State) : Host.Outcome State Fault Refusal :=
  if ¬ s.aon.coreUp then .next s else
  let s1 := slotMv.foldl (fun s x => if x.1 < 48 ∧ 200 < x.2 then s.openSense x.1 else s) s
  .next (feedMv.foldl State.feedSense s1).settle

/-- SHELF_STOP_CMD (R306): SLP.CMD.SHELF_STOP. -/
def execShelfStopCmd (s : State) : Host.Outcome State Fault Refusal :=
  if ¬ s.aon.coreUp then .next s else
  .next (s.shelfStop 1).settle

/-- SHELF_RESUME (R306): SLP.CMD.RESUME ends the stops of a command and of a fault source. -/
def execShelfResume (s : State) : Host.Outcome State Fault Refusal :=
  if ¬ s.aon.coreUp then .next s else
  .next (s.stopEnds [1, 3])

/-- GATE_CHARGE_PUMP_UV (R331): SLP_CPUMP_UV, or SLP_ANA_UV for VDD_ANA. -/
def execGateChargePumpUv (ana : Bool) (s : State) : Host.Outcome State Fault Refusal :=
  if ¬ s.aon.coreUp then .next s else
  .next (s.raise (if ana then 1218 else 1217)).settle

end Sys2Proof.Machine
end

