-- ==== Sys2Proof/Machine/Ports.lean ====
section
/-! DEFINITION. Drive ports and slot sideband: port states (R270 to R273), presence, button and removal (R279 to R282),
NVMe-MI (R283, R284), enables (R286), configuration access (R287), and discovery (R133, R285). -/

namespace Sys2Proof.Machine
open Sys2Proof

/-! ### Port states -/

/-- PERST_RELEASE (R270, R272): 100 ms after power-good the port trains. -/
def execPerstRelease (slot : Nat) (s : State) : Host.Outcome State Fault Refusal :=
  if ¬ s.aon.coreUp then .next s else
  .next (if s.pt slot = ptReset ∧ s.flag (Fld.SLP_C.STATUS.PG slot) then
      (s.put (Fld.DRP_P.STATUS.STATE slot) ptTraining).perst slot true
    else s)

/-- Lanes of a port at full width (R268). -/
def State.fullWidth (s : State) : Nat := if s.flag Fld.DRP.MODE.X4 then 4 else 2

/-- LINK_L0_REACHED (R269, R272): speed and width are shown; below 16 GT/s (code 4) or full width the port is DEGRADED. -/
def execLinkL0Reached (slot speed width : Nat) (s : State) : Host.Outcome State Fault Refusal :=
  if ¬ s.aon.coreUp then .next s else
  .next (if s.pt slot = ptTraining ∨ s.pt slot = ptRecovering then
      let s1 := ((s.put (Fld.DRP_P.STATUS.STATE slot) ptConfiguring).put (Fld.DRP_P.STATUS.SPEED slot) speed).put
        (Fld.DRP_P.STATUS.WIDTH slot) width
      (if speed < 4 ∨ width < s.fullWidth then s1.event (Fld.DRP_P.SLOT_STATUS.DEGRADED slot) (drpSrc slot 4) else s1).settle
    else s)

/-- The port gives up after a second training failure (R272): the request that powered it ends. -/
def State.trainFail (s : State) (n : Nat) : State :=
  let s1 := (s.portOff n).eventHeld Fld.DRP.EVENT.TRAIN_FAIL (drpSrc n 5)
  let s2 := s1.onSlot n fun s c => if (s.power c).ps = 6 then s.wakeFail c else s
  s2.modPort n fun p => { p with wanted := false, probe := false }

/-- TRAINING_TIMEOUT (R272): the first time PERST_N falls for 10 ms and the port resets; the second time it goes Off. -/
def execTrainingTimeout (slot : Nat) (s : State) : Host.Outcome State Fault Refusal :=
  if ¬ s.aon.coreUp then .next s else
  .next (if s.pt slot ≠ ptTraining then s
    else if (s.port slot).tries = 0 then
      ((s.put (Fld.DRP_P.STATUS.STATE slot) ptReset).perst slot false).modPort slot fun p => { p with tries := 1 }
    else (s.trainFail slot).settle)

/-- In-band or NVMe-MI critical warning bits 2 and 3 fail the column (R148). -/
def State.critWarn (s : State) (n w : Nat) : State :=
  if bit w 2 ∨ bit w 3 then s.onSlot n fun s c => s.failMark c 0x05 else s

/-- The SMART/Health log page of the drive in slot `n` is read in-band, and an Asynchronous Event Request is kept outstanding
(R273). -/
def State.healthRead (s : State) (n : Nat) : State :=
  (s.emit (.member n 0 0x16 2 0 [])).emit (.member n 0 0x17 0 0 [])

/-- What the part sends the member's admin queue in Configuring: four I/O queue pairs of 256 entries, the critical warning
events enabled, the first reading of the log page (R273). (PRESUMED, log entry 167.) -/
def State.memberSetup (s : State) (n : Nat) : State :=
  (((List.range 4).foldl (fun s i => s.emit (.member n 0 0x15 (i + 1) 256 [])) s).emit (.member n 0 0x13 0x0B 0xFF [])).healthRead n

/-- PORT_CONFIGURED (R273): the queues exist, the SMART/Health page has been read; the port is Up. -/
def execPortConfigured (slot critWarn : Nat) (s : State) : Host.Outcome State Fault Refusal :=
  if ¬ s.aon.coreUp then .next s else
  .next (if s.pt slot = ptConfiguring then
      let s1 := (s.put (Fld.DRP_P.STATUS.STATE slot) ptUp).putBit64 Reg.DRP.UP_LO slot true
      ((((s1.modPort slot fun p => { p with cfsTried := false, tries := 0 }).memberSetup slot).critWarn slot critWarn)).settle
    else s)

/-- LINK_LEAVES_L0 (R272): the port recovers; its commands and requests end. -/
def execLinkLeavesL0 (slot : Nat) (s : State) : Host.Outcome State Fault Refusal :=
  if ¬ s.aon.coreUp then .next s else
  .next (if s.pt slot = ptUp then ((s.portLeave slot ptRecovering).satInc (Fld.DRP_P.LINK_ERR.V slot)).settle else s)

/-- RECOVERY_TIMEOUT (R272): no L0 within 2 s; the slot goes off and the column is handled under R147. -/
def execRecoveryTimeout (slot : Nat) (s : State) : Host.Outcome State Fault Refusal :=
  if ¬ s.aon.coreUp then .next s else
  .next (if s.pt slot = ptRecovering then
      let s1 := (s.portOff slot).modPort slot fun p => { p with wanted := false, probe := false }
      (s1.onSlot slot fun s c => if (s.power c).ps = 6 then s.wakeFail c else (s.absentColumn c).awaitAbsent slot c).settle
    else s)

/-- A removal has come to its end: REMOVAL_DONE (R282).  The slot of an Online column that was powered is Absent 2 s later
by LINK_DOWN_ABSENT. -/
def State.removalDone (s : State) (n : Nat) : State := s.event (Fld.DRP_P.SLOT_STATUS.REMOVAL_DONE n) (drpSrc n 2)

/-- PORT_QUIESCED (R272): commands have ended, shutdown is done, PERST_N has been low for 10 µs. -/
def execPortQuiesced (slot : Nat) (s : State) : Host.Outcome State Fault Refusal :=
  if ¬ s.aon.coreUp then .next s else
  .next (if s.pt slot = ptQuiescing ∧ ¬ bit s.aon.slotPerst slot then
      let s1 := s.portOff slot
      (if (s.port slot).removing then s1.removalDone slot else s1).settle
    else s)

/-! ### Presence, button, removal -/

/-- A present slot in a column that is Vacant, Absent, Failed or Rebuilt awaits its probe (R285). -/
def State.awaitProbe (s : State) (n : Nat) : State :=
  s.onSlot n fun s c =>
    if (s.col c).st = 0 ∨ (s.col c).st = 3 ∨ (s.col c).st = 4 ∨ (s.col c).st = 5 then
      s.modPort n fun p => { p with awaiting := true }
    else s

/-- PRESENCE_CHANGE (R279): a debounced change of the input; presence is lost only when the port is not Up either. -/
def State.presenceChange (s : State) (n : Nat) (present : Bool) : State :=
  let s1 := s.modPort n fun p => { p with rawAbsent := !present }
  if present then
    if s.flag (Fld.DRP_P.SLOT_STATUS.PRESENT n) then s1
    else
      let s2 := ((s1.putBit64 Reg.DRP.PRESENT_LO n true).on (Fld.DRP_P.SLOT_STATUS.PRESENT n)).eventHeld Fld.DRP.EVENT.PRESENCE
        (drpSrc n 0)
      let s3 := s2.event (Fld.DRP_P.SLOT_STATUS.PRESENCE_CHANGED n) (drpSrc n 0)
      if s3.boot.phase < 7 then s3 else s3.awaitProbe n
  else if s.pt n = ptUp then s1.eventHeld Fld.DRP.EVENT.SGPIO_MISMATCH (drpSrc n 5)
  else if s.flag (Fld.DRP_P.SLOT_STATUS.PRESENT n) then s1.presenceLost n
  else s1

/-- PRESENCE_CHANGE (R279). -/
def execPresenceChange (slot : Nat) (present : Bool) (s : State) : Host.Outcome State Fault Refusal :=
  if ¬ s.aon.coreUp then .next s else
  .next (if slot < s.slotsInUse then (s.presenceChange slot present).settle else s)

/-- The column's becoming unavailable would leave a stripe with more than two lacking positions, or not (R282, R420). -/
def State.removalOk (s : State) (n : Nat) : Bool :=
  match s.colOfSlot n with
  | some c => !((s.col c).st == 2 || (s.col c).st == 6) || !s.wouldLose c
  | none => true

/-- The member of slot `n` is Darkening: its port quiesces once its outstanding commands have completed (R109). -/
def State.darkensAt (s : State) (n : Nat) : Bool :=
  match s.colOfSlot n with
  | some c => (s.power c).ps == 3
  | none => false

/-- A removal request (R282). -/
def State.removal (s : State) (n : Nat) : State :=
  if ¬ s.removalOk n then
    (s.modPort n fun p => { p with refusedAt := some s.now }).event (Fld.DRP_P.SLOT_STATUS.REMOVAL_REFUSED n) (drpSrc n 3)
  else
    let s1 := s.modPort n fun p => { p with removing := true, awaiting := false }
    let s2 := s1.onSlot n fun s c =>
      if (s.power c).ps = 4 ∨ (s.power c).ps = 5 then s.absentColumn c
      else if s.poweredUp c then s.darken c 5 else s
    let s3 := if s2.darkensAt n then s2 else s2.powerDown n
    if s3.pt n = ptOff then
      let s4 := s3.removalDone n
      if (match s4.colOfSlot n with | some c => s4.poweredUp c | none => false) then s4
      else s4.modPort n fun p => { p with removing := false }
    else s3

/-- SLOT_REMOVE_REQUEST (R282): SLOT_CTRL.REMOVE. -/
def execSlotRemoveRequest (slot : Nat) (s : State) : Host.Outcome State Fault Refusal :=
  if ¬ s.aon.coreUp then .next s else
  .next (if slot < s.slotsInUse then (s.removal slot).settle else s)

/-- BUTTON_PRESS (R281): a counted press opens or closes the button window of a present slot. -/
def execButtonPress (slot : Nat) (s : State) : Host.Outcome State Fault Refusal :=
  if ¬ s.aon.coreUp then .next s else
  .next (if s.flag (Fld.DRP_P.SLOT_STATUS.PRESENT slot) then
      let s1 := s.event (Fld.DRP_P.SLOT_STATUS.BUTTON slot) (drpSrc slot 1)
      s1.putB (Fld.DRP_P.SLOT_STATUS.BUTTON_WINDOW slot) (!s.flag (Fld.DRP_P.SLOT_STATUS.BUTTON_WINDOW slot))
    else s)

/-- BUTTON_WINDOW_EXPIRY (R281): removal is requested. -/
def execButtonWindowExpiry (slot : Nat) (s : State) : Host.Outcome State Fault Refusal :=
  if ¬ s.aon.coreUp then .next s else
  .next (if s.flag (Fld.DRP_P.SLOT_STATUS.BUTTON_WINDOW slot) then
      ((s.off (Fld.DRP_P.SLOT_STATUS.BUTTON_WINDOW slot)).removal slot).settle
    else s)

/-! ### NVMe-MI -/

/-- The sideband chain of a slot (R279). -/
def State.chainOf (s : State) (n : Nat) : Nat := if s.flag Fld.DRP.MODE.X4 then n / 6 else n / 12

/-- MI_POLL (R283, R284): the multiplexer selects the slot, command code 0 reads the structure, the multiplexer is deselected; the health structure of a powered slot as read (SMART Warnings, temperature, life used), or none
when every retry failed; the Warnings byte is inverted.  A transfer of management software on the controller keeps the poll
waiting (R401). (DESIGN CHOICE, log entry 94.) -/
def execMiPoll (slot : Nat) (sample : Option (Nat × Nat × Nat)) (s : State) : Host.Outcome State Fault Refusal :=
  if ¬ s.aon.coreUp then .next s else
  .next (if s.pt slot = ptOff ∨ bit s.mb.chainsStuck (s.chainOf slot) ∨ bit (s.get Fld.SIO.STATUS.V) (s.chainOf slot) then s
    else
      let k := s.chainOf slot
      let mux := s.get Fld.DRP.MI_CFG.MUX_ADDR
      let s1 := ((s.emit (.smbus k mux (slot % 12 + 1))).emit (.smbus k 0x6A 0)).emit (.smbus k mux 0)
      match sample with
      | none => s1.on (Fld.DRP_P.MI_STATUS.STALE slot)
      | some (warn, temp, life) =>
        let w := 255 - warn % 256
        let s2 := s1.setN (Reg.DRP_P.MI_STATUS slot) (life % 256 + 2 ^ 8 * w + 2 ^ 16 * (temp % 256))
        ((s2.modPort slot fun p => { p with miAt := s.now + 1 }).critWarn slot w).settle)

/-- MI_BUS_STUCK (R284): 9 clocks and a STOP; a bus that stays held suspends its chain's polls. -/
def execMiBusStuck (chain : Nat) (stillHeld : Bool) (s : State) : Host.Outcome State Fault Refusal :=
  if ¬ s.aon.coreUp then .next s else
  .next (if 4 ≤ chain then s
    else
      let s1 := s.emit (.smbus chain 0 0)
      if ¬ stillHeld then s1
      else
        let low := chain * (if s.flag Fld.DRP.MODE.X4 then 6 else 12)
        (((s1.modMb fun m => { m with chainsStuck := setBit m.chainsStuck chain }).eventHeld Fld.DRP.EVENT.MI_BUS_STUCK
          (drpSrc low 5))).settle)

/-- MI_SUSPEND_END (R284). -/
def execMiSuspendEnd (chain : Nat) (s : State) : Host.Outcome State Fault Refusal :=
  if ¬ s.aon.coreUp then .next s else
  .next (s.modMb fun m => { m with chainsStuck := clrBit m.chainsStuck chain })

/-- MEMBER_ASYNC_EVENT (R273): the SMART/Health page is read again, and another event request takes the place of this one. -/
def execMemberAsyncEvent (slot critWarn : Nat) (s : State) : Host.Outcome State Fault Refusal :=
  if ¬ s.aon.coreUp then .next s else
  .next (if s.pt slot = ptUp then ((s.healthRead slot).critWarn slot critWarn).settle else s)

/-- CONTROLLER_FATAL_STATUS (R148): MBR clears and sets CC.EN once (kind 10). (DEDUCED, log entry 164.) -/
def execControllerFatalStatus (slot : Nat) (s : State) : Host.Outcome State Fault Refusal :=
  if ¬ s.aon.coreUp then .next s else
  .next (if s.pt slot = ptUp ∧ ¬ (s.port slot).cfsTried then
      (s.modPort slot fun p => { p with cfsTried := true }).emit (.member slot 0 10 0 0 [])
    else s)

/-- CONTROLLER_READY_TIMEOUT (R148): CSTS.RDY has not returned; CAUSE 0x02. -/
def execControllerReadyTimeout (slot : Nat) (s : State) : Host.Outcome State Fault Refusal :=
  if ¬ s.aon.coreUp then .next s else
  .next (if (s.port slot).cfsTried then
      ((s.modPort slot fun p => { p with cfsTried := false }).onSlot slot fun s c => s.failMark c 0x02).settle
    else s)

/-! ### Enables and configuration access -/

/-- A write of DRP_Pn.CTRL.ENABLE (R286): 0 sends the port to Quiescing, 1 while MBR asks for power is carried out or
latched as pending. -/
def State.portEnable (s : State) (n : Nat) (v : Bool) : State :=
  let s1 := s.putB (Fld.DRP_P.CTRL.ENABLE n) v
  if v then
    if (s.port n).wanted ∧ s.pt n = ptQuiescing then s1.on (Fld.DRP_P.STATUS.PENDING n) else s1
  else
    let s2 := s1.off (Fld.DRP_P.STATUS.PENDING n)
    if s2.pt n = ptOff ∨ s2.pt n = ptQuiescing then s2
    else
      let s3 := s2.onSlot n fun s c => if s.poweredUp c then s.darken c 5 else s
      if s3.darkensAt n ∨ s3.pt n = ptQuiescing then s3 else s3.portLeave n ptQuiescing

/-- PORT_ENABLE_WRITE (R286). -/
def execPortEnableWrite (slot : Nat) (enable : Bool) (s : State) : Host.Outcome State Fault Refusal :=
  if ¬ s.aon.coreUp then .next s else
  .next (if slot < s.slotsInUse then (s.portEnable slot enable).settle else s)

/-- The column of slot `n` lets configuration writes through: Vacant, or its drive refused (R287). -/
def State.cfgWritable (s : State) (n : Nat) : Bool :=
  match s.colOfSlot n with
  | some c => (s.col c).st == 0 || (s.col c).refused
  | none => true

/-- Start a configuration access at port `n` (R286, R287): 1 read, 2 write. (DEDUCED, log entry 92.) -/
def State.cfgStart (s : State) (n op : Nat) : State :=
  if s.flag (Fld.DRP_P.CFG_STATUS.BUSY n) then s
  else if op = 2 ∧ ¬ s.cfgWritable n then s.put (Fld.DRP_P.CFG_STATUS.RESULT n) 6
  else if s.flag (Fld.DRP_P.STATUS.PENDING n) then s.put (Fld.DRP_P.CFG_STATUS.RESULT n) 3
  else if ¬ (s.pt n = ptUp ∨ s.pt n = ptConfiguring) then s.put (Fld.DRP_P.CFG_STATUS.RESULT n) 5
  else
    ((s.on (Fld.DRP_P.CFG_STATUS.BUSY n)).modPort n fun p => { p with cfgOp := op }).emit
      (.member n 0 (10 + op) (s.get (Fld.DRP_P.CFG_ADDR.V n)) (if op = 2 then s.get (Fld.DRP_P.CFG_DATA.V n) else 0) [])

/-- MEMBER_CFG_READ (R287). -/
def execMemberCfgRead (slot : Nat) (s : State) : Host.Outcome State Fault Refusal :=
  if ¬ s.aon.coreUp then .next s else
  .next (s.cfgStart slot 1)

/-- MEMBER_CFG_WRITE (R287). -/
def execMemberCfgWrite (slot : Nat) (s : State) : Host.Outcome State Fault Refusal :=
  if ¬ s.aon.coreUp then .next s else
  .next (s.cfgStart slot 2)

/-- MEMBER_CFG_DONE (R287): CFG_STATUS shows the result, and CFG_DATA what a successful read returned. -/
def execMemberCfgDone (slot result data : Nat) (s : State) : Host.Outcome State Fault Refusal :=
  if ¬ s.aon.coreUp then .next s else
  .next (if s.flag (Fld.DRP_P.CFG_STATUS.BUSY slot) then
      let s1 := (s.off (Fld.DRP_P.CFG_STATUS.BUSY slot)).put (Fld.DRP_P.CFG_STATUS.RESULT slot) result
      let s2 := if (s.port slot).cfgOp = 1 ∧ result = 0 then s1.put (Fld.DRP_P.CFG_DATA.V slot) data else s1
      s2.modPort slot fun p => { p with cfgOp := 0 }
    else s)

/-- DCLK_STOP (R271): every slot of output `k` is off. -/
def execDclkStop (k : Nat) (s : State) : Host.Outcome State Fault Refusal :=
  if ¬ s.aon.coreUp then .next s else
  let mine := (List.range 48).filter fun n => s.dclkOf n == k
  .next (if k < 12 ∧ mine.all fun n => !bit s.aon.slotGates n && s.ch n != chShut then
      s.setN Reg.DRP.DCLK_EN (clrBit (s.regN Reg.DRP.DCLK_EN) k)
    else s)

/-! ### Discovery -/

/-- The member table at a start (R130): that of the table store, and the MEMBER, KEEPERS and DARK_TIME records after it.
(DEDUCED, log entry 86.) -/
def State.memberTable (s : State) : State :=
  match s.tableStore with
  | none => s
  | some (t, q) =>
    let s1 := s.modTb fun x => { x with cols := t.cols, keepers := t.keepers, darkMin := t.darkMin, extents := t.extents }
    s1.nv.ring.foldl (fun s r =>
      if r.jseq ≤ q then s
      else match r.body with
        | .member _ _ _ | .keepers _ _ _ | .darkTime _ => s.applyRec r.body
        | _ => s) s1

/-- SLOT_DISCOVERY (R133, R285): present slots are reported; members of Online columns wait for their wake, the keepers are
switched on at once, drives in other columns await their probe. (DESIGN CHOICE, log entry 55.) -/
def State.discovery (s : State) (present : List Nat) : State :=
  if s.boot.phase ≠ 6 ∨ s.lay.isNone then s
  else
    let s1 := (s.memberTable).modBoot fun b => { b with phase := 7 }
    let here := present.filter fun n => decide (n < s.slotsInUse)
    let s2 := here.foldl (fun s n =>
      (((s.putBit64 Reg.DRP.PRESENT_LO n true).on (Fld.DRP_P.SLOT_STATUS.PRESENT n)).modPort n fun p =>
        { p with rawAbsent := false }).awaitProbe n) s1
    let s3 := s2.columns.foldl (fun s c =>
      let inn := s.flag (Fld.DRP_P.SLOT_STATUS.PRESENT (s.slotOfCol c))
      if (s.col c).st = 2 ∨ (s.col c).st = 6 then (if inn then s.setPs c 5 else s.absentColumn c) else s) s2
    let s4 := s3.tb.keepers.foldl (fun s c => if (s.power c).ps = 5 then s.wakeStart c else s) s3
    s4.keepersShow.critShow.mbrShow

/-- SLOT_DISCOVERY (R285). -/
def execSlotDiscovery (present : List Nat) (s : State) : Host.Outcome State Fault Refusal :=
  if ¬ s.aon.coreUp then .next s else
  .next (s.discovery present).settle

end Sys2Proof.Machine
end

