-- ==== Sys2Proof/Machine/Endpoint.lean ====
section
/-! DEFINITION. The management endpoint: function states and resets, configuration space, BAR2, MSI-X, power states and the
lock (R308 to R318, R320, R367). -/

namespace Sys2Proof.Machine
open Sys2Proof

/-- Encodings of EPF.STATUS.STATE (R316). -/
abbrev epDisabled : Nat := 0
/-- Training. -/
abbrev epTraining : Nat := 1
/-- Not ready. -/
abbrev epNotReady : Nat := 2
/-- Ready. -/
abbrev epReady : Nat := 3
/-- Resetting. -/
abbrev epResetting : Nat := 4

/-- The function's state. -/
def State.epState (s : State) : Nat := s.get Fld.EPF.STATUS.STATE
/-- The function takes a state. -/
def State.setEp (s : State) (st : Nat) : State := s.put Fld.EPF.STATUS.STATE st

/-- The configuration image has been applied, or failsafe reached: the endpoint leaves R309. -/
def State.epServes (s : State) : Bool := s.flag Fld.CFG.STATUS.IMAGE_APPLIED || s.get Fld.TOP.STATUS.MODE == 2

/-- EPF.STATUS shows Bus Master Enable, MSI-X Enable and the power state. -/
def State.epShow (s : State) : State :=
  ((s.putB Fld.EPF.STATUS.BME (bit s.ep.command 2)).putB Fld.EPF.STATUS.MSIX_EN s.ep.msixEn).put Fld.EPF.STATUS.DSTATE
    (if s.ep.d3 then 3 else 0)

/-- The link is lost: no speed, no width. -/
def State.epLinkLost (s : State) : State :=
  (((s.off Fld.EPF.STATUS.LINK_UP).put Fld.EPF.STATUS.SPEED 0).put Fld.EPF.STATUS.WIDTH 0).modEp fun e => { e with linkKept := false }

/-! ### Endpoint-space requests of the DMA engine -/

/-- Channel `n`'s outstanding endpoint-space request fails: its descriptor ends with EP_ERROR (R245, R317). -/
def State.dmaEpFail (s : State) (n : Nat) : State :=
  let s1 := match (s.dmaCh n).jobs.getLast? with
    | some j => if j.d.sspace = 1 ∧ ¬ j.closed ∧ (s.dmaSt n = 3 ∨ s.dmaSt n = 4) then s.modLast n fun j => { j with closed := true, code := some 0x21 } else s
    | none => s
  if s1.dmaSt n = 7 then s1
  else s1.writeFail n (fun j => j.d.dspace == 1 && decide (0 < j.written) && !chainEnded [j]) 0x21

/-- EP_COMPLETION_TIMEOUT (R308, R245). -/
def execEpCompletionTimeout (ch : Nat) (s : State) : Host.Outcome State Fault Refusal :=
  if ¬ s.aon.coreUp then .next s else
  .next (if ch < 32 then (s.dmaEpFail ch).settle else s)

/-! ### Function states -/

/-- A function reset clears the configuration state, releases path E's lock and drops the outstanding endpoint-space
requests and path E's held word (R317, R320, R393).  PME_En, PME_Status and the AER status survive (R315, R317). -/
def State.funcClear (s : State) : State :=
  let s1 := s.modEp fun e => { e with command := 0, bars := [0, 0, 0], devctl := 0, devctl2 := 0, msixEn := false, fmask := false,
                                      table := [], pba := [], d3 := false }
  let s2 := if s1.get Fld.EPF.LOCK.OWNER = 1 then s1.put Fld.EPF.LOCK.OWNER 0 else s1
  ((List.range 32).foldl State.dmaEpFail (s2.modAcc fun a => { a with heldE := none, latE := none })).epShow

/-- The function enters Resetting with its link lost (R316); in D3cold its configuration state stands until EP_PERST_N
rises (R314). -/
def State.epResetLost (s : State) : State :=
  let s1 := (s.setEp epResetting).epLinkLost
  if s1.ep.d3 ∧ ¬ s1.aon.epPerst then s1 else s1.funcClear

/-- A write of EPF.CTRL.ENABLE (R316, R318). -/
def State.epEnable (s : State) (v : Bool) : State :=
  let st := s.epState
  let s1 := s.putB Fld.EPF.CTRL.ENABLE v
  if v then
    if st = epDisabled ∧ s1.aon.epPerst then s1.setEp epTraining
    else if st = epResetting then s1.on Fld.EPF.STATUS.PENDING
    else s1
  else if st = epDisabled then s1
  else (s1.off Fld.EPF.STATUS.PENDING).epResetLost

/-- EP_ENABLE_WRITE (R318). -/
def execEpEnableWrite (enable : Bool) (s : State) : Host.Outcome State Fault Refusal :=
  .next (if s.aon.coreUp then (s.epEnable enable).settle else s)

/-- EP_PERST_CHANGE (R314 to R316): a fall resets the function, or puts one in D3hot into D3cold; a rise releases WAKE_N,
resets a function that was in D3cold, and allows training. -/
def State.epPerst (s : State) (high : Bool) : State :=
  let s1 := s.modAon fun a => { a with epPerst := high }
  let st := s1.epState
  if ¬ high then
    if st = epReady ∨ st = epNotReady then s1.epResetLost
    else if st = epResetting then s1.epLinkLost
    else if st = epTraining then s1.epResetLost
    else s1
  else
    let s2 := s1.modAon fun a => { a with wakeLow := false }
    let s3 := if s2.ep.d3 then s2.funcClear else s2
    if s3.epState = epDisabled ∧ s3.flag Fld.EPF.CTRL.ENABLE then s3.setEp epTraining else s3

/-- EP_PERST_CHANGE (R314). -/
def execEpPerstChange (high : Bool) (s : State) : Host.Outcome State Fault Refusal :=
  .next (if s.aon.epPerst = high then s
    else if s.aon.coreUp then (s.epPerst high).settle
    else s.modAon fun a => { a with epPerst := high })

/-- EP_LINK_UP (R316): L0 is reached. -/
def execEpLinkUp (speed width : Nat) (s : State) : Host.Outcome State Fault Refusal :=
  if ¬ s.aon.coreUp then .next s else
  .next (if s.epState ≠ epTraining ∨ s.aon.squelched then s
    else
      let s1 := ((s.put Fld.EPF.STATUS.SPEED speed).put Fld.EPF.STATUS.WIDTH width).on Fld.EPF.STATUS.LINK_UP
      s1.setEp (if s1.epServes then epReady else epNotReady))

/-- EP_LINK_DOWN (R316): hot reset or link down. -/
def execEpLinkDown (s : State) : Host.Outcome State Fault Refusal :=
  if ¬ s.aon.coreUp then .next s else
  .next (if s.epState = epReady ∨ s.epState = epNotReady then s.epResetLost.settle
    else if s.epState = epResetting then s.epLinkLost
    else s)

/-- A Function Level Reset (R316, R317). -/
def State.flr (s : State) : State :=
  if s.epState ≠ epReady then s
  else ((s.setEp epResetting).modEp fun e => { e with linkKept := true }).funcClear

/-- FUNCTION_LEVEL_RESET (R317). (DEDUCED, log entry 105.) -/
def execFunctionLevelReset (s : State) : Host.Outcome State Fault Refusal :=
  if ¬ s.aon.coreUp then .next s else
  .next s.flr.settle

/-- A function reset has completed (R316, R318): the pending enable is carried out. -/
def State.funcResetDone (s : State) : State :=
  let s1 := (s.event Fld.EPF.EVENT.FUNC_RESET 1344).off Fld.EPF.STATUS.PENDING
  let st := if s1.ep.linkKept then (if s1.epServes then epReady else epNotReady)
    else if s1.flag Fld.EPF.CTRL.ENABLE ∧ s1.aon.epPerst then epTraining else epDisabled
  (s1.setEp st).modEp fun e => { e with linkKept := false }

/-- FUNC_RESET_DONE (R317). -/
def execFuncResetDone (s : State) : Host.Outcome State Fault Refusal :=
  if ¬ s.aon.coreUp then .next s else
  .next (if s.epState = epResetting then s.funcResetDone.settle else s)

/-! ### MSI-X -/

/-- Pending vectors that are no longer masked send their messages (R313). -/
def State.msixFlush (s : State) : State :=
  if ¬ s.ep.msixEn ∨ s.ep.fmask ∨ s.ep.d3 then s
  else (s.ep.pba.filter fun v => !(s.msix v).masked).foldl
    (fun s v => (s.emit (.msix v)).modEp fun e => { e with pba := dropEl e.pba v }) s

/-- A memory request reaches the function: its link is up, it is in D0 and Ready, and Memory Space is enabled (R309,
R314). (PRESUMED, log entry 106.) -/
def State.epMemOk (s : State) : Bool := s.epState == epReady && !s.ep.d3 && bit s.ep.command 1

/-- A dword written to entry `off / 16` of the MSI-X table (R313): address low and high, data, vector control. -/
def State.msixWrite (s : State) (off v : Nat) : State :=
  let n := off / 16
  let x := s.msix n
  let x1 : MsixEnt := match off / 4 % 4 with
    | 0 => { x with addr := x.addr / 2 ^ 32 * 2 ^ 32 + v % 2 ^ 32 / 4 * 4 }
    | 1 => { x with addr := x.addr % 2 ^ 32 + v % 2 ^ 32 * 2 ^ 32 }
    | 2 => { x with data := v % 2 ^ 32 }
    | _ => { x with masked := bit v 0 }
  (s.modEp fun e => { e with table := tputD e.table n x1 ⟨0, 0, true⟩ }).msixFlush

/-- MSIX_TABLE_WRITE (R313): a dword write at BAR4; the PBA is read-only. -/
def execMsixTableWrite (off value : Nat) (s : State) : Host.Outcome State Fault Refusal :=
  if ¬ s.aon.coreUp then .next s else
  .next (if s.epMemOk ∧ off < 0x8000 then s.msixWrite off value else s)

/-! ### Configuration space -/

/-- The addresses of BAR0, BAR2 and BAR4: the bits that can be written (R310). -/
def State.barMask (s : State) (k : Nat) : Nat :=
  let lo := if k = 0 then 25 else if k = 1 then s.get Fld.EPF.BAR2_CFG.LOG2 else 16
  2 ^ 64 - 2 ^ lo

/-- The type bits of a BAR: 64-bit, BAR2 prefetchable. -/
def barType (k : Nat) : Nat := if k = 1 then 0xC else 0x4

/-- A dword of configuration space (R308): identity, command, BARs, no interrupt pin, power management, device capabilities
(512 bytes, Function Level Reset) and control, timeout ranges B, C and D, MSI-X, AER status and serial number; anything else
of the standard layout is open. -/
def State.cfgRead (s : State) (a : Nat) : Nat × State :=
  let e := s.ep
  let open_ : Nat × State := let (x, s1) := s.fresh 16; (x % 2 ^ 32, s1)
  if a = 0 then (s.regN Reg.EPF.ID, s)
  else if a = 4 then (e.command + 2 ^ 20, s)
  else if a = 8 then (0x018000B1, s)
  else if 0x10 ≤ a ∧ a < 0x28 then
    let k := (a - 0x10) / 8
    let v := e.bars.getD k 0
    (if a % 8 = 0 then v % 2 ^ 32 + barType k else v / 2 ^ 32, s)
  else if a = 0x34 then (Config.epCap 1, s)
  else if a = 0x3C then let (x, s1) := s.fresh 16; (x % 2 ^ 8, s1)
  else if a = Config.epCap 1 then let (x, s1) := s.fresh 16; (0x01 + 2 ^ 8 * (Config.epCap 2 % 2 ^ 8) + 2 ^ 16 * (x % 2 ^ 16), s1)
  else if a = Config.epCap 2 then let (x, s1) := s.fresh 16; (0x10 + 2 ^ 8 * (Config.epCap 3 % 2 ^ 8) + 2 ^ 16 * (x % 2 ^ 16), s1)
  else if a = Config.epCap 2 + 4 then
    let (x, s1) := s.fresh 16
    (2 + 2 ^ 3 * (x % 2 ^ 25) + 2 ^ 28, s1)
  else if a = Config.epCap 2 + 0x24 then let (x, s1) := s.fresh 16; (0xE + 2 ^ 4 * (x % 2 ^ 28), s1)
  else if a = Config.epCap 1 + 4 then ((if e.d3 then 3 else 0) + 8 + 2 ^ 8 * b2n e.pmeEn + 2 ^ 15 * b2n e.pmeStatus, s)
  else if a = Config.epCap 2 + 8 then (e.devctl % 2 ^ 15, s)
  else if a = Config.epCap 2 + 0x28 then (e.devctl2, s)
  else if a = Config.epCap 3 then
    (0x11 + 2 ^ 16 * (2047 + 2 ^ 14 * b2n e.fmask + 2 ^ 15 * b2n e.msixEn), s)
  else if a = Config.epCap 3 + 4 then (4, s)
  else if a = Config.epCap 3 + 8 then (0x8004, s)
  else if a = Config.epCap 4 + 4 then (e.aer, s)
  else if a = Config.epCap 5 + 4 then (s.regN Reg.CFG.UID_LO, s)
  else if a = Config.epCap 5 + 8 then (s.regN Reg.CFG.UID_HI, s)
  else open_

/-- A dword write of configuration space (R310, R313 to R315, R317). -/
def State.cfgWrite (s : State) (a v : Nat) : State :=
  if a = 4 then (s.modEp fun e => { e with command := v % 2 ^ 16 }).epShow
  else if 0x10 ≤ a ∧ a < 0x28 then
    let k := (a - 0x10) / 8
    let old := s.ep.bars.getD k 0
    let new := if a % 8 = 0 then old / 2 ^ 32 * 2 ^ 32 + v % 2 ^ 32 else old % 2 ^ 32 + v % 2 ^ 32 * 2 ^ 32
    s.modEp fun e => { e with bars := e.bars.set k ((BitVec.ofNat 64 new &&& BitVec.ofNat 64 (s.barMask k)).toNat) }
  else if a = Config.epCap 1 + 4 then
    let s1 := s.modEp fun e => { e with
      d3 := if v % 4 = 3 then true else if v % 4 = 0 then false else e.d3, pmeEn := bit v 8,
      pmeStatus := e.pmeStatus && !bit v 15 }
    let s2 := if s1.ep.d3 then s1 else s1.modAon fun x => { x with wakeLow := false }
    s2.epShow
  else if a = Config.epCap 2 + 8 then
    let s1 := s.modEp fun e => { e with devctl := v % 2 ^ 15 }
    if bit v 15 then s1.flr else s1
  else if a = Config.epCap 2 + 0x28 then s.modEp fun e => { e with devctl2 := v % 2 ^ 16 }
  else if a = Config.epCap 3 then
    (s.modEp fun e => { e with msixEn := bit v 31, fmask := bit v 30 }).epShow.msixFlush
  else if a = Config.epCap 4 + 4 then
    s.modEp fun e => { e with aer := (BitVec.ofNat 32 e.aer &&& ~~~ BitVec.ofNat 32 v).toNat }
  else s

/-- EP_CONFIG_REQUEST (R309, R316, R318): served in Ready; Not ready and Resetting answer Request Retry Status (kind 3).  No
request arrives without a link. -/
def execEpConfigRequest (write : Bool) (off value : Nat) (s : State) : Host.Outcome State Fault Refusal :=
  if ¬ s.aon.coreUp then .next s else
  .next (let st := s.epState
    if st = epNotReady ∨ (st = epResetting ∧ s.ep.linkKept) then s.emit (.pcie 3 [])
    else if st ≠ epReady then s
    else if write then ((s.cfgWrite (off / 4 * 4) value).emit (.pcie 0 [])).settle
    else
      let (v, s1) := s.cfgRead (off / 4 * 4)
      s1.emit (.pcie 0 (leBytes 4 v)))

/-! ### BAR2 -/

/-- Bytes `a` to `a + n - 1` lie in the command-sampling ring. -/
def State.inSampleRing (s : State) (a n : Nat) : Bool :=
  let b := s.rd64 Reg.PMC.SMP_BASE_LO
  decide (b ≤ a) && decide (a + n ≤ b + 64 * s.get Fld.PMC.SMP_RECORDS.V)

/-- BAR2_READ (R309, R312, R314, R367, R398): from DRAM below DRAM_FITTED, from the staging buffer while the DRAM is not
trained; else Unsupported Request (kind 1), for an uncorrectable error Completer Abort (kind 2). -/
def execBar2Read (off len : Nat) (uncorrectable : Bool) (s : State) : Host.Outcome State Fault Refusal :=
  if ¬ s.aon.coreUp then .next s else
  .next (if s.epState ≠ epReady ∧ s.epState ≠ epNotReady then s
    else if ¬ s.epMemOk ∨ 2 ^ s.get Fld.EPF.BAR2_CFG.LOG2 < off + len then s.emit (.pcie 1 [])
    else if ¬ s.flag Fld.DDC.STATUS.TRAINED then
      if off + len ≤ 2 ^ 25 then (s.emit (.pcie 0 (memGetAll s.boot.buffer off len))).bwAdd 56 0 len else s.emit (.pcie 1 [])
    else
      let a := s.rd64 Reg.EPF.BAR2_MAP_LO + off
      if s.get Fld.TOP.DRAM_FITTED.V * 2 ^ 20 < a + len then ((s.emit (.pcie 1 [])).event Fld.EPF.EVENT.BAR2_RANGE 1346).settle
      else if uncorrectable then s.emit (.pcie 2 [])
      else (s.emit (.pcie 0 (s.dramRead a len))).bwAdd 56 0 len)

/-- BAR2_WRITE (R312, R314, R367): discarded when poisoned, beyond DRAM_FITTED, or below DRAM_REQUIRED outside the
command-sampling ring. -/
def execBar2Write (off : Nat) (bytes : List Byte) (poisoned : Bool) (s : State) : Host.Outcome State Fault Refusal :=
  if ¬ s.aon.coreUp then .next s else
  .next (if ¬ s.epMemOk ∨ 2 ^ s.get Fld.EPF.BAR2_CFG.LOG2 < off + bytes.length then s
    else
      let s1 := s.bwAdd 56 bytes.length 0
      if poisoned then s1.modEp fun e => { e with aer := setBit e.aer 12 }
      else if ¬ s1.flag Fld.DDC.STATUS.TRAINED then
        if off + bytes.length ≤ 2 ^ 25 then s1.modBoot fun b => { b with buffer := memPutAll b.buffer off bytes } else s1
      else
        let a := s1.rd64 Reg.EPF.BAR2_MAP_LO + off
        if s1.get Fld.TOP.DRAM_FITTED.V * 2 ^ 20 < a + bytes.length then (s1.event Fld.EPF.EVENT.BAR2_RANGE 1346).settle
        else if a < s1.get Fld.TOP.DRAM_REQUIRED.V * 2 ^ 20 ∧ ¬ s1.inSampleRing a bytes.length then
          ((s1.satInc Fld.EPF.BAR2_DISCARDS.BAR2).event Fld.EPF.EVENT.BAR2_PROTECTED 1345).settle
        else s1.dramWrite a bytes)

/-! ### The lock -/

/-- A write of EPF.LOCK (R320): a path takes the free lock with its own code, its owner frees it with 0; TIMEOUT_S of 0 is
ignored. -/
def State.lockWrite (s : State) (path : Path) (v : Nat) : State :=
  let me := pathCode path
  let own := s.get Fld.EPF.LOCK.OWNER
  let req := v % 4
  let s1 := if bits v 8 8 = 0 then s else s.put Fld.EPF.LOCK.TIMEOUT_S (bits v 8 8)
  if own = 0 ∧ req = me then s1.put Fld.EPF.LOCK.OWNER me
  else if own = me ∧ req = 0 then s1.put Fld.EPF.LOCK.OWNER 0
  else s1

/-- LOCK_WRITE (R320). -/
def execLockWrite (path : Path) (value : Nat) (s : State) : Host.Outcome State Fault Refusal :=
  .next (if s.aon.coreUp then s.lockWrite path value else s)

/-- LOCK_TIMEOUT (R320): the owner has made no access for TIMEOUT_S seconds. -/
def execLockTimeout (s : State) : Host.Outcome State Fault Refusal :=
  if ¬ s.aon.coreUp then .next s else
  .next (s.put Fld.EPF.LOCK.OWNER 0)

end Sys2Proof.Machine
end

