-- ==== Sys2Proof/Machine/RegRead.lean ====
section
/-! DEFINITION. What a read of a register returns (R4, R5, R387 to R392): the registers that selectors point into a table,
those that show what stands elsewhere in the state, and the register file for the rest. -/

namespace Sys2Proof.Machine
open Sys2Proof

/-- Index of a register in a run of `n` words from `base`. -/
def wordIn (a base n : Nat) : Option Nat := if base ≤ a ∧ a < base + 4 * n ∧ (a - base) % 4 = 0 then some ((a - base) / 4) else none

/-- A register among the instances 0 to `n - 1` at a stride. -/
def instIn (a base stride n : Nat) : Option Nat :=
  if base ≤ a ∧ a < base + stride * n ∧ (a - base) % stride = 0 then some ((a - base) / stride) else none

/-- Low (0) or high (4) word of a 64-bit value. -/
def half (v hi : Nat) : Nat := if hi = 0 then v % 2 ^ 32 else v / 2 ^ 32 % 2 ^ 32

/-- Seconds a blink of the indicators lasts start at a phase that the spec does not give; the present level of a 1 Hz
blink (R280). -/
def State.blinkOn (s : State) : Bool := (s.now + Config.freeNat 18 0) / 500000000 % 2 == 0

/-- The level of an indicator: the setting (0 automatic, 1 on, 2 blink, 3 off), and in automatic mode whether it is on or
blinks (R280). -/
def State.indicator (s : State) (ctl : Nat) (on blink : Bool) : Bool :=
  match ctl with
  | 0 => on || (blink && s.blinkOn)
  | 1 => true
  | 2 => s.blinkOn
  | _ => false

/-- The power indicator of slot `n` (R280). -/
def State.powerInd (s : State) (n : Nat) : Bool :=
  s.indicator (s.get (Fld.DRP_P.SLOT_CTRL.PWR_IND n)) (s.pt n == ptUp && !s.flag (Fld.DRP_P.SLOT_STATUS.BUTTON_WINDOW n))
    ((s.pt n != ptOff && s.pt n != ptUp) || s.flag (Fld.DRP_P.SLOT_STATUS.BUTTON_WINDOW n))

/-- The attention indicator of slot `n` (R280). -/
def State.attnInd (s : State) (n : Nat) : Bool :=
  let bad : Bool := match s.colOfSlot n with | some c => (s.col c).st == 4 || (s.col c).refused | none => (s.port n).refusal != 0
  let recent : Bool := match (s.port n).refusedAt with | some t => decide (s.now < t + 5000000000) | none => false
  s.indicator (s.get (Fld.DRP_P.SLOT_CTRL.ATTN_IND n)) (bad || s.ch n == chLatched) recent

/-- The locate output of slot `n` (R280). -/
def State.locateInd (s : State) (n : Nat) : Bool :=
  match s.get (Fld.DRP_P.SLOT_CTRL.LOCATE n) with
  | 1 => true
  | 2 => s.blinkOn
  | _ => false

/-- Slots of a serial GPIO chain: 12, or 6 in x4 mode (R279). -/
def State.chainLen (s : State) : Nat := if s.flag Fld.DRP.MODE.X4 then 6 else 12

/-- SIO_Gk.RAW, OUT and ATTN (R279, R280): `j` 0 to 2.  The button inputs before debounce are an input level the model does
not hold: open. -/
def State.sgpio (s : State) (k j : Nat) : Nat :=
  let m (f : Nat → Bool) : Nat := maskOf s.chainLen fun i => f (k * s.chainLen + i)
  match j with
  | 0 => (m fun n => s.flag (Fld.DRP_P.SLOT_STATUS.PRESENT n) && !(s.port n).rawAbsent)
      + 2 ^ 16 * (Config.freeNat 17 s.freeCtr % 2 ^ s.chainLen)
  | 1 => m s.powerInd + 2 ^ 12 * m s.locateInd
  | _ => m s.attnInd

/-! ### Block by block -/

/-- ZMP's selected entries (R25, R45). -/
def State.shownZmp (s : State) (a raw : Nat) : Nat :=
  let h := s.host (s.get Fld.ZMP.HOST_SELECT.V)
  if a = Reg.ZMP.NS_CFG then raw / 2 * 2 + b2n (s.nsThere (s.get Fld.ZMP.NS_SELECT.V))
  else if a = Reg.ZMP.HOST_PERM then h.perm
  else match wordIn a (Reg.ZMP.HOST_NQN 0) 56, wordIn a (Reg.ZMP.HOST_NS_ACCESS 0) 32 with
    | some m, _ => leNat ((h.nqn.drop (4 * m)).take 4 |>.map fun x => BitVec.ofNat 8 x)
    | none, some m => h.access.getD m 0
    | none, none => raw

/-- BRL's selected slot (R84). -/
def State.shownBrl (s : State) (a raw : Nat) : Nat :=
  let x := s.slot (s.get Fld.BRL.SLOT_SELECT.V)
  if a = Reg.BRL.SLOT_STATE then x.st + 2 ^ 16 * x.folded
  else if a = Reg.BRL.SLOT_STRIPE_LO then half x.stripe 0
  else if a = Reg.BRL.SLOT_STRIPE_HI then half x.stripe 4
  else raw

/-- Strips of column `c` that its sweep has still to visit (R157, R165). (DEDUCED, log entry 135.) -/
def State.sweepLeft (s : State) (c : Nat) : Nat :=
  let x := s.col c
  let at_ := if x.st = 6 then x.copyCur else x.cursor
  if x.ctx.isNone ∧ x.st ≠ 6 then 0 else s.layout.index s.layout.stripes c - s.layout.index at_ c

/-- MBR's selected member, column and descriptor, and the bound of R97 (R94, R97, R147, R157, R163). -/
def State.shownMbr (s : State) (a raw : Nat) : Nat :=
  let n := s.get Fld.MBR.MSEL.V
  let c := s.colOfSlot n
  let col (f : Column → Nat) : Nat := match c with | some c => f (s.col c) | none => 0
  let p := s.get Fld.MBR.PSEL.V
  if a = Reg.MBR.MPWR then
    match s.colOfSlot p with
    | some d =>
      let w := s.power d
      w.ps + 2 ^ 3 * w.nvmePs + 2 ^ 8 * (if w.ps = 3 then w.target else 0) + 2 ^ 12 * b2n w.catching + 2 ^ 16 * b2n w.noLow
    | none => 0
  else if a = Reg.MBR.DARK_MINUTES then s.tb.darkMin.getD p 0
  else if a = Reg.MBR.DARK_MAX then s.get Fld.MBR.PWR_CFG.LIMIT * s.layout.columns / s.layout.width
  else if a = Reg.MBR.MSTATE then
    match c with
    | some k =>
      let x := s.col k
      (if x.st = 0 ∧ x.refused then 1 else x.st) + 2 ^ 4 * b2n x.refused + 2 ^ 8 * x.cause + 2 ^ 16 * x.inc
    | none => 2 ^ 4 * b2n ((s.port n).refusal != 0) + 2 ^ 8 * (s.port n).refusal
  else if a = Reg.MBR.STATUS then
    raw + 2 ^ Fld.MBR.STATUS.SCRUB_RUNNING.lo * b2n (s.mb.scrubOn && s.scrubRuns && !s.ctxOpen)
  else if a = Reg.MBR.DEFERRED then s.deferredCount
  else if a = Reg.MBR.CURSOR_LO then col fun x => half (if x.st = 6 then x.copyCur else x.cursor) 0
  else if a = Reg.MBR.CURSOR_HI then col fun x => half (if x.st = 6 then x.copyCur else x.cursor) 4
  else if a = Reg.MBR.LEFT_LO then (match c with | some c => half (s.sweepLeft c) 0 | none => 0)
  else if a = Reg.MBR.LEFT_HI then (match c with | some c => half (s.sweepLeft c) 4 | none => 0)
  else if a = Reg.MBR.MISSED then col fun x => x.groups.length
  else if a = Reg.MBR.MISMATCH_COUNT then tgetD s.mb.misCount n 0
  else if a = Reg.MBR.TIMEOUT_COUNT then tgetD s.mb.toCount n 0
  else match wordIn a (Reg.MBR.LOSS_ENTRY 0) 8 with
    | some m =>
      let i := s.get Fld.MBR.LOSS_SELECT.V
      (match s.tb.losses[i]? with
        | some l => leAt (lossPage i (s.lossNext i l) l l.off l.count) (4 * m) 4
        | none => 0)
    | none => raw

/-- FAB's selected window and QPC's selected connection (R188, R192). -/
def State.shownFab (s : State) (a raw : Nat) : Nat :=
  let w := tgetD s.fab.shadow (s.get Fld.FAB.WIN_SELECT.V) ⟨0, 0, 0, 0⟩
  if a = Reg.FAB.WIN_CTRL then w.ctrl
  else if a = Reg.FAB.WIN_KEY then w.key
  else if a = Reg.FAB.WIN_BASE_LO then half w.base 0
  else if a = Reg.FAB.WIN_BASE_HI then half w.base 4
  else if a = Reg.FAB.WIN_LEN_LO then half w.len 0
  else if a = Reg.FAB.WIN_LEN_HI then half w.len 4
  else if a = Reg.QPC.CINFO ∨ a = Reg.QPC.CHOST then
    match tget s.fab.conns (s.get Fld.QPC.CSEL.V) with
    | some c => if a = Reg.QPC.CHOST then c.host.getD 0 + 2 ^ 16 * c.port else c.st + 2 ^ 4 * min c.held.length 8 + 2 ^ 8 * c.tr + 2 ^ 16 * c.qid
    | none => 0
  else raw

/-- Port and traffic class of a register TGS_Pn.POLICE_t. -/
def policerAt (a : Nat) : Option (Nat × Nat) :=
  (queues56.find? fun x => Reg.TGS_P.POLICE x.1 x.2 == a)

/-- TGS's selected list and calendar entry (R220, R223, R225). -/
def State.shownTgs (s : State) (a raw : Nat) : Nat :=
  let l := s.get Fld.TGS.LSEL.V
  let g := s.glist l
  let e := tgetD g.sEnt (s.get Fld.TGS.L_ESEL.V) (0, 0)
  let ce := tgetD s.tg.cal.ents (s.get Fld.TGS.CAL_ESEL.V) (0, 0)
  let start : Nat := match g.pending, g.running with | some p, _ => p.start | none, some r => r.start | none, none => 0
  if a = Reg.TGS.L_BASE_LO then half g.sBase 0
  else if a = Reg.TGS.L_BASE_HI then half g.sBase 4
  else if a = Reg.TGS.L_CYCLE_LO then half g.sCycle 0
  else if a = Reg.TGS.L_CYCLE_HI then half g.sCycle 4
  else if a = Reg.TGS.L_LEN then g.sLen
  else if a = Reg.TGS.L_GATES then e.1
  else if a = Reg.TGS.L_INTERVAL then e.2
  else if a = Reg.TGS.L_RESULT then g.error + 2 ^ 4 * b2n g.pending.isSome + 2 ^ 5 * b2n g.running.isSome
  else if a = Reg.TGS.SKIP_CYCLES_LO then half g.skip 0
  else if a = Reg.TGS.SKIP_CYCLES_HI then half g.skip 4
  else if a = Reg.TGS.L_START_LO then half start 0
  else if a = Reg.TGS.L_START_HI then half start 4
  else if a = Reg.TGS.CAL_BASE_LO then half s.tg.cal.base 0
  else if a = Reg.TGS.CAL_BASE_HI then half s.tg.cal.base 4
  else if a = Reg.TGS.CAL_CFG then s.tg.cal.cfg
  else if a = Reg.TGS.CAL_TIME then ce.1
  else if a = Reg.TGS.CAL_ACTION then ce.2
  else if a = Reg.TGS.CAL_CURRENT then s.calCurrent
  else match policerAt a with
    | some (p, t) => if p < 6 ∧ bit (s.get (Fld.FAB_E.PFC_CFG.LOSSLESS p)) t then setBit raw 30 else raw
    | none => raw

/-- EVC's selected source, and its blocks (R323 to R326). -/
def State.shownEvc (s : State) (a raw : Nat) : Nat :=
  let n := s.get Fld.EVC.SRC_SELECT.V
  let o := srcOwner n
  if a = Reg.EVC.SRC_INFO then
    if 1536 ≤ n then 0
    else o.2 % 64 + 2 ^ 16 * srcActions0 n + 2 ^ 24 * o.1 + 2 ^ 31 * b2n (srcConfigurable n)
  else if a = Reg.EVC.SRC_CFG then (if 1536 ≤ n then 0 else s.srcCfg n)
  else if a = Reg.EVC.SRC_STATE then (if 1536 ≤ n then 0 else b2n (s.srcPending n) + 2 * b2n (s.srcAsserted n))
  else if a = Reg.EVC.BLOCK_PEND then s.blockPend
  else raw

/-- Times of a path's last two low-word reads of PMC.CVAL, each plus one; 0 for none (R348). -/
def State.lastGap (s : State) (p : Path) : Nat :=
  let (t0, t1) := tgetD s.pmc.reads (pathCode p) (0, 0)
  if t0 = 0 then 2 ^ 32 - 1 else min (t1 - t0) (2 ^ 32 - 1)

/-- The members are zoned drives (R275): so the drives of the mapped slots showed themselves. (DEDUCED, log entry 143.) -/
def State.zonedMembers (s : State) : Bool :=
  (List.range s.layout.columns).any fun c => match (s.port (s.slotOfCol c)).drive with | some d => d.zoned | none => false

/-- PMC's selected counter and port (R346 to R349, R353). -/
def State.shownPmc (s : State) (p : Path) (a raw : Nat) : Nat :=
  let c := s.ctr (s.get Fld.PMC.CSEL.V)
  let bw := tgetD s.pmc.bwLast (s.get Fld.PMC.BW_SEL.V) (0, 0)
  if a = Reg.PMC.CCFG then c.cfg
  else if a = Reg.PMC.CMASTER then c.master
  else if a = Reg.PMC.CADDR then c.addr
  else if a = Reg.PMC.CFIRST_LO then half c.first 0
  else if a = Reg.PMC.CFIRST_HI then half c.first 4
  else if a = Reg.PMC.CLAST_LO then half c.last 0
  else if a = Reg.PMC.CLAST_HI then half c.last 4
  else if a = Reg.PMC.CVAL_LO then half c.val 0
  else if a = Reg.PMC.CVAL_HI then half c.val 4
  else if a = Reg.PMC.CSTAT then b2n c.ovf + 2 * b2n c.void
  else if a = Reg.PMC.LAST_GAP then s.lastGap p
  else if a = Reg.PMC.BW_RX then min (bw.1 / 256) (2 ^ 32 - 1)
  else if a = Reg.PMC.BW_TX then min (bw.2 / 256) (2 ^ 32 - 1)
  else raw

/-- DDC_Ch's training results: which register of channel `h` the offset is, as (register, bits, rank). -/
def trainReg (a : Nat) : Option (Nat × Nat × Nat × Nat) :=
  let f (h : Nat) : Option (Nat × Nat × Nat × Nat) :=
    match wordIn a (Reg.DDC_C.DQ_R0 h 0) 72, wordIn a (Reg.DDC_C.DQ_R1 h 0) 72, wordIn a (Reg.DDC_C.VREF_R0 h 0) 9,
        wordIn a (Reg.DDC_C.VREF_R1 h 0) 9 with
    | some m, _, _, _ => some (h, m, 24, 0)
    | _, some m, _, _ => some (h, 128 + m, 24, 1)
    | _, _, some m, _ => some (h, 256 + m, 8, 0)
    | _, _, _, some m => some (h, 384 + m, 8, 1)
    | _, _, _, _ => none
  (f 0).or (f 1)

/-- DDC's registers (R396, R397): the delays, eye widths and reference voltages that training found are open; they are
valid when TRAINED is 1, and rank 1 reads 0 with RANKS 1. -/
def State.shownDdc (s : State) (a raw : Nat) : Nat :=
  match trainReg a with
  | none => raw
  | some (h, m, w, rank) =>
    if ¬ s.flag Fld.DDC.STATUS.TRAINED ∨ (rank = 1 ∧ s.get (Fld.DDC_C.CFG.RANKS h) ≤ 1) then 0
    else Config.freeNat 24 (512 * h + m) % 2 ^ w

/-- KEY.SLOT_INFO (R260). -/
def State.shownKey (s : State) (a raw : Nat) : Nat :=
  if a = Reg.KEY.SLOT_INFO then
    match tget s.keys.slots (s.get Fld.KEY.SLOT_SELECT.V) with
    | some k => k.kind + 2 ^ 16 * k.kek + 2 ^ 28 * k.size + 2 ^ 31 * b2n k.transport
    | none => 0
  else raw

/-- A DRP_Pn or SLP_Cn register of a slot that x4 mode does not use: it reads 0 and ignores writes (R390). -/
def State.hidden (s : State) (a : Nat) : Bool :=
  s.flag Fld.DRP.MODE.X4
    && ((decide (0x280000 + 24 * 0x1000 ≤ a) && decide (a < 0x2B0000)) || (decide (0x301000 + 24 * 0x40 ≤ a) && decide (a < 0x301000 + 48 * 0x40)))

/-- The content a read of the register at `a` finds. (DESIGN CHOICE, log entry 139.) -/
def State.shown (s : State) (p : Path) (a : Nat) : Nat :=
  let raw := s.regN a
  match rowAt a with
  | none => 0
  | some r =>
    if s.hidden a then 0
    else
      let v :=
        if a < 0x30000 then (match wordIn a (Reg.CFG.MSL_DATA 0) 12 with | some m => s.mslData m | none => raw)
        else if a < 0x40000 then s.shownEvc a raw
        else if a < 0x50000 then raw
        else if a < 0x60000 then s.shownPmc p a raw
        else if a < 0x80000 then raw
        else if a < 0xA0000 then s.shownTgs a raw
        else if a < 0xC0000 then raw
        else if a < 0x140000 then s.shownFab a raw
        else if a < 0x180000 then
          (match wordIn a (Reg.NVQ.QCLASS 0) 4 with
            | some m => (s.host (s.get Fld.NVQ.QC_SELECT.V)).qclass.getD m 0
            | none => raw)
        else if a < 0x1C0000 then s.shownZmp a raw
        else if a < 0x1E0000 then
          (match wordIn a (Reg.STR.ROT_ROW 0) 8 with
            | some m => (tgetD s.boot.rot (8 * s.get Fld.STR.ROT_SELECT.V + m) 0).toNat
            | none => raw)
        else if a < 0x200000 then s.shownBrl a raw
        else if a < 0x240000 then raw
        else if a < 0x280000 then s.shownMbr a raw
        else if a < 0x2B0000 then
          (match instIn a (Reg.DRP_P.MI_STATUS 0) 0x1000 48 with
            | some n =>
              let t := (s.port n).miAt
              raw % 2 ^ 24 + raw / 2 ^ 31 * 2 ^ 31 + 2 ^ 24 * (if t = 0 then 0 else min 127 ((s.now + 1 - t) / 1000000000))
            | none => raw)
        else if a = Reg.DRP.ZONED then raw + b2n s.zonedMembers
        else if a < 0x3C0000 then raw
        else if a < 0x400000 then s.shownKey a raw
        else if a < 0x440000 then raw
        else if a < 0x480000 then s.shownDdc a raw
        else if a = Reg.SIO.SPI_STATUS then raw - bits raw 2 1 * 4 + 4 * b2n s.boot.stage.isSome
        else match instIn a (Reg.SIO_G.RAW 0) 0x100 4, instIn a (Reg.SIO_G.OUT 0) 0x100 4, instIn a (Reg.SIO_G.ATTN 0) 0x100 4 with
          | some k, _, _ => s.sgpio k 0
          | _, some k, _ => s.sgpio k 1
          | _, _, some k => s.sgpio k 2
          | _, _, _ => raw
      (BitVec.ofNat 32 v &&& ~~~ BitVec.ofNat 32 r.wo).toNat

/-! ### The effects of a read -/

/-- An RC register or field is cleared by the read that shows it (R4, R394). -/
def State.rcClear (s : State) (a : Nat) : State :=
  match rowAt a with
  | none => s
  | some r =>
    if r.rc = 0 ∨ s.hidden a then s
    else if a = Reg.MBR.MISMATCH_COUNT then s.modMb fun m => { m with misCount := tdel m.misCount (s.get Fld.MBR.MSEL.V) }
    else if a = Reg.MBR.TIMEOUT_COUNT then s.modMb fun m => { m with toCount := tdel m.toCount (s.get Fld.MBR.MSEL.V) }
    else s.setReg a (s.reg a &&& ~~~ BitVec.ofNat 32 r.rc)

/-- Free values a read shows are taken. -/
def State.readFree (s : State) (a : Nat) : State :=
  if (instIn a (Reg.SIO_G.RAW 0) 0x100 4).isSome then (s.fresh 17).2 else s

/-- A path's low-word read of PMC.CVAL is timed (R348). (DEDUCED, log entry 134.) -/
def State.cvalRead (s : State) (p : Path) (a : Nat) : State :=
  if a = Reg.PMC.CVAL_LO then
    s.modPmc fun x => { x with reads := tput x.reads (pathCode p) ((tgetD x.reads (pathCode p) (0, 0)).2, s.now + 1) }
  else s

/-- An access that could not have its intended effect is recorded (R391): 1 reserved read, 2 reserved write, 3 write to an RO
register, 4 write after the seal that would have changed an RWS field.  Firmware's accesses are no management accesses.
(DEDUCED, log entry 107.) -/
def State.badAccess (s : State) (p : Path) (kind a : Nat) : State :=
  if p = .fw then s
  else
    let s1 := s.satInc Fld.TOP.BAD_INFO.COUNT
    if s1.flag Fld.TOP.BAD_INFO.VALID then s1
    else
      ((((s1.put Fld.TOP.BAD_ADDR.OFFSET (a / 4)).put Fld.TOP.BAD_INFO.KIND kind).put Fld.TOP.BAD_INFO.PATH (pathCode p)).event
        Fld.TOP.BAD_INFO.VALID 1)

/-- The latch of a path: the pair last read low word first and its high word (R392). -/
def State.latch_ (s : State) (p : Path) : Option (Nat × Nat) :=
  match p with
  | .e => s.acc.latE
  | .s => s.acc.latS
  | .v => s.acc.latV
  | .fw => s.acc.latF

/-- Set a path's latch. -/
def State.setLatch (s : State) (p : Path) (x : Option (Nat × Nat)) : State :=
  s.modAcc fun c => match p with
    | .e => { c with latE := x }
    | .s => { c with latS := x }
    | .v => { c with latV := x }
    | .fw => { c with latF := x }

/-- The held low word of a path (R393). -/
def State.held_ (s : State) (p : Path) : Option (Nat × Nat) :=
  match p with
  | .e => s.acc.heldE
  | .s => s.acc.heldS
  | .v => s.acc.heldV
  | .fw => s.acc.heldF

/-- Set a path's held low word. -/
def State.setHeld (s : State) (p : Path) (x : Option (Nat × Nat)) : State :=
  s.modAcc fun c => match p with
    | .e => { c with heldE := x }
    | .s => { c with heldS := x }
    | .v => { c with heldV := x }
    | .fw => { c with heldF := x }

/-- A dword read on a path (R388, R392, R394). -/
def State.readDword (s : State) (p : Path) (a : Nat) : Nat × State :=
  if (rowAt a).isNone then (0, s.badAccess p 1 a)
  else
    let v := match (if 4 ≤ a then s.latch_ p else none) with
      | some (l, h) => if l = a - 4 then h else s.shown p a
      | none => s.shown p a
    let s1 := (s.cvalRead p a).readFree a
    let s2 := if isPairLow a then s1.setLatch p (some (a, s.shown p (a + 4))) else s1
    (v, s2.rcClear a)

/-- A read of both words of a pair at one instant, which leaves the latch as it is (R311, R392). -/
def State.readPair (s : State) (p : Path) (a : Nat) : Nat × Nat × State :=
  let one (s : State) (a : Nat) : Nat × State :=
    if (rowAt a).isNone then (0, s.badAccess p 1 a) else (s.shown p a, (s.readFree a).rcClear a)
  let (lo, s1) := one s a
  let (hi, s2) := one s1 (a + 4)
  (lo, hi, s2)

end Sys2Proof.Machine
end

