-- ==== Sys2Proof/Machine/Switch.lean ====
section
/-! DEFINITION. The switch core (R194 to R212): arrival, pools, forwarding, egress, tables, topology, and the priority
flow control of R174 and R198. -/

namespace Sys2Proof.Machine
open Sys2Proof

/-- Change the switch part. -/
def State.modSw (s : State) (f : Switch → Switch) : State := { s with sw := f s.sw }

/-! ### Registers shown of the buffer and of the generations -/

/-- Cells of the frames a predicate selects. -/
def State.cellsOf (s : State) (p : SwFrame → Bool) : Nat := ((s.sw.frames.filter p).map (·.cells)).foldl (· + ·) 0

/-- The frame has still to be read by egress port `p`. -/
def SwFrame.toPort (x : SwFrame) (p : Nat) : Bool := x.dests.any fun d => d.1 == p

/-- The frames of an egress queue, oldest first. -/
def State.queueOf (s : State) (p t : Nat) : List SwFrame := s.sw.frames.filter fun x => x.toPort p && x.tc == t

/-- Shared cells held in an egress queue (R197). -/
def State.queueShared (s : State) (p t : Nat) : Nat := s.cellsOf fun x => x.pool == 2 && x.toPort p && x.tc == t

/-- Shared cells held by frames of a priority from an ingress port (R198). -/
def State.ingressShared (s : State) (p t : Nat) : Nat := s.cellsOf fun x => x.pool == 2 && x.inp == p && x.tc == t

/-- GEN_DRAIN: DRAINED when no frame of an older generation remains; OLDEST is that of the oldest frame (R206). -/
def State.drainUpdate (s : State) : State :=
  let g := s.regN Reg.SWC.GEN
  match s.sw.frames with
  | [] => (s.put ⟨Reg.SWC.GEN_DRAIN, 16, 16⟩ (g % 65536)).on ⟨Reg.SWC.GEN_DRAIN, 0, 1⟩
  | x :: _ => (s.put ⟨Reg.SWC.GEN_DRAIN, 16, 16⟩ (x.gen % 65536)).putB ⟨Reg.SWC.GEN_DRAIN, 0, 1⟩ (x.gen == g)

/-- The forwarding generation advances (R206). -/
def State.genInc (s : State) : State := (s.setN Reg.SWC.GEN ((s.regN Reg.SWC.GEN + 1) % 2 ^ 32)).drainUpdate

/-- XOFF of R198. -/
def State.xoffAt (s : State) : Nat := s.regN Reg.SWC.PFC_THRESH % 2 ^ 17

/-- PFC frames due on ingress port `p`, priority `t`: XOFF once the count reaches the threshold, XON once it has fallen
512 cells below it (R198). -/
def State.pfcCheck (s : State) (p t : Nat) : State :=
  let k := 8 * p + t
  let n := s.ingressShared p t
  if k ∈ s.sw.xoff then
    if n ≤ s.xoffAt - 512 then (s.modSw fun w => { w with xoff := dropEl w.xoff k }).sendOwn p (0x100 + t) 0 else s
  else if p < 6 ∧ bit (s.get (Fld.FAB_E.PFC_CFG.LOSSLESS p)) t ∧ s.xoffAt ≤ n ∧ 0 < n then
    (s.modSw fun w => { w with xoff := addNew w.xoff k }).sendOwn p (0x100 + t) 0xFFFF
  else s

/-- After frames have come or gone: BUF_USE, SHARED_FREE, the drain state, PFC of one ingress port and priority. -/
def State.bufUpdate (s : State) (inp tc : Nat) : State :=
  let s1 := s.setN Reg.SWC.BUF_USE (s.cellsOf fun _ => true)
  let s2 := s1.setN Reg.SWC.SHARED_FREE (82688 - s.cellsOf fun x => x.pool == 2)
  (s2.drainUpdate).pfcCheck inp tc

/-- A frame dropped by the switch, counted for PMC (R346). -/
def State.dropCount (s : State) (p t : Nat) : State :=
  s.count { code := 0x13, n := 1, masters := [(4, p)], cls := some t }

/-! ### Topology and routes -/

/-- Switch port `p` carries all traffic: a cascade port only when its peer matches (R210). -/
def State.carries (s : State) (p : Nat) : Bool := decide (p < 2) || decide (5 < p) || decide (s.topo (p - 2) = 1)

/-- Devices on the board (SWC.TOPO_CFG.DEVICES is 0's based). -/
def State.devices (s : State) : Nat := s.get Fld.SWC.TOPO_CFG.DEVICES + 1

/-- The expected peer of cascade port CP`n` of device `d`: its device and its cascade port (R209). -/
def expectedPeer (devs d n : Nat) : Option (Nat × Nat) :=
  match devs, n with
  | 2, 0 => some (1 - d, 0)
  | 2, 1 => some (1 - d, 1)
  | 3, 0 => some ((d + 1) % 3, 1)
  | 3, 1 => some ((d + 2) % 3, 0)
  | 4, 0 => some ((d ^^^ 1), 0)
  | 4, 1 => some ((d ^^^ 1), 1)
  | 4, 2 => some ([2, 3, 1, 0].getD d 0, 3)
  | 4, 3 => some ([3, 2, 0, 1].getD d 0, 2)
  | _, _ => none

/-- The other devices of the board. -/
def State.others (s : State) : List Nat :=
  (List.range s.devices).filter fun d => d ≠ s.get Fld.SWC.TOPO_CFG.DEV_NUM

/-- Show which route each device's frames take, comparing with the routes before a change of results: a changed route
advances the generation; a switch between primary and alternate sets ROUTE_CHANGED (R206, R211). -/
def State.routeUpdate (s before : State) : State :=
  let altOf (x : State) (d : Nat) : Bool := x.topo (x.route d).1 != 1 && (x.routePort d false).isSome
  let s1 := s.others.foldl (fun t d => t.putB ⟨Reg.SWC.DEV_ROUTE, 8 * d + 7, 1⟩ (altOf s d)) s
  let s2 := if s.others.any fun d => s.routePort d false != before.routePort d false then s1.genInc else s1
  if s.others.any fun d => altOf s d != altOf before d then s2.event Fld.SWC.EVENT.ROUTE_CHANGED 148 else s2

/-- A path of the mirror begins at cascade port CP`n` (R138). -/
def State.mirrorFirst (s : State) (n : Nat) : Bool :=
  s.flag Fld.SWC.TOPO_CFG.PARTNERED
    && (s.get Fld.GNT.MIRROR_CFG.PATH_A == n || s.get Fld.GNT.MIRROR_CFG.PATH_B == n)

/-- The partnership is refused (R22, R210): the device goes on unpartnered, with its own tables; records that waited for the partner
commit. (DEDUCED, log entry 159.) -/
def State.unpartner (s : State) : State :=
  let s1 := s.on Fld.TOP.STATUS.PARTNER_REFUSED
  if s.boot.phase ≠ 8 ∨ s.get Fld.GNT.STATUS.ROLE = 0 then s1
  else
    let s2 := (((s1.outOfStep.put Fld.GNT.STATUS.ROLE 0).off Fld.ZMP.ANA.OWNER).modJn fun j => { j with tx := [], contest := false }).commitAll
    if s2.jn.taking then s2 else s2.anaTo s2.anaServe

/-- Cascade port CP`n` takes a result (R210); the received identity goes into the Carillon record. -/
def State.setTopo (s : State) (n code : Nat) (ident : Nat × Nat × Nat × Nat) : State :=
  let s1 := (s.put ⟨Reg.SWC.TOPO_STATUS, 4 * n, 4⟩ code)
  let s2 := if (s.topo n == 1) != (code == 1) then s1.routeUpdate s else s1
  if code < 2 then s2
  else
    let (board, dev, port, devs) := ident
    let s3 := s2.event Fld.SWC.EVENT.TOPOLOGY 147
    let s4 := s3.detail 0x24 147 (n + 256 * code) board (dev % 4 + 4 * (port % 4) + 16 * ((devs - 1) % 4))
    if s4.mirrorFirst n then s4.unpartner else s4

/-- The result that an identity gives cascade port CP`n` (R210); on a port that R209 does not list for a board of several devices, which
must not be enabled, code 2. (DESIGN CHOICE, log entry 176.) -/
def State.topoResult (s : State) (n board dev port devs : Nat) : Nat :=
  if s.devices = 1 then 4
  else if board ≠ s.regN Reg.SWC.BOARD_ID ∨ devs ≠ s.devices then 2
  else match expectedPeer s.devices (s.get Fld.SWC.TOPO_CFG.DEV_NUM) n with
    | none => 2
    | some (d, p) => if dev ≠ d then 2 else if port ≠ p then 3 else 1

/-- A port is trained and used and its link is up. -/
def State.portUp (s : State) (p : Nat) : Bool :=
  s.flag (Fld.FAB_E.PORT_CFG.ENABLE p) && s.flag (Fld.FAB_E.PORT_STATUS.LINK_UP p)

/-- An identity frame on switch port `p` (R209, R210): decided at the first after link-up and at every change. -/
def State.identity (s : State) (p board dev port devs smac : Nat) : State :=
  let x := (board, dev, port, devs, smac)
  if p < 2 ∨ 5 < p ∨ ¬ s.portUp p ∨ tget s.sw.ident p = some x then s
  else (s.modSw fun w => { w with ident := tput w.ident p x }).setTopo (p - 2) (s.topoResult (p - 2) board dev port devs)
    (board, dev, port, devs)

/-- IDENTITY_FRAME_RECEIVE (R210). -/
def execIdentityFrameReceive (port board dev peerPort devices smac : Nat) (s : State) : Host.Outcome State Fault Refusal :=
  if ¬ s.aon.coreUp then .next s else
  .next (s.identity port board dev peerPort devices smac).settle

/-- What an identity frame sent on a cascade port carries (R209): BOARD_ID, the device number, the cascade port, the device count. -/
def State.identOut (s : State) (port : Nat) : InterMsg :=
  .identity (s.regN Reg.SWC.BOARD_ID) s.devNum (port - 2) s.devices

/-- IDENTITY_FRAME_SEND (R208, R209): every 1 ms on an enabled cascade port whose link is up, class C4; the spec does not say what
DST_DEV and PIN of an identity frame, which is never forwarded, are. (DESIGN CHOICE, log entry 185.) -/
def execIdentityFrameSend (port : Nat) (s : State) : Host.Outcome State Fault Refusal :=
  if ¬ s.aon.coreUp then .next s else
  .next (if 2 ≤ port ∧ port ≤ 5 ∧ s.portUp port then s.emit (.inter (s.interHdr port 0 s.devNum 4 false) (s.identOut port)) else s)

/-- TOPO_NO_PEER_TIMEOUT (R210): no identity frame within 10 ms of link-up. -/
def execTopoNoPeerTimeout (port : Nat) (s : State) : Host.Outcome State Fault Refusal :=
  if ¬ s.aon.coreUp then .next s else
  .next (if 2 ≤ port ∧ port ≤ 5 ∧ tget s.sw.ident port = none then s.setTopo (port - 2) 0 (0, 0, 0, 0) else s).settle

/-- The management port's link also shows in SIO (R400). -/
def State.mgtLink (s : State) (port : Nat) (up : Bool) : State :=
  if port = 6 then
    ((s.setN Reg.SIO.MGT_STATUS (if up then 3 else 0)).putB Fld.SIO.STATUS.MGT_LINK up).event Fld.SIO.EVENT.MGT_LINK_CHANGED 1397
  else s

/-- PORT_LINK_UP (R170, R209): the state of the link; a cascade port has no peer until its first identity frame.
(DEDUCED, log entry 61.) -/
def execPortLinkUp (port : Nat) (s : State) : Host.Outcome State Fault Refusal :=
  if ¬ s.aon.coreUp then .next s else
  .next (if 6 < port ∨ ¬ s.flag (Fld.FAB_E.PORT_CFG.ENABLE port) ∨ s.aon.squelched ∨ s.boot.phase < 6 ∨ s.boot.phase = 9 then s
    else
      let s1 := (s.on (Fld.FAB_E.PORT_STATUS.LINK_UP port)).on (Fld.FAB_E.PORT_STATUS.AN_DONE port)
      let s2 := s1.putB (Fld.FAB_E.PORT_STATUS.FEC_LOCK port) (port ≠ 6)
      (s2.modSw fun w => { w with ident := tdel w.ident port }).mgtLink port true)

/-! ### Frames leaving -/

/-- A queue that has emptied loses its deficit (R228). -/
def State.deficitEnd (s : State) (p t : Nat) : State :=
  if s.queueOf p t = [] then s.modTg fun x => { x with deficit := tputD x.deficit (8 * p + t) 0 0 } else s

/-- Take one copy of a frame out of the switch: its cells are freed with the last copy (R203). -/
def State.dropCopy (s : State) (x : SwFrame) (p : Nat) : State :=
  let ds := x.dests.filter fun d => d.1 ≠ p
  ((s.modSw fun w => { w with
    frames := if ds = [] then w.frames.filter fun z => z.id != x.id
      else w.frames.map fun z => if z.id = x.id then { z with dests := ds } else z }).deficitEnd p x.tc).bufUpdate x.inp x.tc

/-- Drop every frame queued for a port whose link has gone down (R207). -/
def State.dropQueued (s : State) (p : Nat) : State :=
  (s.sw.frames.filter fun x => x.toPort p).foldl
    (fun t x => ((t.dropCopy x p).satInc ⟨Reg.SWC.DROP_EGRESS_DOWN, 0, 32⟩).dropCount p x.tc) s

/-- PORT_LINK_DOWN (R207, R210, R211). -/
def execPortLinkDown (port : Nat) (s : State) : Host.Outcome State Fault Refusal :=
  if ¬ s.aon.coreUp then .next s else
  .next (if 6 < port ∨ ¬ s.flag (Fld.FAB_E.PORT_STATUS.LINK_UP port) then s
    else
      let s1 := ((s.setN (Reg.FAB_E.PORT_STATUS port) 0).mgtLink port false).dropQueued port
      let s2 := s1.modSw fun w => { w with ident := tdel w.ident port, paused := w.paused.filter fun k => k / 8 ≠ port }
      if 2 ≤ port ∧ port ≤ 5 then s2.setTopo (port - 2) 0 (0, 0, 0, 0) else s2).settle

/-- The rate of switch port `p` in units of 0.1 Gb/s (R194). -/
def portRate (p : Nat) : Nat := if p < 2 then 4000 else if p < 6 then 2000 else if p = 6 then 25 else 8192

/-- Time a frame takes to leave, with preamble and minimum gap, ns (R222). -/
def txTime (p len : Nat) : Nat := ((len + 20) * 80 + portRate p - 1) / portRate p

/-- Gate `t` stays open for `need` ns from offset `off` into these entries (R222). -/
def openFor (t : Nat) : List (Nat × Nat) → Nat → Nat → Bool
  | [], _, _ => true
  | (g, i) :: r, off, need =>
    if i ≤ off then openFor t r (off - i) need
    else if ¬ bit g t then false
    else if need ≤ i - off then true
    else openFor t r 0 (need - (i - off))

/-- The gate of queue `t` of port `p` is open and stays open until a frame of `len` bytes has left, through the start
of a pending set (R222, R223).  INT has no gates (R220). -/
def State.gateAllows (s : State) (p t len : Nat) : Bool :=
  if 6 < p then true
  else
    let l := s.glist p
    let need := txTime p len
    let now := s.ptpTime
    let nowOpen (n : Nat) : Bool := match l.running with
      | none => true
      | some g => openFor t (g.entries ++ g.entries)
        (((now : Int) - (g.start : Int)) % ((if g.cycle = 0 then 1 else g.cycle : Nat) : Int)).toNat n
    match l.pending with
    | some g =>
      if l.waitLock ∨ now + need ≤ g.start then nowOpen need
      else nowOpen (g.start - now) && openFor t (g.entries ++ g.entries) 0 (need - (g.start - now))
    | none => nowOpen need

/-- A queue is eligible (R228): it holds a frame that may start now, it is not paused (R174), and its shaper credit is
at or above 0. -/
def State.eligible (s : State) (p t : Nat) : Bool :=
  match s.queueOf p t with
  | [] => false
  | x :: _ => !decide (8 * p + t ∈ s.sw.paused) && s.gateAllows p t x.f.len
      && (!s.flag (Fld.TGS_P.SHAPE_RATE.ENABLE p t) || decide (0 ≤ s.credit p t))

/-- Bytes of the frame that heads a queue. -/
def State.headLen (s : State) (p t : Nat) : Nat := match s.queueOf p t with | [] => 0 | x :: _ => x.f.len

/-- Deficit of a queue (R228). -/
def State.deficit (s : State) (p t : Nat) : Nat := tgetD s.tg.deficit (8 * p + t) 0

/-- Serve the weighted group by deficit round robin from class `t` on (R228): a queue whose deficit covers its frame is
served; otherwise it gains its quantum and the turn passes on.  A queue that is not eligible is passed over.
(DESIGN CHOICE, log entry 70.) -/
def State.drr (s : State) (p : Nat) (elig : List Nat) : Nat → Nat → Option (Nat × State)
  | _, 0 => none
  | t, n + 1 =>
    if t ∈ elig then
      let d := s.deficit p t + s.get ⟨Reg.TGS_P.WEIGHT0 p + t / 4 * 4, 8 * (t % 4), 7⟩ * 1024
      let s1 := s.modTg fun x => { x with deficit := tputD x.deficit (8 * p + t) d 0 }
      if s.headLen p t ≤ d then some (t, s1) else s1.drr p elig ((t + 1) % 8) n
    else s.drr p elig ((t + 1) % 8) n

/-- The class the scheduler of port `p` serves, and the state with its deficits (R228): eligible strict queues by
falling class; else the weighted group, the class served last first while its deficit lasts. -/
def State.pick (s : State) (p : Nat) : Option (Nat × State) :=
  let el := (List.range 8).filter (s.eligible p)
  let strict := el.filter fun t => bit (s.get (Fld.TGS_P.SCHED.STRICT p)) t
  match strict.getLast? with
  | some t => some (t, s)
  | none =>
    let last := tgetD s.tg.lastTc p 0
    if last ∈ el ∧ s.headLen p last ≤ s.deficit p last then some (last, s)
    else if el = [] then none
    else s.drr p el ((last + 1) % 8) 400

/-- Charge a started frame to its weighted queue's deficit (R228). -/
def State.chargeDeficit (s : State) (p t len : Nat) : State :=
  if bit (s.get (Fld.TGS_P.SCHED.STRICT p)) t then s
  else s.modTg fun x => { x with deficit := tputD x.deficit (8 * p + t) (s.deficit p t - len) 0, lastTc := tputD x.lastTc p t 0 }

/-- What an inter-device frame carries, of a frame that is one. -/
def frMsg (f : EthFrame) : InterMsg := match f.kind with | .inter _ _ _ _ _ _ _ m => m | _ => .opaque

/-- The egress read of frame `x` at port `p` starts: header rewrite (R202: the source MAC only of a frame that an entry of the
neighbour table places, or over a cascade link), shaper charge, counters, cells (R205, R229).  What the storage path takes from INT of
a command that was passed to the owner goes on to the host (R43). -/
def State.sendFrame (s : State) (x : SwFrame) (p : Nat) : State :=
  let dmac := ((x.dests.find? fun d => d.1 == p).getD (p, x.f.dmac)).2
  let mac := if x.neigh ∨ 2 ≤ p ∧ p ≤ 5 then s.rd64 (Reg.FAB_E.MAC_LO p) else x.f.smac
  let s1 := if p < 7 then s.emit (.forward p dmac mac (s.get (Fld.FAB_E.PORT_CFG.VID p)) x.tc x.f x.bad)
    else (s.emit (.forward 7 x.f.dmac x.f.smac (x.f.vid.getD 0) x.tc x.f false)).passedGot (frMsg x.f)
  let s2 := if x.bad then s1.satInc ⟨Reg.SWC.STOMPED, 0, 32⟩ else s1
  let s3 := if p < 7 && s.flag (Fld.TGS_P.SHAPE_RATE.ENABLE p x.tc)
    then s2.setCredit p x.tc (s2.credit p x.tc - ((x.f.len + 20) * 1024 : Nat)) else s2
  let s4 := if p < 7 then s3.chargeDeficit p x.tc x.f.len else s3
  let ev (code n : Nat) : PmcEv := { code := code, n := n, masters := [(4, p)], cls := some x.tc }
  (((s4.count (ev 0x11 1)).count (ev 0x12 x.f.len)).bwAdd p 0 x.f.len).dropCopy x p

/-- The frame the storage path takes from INT's queues: strictly in class order, C1 first (R380). -/
def State.intHead (s : State) : Option SwFrame :=
  let fs := s.sw.frames.filter fun x => x.toPort 7
  let least := fs.foldl (fun m x => if x.cls < m then x.cls else m) 5
  fs.find? fun x => x.cls == least

/-- EGRESS_FRAME_START (R228, R380). -/
def execEgressFrameStart (port : Nat) (s : State) : Host.Outcome State Fault Refusal :=
  if ¬ s.aon.coreUp then .next s else
  .next (if port = 7 then
      match s.intHead with
      | some x => s.sendFrame x 7
      | none => s
    else if 7 < port ∨ ¬ s.portUp port then s
    else match s.pick port with
      | none => s
      | some (t, s1) => match s1.queueOf port t with
        | [] => s
        | x :: _ => s1.sendFrame x port)

/-- FRAME_AGE_DROP (R199): the frame that heads an egress queue has waited more than 250 ms. -/
def execFrameAgeDrop (port tc : Nat) (s : State) : Host.Outcome State Fault Refusal :=
  if ¬ s.aon.coreUp then .next s else
  .next (if 6 < port then s
    else match s.queueOf port tc with
      | [] => s
      | x :: _ => (((s.dropCopy x port).satInc ⟨Reg.SWC.DROP_AGED, 0, 32⟩).dropCount port tc).event Fld.SWC.EVENT.AGED 145).settle

/-! ### Flow control received -/

/-- PFC_FRAME_RECEIVE (R174): quanta pause or resume the lossless priorities of the port, but not one whose pauses are
ignored. -/
def execPfcFrameReceive (port enable : Nat) (quanta : List Nat) (s : State) : Host.Outcome State Fault Refusal :=
  if ¬ s.aon.coreUp then .next s else
  .next (if 5 < port then s
    else (List.range 8).foldl (fun s t =>
      let k := 8 * port + t
      if ¬ bit enable t ∨ ¬ bit (s.get (Fld.FAB_E.PFC_CFG.LOSSLESS port)) t ∨ k ∈ s.sw.ignored then s
      else if quanta.getD t 0 = 0 then s.modSw fun w => { w with paused := dropEl w.paused k }
      else s.modSw fun w => { w with paused := addNew w.paused k }) s)

/-- PFC_PAUSE_EXPIRY (R174): the pause quanta run out without a refresh. -/
def execPfcPauseExpiry (port prio : Nat) (s : State) : Host.Outcome State Fault Refusal :=
  if ¬ s.aon.coreUp then .next s else
  .next (s.modSw fun w => { w with paused := dropEl w.paused (8 * port + prio) })

/-- PFC_WATCHDOG_EXPIRY (R174): a priority paused for WD_MS without a break. -/
def execPfcWatchdogExpiry (port prio : Nat) (s : State) : Host.Outcome State Fault Refusal :=
  if ¬ s.aon.coreUp then .next s else
  let k := 8 * port + prio
  .next (if k ∈ s.sw.paused then
      (s.modSw fun w => { w with paused := dropEl w.paused k, ignored := addNew w.ignored k }).event
        Fld.FAB.EVENT.PFC_STORM 177
    else s).settle

/-- PFC_STORM_END (R174): no pause frame for WD_MS. -/
def execPfcStormEnd (port prio : Nat) (s : State) : Host.Outcome State Fault Refusal :=
  if ¬ s.aon.coreUp then .next s else
  .next (s.modSw fun w => { w with ignored := dropEl w.ignored (8 * port + prio) })

/-- PFC_XOFF_REFRESH (R198): the pause is repeated while the count stays above XON. -/
def execPfcXoffRefresh (port prio : Nat) (s : State) : Host.Outcome State Fault Refusal :=
  if ¬ s.aon.coreUp then .next s else
  .next (if 8 * port + prio ∈ s.sw.xoff then s.sendOwn port (0x100 + prio) 0xFFFF else s)

/-! ### Tables -/

/-- A vacant neighbour entry. -/
def Neigh.vacant : Neigh := ⟨false, false, false, 0, 0, 0, 0, 0⟩
/-- A vacant remote-GID entry. -/
def Rgid.vacant : Rgid := ⟨false, false, 0, 0⟩
/-- A vacant group. -/
def Group.vacant : Group := ⟨false, 0, 0⟩

/-- Set a neighbour entry; NEIGH_VALID counts the valid ones, and shows 4,095 when all 4,096 are, which its 12 bits cannot hold.
(DESIGN CHOICE, log entry 173.) -/
def State.setNeigh (s : State) (i : Nat) (e : Neigh) : State :=
  let s1 := s.modSw fun w => { w with neigh := tputD w.neigh i e Neigh.vacant }
  let n := (s1.sw.neigh.filter fun x => x.2.valid).length
  s1.put ⟨Reg.SWC.TBL_STATUS, 16, 12⟩ (if n < 4096 then n else 4095)

/-- NEIGH_LEARN (R201): a received frame sets the entry of its source IP. -/
def State.learn (s : State) (p vid smac ip : Nat) (v6 : Bool) : State :=
  match s.sw.neigh.find? fun x => x.2.valid && x.2.ip == ip with
  | some (i, e) => if e.fixed then s else s.setNeigh i { e with port := p, vid := vid, mac := smac, seen := s.now }
  | none =>
    match (List.range 4096).find? fun i => !(tgetD s.sw.neigh i Neigh.vacant).valid with
    | some i => s.setNeigh i ⟨true, false, v6, p, vid, smac, ip, s.now⟩
    | none => s.event Fld.SWC.EVENT.NEIGH_FULL 146

/-- NEIGH_AGE_OUT (R201): an entry not refreshed for 300 s; static entries do not age. -/
def execNeighAgeOut (index : Nat) (s : State) : Host.Outcome State Fault Refusal :=
  if ¬ s.aon.coreUp then .next s else
  let e := tgetD s.sw.neigh index Neigh.vacant
  .next (if e.valid ∧ ¬ e.fixed then s.setNeigh index { e with valid := false } else s)

/-- The entries of table `t` (R206, R212). -/
def tblSize (t : Nat) : Nat := match t with | 0 => 4096 | 1 => 24 | 2 => 64 | 3 => 4096 | 4 => 24 | _ => 0

/-- The address bytes a staged entry holds: byte 4m in [7:0] of TBL_DATAm (R212), as a number in network order. -/
def State.tblAddr (s : State) : Nat :=
  leNat ((List.range 4).flatMap fun m => leBytes 4 (s.regN (Reg.SWC.TBL_DATA m))).reverse

/-- Show an address in TBL_DATA0 to TBL_DATA3. -/
def State.showAddr (s : State) (a : Nat) : State :=
  (List.range 4).foldl (fun s m => s.setN (Reg.SWC.TBL_DATA m) (leNat ((beBytes 16 a).drop (4 * m) |>.take 4))) s

/-- Set TBL_DATA0 to TBL_DATA3. -/
def State.setTblData (s : State) (a b c d : Nat) : State :=
  (((s.setN (Reg.SWC.TBL_DATA 0) a).setN (Reg.SWC.TBL_DATA 1) b).setN (Reg.SWC.TBL_DATA 2) c).setN (Reg.SWC.TBL_DATA 3) d

/-- A write of SWC.TBL_SELECT loads the current entry or address into TBL_DATA (R212); a table or index that does not
exist is refused with ERROR 1. -/
def State.tblLoad (s : State) (v : Nat) : State :=
  let t := bits v 28 4
  let i := bits v 0 12
  let s1 := s.setN Reg.SWC.TBL_SELECT (i + 2 ^ 28 * t)
  if tblSize t ≤ i then s1.put ⟨Reg.SWC.TBL_STATUS, 1, 3⟩ 1
  else
    let e := tgetD s.sw.neigh i Neigh.vacant
    let r := tgetD s.sw.rgid i Rgid.vacant
    let g := tgetD s.sw.groups i Group.vacant
    let age := if e.valid && !e.fixed then (s.now - e.seen) / 1000000000 % 65536 else 0
    match t with
    | 0 => s1.setTblData (e.vid % 4096 + 2 ^ 16 * (e.port % 8) + 2 ^ 29 * b2n e.ipv6 + 2 ^ 30 * b2n e.fixed + 2 ^ 31 * b2n e.valid)
        (e.mac % 2 ^ 32) (e.mac / 2 ^ 32 % 65536 + 65536 * age) 0
    | 1 => s1.setTblData (r.dev % 4 + 2 ^ 30 * b2n r.proxy + 2 ^ 31 * b2n r.valid) 0 0 0
    | 2 => s1.setTblData (g.mask % 256 + 2 ^ 31 * b2n g.valid) (g.mac % 2 ^ 32) (g.mac / 2 ^ 32 % 65536) 0
    | 3 => s1.showAddr e.ip
    | _ => s1.showAddr r.gid

/-- TBL_SELECT_LOAD (R212). -/
def execTblSelectLoad (value : Nat) (s : State) : Host.Outcome State Fault Refusal :=
  if ¬ s.aon.coreUp then .next s else
  .next (s.tblLoad value)

/-- TBL_COMMIT with table 3 or 4 selected stages the address and changes no entry (R212). -/
def State.tblStage (s : State) (t i : Nat) : State :=
  (s.modSw fun w => { w with staged := tput w.staged (4096 * (t - 3) + i) s.tblAddr }).put ⟨Reg.SWC.TBL_STATUS, 1, 3⟩ 0

/-- The error of a commit of table 0, 1 or 2: 2 a remote GID of this device or beyond the device count, 3 a multicast
mask with a port whose result is not PASS. -/
def State.tblCheck (s : State) (t : Nat) : Nat :=
  let d0 := s.regN (Reg.SWC.TBL_DATA 0)
  if t = 1 ∧ bit d0 31 ∧ (d0 % 4 = s.get Fld.SWC.TOPO_CFG.DEV_NUM ∨ s.devices ≤ d0 % 4) then 2
  else if t = 2 ∧ (List.range 4).any (fun n => bit d0 (n + 2) && s.topo n != 1) then 3
  else 0

/-- An IPv4 address in its mapped form ::ffff:a.b.c.d. -/
def mapped4 (a : Nat) : Bool := decide (a / 2 ^ 32 = 0xFFFF)

/-- Install the staged entry with its staged address (R206, R212); IPV6 reads 0 for an IPv4 address, which is held in its mapped
form. -/
def State.tblInstall (s : State) (t i : Nat) : State :=
  let d0 := s.regN (Reg.SWC.TBL_DATA 0)
  let mac := s.regN (Reg.SWC.TBL_DATA 1) + 2 ^ 32 * bits (s.regN (Reg.SWC.TBL_DATA 2)) 0 16
  let k := 4096 * t + i
  match t with
  | 0 =>
    let ip := (tget s.sw.staged k).getD (tgetD s.sw.neigh i Neigh.vacant).ip
    let e : Neigh := ⟨bit d0 31, bit d0 30, bit d0 29 && !mapped4 ip, bits d0 16 3, bits d0 0 12, mac, ip, s.now⟩
    (s.modSw fun w => { w with staged := tdel w.staged k }).setNeigh i e
  | 1 =>
    let e : Rgid := ⟨bit d0 31, bit d0 30, d0 % 4, (tget s.sw.staged k).getD (tgetD s.sw.rgid i Rgid.vacant).gid⟩
    s.modSw fun w => { w with rgid := tputD w.rgid i e Rgid.vacant, staged := tdel w.staged k }
  | _ => s.modSw fun w => { w with groups := tputD w.groups i ⟨bit d0 31, d0 % 256, mac⟩ Group.vacant }

/-- A write of 1 to SWC.TBL_COMMIT.GO (R206, R212). -/
def State.tblCommit (s : State) : State :=
  let v := s.regN Reg.SWC.TBL_SELECT
  let t := bits v 28 4
  let i := bits v 0 12
  if tblSize t ≤ i then s.put ⟨Reg.SWC.TBL_STATUS, 1, 3⟩ 1
  else if 3 ≤ t then s.tblStage t i
  else if s.tblCheck t ≠ 0 then s.put ⟨Reg.SWC.TBL_STATUS, 1, 3⟩ (s.tblCheck t)
  else ((s.tblInstall t i).put ⟨Reg.SWC.TBL_STATUS, 1, 3⟩ 0).genInc

/-- TBL_COMMIT_ENTRY (R206): GO with table 0, 1 or 2 selected. -/
def execTblCommitEntry (s : State) : Host.Outcome State Fault Refusal :=
  if ¬ s.aon.coreUp then .next s else
  .next (if bits (s.regN Reg.SWC.TBL_SELECT) 28 4 < 3 then s.tblCommit else s)

/-- TBL_COMMIT_ADDRESS (R212): GO with table 3 or 4 selected. -/
def execTblCommitAddress (s : State) : Host.Outcome State Fault Refusal :=
  if ¬ s.aon.coreUp then .next s else
  .next (if 3 ≤ bits (s.regN Reg.SWC.TBL_SELECT) 28 4 then s.tblCommit else s)

/-! ### Arrival -/

/-- The part's own GIDs that are in use (R172). -/
def State.ownGid (s : State) (a : Nat) : Bool :=
  a != 0 && (List.range 8).any fun m =>
    leNat ((List.range 4).flatMap fun j => leBytes 4 (s.regN (Reg.FAB.GID (4 * m + j)))).reverse == a

/-- The remote-GID entry of an address. -/
def State.remoteGid (s : State) (a : Nat) : Option Rgid :=
  (s.sw.rgid.find? fun x => x.2.valid && x.2.gid == a).map (·.2)

/-- The traffic class of a frame through the DSCP map of port `p` (R173); a frame without a DSCP has a class that the
spec does not give: a free value. -/
def State.trafficClass (s : State) (p : Nat) (dscp : Option Nat) : Nat × State :=
  match dscp with
  | some d => (s.tcOf p d, s)
  | none => let (v, s1) := s.fresh 6; (v % 8, s1)

/-- The dependency class of a frame (R181, R196, R208). -/
def frClass (f : EthFrame) : Nat :=
  match f.kind with
  | .roce p => p.cls
  | .inter _ _ _ _ c _ _ _ => c
  | _ => 4

/-- A multicast or broadcast destination MAC: the group bit of its first byte. -/
def frMulti (f : EthFrame) : Bool := bit f.dmac 40

/-- An identity frame (R208). -/
def frIdentity (f : EthFrame) : Bool :=
  match f.kind with
  | .inter _ k _ _ _ _ _ _ => k == 0
  | _ => false

/-- Destinations of a multicast frame: the mask of its group, never the ingress port; a cascade port only when it
passed its topology check; on a board of several devices group 0 covers INT and every such port (R203). -/
def State.groupPorts (s : State) (p dmac : Nat) : List Nat :=
  let g := match s.sw.groups.find? fun x => x.1 != 0 && x.2.valid && x.2.mac == dmac with
    | some x => x.2.mask
    | none => (tgetD s.sw.groups 0 Group.vacant).mask
        ||| (if s.devices = 1 then 0 else maskOf 8 fun q => q == 7 || (decide (2 ≤ q) && decide (q ≤ 5) && s.carries q))
  (List.range 8).filter fun q => bit g q && q != p && s.carries q

/-- The MAC address of the peer of a cascade port: the source of its identity frames. (DESIGN CHOICE, log entry 72.) -/
def State.peerMac (s : State) (p : Nat) : Nat := (tgetD s.sw.ident p (0, 0, 0, 0, 0)).2.2.2.2

/-- An egress with the destination MAC that its copy carries: over a cascade link that of the peer port (R202). -/
def State.withMac (s : State) (mac q : Nat) : Nat × Nat := (q, if 2 ≤ q ∧ q ≤ 5 then s.peerMac q else mac)

/-- The egress toward another device, none back to the port it came from (R200). -/
def State.toward (s : State) (p : Nat) (e : Option Nat) : List (Nat × Nat) :=
  match e with
  | some q => if q = p then [] else [s.withMac 0 q]
  | none => []

/-- An inter-device frame that the switch drops: VERSION other than 1, or a KIND above 2 (R208). -/
def frBadInter (f : EthFrame) : Bool :=
  match f.kind with
  | .inter ver kind _ _ _ _ _ _ => ver != 1 || decide (2 < kind)
  | _ => false

/-- The egress set of a frame received on port `p`, by the first rule of R200 that applies, with the destination MAC
of each copy; empty when no rule places it, or R208 drops it. -/
def State.egressOf (s : State) (p : Nat) (f : EthFrame) : List (Nat × Nat) :=
  if frBadInter f then []
  else if p = 6 then [(7, f.dmac)]
  else if p = 7 ∧ f.egress.isSome then
    let q := f.egress.getD 7
    if q < 7 ∧ s.carries q then [s.withMac f.dmac q] else []
  else if (frMulti f) then (s.groupPorts p f.dmac).map (s.withMac f.dmac)
  else match f.kind with
    | .inter _ kind dst _ _ hops pin _ =>
      if kind = 0 ∨ dst = s.devNum then (if p = 7 then [] else [(7, f.dmac)])
      else if 2 ≤ hops then []
      else s.toward p (s.routePort dst (pin || (decide (2 ≤ p) && decide (p ≤ 5))))
    | _ => match f.dstIp with
      | none => []
      | some a =>
        if s.ownGid a then (if p = 7 then [] else [(7, f.dmac)])
        else match s.remoteGid a with
          | some r => s.toward p (s.routePort r.dev (decide (2 ≤ p) && decide (p ≤ 5)))
          | none => match s.sw.neigh.find? fun x => x.2.valid && x.2.ip == a with
            | some (_, e) => if e.port = p ∨ ¬ s.carries e.port then [] else [(e.port, e.mac)]
            | none => []

/-- The frame goes out by port `q` under an entry of the neighbour table (R202): a unicast frame that no inter-device header, own GID
or remote GID places. -/
def State.byNeigh (s : State) (f : EthFrame) : Bool :=
  !frMulti f && (match f.kind with | .inter _ _ _ _ _ _ _ _ => false | _ => true)
    && (match f.dstIp with | some a => !s.ownGid a && (s.remoteGid a).isNone | none => false)

/-- Cells of a frame at its length from the header (R197). -/
def frCells (f : EthFrame) : Nat := if f.hdrLen ≤ 256 then 1 else (f.hdrLen + 255) / 256

/-- Cells of the class reserve of each egress port (R196); a CLASS field outside 1 to 4, which no table gives a reserve, has one of its
own of the size of C4's. (DESIGN CHOICE, log entry 175.) -/
def classReserve (c : Nat) : Nat := match c with | 1 => 32 | 2 => 128 | 3 => 1024 | _ => 256

/-- The pool that admits a frame at egress port `q` (R197): none when it is to be dropped. -/
def State.poolFor (s : State) (p q t cls n : Nat) (rr multi lossless : Bool) : Option Nat :=
  if rr then some 0
  else if (s.cellsOf fun x => x.pool == 1 && x.home == q && x.cls == cls) + n ≤ classReserve cls then some 1
  else if n ≤ s.regN Reg.SWC.SHARED_FREE ∧ (multi ∨ s.queueShared q t + n ≤ s.regN Reg.SWC.Q_MAX) then some 2
  else if lossless ∧ (s.cellsOf fun x => x.pool == 3 && x.inp == p && x.tc == t) + n ≤ (if p < 2 then 512 else 256) then
    some 3
  else none

/-- The frame may leave cut-through on port `q` (R204). -/
def State.cutThrough (s : State) (p q t : Nat) (f : EthFrame) : Bool :=
  decide (q < 6) && !(frMulti f) && decide (portRate q ≤ portRate p)
    && bit (if q < 4 then s.regN Reg.SWC.CT_CFG0 else s.regN Reg.SWC.CT_CFG1) (8 * (q % 4) + t)
    && (s.queueOf q t).isEmpty && s.gateAllows q t f.len
    && (!s.flag (Fld.TGS_P.SHAPE_RATE.ENABLE q t) || decide (0 ≤ s.credit q t))
    && !decide (8 * q + t ∈ s.sw.paused)

/-- Copies of a multicast frame in the shared pool whose queue would exceed Q_MAX (R203). -/
def State.overQueue (s : State) (t n pool : Nat) (d : Nat × Nat) : Bool :=
  pool == 2 && decide (s.regN Reg.SWC.Q_MAX < s.queueShared d.1 t + n)

/-- Hold a frame: charged, tagged with the generation, queued for each destination (R197, R203, R206). -/
def State.store (s : State) (p t pool : Nat) (f : EthFrame) (ds : List (Nat × Nat)) (bad : Bool) : State :=
  let n := (frCells f)
  let keep := if (frMulti f) then ds.filter fun d => !s.overQueue t n pool d else ds
  let s1 := if (frMulti f) then (ds.filter fun d => s.overQueue t n pool d).foldl
      (fun x d => (x.satInc ⟨Reg.SWC.MC_DROP, 0, 32⟩).dropCount d.1 t) s else s
  if keep = [] then s1
  else
    let x : SwFrame := ⟨s.sw.nextId, f, p, t, (frClass f), pool, (keep.getD 0 (7, 0)).1, n, s.regN Reg.SWC.GEN, s.now, keep, bad, s.byNeigh f⟩
    (s1.modSw fun w => { w with frames := w.frames ++ [x], nextId := w.nextId + 1 }).bufUpdate p t

/-- Whether a received frame carries the VID of its port, or none when that is 0 (R171). -/
def State.vidOk (s : State) (p : Nat) (f : EthFrame) : Bool :=
  let v := s.get (Fld.FAB_E.PORT_CFG.VID p)
  if v = 0 then f.vid == none else f.vid == some v

/-- A frame whose header the port refuses (R171). -/
def State.headerDrop (s : State) (p : Nat) (f : EthFrame) : Bool :=
  f.opts || !s.vidOk p f || (p == 6 && (match f.kind with | .roce _ => true | _ => false))

/-- The answer to an ARP request or a neighbour solicitation (R172), with the answering port's MAC address: for the part's GIDs, and on the uplinks of a board
of several devices for proxied remote GIDs. -/
def State.answer (s : State) (p : Nat) (f : EthFrame) : State :=
  match f.kind with
  | .resolve a =>
    let proxied := decide (p < 2) && decide (1 < s.devices)
      && (match s.remoteGid a with | some r => r.proxy | none => false)
    if p < 6 ∧ (s.ownGid a ∨ proxied) then s.sendOwn p (if f.ipv6 then 0x86DD else 0x806) a else s
  | _ => s

/-- A frame of traffic class `t` is forwarded, admitted or dropped (R197, R200, R204).  A damaged one that is stored in full is
dropped by its port, one shorter than its length field as well (R171, R205: DEDUCED, log entry 166). -/
def State.forwardFrame (s : State) (p t : Nat) (f : EthFrame) (bad : Bool) : State :=
  let ds := s.egressOf p f
  match ds with
  | [] =>
    let s1 := (s.satInc ⟨Reg.SWC.DROP_NOROUTE, 0, 32⟩).dropCount p t
    if p < 7 ∧ bad then s1.satInc (Fld.FAB_E.RX_DROP.V p) else s1
  | d :: _ =>
    let lossless := decide (p < 6) && bit (s.get (Fld.FAB_E.PFC_CFG.LOSSLESS p)) t
    let rr := (match f.kind with | .roce p => p == .readResp | _ => false) && d.1 == 7
    let cut := s.cutThrough p d.1 t f
    if p < 7 ∧ ¬ cut ∧ bad then s.satInc (Fld.FAB_E.RX_DROP.V p)
    else
      let g := match f.kind with
        | .inter v k dst src c h pin m => if d.1 = 7 ∨ p = 7 then f else { f with kind := .inter v k dst src c (h + 1) pin m }
        | _ => f
      match s.poolFor p d.1 t (frClass f) (frCells f) rr (frMulti f) lossless with
      | some pool => s.store p t pool g ds (cut && bad)
      | none =>
        if p = 7 then s
        else if lossless then ((s.satInc ⟨Reg.SWC.DROP_HEADROOM, 0, 32⟩).dropCount p t).event Fld.SWC.EVENT.HEADROOM_OVERFLOW 144
        else (s.satInc ⟨Reg.SWC.DROP_LOSSY, 0, 32⟩).dropCount p t

/-- A frame received on an Ethernet port (R171 to R174, R200, R201, R231); one with a bad FCS or above 9,216 bytes counts in RX_DROP
wherever it ends, unless it has left by cut-through (R205).  A frame that its policer drops is not learned from. (DESIGN CHOICE, log
entry 174.) (DESIGN CHOICE, log entry 174.) -/
def State.receiveFrame (s : State) (p : Nat) (f : EthFrame) : State :=
  if ¬ s.portUp p then s
  else
    let s0 := s.bwAdd p f.len 0
    let damaged := decide (9216 < f.len) || !f.fcsOk
    let bad := damaged || decide (f.len < f.hdrLen)
    let drop (x : State) : State := if damaged then x.satInc (Fld.FAB_E.RX_DROP.V p) else x
    if f.kind = .pause then (if damaged then drop s0 else s0.satInc (Fld.FAB_E.PAUSE_RX.V p))
    else if s.headerDrop p f then s0.satInc (Fld.FAB_E.RX_DROP.V p)
    else if ¬ s.carries p ∧ ¬ (frIdentity f) then drop s0
    else
      let (t, s1) := s0.trafficClass p f.dscp
      let lossless := decide (p < 6) && bit (s.get (Fld.FAB_E.PFC_CFG.LOSSLESS p)) t
      let (v, s2) := s1.policeFrame p t f.len (f.ecn != 0) lossless
      if v = 2 then drop (s2.dropCount p t)
      else
        let g := if v = 1 then { f with ecn := 3 } else f
        let s3 := match f.srcIp with
          | some ip => if p < 6 ∧ ¬ bad then s2.learn p (f.vid.getD 0) f.smac ip f.ipv6 else s2
          | none => s2
        let s4 := if bad then s3 else s3.answer p f
        s4.forwardFrame p t g bad

/-- A frame offered by INT (R197, R200): held by the storage path until the switch can admit it. -/
def State.offerFrame (s : State) (f : EthFrame) : State :=
  match s.egressOf 7 f with
  | [] => s.forwardFrame 7 0 f false
  | d :: _ =>
    let (t, s1) := s.trafficClass (if d.1 < 7 then d.1 else 0) f.dscp
    s1.forwardFrame 7 t f false

/-- FRAME_ARRIVAL (R200). -/
def execFrameArrival (port : Nat) (f : EthFrame) (s : State) : Host.Outcome State Fault Refusal :=
  if ¬ s.aon.coreUp then .next s else
  .next (if port < 7 then s.receiveFrame port f else if port = 7 then s.offerFrame f else s).settle

end Sys2Proof.Machine
end

