-- ==== Sys2Proof/Machine/RegWrite.lean ====
section
/-! DEFINITION. What a write of a register does (R4, R320, R368, R387 to R393): the access codes, the ranges, the registers that
selectors point into a table, and the registers whose write acts. -/

namespace Sys2Proof.Machine
open Sys2Proof

/-! ### Where a value goes -/

/-- A register word put into the low (0) or high (4) half of a 64-bit value. -/
def putHalf (old hi v : Nat) : Nat :=
  if hi = 0 then old / 2 ^ 32 * 2 ^ 32 + v % 2 ^ 32 else old % 2 ^ 32 + v % 2 ^ 32 * 2 ^ 32

/-- Store a word of ZMP's or NVQ's selected host (R25, R46, R68). -/
def State.placeHost (s : State) (a v : Nat) : Option State :=
  let h := s.get Fld.ZMP.HOST_SELECT.V
  if a = Reg.ZMP.HOST_PERM then
    let was := bit (s.host h).perm 0
    let s1 := s.modHost h fun e => { e with perm := v }
    some (if was && !bit v 0 then s1.hostDelete h else s1)
  else match wordIn a (Reg.ZMP.HOST_NQN 0) 56, wordIn a (Reg.ZMP.HOST_NS_ACCESS 0) 32, wordIn a (Reg.NVQ.QCLASS 0) 4 with
    | some m, _, _ => some (s.modHost h fun e =>
        { e with nqn := e.nqn.take (4 * m) ++ (leBytes 4 v).map (fun b => b.toNat) ++ e.nqn.drop (4 * m + 4) })
    | none, some m, _ => some (s.accessWrite h m v)
    | none, none, some m => some (s.modHost (s.get Fld.NVQ.QC_SELECT.V) fun e => { e with qclass := e.qclass.set m v })
    | none, none, none => none

/-- Store a word of the selected window's shadow (R192, R193). -/
def State.placeWin (s : State) (a v : Nat) : Option State :=
  let i := s.get Fld.FAB.WIN_SELECT.V
  let w := tgetD s.fab.shadow i ⟨0, 0, 0, 0⟩
  let set (w : Win) : Option State := some (s.modFab fun f => { f with shadow := tput f.shadow i w })
  if a = Reg.FAB.WIN_CTRL then set { w with ctrl := v }
  else if a = Reg.FAB.WIN_KEY then set { w with key := v }
  else if a = Reg.FAB.WIN_BASE_LO then set { w with base := putHalf w.base 0 v }
  else if a = Reg.FAB.WIN_BASE_HI then set { w with base := putHalf w.base 4 v }
  else if a = Reg.FAB.WIN_LEN_LO then set { w with len := putHalf w.len 0 v }
  else if a = Reg.FAB.WIN_LEN_HI then set { w with len := putHalf w.len 4 v }
  else none

/-- Store a word of the selected list's or of the calendar's shadow (R220, R223, R225). -/
def State.placeTgs (s : State) (a v : Nat) : Option State :=
  let l := s.get Fld.TGS.LSEL.V
  let i := s.get Fld.TGS.L_ESEL.V
  let j := s.get Fld.TGS.CAL_ESEL.V
  let e := tgetD (s.glist l).sEnt i (0, 0)
  let ce := tgetD s.tg.cal.ents j (0, 0)
  let lst (f : GList → GList) : Option State := some (s.modList l f)
  let cal (f : Cal → Cal) : Option State := some (s.modTg fun t => { t with cal := f t.cal })
  if a = Reg.TGS.L_BASE_LO then lst fun g => { g with sBase := putHalf g.sBase 0 v }
  else if a = Reg.TGS.L_BASE_HI then lst fun g => { g with sBase := putHalf g.sBase 4 v }
  else if a = Reg.TGS.L_CYCLE_LO then lst fun g => { g with sCycle := putHalf g.sCycle 0 v }
  else if a = Reg.TGS.L_CYCLE_HI then lst fun g => { g with sCycle := putHalf g.sCycle 4 v }
  else if a = Reg.TGS.L_LEN then lst fun g => { g with sLen := v }
  else if a = Reg.TGS.L_GATES then lst fun g => { g with sEnt := tput g.sEnt i (if l < 7 then v % 256 else v, e.2) }
  else if a = Reg.TGS.L_INTERVAL then lst fun g => { g with sEnt := tput g.sEnt i (e.1, v) }
  else if a = Reg.TGS.CAL_BASE_LO then cal fun c => { c with base := putHalf c.base 0 v }
  else if a = Reg.TGS.CAL_BASE_HI then cal fun c => { c with base := putHalf c.base 4 v }
  else if a = Reg.TGS.CAL_CFG then cal fun c => { c with cfg := v }
  else if a = Reg.TGS.CAL_TIME then cal fun c => { c with ents := tput c.ents j (v, ce.2) }
  else if a = Reg.TGS.CAL_ACTION then cal fun c => { c with ents := tput c.ents j (ce.1, v) }
  else none

/-- Store a word of the selected counter (R347). -/
def State.placePmc (s : State) (a v : Nat) : Option State :=
  let i := s.get Fld.PMC.CSEL.V
  let c := s.ctr i
  if a = Reg.PMC.CCFG then some (s.setCtr i { c with cfg := v })
  else if a = Reg.PMC.CMASTER then some (s.setCtr i { c with master := v })
  else if a = Reg.PMC.CADDR then some (s.setCtr i { c with addr := v })
  else if a = Reg.PMC.CFIRST_LO then some (s.setCtr i { c with first := putHalf c.first 0 v })
  else if a = Reg.PMC.CFIRST_HI then some (s.setCtr i { c with first := putHalf c.first 4 v })
  else if a = Reg.PMC.CLAST_LO then some (s.setCtr i { c with last := putHalf c.last 0 v })
  else if a = Reg.PMC.CLAST_HI then some (s.setCtr i { c with last := putHalf c.last 4 v })
  else none

/-- Store the routing word of the selected source (R324, R326): the class changes only where it may, to A, C or D; the bits
R326 fixes are fixed when the word is read.  A vector of which a pending source is enabled becomes due.
(DEDUCED, log entry 111.) -/
def State.placeSrc (s : State) (a v : Nat) : Option State :=
  if a = Reg.EVC.SRC_CFG then
    let n := s.get Fld.EVC.SRC_SELECT.V
    if 1536 ≤ n then some s
    else
      let old := s.srcCfg n
      let c := bits v 24 3
      let cls := if srcConfigurable n && (c == 1 || c == 2 || c == 4) then c else bits old 24 3
      let s1 := s.modEv fun e => { e with cfg := tput e.cfg n (v - bits v 24 3 * 2 ^ 24 + cls * 2 ^ 24) }
      some (if s1.vectorDue (v % 2048) && !s.vectorDue (v % 2048) then s1.sendVector (v % 2048) else s1)
  else none

/-- Store a value in a register. -/
def State.placeReg (s : State) (a v : Nat) : State :=
  match wordIn a (Reg.STR.ROT_ROW 0) 8 with
  | some m => s.modBoot fun b => { b with rot := tputD b.rot (8 * s.get Fld.STR.ROT_SELECT.V + m) (BitVec.ofNat 32 v) 0 }
  | none =>
    ((((s.placeHost a v).or (s.placeWin a v)).or (s.placeTgs a v)).or ((s.placePmc a v).or (s.placeSrc a v))).getD (s.setN a v)

/-- KEY.IMP_DATA and KEY.EPHEM: write-only registers that hold what is written until the import takes it. -/
def stagedWo (a : Nat) : Bool := (wordIn a (Reg.KEY.IMP_DATA 0) 18).isSome || (wordIn a (Reg.KEY.EPHEM 0) 24).isSome

/-- The registers whose own operation stores what is written. -/
def ownWrite (a : Nat) : Bool :=
  a ∈ [Reg.EPF.LOCK, Reg.EPF.CTRL, Reg.EVR.CTRL, Reg.EVR.RSEL, Reg.MBR.PWR_CFG, Reg.MBR.DARK_EPOCH, Reg.MBR.IDLE_CFG,
      Reg.MBR.WAKE_CFG, Reg.SWC.TBL_SELECT, Reg.ZMP.ZONE_SELECT, Reg.STR.PROBE_POS, Reg.FLT.TOCSIN_CTRL, Reg.TOP.BAD_INFO]
    || (wordIn a (Reg.EVC.PEND 0) 48).isSome || (instIn a (Reg.DRP_P.CTRL 0) 0x1000 48).isSome

/-- The value a register holds, for the purpose of a write. -/
def State.regNow (s : State) (a : Nat) : Nat := if stagedWo a then s.regN a else s.shown .fw a

/-- The value a write of `v` leaves: each field by its access code, RWS fields only before the seal (R4), and the ranges of
the chapters. -/
def RegRow.merge (r : RegRow) (sealedNow : Bool) (old v : BitVec 32) : BitVec 32 :=
  let m : BitVec 32 := BitVec.ofNat 32 (r.rw ||| (if sealedNow then 0 else r.rws))
  ((((old &&& ~~~ m) ||| (v &&& m)) &&& ~~~ (v &&& BitVec.ofNat 32 r.w1c)) ||| (v &&& BitVec.ofNat 32 r.w1s))

/-- A write after the seal that would change an RWS field is recorded (R391); under HOLD_SEAL a write to an RWS register
extends MSL7 with the offset and the value (R368). -/
def State.storeRws (s : State) (p : Path) (r : RegRow) (a old v : Nat) : State :=
  if r.rws = 0 then s
  else if s.flag Fld.TOP.STATUS.SEALED then
    (if (BitVec.ofNat 32 old ^^^ BitVec.ofNat 32 v) &&& BitVec.ofNat 32 r.rws ≠ 0#32 then s.badAccess p 4 a else s)
  else if s.flag Fld.TOP.STATUS.HOLD_SEAL then s.mslExtend 7 (Config.sha384 (leBytes 4 a ++ leBytes 4 v))
  else s

/-- The registers' own part of a write: the fields take what their access codes give them. -/
def State.storeReg (s : State) (p : Path) (a v : Nat) : State :=
  match rowAt a with
  | none => s
  | some r =>
    let old := s.regNow a
    let s1 := s.storeRws p r a old v
    if ownWrite a then s1
    else
      let m := (r.merge (s.flag Fld.TOP.STATUS.SEALED) (BitVec.ofNat 32 old) (BitVec.ofNat 32 v)).toNat
      let s2 := s1.placeReg a (if stagedWo a then v % 2 ^ 32 else rangeWrite a old m)
      if r.w1c = 0 then s2 else s2.pruneHeld

/-! ### What a write starts -/

/-- A write of MBR.MCMD (R147, R148, R166). -/
def State.memberCmd (s : State) (v : Nat) : State :=
  let n := bits v 8 6
  match v % 256 with
  | 1 => s.memberFailCmd n
  | 2 => s.memberAdopt n
  | 3 => s.clearRefused n
  | 4 => if s.lay.isNone then s.mcmdCode 1 else (s.scrubBegin).mcmdCode 0
  | 5 => s.scrubStop.mcmdCode 0
  | _ => s

/-- A write of SLP.CMD (R306): RESUME, then SHELF_STOP. -/
def State.shelfCmd (s : State) (v : Nat) : State :=
  let s1 := if bit v 1 then s.stopEnds [1, 3] else s
  if bit v 0 then s1.shelfStop 1 else s1

/-- A write of SLP_Cn.CTRL (R294, R300): FORCE_OFF withdraws the demand, its end lets it count again; CLEAR.
(DEDUCED, log entry 112.) -/
def State.chanCtrl (s : State) (n v : Nat) (was : Bool) : State :=
  let s1 :=
    if bit v 0 ∧ ¬ was then (if (s.chan n).demand then s.demandGone n else s)
    else if ¬ bit v 0 ∧ was then (if s.ch n = chOff ∧ s.demandCounts n then s.enqueueCh n else s)
    else s
  if bit v 1 then s1.slotClear n else s1

/-- A write of SLP_Cn.CFG, RAMP or SHUNT that breaks R290 or the shunt rule of R288 is ignored (R307). -/
def State.chanLimits (s : State) (n a old : Nat) : State :=
  if s.boot.phase = 4 ∨ (s.get (Fld.SLP_C.RAMP.INRUSH n) ≤ s.get (Fld.SLP_C.CFG.ILIM n) ∧ s.shuntOk n) then s else s.setN a old

/-- With TSRC 0 the channel takes its temperature from the model: the diode is not in use (R292). -/
def State.tsrcOff (s : State) (n : Nat) : State :=
  if s.flag (Fld.SLP_C.CFG.TSRC n) then s else s.off (Fld.SLP_C.STATUS.TSRC_ACTIVE n)

/-- A write of FLT.TOCSIN_CTRL (R337, R338): PULSE_MS below 10 is ignored; the pin takes a LEVEL written during a pulse at
its end, and before replay it is not the level of R338. (DEDUCED, log entry 26.) -/
def State.tocsinWrite (s : State) (v : Nat) : State :=
  let ms := bits v 8 8
  let s1 := if ms < 10 then s else s.put Fld.FLT.TOCSIN_CTRL.PULSE_MS ms
  let lv := v % 2
  let replayed := s1.flag Fld.GNT.STATUS.REPLAY_DONE
  let s3 := (s1.put Fld.FLT.TOCSIN_CTRL.LEVEL lv).modAon fun x => { x with levelSet := x.levelSet || replayed }
  let s2 :=
    if s3.flag Fld.FLT.STATUS.PULSING then s3
    else if s3.get Fld.FLT.CFG.TOCSIN_MODE = 2 ∧ s3.aon.levelSet then s3.put Fld.FLT.STATUS.TOCSIN lv else s3
  if bit v 16 then s2.tocsinRestart else s2

/-- A sideband transfer of management software ends with a result and its count of bytes moved (R401). -/
def State.xferEnd (s : State) (k result moved : Nat) : State :=
  let s1 := s.setN (Reg.SIO_M.STATUS k) (2 * (result % 8) + 256 * (moved % 256))
  let s2 := s1.setN Reg.SIO.STATUS (clrBit (s1.regN Reg.SIO.STATUS) (4 + k))
  if result = 0 then (s2.event (Fld.SIO_M.EVENT.DONE k) (1392 + k)).eventHeld Fld.SIO.EVENT.XFER_DONE (1392 + k)
  else (s2.event (Fld.SIO_M.EVENT.FAILED k) (1392 + k)).eventHeld Fld.SIO.EVENT.XFER_FAILED (1392 + k)

/-- A write of SIO_Mk.GO (R401): ignored while a transfer runs; refused without bus activity with RESULT 5. -/
def State.xferStart (s : State) (k : Nat) : State :=
  if s.flag (Fld.SIO_M.STATUS.BUSY k) then s
  else
    let x := s.regN (Reg.SIO_M.XFER k)
    if (15 < bits x 8 8 ∧ ¬ bit x 16) ∨ x % 128 = bits (s.regN Reg.DRP.MI_CFG) 24 7 ∨ 12 < bits x 24 4 then s.xferEnd k 5 0
    else
      let tx := leNat ((List.range 4).flatMap fun m => leBytes 4 (s.regN (Reg.SIO_M.TX k m))) % 2 ^ (8 * (bits x 8 8 + 1))
      (((s.setN (Reg.SIO_M.STATUS k) 1).setN Reg.SIO.STATUS (setBit (s.regN Reg.SIO.STATUS) (4 + k))).modAcc
        fun c => { c with xfer := tput c.xfer k x }).emit (.smbus k x (if bit x 7 ∨ bit x 16 then 0 else tx))

/-- Writes of TOP, CFG, FLT, EVC, EVR and EPF that act: these work in failsafe as well (R366, R395). -/
def State.actControl (s : State) (p : Path) (a v : Nat) : State :=
  if a = Reg.TOP.SEAL then (if bit v 0 then s.sealGo else s)
  else if a = Reg.TOP.OVL_REQ then s.ovlRequest v
  else if a = Reg.TOP.BAD_INFO then (if bit v 31 then (s.setN Reg.TOP.BAD_INFO 0).setN Reg.TOP.BAD_ADDR 0 else s)
  else if a = Reg.CFG.CMD then s.cfgCommand v
  else if a = Reg.FLT.CLEAR then (if bit v 0 then s.clearFirst else s)
  else if a = Reg.FLT.TOCSIN_CTRL then s.tocsinWrite v
  else if a = Reg.FLT.CMD then (if bit v 0 then s.coreReset 4 else s)
  else if a = Reg.EVR.CTRL then s.freezeWrite v
  else if a = Reg.EVR.CLEAR then (if bit v 0 then s.carClear (pathCode p) else s)
  else if a = Reg.EVR.RSEL then s.recordLatch (v % 65536)
  else if a = Reg.EVR.SW_GO then s.userRecord (v % 256)
  else if a = Reg.EPF.CTRL then s.epEnable (bit v 0)
  else if a = Reg.EPF.LOCK then s.lockWrite p v
  else match wordIn a (Reg.EVC.PEND 0) 48 with
    | some m => s.pendClear m v
    | none => s

/-- Writes of the front and storage blocks that act. -/
def State.actStorage (s : State) (a v : Nat) : State :=
  if a = Reg.ZMP.ANA then (if bit v 16 then s.failback else s)
  else if a = Reg.ZMP.NS_COMMIT then (if v % 4 = 1 ∨ v % 4 = 2 then s.nsCommit (v % 4) else s)
  else if a = Reg.ZMP.ZONE_SELECT then s.zoneSelect v
  else if a = Reg.STR.PROBE_POS then s.strProbe v
  else if a = Reg.MBR.PWR_CFG then s.pwrWrite 0 v
  else if a = Reg.MBR.DARK_EPOCH then s.pwrWrite 1 v
  else if a = Reg.MBR.IDLE_CFG then s.pwrWrite 2 v
  else if a = Reg.MBR.WAKE_CFG then s.pwrWrite 3 v
  else if a = Reg.MBR.MCMD then s.memberCmd v
  else if a = Reg.FAB.WIN_COMMIT then (if bit v 0 then s.winCommit else s)
  else if a = Reg.SWC.TBL_SELECT then s.tblLoad v
  else if a = Reg.SWC.TBL_COMMIT then (if bit v 0 then s.tblCommit else s)
  else if a = Reg.KEY.IMP_GO then (if bit v 0 then s.keyImport else s)
  else if a = Reg.KEY.ZEROISE then s.zeroise (if bit v 31 then none else some (v % 4096))
  else s

/-- Writes of the time, counter and slot blocks that act; `old` is what the register held. -/
def State.actUnits (s : State) (a old v : Nat) : State :=
  if a = Reg.PTP.SET_GO then (if bit v 0 then s.setGo else s)
  else if a = Reg.PTP.CFG then s.ptpCfg
  else if a = Reg.PTP.PPS then (if bit v 9 then s else s.modAon fun x => { x with ppsOut := false })
  else if a = Reg.TGS.L_COMMIT then (if bit v 0 then s.listCommit else s)
  else if a = Reg.PMC.CMD then
    let s1 := if bit v 0 then s.ctrClear (s.regN Reg.PMC.CSEL % 256) else s
    if bit v 1 then s1.ctrClearAll else s1
  else if a = Reg.PMC.SMP_CFG ∨ a = Reg.PMC.SMP_N then s.modPmc fun x => { x with smpCount := 0 }
  else if a = Reg.PMC.SMP_TAIL then (if s.regN Reg.PMC.SMP_RECORDS ≤ v % 2 ^ 24 then s.setN a old else s)
  else if a = Reg.PMC.BW_CFG then (if v % 2 ^ 14 = s.regN a then s.modPmc fun x => { x with bwFresh := true } else s)
  else if a = Reg.SLP.CMD then s.shelfCmd v
  else s

/-- Writes of replicated registers that act. -/
def State.actEach (s : State) (a old v : Nat) : State :=
  if a < 0xA0000 then
    match (if 0x81000 ≤ a then instIn ((a - 0x81000) % 0x100) 0x10 4 8 else none) with
    | some t =>
      let q := (a - 0x81000) / 0x100
      if bit v 31 != bit old 31 then s.setCredit q t 0 else s
    | none => s
  else if a < 0x2B0000 then
    let n := (a - 0x280000) / 0x1000
    let o := a % 0x1000
    if o = 0x0 then s.portEnable n (bit v 0)
    else if o = 0xC then (if bit v 0 then s.removal n else s)
    else if o = 0x34 then (if bit v 0 then s.cfgStart n 1 else if bit v 1 then s.cfgStart n 2 else s)
    else s
  else if a < 0x340000 then
    (if a < 0x301000 then s
     else
      let n := (a - 0x301000) / 0x40
      let o := (a - 0x301000) % 0x40
      if o = 0x0 then s.chanCtrl n v (bit old 0)
      else if o = 0x4 then (s.chanLimits n a old).tsrcOff n
      else if o = 0x8 ∨ o = 0x10 then s.chanLimits n a old
      else s)
  else if a < 0x380000 then
    (if a < 0x341000 then s
     else
      let n := (a - 0x341000) / 0x100
      let o := (a - 0x341000) % 0x100
      if o = 0x0 then
        let s1 := if bit v 0 then s.dmaStop n else s
        if bit v 1 then s1.dmaReset n else s1
      else if o = 0x8 ∨ o = 0xC then (if s.dmaSt n = 0 then s else s.setN a old)
      else if o = 0x10 then s.doorbell n
      else s)
  else if 0x481000 ≤ a ∧ a < 0x481400 ∧ a % 0x100 = 4 then (if bit v 0 then s.xferStart ((a - 0x481000) / 0x100) else s)
  else s

/-- What a write starts once its fields have been stored.  In failsafe only the control blocks act (R366, R395).
(DEDUCED, log entry 109.) -/
def State.act (s : State) (p : Path) (a old v : Nat) : State :=
  let s1 := s.actControl p a v
  if s.get Fld.TOP.STATUS.MODE = 2 then s1
  else if (decide (0x80000 ≤ a) && decide (a < 0xA0000) && decide (a ≠ Reg.TGS.L_COMMIT)) || (decide (0x280000 ≤ a) && decide (a < 0x2B0000))
      || (decide (0x300000 ≤ a) && decide (a < 0x380000) && decide (a ≠ Reg.SLP.CMD)) || decide (0x480000 ≤ a) then
    s1.actEach a old v
  else (s1.actStorage a v).actUnits a old v

/-! ### One access -/

/-- A written register takes effect. -/
def State.writeReg (s : State) (p : Path) (a v : Nat) : State := (s.storeReg p a v).act p a (s.regNow a) v

/-- Both words of a pair take effect at one instant (R393). -/
def State.writePair (s : State) (p : Path) (lo vl vh : Nat) : State :=
  let oldL := s.regNow lo
  let oldH := s.regNow (lo + 4)
  (((s.storeReg p lo vl).storeReg p (lo + 4) vh).act p lo oldL vl).act p (lo + 4) oldH vh

/-- A held low word takes effect alone, with the current high word (R393). -/
def State.flushHeld (s : State) (p : Path) : State :=
  match s.held_ p with
  | some (lo, v) => (s.setHeld p none).writeReg p lo v
  | none => s

/-- The path's next access is at `a` (`w`: a write): a low word held for another pair takes effect first (R393). -/
def State.flushFor (s : State) (p : Path) (w : Bool) (a : Nat) : State :=
  match s.held_ p with
  | some (lo, _) => if w && a == lo + 4 then s else s.flushHeld p
  | none => s

/-- Another path holds the write lock (R320): firmware is never locked out, and EPF.LOCK itself is not. -/
def State.lockedOut (s : State) (p : Path) (a : Nat) : Bool :=
  p != .fw && a != Reg.EPF.LOCK && s.get Fld.EPF.LOCK.OWNER != 0 && s.get Fld.EPF.LOCK.OWNER != pathCode p

/-- A register of one of firmware's DMA channels, which take no write from management software (R232). -/
def fwChannel (p : Path) (a : Nat) : Bool := p != .fw && decide (0x341000 ≤ a) && decide (a < 0x341800)

/-- A dword write on a path: the state after it, and whether the lock discarded it. -/
def State.writeDword (s : State) (p : Path) (a v : Nat) : Bool × State :=
  let s1 := s.flushFor p true a
  if s1.lockedOut p a then
    (true, ((s1.setHeld p none).satInc Fld.EPF.LOCK_DISCARDS.V).event Fld.EPF.EVENT.LOCKED_WRITE 1348)
  else
    (false, match rowAt a with
      | none => s1.badAccess p 2 a
      | some r =>
        if s1.hidden a then s1
        else if fwChannel p a then s1.event Fld.DMA.EVENT.FW_WRITE 1297
        else if r.ro then s1.badAccess p 3 a
        else if isPairLow a then s1.setHeld p (some (a, v % 2 ^ 32))
        else match s1.held_ p with
          | some (lo, vl) => (s1.setHeld p none).writePair p lo vl (v % 2 ^ 32)
          | none => s1.writeReg p a (v % 2 ^ 32))

/-- A dword read on a path, after what the path had held (R393). -/
def State.readAccess (s : State) (p : Path) (a : Nat) : Nat × State := (s.flushFor p false a).readDword p a

/-! ### The commands -/

/-- An access on the path reaches the register fabric: the core domain runs; path E needs the function to take memory requests,
path S the sideband target. (DEDUCED, log entry 136.) -/
def State.reaches (s : State) (p : Path) : Bool :=
  s.aon.coreUp &&
    (match p with
      | .e => s.epMemOk
      | .s => s.flag Fld.EPF.SB_CFG.ENABLE
      | .v => true
      | .fw => true)

/-- An offset that a path may name: below 32 MiB and dword-aligned. -/
def offOk (a : Nat) : Bool := decide (a < 2 ^ 25) && a % 4 == 0

/-- A BAR0 write of `len` bytes (R311): of 8 it is two dword writes, low offset first; of more it is discarded, as is one that does
not cover whole dwords. (DEDUCED, log entry 108.) -/
def State.barWrite (s : State) (off v len : Nat) : State :=
  if len = 4 ∧ off % 4 = 0 then (s.writeDword .e off v).2
  else if len = 8 ∧ off % 4 = 0 then ((s.writeDword .e off (v % 2 ^ 32)).2.writeDword .e (off + 4) (v / 2 ^ 32)).2
  else if 8 < len then s.flushHeld .e
  else (s.flushHeld .e).event Fld.EPF.EVENT.PARTIAL_WRITE 1347

/-- REGISTER_WRITE (R4, R311, R387 to R393): of `len` bytes on path E, of a dword on the others. -/
def execRegisterWrite (path : Path) (off value len : Nat) (s : State) : Host.Outcome State Fault Refusal :=
  if ¬ s.aon.coreUp then .next s else
  .next (if ¬ s.reaches path ∨ 2 ^ 25 ≤ off then s
    else if path = .e then (s.barWrite off value len).settle
    else if off % 4 = 0 then (s.writeDword path off value).2.settle else s)

/-- A dword read whose value is returned on the path. -/
def State.readWord (s : State) (p : Path) (a : Nat) : State :=
  let (v, s1) := s.readAccess p a
  s1.emit (.regValue p v 0)

/-- A BAR0 read of `len` bytes (R311): of up to 4 the bytes of one register, of 8 both words of a pair at one instant; any other
request completes with Unsupported Request (kind 1). (DEDUCED, log entry 108.) -/
def State.barRead (s : State) (off len : Nat) : State :=
  if len = 4 ∧ off % 4 = 0 then s.readWord .e off
  else if 1 ≤ len ∧ off % 4 + len ≤ 4 then
    let (v, s1) := s.readAccess .e (off / 4 * 4)
    s1.emit (.regValue .e (v / 2 ^ (8 * (off % 4)) % 2 ^ (8 * len)) 0)
  else if len = 8 ∧ off % 8 = 0 then
    let (lo, hi, s1) := (s.flushHeld .e).readPair .e off
    s1.emit (.regValue .e lo hi)
  else (s.flushHeld .e).emit (.pcie 1 [])

/-- A read of `len` bytes on path E, of a dword on the others; a memory request that the function does not take completes with
Unsupported Request (R309, R314). -/
def State.readOut (s : State) (p : Path) (off len : Nat) : State :=
  if ¬ s.reaches p ∨ 2 ^ 25 ≤ off then
    (if p = .e ∧ s.aon.coreUp ∧ ¬ s.epMemOk ∧ (s.epState = epReady ∨ s.epState = epNotReady) then s.emit (.pcie 1 []) else s)
  else if p = .e then (s.barRead off len).settle
  else if off % 4 = 0 then (s.readWord p off).settle else s

/-- RC_REGISTER_READ (R4, R311, R394): the value is returned and its RC fields clear. -/
def execRcRegisterRead (path : Path) (off len : Nat) (s : State) : Host.Outcome State Fault Refusal :=
  if ¬ s.aon.coreUp then .next s else
  .next (s.readOut path off len)

/-- PAIR_LOW_READ (R5, R392): the read of a low word latches its high word for the path. -/
def execPairLowRead (path : Path) (off : Nat) (s : State) : Host.Outcome State Fault Refusal :=
  if ¬ s.aon.coreUp then .next s else
  .next (s.readOut path off 4)

/-- PAIR_LOW_WRITE_TIMEOUT (R393): 10 µs have passed without a further access on the path. -/
def execPairLowWriteTimeout (path : Path) (s : State) : Host.Outcome State Fault Refusal :=
  if ¬ s.aon.coreUp then .next s else
  .next (s.flushHeld path).settle

/-- A status of the sideband target, kept for command 0x12 (R321). -/
def State.sbDone (s : State) (st : Nat) : State := s.modAcc fun c => { c with sbStatus := st }

/-- SB_REGISTER_READ (R321): command 0x10; a frame with a bad PEC is not acted on. -/
def execSbRegisterRead (off : Nat) (pecOk : Bool) (s : State) : Host.Outcome State Fault Refusal :=
  if ¬ s.aon.coreUp then .next s else
  .next (if ¬ s.reaches .s ∨ ¬ pecOk then s
    else if ¬ offOk off then s.emit (.sideband 2 0)
    else
      let (v, s1) := s.readAccess .s off
      (s1.emit (.sideband 0 v)).settle)

/-- SB_REGISTER_WRITE (R321): command 0x11. -/
def execSbRegisterWrite (off value : Nat) (pecOk : Bool) (s : State) : Host.Outcome State Fault Refusal :=
  if ¬ s.aon.coreUp then .next s else
  .next (if ¬ s.reaches .s ∨ ¬ pecOk then s
    else if ¬ offOk off then s.sbDone 2
    else
      let (d, s1) := s.writeDword .s off value
      (s1.sbDone (b2n d)).settle)

/-- SB_STATUS_READ (R321): command 0x12 returns the status of the last write. -/
def execSbStatusRead (s : State) : Host.Outcome State Fault Refusal :=
  if ¬ s.aon.coreUp then .next s else
  .next (if s.reaches .s then s.emit (.sideband s.acc.sbStatus 0) else s)

/-- The controller's host may use the vendor admin commands (R29, R322). -/
def State.vendorOk (s : State) (cntlid : Nat) : Bool :=
  match s.ctrl? cntlid with
  | some c => bit (s.host c.host).perm 2
  | none => false

/-- VENDOR_REGISTER_READ (R53, R322). -/
def execVendorRegisterRead (cntlid cid off : Nat) (pair : Bool) (s : State) : Host.Outcome State Fault Refusal :=
  if ¬ s.aon.coreUp then .next s else
  .next (if (s.ctrl? cntlid).isNone then s
    else if ¬ s.ctrlReady cntlid then s.adminDone cntlid cid 0x0C
    else if ¬ s.vendorOk cntlid then s.adminDone cntlid cid 0x01
    else if ¬ offOk off then s.adminDone cntlid cid 0x02
    else if pair then
      let (lo, hi, s1) := (s.flushHeld .v).readPair .v off
      (s1.adminDone cntlid cid 0 false lo hi).settle
    else
      let (v, s1) := s.readAccess .v off
      (s1.adminDone cntlid cid 0 false v 0).settle)

/-- VENDOR_REGISTER_WRITE (R53, R322). (PRESUMED, log entry 110.) -/
def execVendorRegisterWrite (cntlid cid off value : Nat) (s : State) : Host.Outcome State Fault Refusal :=
  if ¬ s.aon.coreUp then .next s else
  .next (if (s.ctrl? cntlid).isNone then s
    else if ¬ s.ctrlReady cntlid then s.adminDone cntlid cid 0x0C
    else if ¬ s.vendorOk cntlid then s.adminDone cntlid cid 0x01
    else if ¬ offOk off then s.adminDone cntlid cid 0x02
    else
      let (d, s1) := s.writeDword .v off value
      (s1.adminDone cntlid cid (if d then 0x0C else 0)).settle)

end Sys2Proof.Machine
end

