-- ==== Sys2Proof/Machine/Dram.lean ====
section
/-! DEFINITION. The DRAM controller and serial I/O: the commands of Register index (R398 to R401). -/

namespace Sys2Proof.Machine
open Sys2Proof

/-! ### DRAM errors, patrol, refresh -/

/-- What every DRAM error leaves in its channel: the address of its 64 bytes, the devices, whether it could not be corrected
(R397, R398). -/
def State.eccShow (s : State) (ch addr devs : Nat) (ue : Bool) : State :=
  (s.wr64 (Reg.DDC_C.ERR_ADDR_LO ch) (addr % 2 ^ 37 / 64 * 64)).setN (Reg.DDC_C.ERR_SYN ch) (devs % 2 ^ 18 + 2 ^ 31 * b2n ue)

/-- Set an event of DDC and of the channel, both of the one source (R419). (DEDUCED, log entry 113.) -/
def State.ddcEvent (s : State) (g : FieldAt) (c : FieldAt) (n : Nat) : State := (s.event g n).event c n

/-- DRAM_ECC_CORRECTED (R398): the data stand corrected; counted, and notice DDC_CE. -/
def execDramEccCorrected (ch addr devs : Nat) (s : State) : Host.Outcome State Fault Refusal :=
  if ¬ s.aon.coreUp then .next s else
  .next (if 2 ≤ ch ∨ ¬ s.flag Fld.DDC.STATUS.TRAINED then s
    else ((((s.eccShow ch addr devs false).satInc Fld.DDC.CE_TOTAL.V).satInc (Fld.DDC_C.CE_COUNT.V ch)).ddcEvent Fld.DDC.EVENT.CE
      ⟨Reg.DDC_C.EVENT ch, 0, 1⟩ 1361).settle)

/-- The command of a tag needs a table page that is being reloaded: it waits (R398). -/
def State.pageNeeded (s : State) (t : Nat) (page : Option Nat) : State :=
  match page, s.cmd? t with
  | some p, some c => s.modAcc fun x => { x with pageWait := addNewZ x.pageWait (c.order, p) }
  | _, _ => s

/-- DRAM_ECC_UNCORRECTABLE (R398): of requester 0, a DMA source read, and 1, a BAR2 read, the access itself ends with the error
(DMA_READ_BURST, BAR2_READ); for every other reader DDC_UE rises and firmware reloads the 4 KiB table page.  Requester 2 is a reader of no
command; `3 + t` is one of the command of tag `t`, which waits in its state until the reload completes.
(DEDUCED, log entry 113.) -/
def execDramEccUncorrectable (ch addr devs requester : Nat) (s : State) : Host.Outcome State Fault Refusal :=
  if ¬ s.aon.coreUp then .next s else
  .next (if 2 ≤ ch ∨ ¬ s.flag Fld.DDC.STATUS.TRAINED then s
    else
      let s1 := ((s.eccShow ch addr devs true).satInc Fld.DDC.UE_TOTAL.V).satInc (Fld.DDC_C.UE_COUNT.V ch)
      if requester < 2 then s1
      else (((s1.modAcc fun c => { c with reload := addNew c.reload (addr / 4096) }).pageNeeded (requester - 3)
        (if requester < 3 then none else some (addr / 4096))).ddcEvent Fld.DDC.EVENT.UE
        ⟨Reg.DDC_C.EVENT ch, 1, 1⟩ 1360).settle)

/-- TABLE_PAGE_RELOAD_DONE (R398): the page is up to date again; the commands that waited for it go on. -/
def execTablePageReloadDone (page : Nat) (s : State) : Host.Outcome State Fault Refusal :=
  if ¬ s.aon.coreUp then .next s else
  .next (s.modAcc fun c => { c with reload := dropEl c.reload page, pageWait := c.pageWait.filter fun e => e.2 ≠ page }).settle

/-- PATROL_PASS_DONE (R398): with PATROL_CFG.HOURS not 0; the next pass starts at address 0. (DEDUCED, log entry 114.) -/
def execPatrolPassDone (ch : Nat) (s : State) : Host.Outcome State Fault Refusal :=
  if ¬ s.aon.coreUp then .next s else
  .next (if 2 ≤ ch ∨ s.get (Fld.DDC_C.PATROL_CFG.HOURS ch) = 0 ∨ ¬ s.flag Fld.DDC.STATUS.TRAINED then s
    else ((s.wr64 (Reg.DDC_C.PATROL_POS_LO ch) 0).ddcEvent Fld.DDC.EVENT.PATROL_DONE ⟨Reg.DDC_C.EVENT ch, 3, 1⟩ 1362).settle)

/-- The hottest device of a channel, and whether the channel refreshes at double rate (R399). -/
def State.refresh (s : State) (ch temp : Nat) (twice : Bool) : State :=
  s.setN (Reg.DDC_C.REFRESH ch) (b2n twice + 256 * (temp % 256))

/-- DRAM_HOT (R399): from 85 °C. -/
def execDramHot (ch temp : Nat) (s : State) : Host.Outcome State Fault Refusal :=
  if ¬ s.aon.coreUp then .next s else
  .next (if ch < 2 ∧ 85 ≤ temp then s.refresh ch temp true else s)

/-- DRAM_COOL (R399): below 80 °C. -/
def execDramCool (ch temp : Nat) (s : State) : Host.Outcome State Fault Refusal :=
  if ¬ s.aon.coreUp then .next s else
  .next (if ch < 2 ∧ temp < 80 then s.refresh ch temp false else s)

/-! ### Sideband transfers of management software -/

/-- SIDEBAND_XFER_START (R401): a write of SIO_Mk.GO. -/
def execSidebandXferStart (k : Nat) (s : State) : Host.Outcome State Fault Refusal :=
  .next (if k < 4 ∧ s.aon.coreUp then (s.xferStart k).settle else s)

/-- Data read by a transfer, put into RX0 to RX3. -/
def State.putRx (s : State) (k : Nat) (bytes : List Byte) : State :=
  let old := (List.range 4).flatMap fun m => leBytes 4 (s.regN (Reg.SIO_M.RX k m))
  let l := bytes ++ old.drop bytes.length
  (List.range 4).foldl (fun s m => s.setN (Reg.SIO_M.RX k m) (leAt l (4 * m) 4)) s

/-- A transfer under way ends (R401): RESULT, the bytes moved, RX, and the NACKs counted.  How many bytes a transfer that
failed after its address had moved the spec does not give. -/
def State.xferDone (s : State) (k x result : Nat) (bytes : List Byte) : State :=
  let n := bits x 8 8 + 1
  let b := (bytes ++ List.replicate n 0).take n
  let s1 := if result = 0 ∧ bit x 7 ∧ ¬ bit x 16 then s.putRx k b else s
  let s2 := if result = 1 ∨ result = 2 then s1.satInc (Fld.SIO_M.NACK_COUNT.V k) else s1
  let s3 := if result = 4 then s2.emit (.smbus k 0 0) else s2
  let (f, s4) := s3.fresh 19
  let moved := if result = 0 then n else if result = 1 ∨ result = 5 then 0 else f % (n + 1)
  (s4.modAcc fun c => { c with xfer := tdel c.xfer k }).xferEnd k result moved

/-- SIDEBAND_XFER_DONE (R401). -/
def execSidebandXferDone (k result : Nat) (bytes : List Byte) (s : State) : Host.Outcome State Fault Refusal :=
  if ¬ s.aon.coreUp then .next s else
  .next (match tget s.acc.xfer k with
    | some x => if result ≤ 5 then (s.xferDone k x result bytes).settle else s
    | none => s)

end Sys2Proof.Machine
end

