-- ==== Sys2Proof/Machine/PowerUp.lean ====
section
/-! DEFINITION. Clocks, supplies, resets and the power-fail sequence (R8 to R10, R127 to R129, R333, R354 to R356, R405 to
R408). -/

namespace Sys2Proof.Machine
open Sys2Proof

/-! ### The reference and the root PLL -/

/-- A measurement of the reference, in 0.01 ppm (R9): beyond ±50 ppm the reference is out of range.  An offset that 16 bits
cannot show reads an open value. (DEDUCED, log entry 115.) -/
def State.refMeasured (s : State) (off : Int) : State :=
  let (f, s0) := if -32768 ≤ off ∧ off ≤ 32767 then (codeOf 16 off, s) else s.fresh 20
  let s1 := s0.put Fld.CLK.REF_OFFSET.PPB_DIV10 f
  if off < -5000 ∨ 5000 < off then (s1.off Fld.CLK.STATUS.REF_IN_RANGE).event Fld.CLK.EVENT.REF_RANGE 19
  else s1.on Fld.CLK.STATUS.REF_IN_RANGE

/-- REF_MEASURE (R9): every 1 ms while reference edges arrive. -/
def execRefMeasure (off : Int) (s : State) : Host.Outcome State Fault Refusal :=
  .next (if s.aon.coreUp ∧ s.flag Fld.CLK.STATUS.REF_PRESENT then (s.refMeasured off).settle else s)

/-- REF_LOST (R9). -/
def execRefLost (s : State) : Host.Outcome State Fault Refusal :=
  .next (if s.aon.coreUp ∧ s.flag Fld.CLK.STATUS.REF_PRESENT then
      ((s.off Fld.CLK.STATUS.REF_PRESENT).event Fld.CLK.EVENT.REF_LOST 17).settle
    else s)

/-- REF_RETURN (R9). -/
def execRefReturn (s : State) : Host.Outcome State Fault Refusal :=
  .next (if s.aon.coreUp then s.on Fld.CLK.STATUS.REF_PRESENT else s)

/-- CLK_LOCK_LOST (R10): counted; CK_SLOW falls back to the ring oscillator; the source rises, class B. -/
def execClkLockLost (s : State) : Host.Outcome State Fault Refusal :=
  .next (if s.aon.coreUp ∧ s.flag Fld.CLK.STATUS.ROOT_LOCK then
      let s1 := ((s.off Fld.CLK.STATUS.ROOT_LOCK).satInc Fld.CLK.LOCK_COUNT.COUNT).on Fld.CLK.STATUS.SLOW_FALLBACK
      let s2 := (s1.modAon fun a => { a with ring := true }).event Fld.CLK.EVENT.LOCK_LOST 16
      (s2.event Fld.CLK.EVENT.FALLBACK_ENTERED 18).settle
    else s)

/-- ROOT_PLL_RELOCK (R333): with the reference there; the dump that waited for the lock starts. -/
def execRootPllRelock (s : State) : Host.Outcome State Fault Refusal :=
  .next (if s.aon.coreUp ∧ s.flag Fld.CLK.STATUS.REF_PRESENT ∧ ¬ s.flag Fld.CLK.STATUS.ROOT_LOCK then
      let s1 := s.on Fld.CLK.STATUS.ROOT_LOCK
      if s1.aon.dumpPhase = 1 then s1.dumpStart else s1
    else s)

/-! ### Release and reset -/

/-- ALWAYS_ON_RELEASE (R355, R405): VDD_AON in range and PORST_N high. -/
def execAlwaysOnRelease (s : State) : Host.Outcome State Fault Refusal :=
  .next (if s.aon.released then s
    else (s.modAon fun a => { a with released := true, porst := true }).setN Reg.TOP.SUPPLY (setBit (s.regN Reg.TOP.SUPPLY) 0))

/-- PORST_ASSERT (R356, R407): both domains reset; a dump in progress leaves no header. -/
def execPorstAssert (s : State) : Host.Outcome State Fault Refusal := .next s.powerReset

/-- Supply `n` is out of its range: its bit of IN_RANGE clears. -/
def State.supplyBad (s : State) (n : Nat) : State := s.setN Reg.TOP.SUPPLY (clrBit (s.regN Reg.TOP.SUPPLY) n)

/-- A supply leaves its range (R356, R408): VDD_AON takes the always-on domain with it; during a dump only VDD_CORE, VDD_SRAM
and VDD_IO below their dump minimum matter, and end it as PORST_N does; otherwise a running core is reset with cause 5 and
the supply's DROPPED bit is set. (DEDUCED, log entry 116.) -/
def State.supplyOut (s : State) (n : Nat) : State :=
  if n = 0 then s.powerReset.modAon fun a => { a with porst := s.aon.porst }
  else if s.aon.coreUp ∧ (s.aon.dumpPhase = 1 ∨ s.aon.dumpPhase = 2) then (if n = 1 ∨ n = 2 ∨ n = 6 then s.powerReset else s)
  else
    let s1 := s.supplyBad n
    if s1.aon.coreUp then (s1.setN Reg.TOP.SUPPLY (setBit (s1.regN Reg.TOP.SUPPLY) (8 + n))).coreReset 5 else s1

/-- SUPPLY_OUT_OF_RANGE (R356, R408). (DESIGN CHOICE, log entry 142.) -/
def execSupplyOutOfRange (supply : Nat) (s : State) : Host.Outcome State Fault Refusal :=
  .next (if supply < 8 then s.supplyOut supply else s)

/-- The core domain starts (R355, R364 step 2): the pads are released, a DROPPED bit is reported, the dump found is shown, and
after a reset of another cause than 5 both copies may be tried again (R365). -/
def State.coreStart (s : State) : State :=
  let s1 := s.modAon fun a => { a with coreUp := true, squelched := false, padsHeld := false }
  let s2 := (s1.setN Reg.TOP.SUPPLY (s1.regN Reg.TOP.SUPPLY / 256 * 256 + 255)).on Fld.CLK.STATUS.REF_PRESENT
  let s3 := if s2.get Fld.TOP.SUPPLY.DROPPED ≠ 0 then s2.event Fld.TOP.EVENT.SUPPLY_DROP 3 else s2
  let s4 := if s3.get Fld.FLT.RESET_CAUSE.V ≠ 5 then s3.setN Reg.CFG.COPY 0 else s3
  let s5 := match s4.nv.dump with
    | some d => ((s4.on Fld.GNT.DUMP.VALID).put Fld.GNT.DUMP.DUMP_US d.us).on Fld.GNT.STATUS.DUMP_PENDING
    | none => s4
  s5.modBoot fun b => { b with phase := 1 }

/-- CORE_RESET_RELEASE (R355, R406): all supplies in range for 1 ms, PORST_N and PFAIL_N high. -/
def execCoreResetRelease (s : State) : Host.Outcome State Fault Refusal :=
  .next (if s.aon.released ∧ s.aon.porst ∧ s.aon.pfail ∧ ¬ s.aon.coreUp then s.coreStart else s)

/-! ### Power failure -/

/-- Step 8 of R127: no activity, every output at its safe level, and the shelf-stop of R306. -/
def State.powerHold (s : State) : State :=
  let s1 := s.modAon fun a => { a with dumpPhase := 3, squelched := true, padsHeld := true, slotPerst := 0, ppsOut := false, wakeLow := false }
  (((s1.off Fld.FLT.STATUS.ALIVE).off Fld.FLT.STATUS.PULSING).off Fld.FLT.STATUS.TOCSIN).shelfStop 2

/-- PFAIL_N falls (R127, R129, R333, R406): while the core runs, GNT_PFAIL rises, class B; before a dump that waits for the
root PLL has started, no dump is taken. -/
def State.pfailFell (s : State) : State :=
  let s1 := s.modAon fun a => { a with pfail := false }
  if ¬ s1.aon.coreUp then s1
  else
    let s2 := s1.condOn 400
    if s.aon.dumpPhase = 1 then s2.powerHold else s2

/-- PFAIL_FALL (R127). -/
def execPfailFall (s : State) : Host.Outcome State Fault Refusal :=
  .next (if s.aon.pfail then s.pfailFell.settle else s)

/-- PFAIL_RISE (R129): in the sequence it is acted on at step 7; in the hold of step 8 a core reset follows at once. -/
def execPfailRise (s : State) : Host.Outcome State Fault Refusal :=
  .next (if s.aon.pfail then s
    else
      let s1 := (s.modAon fun a => { a with pfail := true }).condOff 400
      if s1.aon.coreUp ∧ s1.aon.dumpPhase = 3 then s1.coreReset 2 else s1)

/-- The dump header is written (R127 step 7): LAST_JSEQ, the highest written JSEQ, the mirror marks and a CRC-64 per slot; an
unconsumed dump stays in place (R129). Then a core reset when PFAIL_N is high, else the hold of step 8 (R333).
(DEDUCED, log entry 117.) -/
def State.dumpDone (s0 : State) (us : Nat) (bad : List Nat) : State :=
  let s := if s0.flag Fld.GNT.STATUS.DUMP_PENDING then s0
    else ((List.range 256).foldl (fun s k => s.wearAdd (512 + k) 16 2) s0).linesRetire bad
  let d : Dump := ⟨s.rd64 Reg.GNT.JSEQ_LO, s.nv.mirApplied, s.nv.mirReleased, s.slots, s.slots.map fun e => (e.1, slotCrc e.2), us % 65536⟩
  let s1 := if s0.flag Fld.GNT.STATUS.DUMP_PENDING then s else s.modNv fun v => { v with dump := some d }
  if s1.aon.pfail then s1.coreReset 2 else s1.powerHold

/-- DUMP_COMPLETE (R127). -/
def execDumpComplete (us : Nat) (bad : List Nat) (s : State) : Host.Outcome State Fault Refusal :=
  .next (if s.aon.coreUp ∧ s.aon.dumpPhase = 2 then s.dumpDone us bad else s)

end Sys2Proof.Machine
end

