-- ==== Sys2Proof/Machine/Layout.lean ====
section
/-! DEFINITION. The layout at start-up: its check and its creation (R70 to R75, R130), the partner paths and the routes
(R22, R209 to R211), the extended self-test's time (R66). -/

namespace Sys2Proof.Machine
open Sys2Proof

/-- The rows as STR.ROT_ROW holds them, `w` positions each. -/
def State.rotRows (s : State) (rows w : Nat) : List (List Nat) :=
  (List.range rows).map fun r => (List.range w).map fun p => bits (tgetD s.boot.rot (8 * r + p / 4) 0).toNat (8 * (p % 4)) 8

/-- The cyclic table of R74. -/
def cyclicRows (cols w : Nat) : List (List Nat) :=
  (List.range (cols / Nat.gcd cols w)).map fun r => (List.range w).map fun p => (w * r + p) % cols

/-- The rotation table of the image: the cyclic one when ROWS is 0 (R72, R74). -/
def State.imageRows (s : State) : List (List Nat) :=
  let w := s.get Fld.STR.GEOM.WIDTH
  let n := s.get Fld.STR.ROWS.ROWS
  if n = 0 then cyclicRows (s.get Fld.STR.GEOM.COLUMNS) w else s.rotRows n w

/-- Slots of the columns, as STR.COLMAP gives them. -/
def State.imageColmap (s : State) : List Nat :=
  (List.range (s.get Fld.STR.GEOM.COLUMNS)).map fun c => s.get ⟨Reg.STR.COLMAP (c / 4), 8 * (c % 4), 6⟩

/-- No element occurs twice. -/
def noRepeat (l : List Nat) : Bool := l.zipIdx.all fun x => !decide (x.1 ∈ l.take x.2)

/-- STR.STATUS.CHECK codes 1 to 4 (R70, R72, R75); 0 when the layout is well formed. -/
def State.layoutForm (s : State) : Nat :=
  let w := s.get Fld.STR.GEOM.WIDTH
  let c := s.get Fld.STR.GEOM.COLUMNS
  let sp := s.get Fld.STR.GEOM.SPARE
  let top := s.slotsInUse
  let rows := s.imageRows
  let count (x : Nat) : Nat := (rows.map fun r => (r.filter fun y => y == x).length).foldl (· + ·) 0
  if w < 4 ∨ 32 < w ∨ c < w ∨ top < c ∨ 2 < sp ∨ c - w < sp ∨ 1024 < s.get Fld.STR.ROWS.ROWS then 1
  else if ¬ rows.all fun r => noRepeat r && r.all fun x => decide (x < c) then 2
  else if ¬ (List.range c).all fun x => count x == count 0 then 3
  else if ¬ (noRepeat s.imageColmap && s.imageColmap.all fun n => decide (n < top)) then 4
  else 0

/-- STR.STRIPES (R75): the largest number of stripes whose strips every column's data area holds. -/
def stripesOf (rows : List (List Nat)) (cols appear dataStrips : Nat) : Nat :=
  let laps := if appear = 0 then 0 else dataStrips / appear
  let l : Layout := ⟨0, cols, 0, appear, 0, dataStrips, 0, 0, rows, []⟩
  let fits (r : Nat) : Bool := (List.range cols).all fun c => decide (laps * appear + l.rank r c ≤ dataStrips)
  laps * rows.length + (((List.range rows.length).filter fits).length - 1)

/-- The layout of the image over members of `strips` strips. (DESIGN CHOICE, log entry 124.) -/
def State.imageLayout (s : State) (strips : Nat) : Layout :=
  let w := s.get Fld.STR.GEOM.WIDTH
  let c := s.get Fld.STR.GEOM.COLUMNS
  let sp := s.get Fld.STR.GEOM.SPARE
  let rows := s.imageRows
  let appear := rows.length * w / c
  let spare := strips * sp / c
  ⟨w, c, sp, appear, strips, strips - spare, spare, stripesOf rows c appear (strips - spare), rows, s.imageColmap⟩

/-- The keepers of a new layout (R130): the highest column of each domain, domains in order of their highest column; then the
highest columns not yet chosen. -/
def State.chooseKeepers (s : State) (l : Layout) : List Nat :=
  let down := (List.range l.columns).reverse
  let dom (c : Nat) : Nat := s.domain (l.slotOf c)
  let first := (down.foldl (fun k c => if k.any fun x => dom x == dom c then k else k ++ [c]) []).take 3
  (first ++ down.filter fun c => !decide (c ∈ first)).take 3

/-- The tables of a new layout: every column has its member, every zone is Empty at a generation above every older one. -/
def State.freshTables (s : State) (l : Layout) : Tables :=
  { Tables.reset with
    baseGen := s.nv.highGen + 1, keepers := s.chooseKeepers l, owner := if s.flag Fld.SWC.TOPO_CFG.PARTNERED then min (s.get Fld.SWC.TOPO_CFG.DEV_NUM) (s.get Fld.SWC.TOPO_CFG.PARTNER) else 0
    cols := (List.range 48).map fun c => if c < l.columns then { Column.vacant with st := 2 } else Column.vacant }

/-- A layout creation (R71): the LAYOUT record is the ring's, the table store is made afresh on the new keepers, and Garnet
and the keepers carry the shelf's identity. (DEDUCED, log entry 125.) -/
def State.layoutCreate (s : State) (l : Layout) (d : Digest) : State :=
  let j := s.nv.nextJseq
  let id := (s.fuse.map (·.uid)).getD 0
  let t := s.freshTables l
  s.modNv fun v => { v with
    shelf := some id, layout := some d, memberStrips := l.memberStrips, nonEmpty := 0, highGen := v.highGen + 1
    ring := [⟨j, v.head, 1, .layout d, recCrc j 1 (.layout d), true, none, 0, none⟩], nextJseq := j + 1
    head := (v.head + 1) % ringLines, tails := [], dump := none
    klogs := t.keepers.foldl (fun k c => tput k c { KeepLog.empty (0, 0) with shelf := some id, store := some (t, j - 1) }) [] }

/-- The longest run of strips that a part zone has on a column (R275); the runs repeat with the rotation table. -/
def Layout.runMax (l : Layout) (spz zones : Nat) : Nat :=
  let run (z c : Nat) : Nat := l.index ((z + 1) * spz) c - l.index (z * spz) c
  ((List.range (min zones l.rows.length)).flatMap fun z => (List.range l.columns).map (run z)).foldl max 0

/-- What STR, ZMP and DRP show of an accepted layout (R31, R70 to R75, R275). -/
def State.layoutShow (s : State) (l : Layout) : State :=
  let rot := l.rows.zipIdx.flatMap fun x => (rowWords x.1).zipIdx.map fun y => (8 * x.2 + y.2, BitVec.ofNat 32 y.1)
  let s1 := ((s.setLay l).modBoot fun b => { b with rot := rot.filter fun e => e.2 != 0 }).put Fld.STR.ROWS.ROWS l.rows.length
  let s2 := ((s1.put Fld.STR.ROWS.APPEAR l.appear).wr64 Reg.STR.MEMBER_STRIPS_LO l.memberStrips).wr64 Reg.STR.DATA_STRIPS_LO l.dataStrips
  let s3 := ((s2.wr64 Reg.STR.SPARE_STRIPS_LO l.spareStrips).wr64 Reg.STR.STRIPES_LO l.stripes).on Fld.STR.STATUS.LAYOUT_VALID
  let spz := s3.zoneBlocks / s3.stripeBlocks
  let zones := if spz = 0 then 0 else l.stripes / spz
  let s4 := s3.put Fld.DRP.ZONED.RUN_MAX (l.runMax spz zones)
  ((s4.put Fld.ZMP.ZONE_GEOM.STRIPES_PER_ZONE spz).wr64 Reg.ZMP.ZONE_COUNT_LO zones).wr64 Reg.ZMP.ZONE_FREE_LO zones

/-- LAYOUT_CHECK (R70 to R72): STR.STATUS.CHECK, and the layout accepted or created.  A Garnet that names no layout beside
keepers that hold a table store is a lost Garnet (R135), no creation. -/
def State.layoutCheck (s : State) (strips : Nat) : State :=
  let c := s.layoutForm
  if c ≠ 0 then s.put Fld.STR.STATUS.CHECK c
  else
    let l := s.imageLayout strips
    let d := Config.sha384 (s.layoutBytes l)
    if s.nv.layout = some d ∨ (s.nv.layout.isNone ∧ s.keeperShelf.isSome) then s.layoutShow (s.imageLayout s.nv.memberStrips)
    else if s.nv.nonEmpty ≠ 0 then s.put Fld.STR.STATUS.CHECK 5
    else (s.layoutCreate l d).layoutShow l

/-! ### Partner and routes -/

/-- The two mirror paths share no link and no device but the partners (R22, R210). -/
def State.pathsOk (s : State) : Bool :=
  let d := s.get Fld.SWC.TOPO_CFG.DEV_NUM
  let p := s.get Fld.SWC.TOPO_CFG.PARTNER
  let a := s.get Fld.GNT.MIRROR_CFG.PATH_A
  let b := s.get Fld.GNT.MIRROR_CFG.PATH_B
  p != d && decide (p < s.devices) && a != b
    && (match expectedPeer s.devices d a, expectedPeer s.devices d b with
      | some (x, _), some (y, _) => x == p || y == p || x != y
      | _, _ => false)

/-- A partnership without two such paths is refused (R22). -/
def State.partnerCheck (s : State) : State :=
  if s.flag Fld.SWC.TOPO_CFG.PARTNERED ∧ ¬ s.pathsOk then s.on Fld.TOP.STATUS.PARTNER_REFUSED else s

/-- The derived route to device `d` (R211): the lowest cascade port wired to it, and the next, or else the lowest other
enabled cascade port. (DEDUCED, log entry 126.) -/
def State.derivedRoute (s : State) (d : Nat) : Nat × Option Nat :=
  let me := s.get Fld.SWC.TOPO_CFG.DEV_NUM
  let mine := (List.range 4).filter fun n => match expectedPeer s.devices me n with | some (x, _) => x == d | none => false
  let p := mine.getD 0 0
  let on := (List.range 4).filter fun n => n != p && s.flag (Fld.FAB_E.PORT_CFG.ENABLE (2 + n))
  (p, (mine[1]?).or on.head?)

/-- SWC.DEV_ROUTE after the image: a zero byte selects the derived route; this device's own byte reads 0 (R211). -/
def State.routesDerive (s : State) : State :=
  let s0 := s.put ⟨Reg.SWC.DEV_ROUTE, 8 * s.get Fld.SWC.TOPO_CFG.DEV_NUM, 8⟩ 0
  s0.others.foldl (fun s d =>
    if s.get ⟨Reg.SWC.DEV_ROUTE, 8 * d, 8⟩ ≠ 0 then s
    else
      let (p, a) := s.derivedRoute d
      s.put ⟨Reg.SWC.DEV_ROUTE, 8 * d, 8⟩ (p + match a with | some x => 4 * x + 16 | none => 0)) s0

/-! ### The extended self-test's time -/

/-- EDSTT (R66), minutes: with ACTIVE_MAX as the members awake and SCRUB_CFG.RATE as the rate of each; open when the Background
floor is 0 and when the minutes do not fit the field. (DEDUCED, log entry 127.) -/
def State.edsttShow (s : State) : State :=
  let l := s.layout
  let bytes := (l.columns - l.spare) * l.memberStrips * 65536
  let rate := s.get Fld.NVQ.BG.FLOOR * s.get Fld.MBR.PWR_CFG.ACTIVE_MAX * (s.get Fld.MBR.SCRUB_CFG.RATE * 100000000)
  let m := ceilDiv (64 * bytes) (60 * rate)
  if rate = 0 ∨ 65536 ≤ m then
    let (v, s1) := s.fresh 22
    s1.put Fld.NVQ.EDSTT.EDSTT v
  else s.put Fld.NVQ.EDSTT.EDSTT m

end Sys2Proof.Machine
end

