-- ==== Sys2Proof/Machine/Startup.lean ====
section
/-! DEFINITION. The start sequence: fuses, flash directory, image copies, DRAM training, the image applied, failsafe, and overlay
passes (R15, R22, R227, R357 to R372, R399). -/

namespace Sys2Proof.Machine
open Sys2Proof

/-! ### Copies and failsafe -/

/-- The result field of an image copy in CFG.COPY. -/
def copyField (c : Nat) : FieldAt := if c = 0 then Fld.CFG.COPY.RESULT_A else Fld.CFG.COPY.RESULT_B

/-- The copies in the order of R358: the directory's preferred one first, else A. -/
def State.copyOrder (s : State) : List Nat :=
  match s.flash.bind dirPick with
  | some d => let p := byteAt d 8 % 2; [p, 1 - p]
  | none => [0, 1]

/-- The next copy to try: one whose code is 0 or 1 (R365). -/
def State.nextCopy (s : State) : Option Nat := s.copyOrder.find? fun c => decide (s.get (copyField c) < 2)

/-- FAILSAFE_ENTRY (R366): no copy is accepted. (DEDUCED, log entry 120.) -/
def State.failsafe (s : State) : State :=
  let s1 := (s.put Fld.CFG.COPY.RUNNING 2).put Fld.TOP.STATUS.MODE 2
  let s2 := (s1.mslExtend 8 (Config.sha384 (leBytes 4 (s1.regN Reg.CFG.COPY)))).condOn 33
  let s3 := ((s2.put Fld.EPF.BAR2_CFG.LOG2 30).wr64 Reg.EPF.BAR2_MAP_LO 0).setN Reg.EPF.SB_CFG 0x10032
  let s4 := (s3.sealSet.modBoot fun b => { b with phase := 9 }).epEnable true
  if s4.epState = epNotReady then s4.setEp epReady else s4

/-- A copy is refused with a code (R365). -/
def State.copyRefused (s : State) (code : Nat) : State := (s.put (copyField s.boot.copy) code).raise 32

/-- Take up the next copy, or failsafe. -/
def State.copyNext (s : State) : State :=
  match s.nextCopy with
  | some c => s.modBoot fun b => { b with copy := c, phase := 2 }
  | none => s.failsafe

/-! ### Fuses and the directory -/

/-- Load the fuse array (R357): what the registers show of it, and MSL0 and MSL2 (R372). (PRESUMED, log entry 119.) -/
def State.fuseShow (s : State) (f : Fuses) : State :=
  let s1 := ((s.on Fld.CFG.STATUS.FUSE_DONE).put Fld.CFG.STATUS.GRADE f.grade).putB Fld.CFG.STATUS.OWNER_SET f.ownerHash.isSome
  let s2 := ((s1.wr64 Reg.CFG.UID_LO f.uid).put Fld.CFG.SVN.FLOOR f.svnFloor).setN Reg.EPF.ID (0x4832 * 2 ^ 16 + f.vendorId % 2 ^ 16)
  let s3 := (List.range 7).foldl (fun s n => s.wr64 (Reg.FAB_E.MAC_LO n) ((f.mac + n) % 2 ^ 48)) s2
  let s4 := (s3.mslExtend 0 Config.bootRomDigest).mslExtend 0 (Config.sha384 (leBytes 1 f.grade ++ leBytes 1 f.svnFloor))
  s4.mslExtend 2 f.rootHash

/-- The flash is read (R358, R411): its identity and size, which only the fitted part gives, are open. -/
def State.flashShow (s : State) (f : FlashImage) : State :=
  let (i, s1) := s.fresh 21
  let (z, s2) := s1.fresh 21
  let s3 := (((s2.setN Reg.SIO.SPI_ID (i % 2 ^ 24)).setN Reg.SIO.SPI_SIZE (z % 2 ^ 16)).setN Reg.SIO.SPI_STATUS 3).on Fld.SIO.STATUS.SPI_READY
  s3.putB Fld.CFG.STATUS.DIR_VALID (dirPick f).isSome

/-- Steps 3 to 5 of R364.  The fuses and the flash are the operand's at the first start; later starts find them as this part
has left them. (DEDUCED, log entry 118.) -/
def State.fuseLoaded (s : State) (fuses : Fuses) (flash : FlashImage) : State :=
  let fu := s.fuse.getD fuses
  let fl := s.flash.getD flash
  let s1 := (((s.setFuse fu).setFlash fl).on Fld.CLK.STATUS.ROOT_LOCK).fuseShow fu
  (s1.flashShow fl).copyNext

/-- FUSE_LOAD_DONE (R357). -/
def execFuseLoadDone (fuses : Fuses) (flash : FlashImage) (s : State) : Host.Outcome State Fault Refusal :=
  .next (if s.aon.coreUp ∧ s.boot.phase = 1 ∧ ¬ s.stopped then s.fuseLoaded fuses flash else s)

/-! ### The image streamed and checked -/

/-- GEN and LEN that the directory gives for a copy. -/
def dirEntry (d : List Byte) (c : Nat) : Nat × Nat := if c = 0 then (leAt d 16 8, leAt d 32 4) else (leAt d 24 8, leAt d 36 4)

/-- MSL1 and MSL3 to MSL6 (R372). -/
def State.measure (s : State) (b : List Byte) : State :=
  let fw := secOf b 3 0
  let s1 := (s.mslExtend 1 (Config.sha384 fw)).mslExtend 1 (Config.sha384 ((fw.drop 4).take 1))
  let s2 := (s1.mslExtend 3 (Config.sha384 (secOf b 4 0))).mslExtend 4 (Config.sha384 (b.take (64 + 16 * byteAt b 6)))
  (overlaysOf b).foldl (fun s n => s.mslExtend 6 (Config.sha384 (secOf b 2 n))) (s2.mslExtend 5 (Config.sha384 (secOf b 1 0)))

/-- Step 6 of R364: the copy is streamed and checked; a refused one is skipped (R365). -/
def State.imageVerified (s : State) : State :=
  match s.fuse, s.flash with
  | some fu, some fl =>
    let b := copyBytes fl s.boot.copy
    let code := imageCheck1 fu (s.get Fld.CFG.SVN.FLOOR) ((dirPick fl).map fun d => dirEntry d s.boot.copy) b
    if code ≠ 0 then (s.copyRefused code).copyNext
    else
      let s1 := ((s.on Fld.CFG.STATUS.FW_VERIFIED).on Fld.CFG.STATUS.OWNER_VERIFIED).put Fld.CFG.SVN.FW_SVN (byteAt (secOf b 3 0) 4)
      (s1.measure b).modBoot fun x => { x with image := b.take (totalLen b), phase := if s1.flag Fld.DDC.STATUS.TRAINED then 4 else 3 }
  | _, _ => s

/-- IMAGE_VERIFIED (R364). -/
def execImageVerified (s : State) : Host.Outcome State Fault Refusal :=
  .next (if s.aon.coreUp ∧ s.boot.phase = 2 ∧ ¬ s.stopped then s.imageVerified.settle else s)

/-- Both channels are trained (R364 step 7, R397). -/
def State.ddrTrained (s : State) (mib us : Nat) : State :=
  let s1 := ((s.setN Reg.DDC.STATUS 7).put Fld.DDC.SIZE.V mib).put Fld.TOP.DRAM_FITTED.V mib
  let s2 := (List.range 2).foldl (fun s h =>
    (s.setN (Reg.DDC_C.STATUS h) 3).setN (Reg.DDC_C.TRAIN_RESULT h) (us % 65536 + 65536 * b2n (s.boot.trainFails != 0))) s1
  (s2.on Fld.CLK.STATUS.DDR_LOCK).modBoot fun b => { b with phase := if b.phase = 3 then 4 else b.phase }

/-- A training that fails (R399): at the second the part enters failsafe.  Which step failed is open. -/
def State.ddrFailed (s : State) : State :=
  let (f, s1) := s.fresh 23
  let s2 := (List.range 2).foldl (fun s h => s.setN (Reg.DDC_C.STATUS h) (16 * (1 + f % 15))) s1
  let s3 := s2.modBoot fun b => { b with trainFails := b.trainFails + 1 }
  if s3.boot.trainFails < 2 then s3
  else
    let s4 := (s3.event Fld.DDC.EVENT.TRAIN_FAIL 1363).event ⟨Reg.DDC_C.EVENT 0, 2, 1⟩ 1363
    if s4.boot.phase = 9 then s4 else s4.failsafe

/-- DDR_TRAINING_DONE (R364, R399): training starts at step 5. (DEDUCED, log entry 121.) -/
def execDdrTrainingDone (ok : Bool) (mib us : Nat) (s : State) : Host.Outcome State Fault Refusal :=
  .next (if ¬ s.aon.coreUp ∨ s.stopped ∨ s.flag Fld.DDC.STATUS.TRAINED ∨ 2 ≤ s.boot.trainFails ∨ ¬ (s.boot.phase = 2 ∨ s.boot.phase = 3 ∨ s.boot.phase = 9)
    then s
    else if ok then s.ddrTrained mib us else s.ddrFailed.settle)

/-! ### Records -/

/-- One write of a record through the firmware path: the masked bits of the register take the value (R362). -/
def State.recWrite (s : State) (w : Nat × Nat × Nat) : State :=
  let (a, m, v) := w
  let old := BitVec.ofNat 32 (s.regNow a)
  let x := if m = 2 ^ 32 - 1 then v else ((old &&& ~~~ BitVec.ofNat 32 m) ||| (BitVec.ofNat 32 v &&& BitVec.ofNat 32 m)).toNat
  (s.writeDword .fw a x).2

/-- A WAIT record (R362): met at once, or met within its time when `met` says so; a key import it waits for has ended then.
(DEDUCED, log entry 122.) -/
def State.recWait (s : State) (met : Bool) (r : PRec) : Bool × State :=
  let holds (s : State) : Bool := (BitVec.ofNat 32 (s.shown .fw r.off) &&& BitVec.ofNat 32 (r.data.getD 0 0)) == BitVec.ofNat 32 (r.data.getD 1 0)
  if holds s then (true, s) else (met, if met then s.importDone else s)

/-- Records in order; false when a WAIT timed out, and the rest is then not applied. -/
def State.records (s : State) (met : Bool) : List PRec → Bool × State
  | [] => (true, s.flushHeld .fw)
  | r :: rest =>
    if r.op = 3 then
      let (ok, s1) := (s.flushHeld .fw).recWait met r
      if ok then s1.records met rest else (false, s1)
    else (r.writes.foldl State.recWrite s).records met rest

/-- The records of overlay `n` of the running image; none for the base alone. -/
def State.overlayRecs (s : State) (n : Nat) : List PRec :=
  if n = 0 then [] else (recsOf (secOf s.boot.image 2 n)).getD []

/-- Registers that records write. -/
def recTargets (l : List PRec) : List Nat := (l.flatMap PRec.writes).map (·.1)

/-! ### The image applied -/

/-- A refusal after the base has begun to apply (R356, R365): registers are written already, so the core is reset with cause
5, and the copy keeps its code. (DEDUCED, log entry 123.) -/
def State.refuseApplied (s : State) (code : Nat) : State := (s.copyRefused code).coreReset 5

/-- What the base left in the registers that overlays write, for the passes of R369. -/
def State.keepBase (s : State) : State :=
  let l := (overlaysOf s.boot.image).flatMap fun n => recTargets (s.overlayRecs n)
  s.modBoot fun b => { b with baseRegs := l.foldl (fun t a => tput t a (BitVec.ofNat 32 (s.regNow a))) [] }

/-- What an accepted image shows (step 8 of R357): its default overlay, its generation, the copy that runs. -/
def State.imageShow (s : State) : State :=
  let b := s.boot.image
  let n := defaultOverlay b
  let s1 := (s.keepBase.records true (s.keepBase.overlayRecs n)).2
  let s2 := ((s1.modBoot fun x => { x with overlay := n }).put Fld.TGS.OVL_STATUS.CURRENT n).setN Reg.TOP.OVL_VALID
    (1 + maskOf 16 fun i => i != 0 && overlayOk b i)
  let s3 := ((s2.on Fld.CFG.STATUS.IMAGE_APPLIED).wr64 Reg.CFG.IMAGE_GEN_LO (leAt b 16 8)).put Fld.CFG.COPY.RUNNING s2.boot.copy
  s3.put (copyField s3.boot.copy) 1

/-- What the part derives from the applied image: the sample ring's place, the routes, the partner, the budget, the sanitize
estimate. (DESIGN CHOICE, log entry 140.) -/
def State.imageDerive (s : State) : State :=
  let (base, s1) := s.fresh 7
  let s2 := (s1.wr64 Reg.PMC.SMP_BASE_LO (base % 2 ^ 37 / 64 * 64)).setN Reg.PMC.SMP_RECORDS 3932160
  (((s2.routesDerive.partnerCheck.dramShow).edsttShow).on Fld.CLK.STATUS.SDS_LOCK)

/-- The rest of step 8 once the base is applied and the layout accepted: the default overlay, the budget, the partner, what
the image fixes, and the seal unless HOLD_SEAL. -/
def State.imageRest (s : State) : State :=
  let s0 := s.modBoot fun b => { b with nqn := Config.imageNqn b.image }
  let s7 := (List.range 8).foldl State.applyGates s0.imageShow.imageDerive
  let s8 := if s7.epState = epNotReady then s7.setEp epReady else s7
  if bit (byteAt s.boot.image 7) 0 then (s8.on Fld.TOP.STATUS.HOLD_SEAL).modBoot fun x => { x with phase := 5 }
  else (s8.sealSet.put Fld.TOP.STATUS.MODE 1).modBoot fun x => { x with phase := 6 }

/-- Step 8 of R364.  Codes 6 and 9 are found before a record is applied (R363): the copy is skipped without a core reset.
(DEDUCED, log entry 123.) -/
def State.imageApply (s : State) (strips : Nat) (met : Bool) : State :=
  let b := s.boot.image
  let c := imageCheck2 (s.regN Reg.TOP.ID) b
  if c ≠ 0 then (s.copyRefused c).copyNext
  else
    let (ok, s1) := s.records met ((recsOf (secOf b 1 0)).getD [])
    if ¬ ok then s1.refuseApplied 8
    else
      let s2 := s1.layoutCheck strips
      if s2.get Fld.STR.STATUS.CHECK ≠ 0 then s2.refuseApplied 7 else s2.imageRest

/-- IMAGE_APPLY (R364): `strips` is the size in strips of the smallest member of the layout, `waitsMet` whether the conditions
that WAIT records wait for come in time. -/
def execImageApply (strips : Nat) (waitsMet : Bool) (s : State) : Host.Outcome State Fault Refusal :=
  .next (if s.aon.coreUp ∧ s.boot.phase = 4 ∧ ¬ s.stopped then (s.imageApply strips waitsMet).settle else s)

/-! ### Overlay passes -/

/-- A register that step 1 of R369 does not restore: write-only, sealed, or a shadow register. -/
def notRestored (a : Nat) : Bool :=
  (match rowAt a with | some r => r.rw == 0 | none => true)
    || (decide (Reg.TGS.L_BASE_LO ≤ a) && decide (a ≤ Reg.TGS.L_INTERVAL)) || (decide (Reg.TGS.CAL_BASE_LO ≤ a) && decide (a ≤ Reg.TGS.CAL_ACTION))
    || (decide (Reg.FAB.WIN_CTRL ≤ a) && decide (a ≤ Reg.FAB.WIN_LEN_HI)) || (decide (Reg.SWC.TBL_SELECT ≤ a) && decide (a ≤ Reg.SWC.TBL_COMMIT))

/-- Overlay `m` takes effect in place of the one in force (R227, R369). (DEDUCED, log entry 128.) -/
def State.overlayPass (s : State) (m : Nat) : State :=
  let old := recTargets (s.overlayRecs s.boot.overlay)
  let new := s.overlayRecs m
  let back := old.filter fun a => !decide (a ∈ recTargets new) && !notRestored a
  let s1 := (back.foldl (fun s a => (s.writeDword .fw a (tgetD s.boot.baseRegs a 0).toNat).2) s).flushHeld .fw
  let s2 := ((s1.records true new).2.modBoot fun b => { b with overlay := m }).put Fld.TGS.OVL_STATUS.CURRENT m
  let s3 := (s2.event Fld.TGS.EVENT.OVL_APPLIED 131).edsttShow
  if s3.boot.phase < 7 then s3 else s3.darkChange s3.chooseDark

/-- OVERLAY_APPLY (R226, R227, R369): the calendar's overlay, or the one management software asked for: at its boundary while a
power list runs, else 1 µs after the request. -/
def execOverlayApply (s : State) : Host.Outcome State Fault Refusal :=
  if ¬ s.aon.coreUp then .next s else
  .next (if ¬ s.flag Fld.CFG.STATUS.IMAGE_APPLIED ∨ s.stopped then s
    else match s.tg.ovlDue, s.boot.ovlReqs with
      | some m, _ => ((s.modTg fun t => { t with ovlDue := none }).ovlShow.overlayPass m).settle
      | none, (n, made) :: r =>
        if (s.glist 7).running.isSome then s
        else ((((s.advTo (made + 1000)).modBoot fun b => { b with ovlReqs := r }).ovlShow).overlayPass n).settle
      | none, [] => s)

end Sys2Proof.Machine
end

