-- ==== Sys2Proof/Machine/Dispatch.lean ====
section
/-! DEFINITION. One arm per command: the direct call of its meaning. -/

namespace Sys2Proof.Machine

def exec (i : Instr) (s : State) : Host.Outcome State Fault Refusal :=
  match i with
  | .refMeasure off => Sys2Proof.Machine.execRefMeasure off s
  | .refLost => Sys2Proof.Machine.execRefLost s
  | .clkLockLost => Sys2Proof.Machine.execClkLockLost s
  | .alwaysOnRelease => Sys2Proof.Machine.execAlwaysOnRelease s
  | .porstAssert => Sys2Proof.Machine.execPorstAssert s
  | .supplyOutOfRange supply => Sys2Proof.Machine.execSupplyOutOfRange supply s
  | .coreResetRelease => Sys2Proof.Machine.execCoreResetRelease s
  | .fuseLoadDone fuses flash => Sys2Proof.Machine.execFuseLoadDone fuses flash s
  | .imageVerified => Sys2Proof.Machine.execImageVerified s
  | .ddrTrainingDone ok mib us => Sys2Proof.Machine.execDdrTrainingDone ok mib us s
  | .imageApply strips waitsMet => Sys2Proof.Machine.execImageApply strips waitsMet s
  | .sealGo => Sys2Proof.Machine.execSealGo s
  | .slotDiscovery present => Sys2Proof.Machine.execSlotDiscovery present s
  | .replay readable holds fixed bad => Sys2Proof.Machine.execReplay readable holds fixed bad s
  | .pfailFall => Sys2Proof.Machine.execPfailFall s
  | .pfailRise => Sys2Proof.Machine.execPfailRise s
  | .dumpComplete us bad => Sys2Proof.Machine.execDumpComplete us bad s
  | .cfgStage => Sys2Proof.Machine.execCfgStage s
  | .stageComplete ok => Sys2Proof.Machine.execStageComplete ok s
  | .cfgActivate => Sys2Proof.Machine.execCfgActivate s
  | .cfgRaiseSvn => Sys2Proof.Machine.execCfgRaiseSvn s
  | .cfgOwnerFuse => Sys2Proof.Machine.execCfgOwnerFuse s
  | .cfgExtend arg => Sys2Proof.Machine.execCfgExtend arg s
  | .ovlRequest ovl => Sys2Proof.Machine.execOvlRequest ovl s
  | .overlayApply => Sys2Proof.Machine.execOverlayApply s
  | .getVersion carrier sender => Sys2Proof.Machine.execGetVersion carrier sender s
  | .getCapabilities carrier sender => Sys2Proof.Machine.execGetCapabilities carrier sender s
  | .negotiateAlgorithms carrier sender p384 sha384 => Sys2Proof.Machine.execNegotiateAlgorithms carrier sender p384 sha384 s
  | .getDigests carrier sender => Sys2Proof.Machine.execGetDigests carrier sender s
  | .getCertificate carrier sender slot off len => Sys2Proof.Machine.execGetCertificate carrier sender slot off len s
  | .challenge carrier sender slot nonce => Sys2Proof.Machine.execChallenge carrier sender slot nonce s
  | .getMeasurements carrier sender index sign nonce => Sys2Proof.Machine.execGetMeasurements carrier sender index sign nonce s
  | .setEndpointId carrier eid => Sys2Proof.Machine.execSetEndpointId carrier eid s
  | .getEndpointId carrier => Sys2Proof.Machine.execGetEndpointId carrier s
  | .getEndpointUuid carrier => Sys2Proof.Machine.execGetEndpointUuid carrier s
  | .getMctpVersionSupport carrier msgType => Sys2Proof.Machine.execGetMctpVersionSupport carrier msgType s
  | .getMessageTypeSupport carrier => Sys2Proof.Machine.execGetMessageTypeSupport carrier s
  | .securitySend cntlid cid sgl req => Sys2Proof.Machine.execSecuritySend cntlid cid sgl req s
  | .securityReceive cntlid cid alloc sgl => Sys2Proof.Machine.execSecurityReceive cntlid cid alloc sgl s
  | .fabricsConnect conn port qid cntlid sqsize hsqsize kato cid nqn => Sys2Proof.Machine.execFabricsConnect conn port qid cntlid sqsize hsqsize kato cid nqn s
  | .propertyGet cntlid cid off => Sys2Proof.Machine.execPropertyGet cntlid cid off s
  | .propertySet cntlid cid off value => Sys2Proof.Machine.execPropertySet cntlid cid off value s
  | .fabricsDisconnect cntlid qid cid => Sys2Proof.Machine.execFabricsDisconnect cntlid qid cid s
  | .identify cntlid cid cns csi nsid sgl => Sys2Proof.Machine.execIdentify cntlid cid cns csi nsid sgl s
  | .getLogPage cntlid cid lid nsid off len sgl => Sys2Proof.Machine.execGetLogPage cntlid cid lid nsid off len sgl s
  | .setFeatures cntlid cid fid value => Sys2Proof.Machine.execSetFeatures cntlid cid fid value s
  | .getFeatures cntlid cid fid => Sys2Proof.Machine.execGetFeatures cntlid cid fid s
  | .asyncEventRequest cntlid cid => Sys2Proof.Machine.execAsyncEventRequest cntlid cid s
  | .keepAlive cntlid cid => Sys2Proof.Machine.execKeepAlive cntlid cid s
  | .keepAliveExpiry cntlid => Sys2Proof.Machine.execKeepAliveExpiry cntlid s
  | .abort cntlid cid sqid target => Sys2Proof.Machine.execAbort cntlid cid sqid target s
  | .selftestShort cntlid cid nsid busy => Sys2Proof.Machine.execSelftestShort cntlid cid nsid busy s
  | .selftestExtended cntlid cid nsid busy => Sys2Proof.Machine.execSelftestExtended cntlid cid nsid busy s
  | .selftestAbort cntlid cid stc => Sys2Proof.Machine.execSelftestAbort cntlid cid stc s
  | .selftestSegmentDone failed => Sys2Proof.Machine.execSelftestSegmentDone failed s
  | .vendorRegisterRead cntlid cid off pair => Sys2Proof.Machine.execVendorRegisterRead cntlid cid off pair s
  | .vendorRegisterWrite cntlid cid off value => Sys2Proof.Machine.execVendorRegisterWrite cntlid cid off value s
  | .read tag => Sys2Proof.Machine.execRead tag s
  | .flush tag => Sys2Proof.Machine.execFlush tag s
  | .write tag => Sys2Proof.Machine.execWrite tag s
  | .writeZeroes tag => Sys2Proof.Machine.execWriteZeroes tag s
  | .datasetManagement tag => Sys2Proof.Machine.execDatasetManagement tag s
  | .zoneAppend tag => Sys2Proof.Machine.execZoneAppend tag s
  | .zoneOpen tag => Sys2Proof.Machine.execZoneOpen tag s
  | .zoneClose tag => Sys2Proof.Machine.execZoneClose tag s
  | .zoneFinish tag => Sys2Proof.Machine.execZoneFinish tag s
  | .zoneReset tag => Sys2Proof.Machine.execZoneReset tag s
  | .zoneOffline tag => Sys2Proof.Machine.execZoneOffline tag s
  | .zoneMgmtReceive tag => Sys2Proof.Machine.execZoneMgmtReceive tag s
  | .commandAccept fixed => Sys2Proof.Machine.execCommandAccept fixed s
  | .backgroundWindowEnd slot => Sys2Proof.Machine.execBackgroundWindowEnd slot s
  | .nsCreate => Sys2Proof.Machine.execNsCreate s
  | .nsDelete => Sys2Proof.Machine.execNsDelete s
  | .nsDeleteComplete => Sys2Proof.Machine.execNsDeleteComplete s
  | .failbackRequest => Sys2Proof.Machine.execFailbackRequest s
  | .failbackOwnershipPass fixed bad => Sys2Proof.Machine.execFailbackOwnershipPass fixed bad s
  | .zoneSelectLoad zone => Sys2Proof.Machine.execZoneSelectLoad zone s
  | .hostInvalidate host => Sys2Proof.Machine.execHostInvalidate host s
  | .hostAccessMapWrite host m value => Sys2Proof.Machine.execHostAccessMapWrite host m value s
  | .strProbe pos => Sys2Proof.Machine.execStrProbe pos s
  | .slotRecomputeDone slot io => Sys2Proof.Machine.execSlotRecomputeDone slot io s
  | .reconstructionStart job => Sys2Proof.Machine.execReconstructionStart job s
  | .reconstructionDone job => Sys2Proof.Machine.execReconstructionDone job s
  | .berylShareWindowEnd => Sys2Proof.Machine.execBerylShareWindowEnd s
  | .darkEpochBoundary => Sys2Proof.Machine.execDarkEpochBoundary s
  | .idleTimeout slot => Sys2Proof.Machine.execIdleTimeout slot s
  | .activationDone slot => Sys2Proof.Machine.execActivationDone slot s
  | .memberShutdownComplete slot => Sys2Proof.Machine.execMemberShutdownComplete slot s
  | .shutdownWaitTimeout slot waitMs => Sys2Proof.Machine.execShutdownWaitTimeout slot waitMs s
  | .wakeComplete slot drive sealOk ms => Sys2Proof.Machine.execWakeComplete slot drive sealOk ms s
  | .wakeTimeout slot => Sys2Proof.Machine.execWakeTimeout slot s
  | .deferExpiry req => Sys2Proof.Machine.execDeferExpiry req s
  | .pwrConfigWrite which value => Sys2Proof.Machine.execPwrConfigWrite which value s
  | .darkTimeRecord => Sys2Proof.Machine.execDarkTimeRecord s
  | .journalRecordWritten jseq bad staged => Sys2Proof.Machine.execJournalRecordWritten jseq bad staged s
  | .tailWriteComplete slot idx tag bad => Sys2Proof.Machine.execTailWriteComplete slot idx tag bad s
  | .chunkWearCopy chunk free fixed => Sys2Proof.Machine.execChunkWearCopy chunk free fixed s
  | .checkpointStart => Sys2Proof.Machine.execCheckpointStart s
  | .checkpointCommit io => Sys2Proof.Machine.execCheckpointCommit io s
  | .ringCopyStream io => Sys2Proof.Machine.execRingCopyStream io s
  | .keeperCopyDone io => Sys2Proof.Machine.execKeeperCopyDone io s
  | .mirrorRecordReceive path mseq body bad => Sys2Proof.Machine.execMirrorRecordReceive path mseq body bad s
  | .mirrorAckReceive path upTo out => Sys2Proof.Machine.execMirrorAckReceive path upTo out s
  | .mirrorRetxTimeout mseq => Sys2Proof.Machine.execMirrorRetxTimeout mseq s
  | .mirrorPathDown path => Sys2Proof.Machine.execMirrorPathDown path s
  | .heartbeatSend => Sys2Proof.Machine.execHeartbeatSend s
  | .heartbeatReceive path sent role keyWait => Sys2Proof.Machine.execHeartbeatReceive path sent role keyWait s
  | .partnerSilent => Sys2Proof.Machine.execPartnerSilent s
  | .reservationResult first fixed bad => Sys2Proof.Machine.execReservationResult first fixed bad s
  | .verifyRecordSend => Sys2Proof.Machine.execVerifyRecordSend s
  | .linkDownAbsent slot => Sys2Proof.Machine.execLinkDownAbsent slot s
  | .absentHoldExpiry col => Sys2Proof.Machine.execAbsentHoldExpiry col s
  | .driveAdmissionCheck slot drive => Sys2Proof.Machine.execDriveAdmissionCheck slot drive s
  | .memberFailCmd slot => Sys2Proof.Machine.execMemberFailCmd slot s
  | .memberAdopt slot => Sys2Proof.Machine.execMemberAdopt slot s
  | .memberClearRefused slot => Sys2Proof.Machine.execMemberClearRefused slot s
  | .scrubStart => Sys2Proof.Machine.execScrubStart s
  | .scrubStop => Sys2Proof.Machine.execScrubStop s
  | .rebuildStripe col io => Sys2Proof.Machine.execRebuildStripe col io s
  | .resyncStrip col io => Sys2Proof.Machine.execResyncStrip col io s
  | .copybackStripe col io => Sys2Proof.Machine.execCopybackStripe col io s
  | .scrubStripe io => Sys2Proof.Machine.execScrubStripe io s
  | .repairDone col stripe io => Sys2Proof.Machine.execRepairDone col stripe io s
  | .frameArrival port f => Sys2Proof.Machine.execFrameArrival port f s
  | .rcRequestReceive conn port pkt => Sys2Proof.Machine.execRcRequestReceive conn port pkt s
  | .ackReceive conn psn ce => Sys2Proof.Machine.execAckReceive conn psn ce s
  | .nakSequenceErrorReceive conn psn ce => Sys2Proof.Machine.execNakSequenceErrorReceive conn psn ce s
  | .nakErrorReceive conn kind ce => Sys2Proof.Machine.execNakErrorReceive conn kind ce s
  | .rnrNakReceive conn psn ce => Sys2Proof.Machine.execRnrNakReceive conn psn ce s
  | .rnrRetryTimerExpiry conn => Sys2Proof.Machine.execRnrRetryTimerExpiry conn s
  | .ackTimeout conn => Sys2Proof.Machine.execAckTimeout conn s
  | .ackCoalesceExpiry conn => Sys2Proof.Machine.execAckCoalesceExpiry conn s
  | .readResponseReceive conn psn ce blks => Sys2Proof.Machine.execReadResponseReceive conn psn ce blks s
  | .rdmaReadIssue tag => Sys2Proof.Machine.execRdmaReadIssue tag s
  | .windowWriteReceive conn psn first last ackReq ce key addr len data => Sys2Proof.Machine.execWindowWriteReceive conn psn first last ackReq ce key addr len data s
  | .windowReadRequest conn psn ce key addr len => Sys2Proof.Machine.execWindowReadRequest conn psn ce key addr len s
  | .cnpReceive conn => Sys2Proof.Machine.execCnpReceive conn s
  | .ccRateIncrease conn => Sys2Proof.Machine.execCcRateIncrease conn s
  | .cmReq port peer privLen recfmt hsqsize ird dscp pmtu psn host => Sys2Proof.Machine.execCmReq port peer privLen recfmt hsqsize ird dscp pmtu psn host s
  | .cmDreqReceive conn => Sys2Proof.Machine.execCmDreqReceive conn s
  | .setupTimeout conn => Sys2Proof.Machine.execSetupTimeout conn s
  | .contextFetchDone conn ns => Sys2Proof.Machine.execContextFetchDone conn ns s
  | .deadlineScan => Sys2Proof.Machine.execDeadlineScan s
  | .winCommit => Sys2Proof.Machine.execWinCommit s
  | .winOldRelease => Sys2Proof.Machine.execWinOldRelease s
  | .responderResourceTimeout conn psn => Sys2Proof.Machine.execResponderResourceTimeout conn psn s
  | .pfcFrameReceive port enable quanta => Sys2Proof.Machine.execPfcFrameReceive port enable quanta s
  | .pfcWatchdogExpiry port prio => Sys2Proof.Machine.execPfcWatchdogExpiry port prio s
  | .pfcStormEnd port prio => Sys2Proof.Machine.execPfcStormEnd port prio s
  | .portLinkUp port => Sys2Proof.Machine.execPortLinkUp port s
  | .portLinkDown port => Sys2Proof.Machine.execPortLinkDown port s
  | .forwardedCommandReceive cap blks => Sys2Proof.Machine.execForwardedCommandReceive cap blks s
  | .egressFrameStart port => Sys2Proof.Machine.execEgressFrameStart port s
  | .frameAgeDrop port tc => Sys2Proof.Machine.execFrameAgeDrop port tc s
  | .pfcXoffRefresh port prio => Sys2Proof.Machine.execPfcXoffRefresh port prio s
  | .neighAgeOut index => Sys2Proof.Machine.execNeighAgeOut index s
  | .tblCommitEntry => Sys2Proof.Machine.execTblCommitEntry s
  | .tblCommitAddress => Sys2Proof.Machine.execTblCommitAddress s
  | .tblSelectLoad value => Sys2Proof.Machine.execTblSelectLoad value s
  | .identityFrameSend port => Sys2Proof.Machine.execIdentityFrameSend port s
  | .identityFrameReceive port board dev peerPort devices smac => Sys2Proof.Machine.execIdentityFrameReceive port board dev peerPort devices smac s
  | .topoNoPeerTimeout port => Sys2Proof.Machine.execTopoNoPeerTimeout port s
  | .ptpMessageReceive port kind mine offset state parent => Sys2Proof.Machine.execPtpMessageReceive port kind mine offset state parent s
  | .syncLossTimeout => Sys2Proof.Machine.execSyncLossTimeout s
  | .ptpSyncSend port => Sys2Proof.Machine.execPtpSyncSend port s
  | .ppsInEdge => Sys2Proof.Machine.execPpsInEdge s
  | .ppsInLost => Sys2Proof.Machine.execPpsInLost s
  | .ppsOutRise => Sys2Proof.Machine.execPpsOutRise s
  | .ppsOutFall => Sys2Proof.Machine.execPpsOutFall s
  | .ptpSetGo => Sys2Proof.Machine.execPtpSetGo s
  | .ptpTimeSet => Sys2Proof.Machine.execPtpTimeSet s
  | .gateEntryStart list => Sys2Proof.Machine.execGateEntryStart list s
  | .listCommit => Sys2Proof.Machine.execListCommit s
  | .listStart list => Sys2Proof.Machine.execListStart list s
  | .shaperRefill => Sys2Proof.Machine.execShaperRefill s
  | .policerRefill => Sys2Proof.Machine.execPolicerRefill s
  | .dmaDoorbell path ch => Sys2Proof.Machine.execDmaDoorbell path ch s
  | .dmaStop path ch => Sys2Proof.Machine.execDmaStop path ch s
  | .dmaReset path ch => Sys2Proof.Machine.execDmaReset path ch s
  | .descFetchDone ch ecc => Sys2Proof.Machine.execDescFetchDone ch ecc s
  | .dmaReadBurst data err => Sys2Proof.Machine.execDmaReadBurst data err s
  | .dmaWriteBurst err => Sys2Proof.Machine.execDmaWriteBurst err s
  | .dmaWriteComplete ch err => Sys2Proof.Machine.execDmaWriteComplete ch err s
  | .tailRefetch ch ecc => Sys2Proof.Machine.execTailRefetch ch ecc s
  | .periphRequestChange line asserted => Sys2Proof.Machine.execPeriphRequestChange line asserted s
  | .periphFinalRequest line count data => Sys2Proof.Machine.execPeriphFinalRequest line count data s
  | .keyImport => Sys2Proof.Machine.execKeyImport s
  | .keyImportDone => Sys2Proof.Machine.execKeyImportDone s
  | .keyZeroiseSlot slot => Sys2Proof.Machine.execKeyZeroiseSlot slot s
  | .keyZeroiseAll => Sys2Proof.Machine.execKeyZeroiseAll s
  | .zeroiseDone => Sys2Proof.Machine.execZeroiseDone s
  | .tamperAlarm detector => Sys2Proof.Machine.execTamperAlarm detector s
  | .aesFloorWindowEnd => Sys2Proof.Machine.execAesFloorWindowEnd s
  | .perstRelease slot => Sys2Proof.Machine.execPerstRelease slot s
  | .linkL0Reached slot speed width => Sys2Proof.Machine.execLinkL0Reached slot speed width s
  | .trainingTimeout slot => Sys2Proof.Machine.execTrainingTimeout slot s
  | .portConfigured slot critWarn => Sys2Proof.Machine.execPortConfigured slot critWarn s
  | .linkLeavesL0 slot => Sys2Proof.Machine.execLinkLeavesL0 slot s
  | .recoveryTimeout slot => Sys2Proof.Machine.execRecoveryTimeout slot s
  | .portQuiesced slot => Sys2Proof.Machine.execPortQuiesced slot s
  | .memberRequestIssue slot => Sys2Proof.Machine.execMemberRequestIssue slot s
  | .memberCompletion slot tag status blks => Sys2Proof.Machine.execMemberCompletion slot tag status blks s
  | .completionTimeout slot tag => Sys2Proof.Machine.execCompletionTimeout slot tag s
  | .tagQuarantineEnd slot tag => Sys2Proof.Machine.execTagQuarantineEnd slot tag s
  | .memberInboundWrite slot addr bytes => Sys2Proof.Machine.execMemberInboundWrite slot addr bytes s
  | .memberInboundRead slot addr len => Sys2Proof.Machine.execMemberInboundRead slot addr len s
  | .memberAsyncEvent slot critWarn => Sys2Proof.Machine.execMemberAsyncEvent slot critWarn s
  | .presenceChange slot present => Sys2Proof.Machine.execPresenceChange slot present s
  | .buttonPress slot => Sys2Proof.Machine.execButtonPress slot s
  | .buttonWindowExpiry slot => Sys2Proof.Machine.execButtonWindowExpiry slot s
  | .slotRemoveRequest slot => Sys2Proof.Machine.execSlotRemoveRequest slot s
  | .miPoll slot sample => Sys2Proof.Machine.execMiPoll slot sample s
  | .miBusStuck chain stillHeld => Sys2Proof.Machine.execMiBusStuck chain stillHeld s
  | .miSuspendEnd chain => Sys2Proof.Machine.execMiSuspendEnd chain s
  | .portEnableWrite slot enable => Sys2Proof.Machine.execPortEnableWrite slot enable s
  | .memberCfgRead slot => Sys2Proof.Machine.execMemberCfgRead slot s
  | .memberCfgWrite slot => Sys2Proof.Machine.execMemberCfgWrite slot s
  | .memberCfgDone slot result data => Sys2Proof.Machine.execMemberCfgDone slot result data s
  | .dclkStop k => Sys2Proof.Machine.execDclkStop k s
  | .slotDemand slot => Sys2Proof.Machine.execSlotDemand slot s
  | .rampGrant slot senseMv => Sys2Proof.Machine.execRampGrant slot senseMv s
  | .rampComplete slot us bad => Sys2Proof.Machine.execRampComplete slot us bad s
  | .inrushTimerExpiry slot => Sys2Proof.Machine.execInrushTimerExpiry slot s
  | .fastTrip slot => Sys2Proof.Machine.execFastTrip slot s
  | .diodeMeasure slot temp16 => Sys2Proof.Machine.execDiodeMeasure slot temp16 s
  | .thermalModelUpdate slot powerMw => Sys2Proof.Machine.execThermalModelUpdate slot powerMw s
  | .overloadEntry slot curMa voutMv limiting => Sys2Proof.Machine.execOverloadEntry slot curMa voutMv limiting s
  | .pgReturn slot => Sys2Proof.Machine.execPgReturn slot s
  | .faultTimerExpiry slot => Sys2Proof.Machine.execFaultTimerExpiry slot s
  | .backoffExpiry slot => Sys2Proof.Machine.execBackoffExpiry slot s
  | .attemptReset slot => Sys2Proof.Machine.execAttemptReset slot s
  | .slotDemandWithdrawn slot => Sys2Proof.Machine.execSlotDemandWithdrawn slot s
  | .shutdownComplete slot => Sys2Proof.Machine.execShutdownComplete slot s
  | .minOffExpiry slot => Sys2Proof.Machine.execMinOffExpiry slot s
  | .slotClear slot => Sys2Proof.Machine.execSlotClear slot s
  | .openSenseInjection slotMv feedMv => Sys2Proof.Machine.execOpenSenseInjection slotMv feedMv s
  | .feedUnusable feed mv => Sys2Proof.Machine.execFeedUnusable feed mv s
  | .feedQualified feed mv => Sys2Proof.Machine.execFeedQualified feed mv s
  | .feedDeadTimeExpiry => Sys2Proof.Machine.execFeedDeadTimeExpiry s
  | .feedSwitchComplete => Sys2Proof.Machine.execFeedSwitchComplete s
  | .feedUvMaskEnd => Sys2Proof.Machine.execFeedUvMaskEnd s
  | .feedRevert => Sys2Proof.Machine.execFeedRevert s
  | .feedReversed feed mv => Sys2Proof.Machine.execFeedReversed feed mv s
  | .feedReverseClear feed => Sys2Proof.Machine.execFeedReverseClear feed s
  | .shelfStopCmd => Sys2Proof.Machine.execShelfStopCmd s
  | .shelfResume => Sys2Proof.Machine.execShelfResume s
  | .epPerstChange high => Sys2Proof.Machine.execEpPerstChange high s
  | .epLinkUp speed width => Sys2Proof.Machine.execEpLinkUp speed width s
  | .epLinkDown => Sys2Proof.Machine.execEpLinkDown s
  | .functionLevelReset => Sys2Proof.Machine.execFunctionLevelReset s
  | .epEnableWrite enable => Sys2Proof.Machine.execEpEnableWrite enable s
  | .funcResetDone => Sys2Proof.Machine.execFuncResetDone s
  | .epConfigRequest awrite off value => Sys2Proof.Machine.execEpConfigRequest awrite off value s
  | .bar2Read off len uncorrectable => Sys2Proof.Machine.execBar2Read off len uncorrectable s
  | .bar2Write off bytes poisoned => Sys2Proof.Machine.execBar2Write off bytes poisoned s
  | .msixTableWrite off value => Sys2Proof.Machine.execMsixTableWrite off value s
  | .epCompletionTimeout ch => Sys2Proof.Machine.execEpCompletionTimeout ch s
  | .sbRegisterRead off pecOk => Sys2Proof.Machine.execSbRegisterRead off pecOk s
  | .sbRegisterWrite off value pecOk => Sys2Proof.Machine.execSbRegisterWrite off value pecOk s
  | .sbStatusRead => Sys2Proof.Machine.execSbStatusRead s
  | .lockWrite path value => Sys2Proof.Machine.execLockWrite path value s
  | .lockTimeout => Sys2Proof.Machine.execLockTimeout s
  | .tocsinPulseEnd => Sys2Proof.Machine.execTocsinPulseEnd s
  | .tocsinRestart => Sys2Proof.Machine.execTocsinRestart s
  | .pendClear m value => Sys2Proof.Machine.execPendClear m value s
  | .fltClearFirst => Sys2Proof.Machine.execFltClearFirst s
  | .coreResetCmd => Sys2Proof.Machine.execCoreResetCmd s
  | .haltHoldExpiry => Sys2Proof.Machine.execHaltHoldExpiry s
  | .coreWatchdogMiss => Sys2Proof.Machine.execCoreWatchdogMiss s
  | .carillonRecordWrite lineBad => Sys2Proof.Machine.execCarillonRecordWrite lineBad s
  | .evrFreezeWrite value => Sys2Proof.Machine.execEvrFreezeWrite value s
  | .freezeExpiry => Sys2Proof.Machine.execFreezeExpiry s
  | .carillonClear path => Sys2Proof.Machine.execCarillonClear path s
  | .userRecord tag => Sys2Proof.Machine.execUserRecord tag s
  | .recordLatch slot => Sys2Proof.Machine.execRecordLatch slot s
  | .counterClearSel => Sys2Proof.Machine.execCounterClearSel s
  | .counterClearAll => Sys2Proof.Machine.execCounterClearAll s
  | .bwWindowEnd => Sys2Proof.Machine.execBwWindowEnd s
  | .registerWrite path off value len => Sys2Proof.Machine.execRegisterWrite path off value len s
  | .rcRegisterRead path off len => Sys2Proof.Machine.execRcRegisterRead path off len s
  | .pairLowRead path off => Sys2Proof.Machine.execPairLowRead path off s
  | .pairLowWriteTimeout path => Sys2Proof.Machine.execPairLowWriteTimeout path s
  | .dramEccCorrected ch addr devs => Sys2Proof.Machine.execDramEccCorrected ch addr devs s
  | .dramEccUncorrectable ch addr devs requester => Sys2Proof.Machine.execDramEccUncorrectable ch addr devs requester s
  | .tablePageReloadDone page => Sys2Proof.Machine.execTablePageReloadDone page s
  | .patrolPassDone ch => Sys2Proof.Machine.execPatrolPassDone ch s
  | .dramHot ch temp => Sys2Proof.Machine.execDramHot ch temp s
  | .dramCool ch temp => Sys2Proof.Machine.execDramCool ch temp s
  | .sidebandXferStart k => Sys2Proof.Machine.execSidebandXferStart k s
  | .sidebandXferDone k result bytes => Sys2Proof.Machine.execSidebandXferDone k result bytes s
  | .refReturn => Sys2Proof.Machine.execRefReturn s
  | .rootPllRelock => Sys2Proof.Machine.execRootPllRelock s
  | .controllerFatalStatus slot => Sys2Proof.Machine.execControllerFatalStatus slot s
  | .controllerReadyTimeout slot => Sys2Proof.Machine.execControllerReadyTimeout slot s
  | .gateChargePumpUv ana => Sys2Proof.Machine.execGateChargePumpUv ana s
  | .announceReceiptTimeout port newState => Sys2Proof.Machine.execAnnounceReceiptTimeout port newState s
  | .tocsinAliveEdge => Sys2Proof.Machine.execTocsinAliveEdge s
  | .pfcPauseExpiry port prio => Sys2Proof.Machine.execPfcPauseExpiry port prio s
  | .firmwareSourceRaise source => Sys2Proof.Machine.execFirmwareSourceRaise source s

end Sys2Proof.Machine
end

