-- ==== Sys2Proof/Machine/Compact.lean ====
section
/-! DEFINITION. Background compaction of the conventional log (R39, R41, R122): what the part starts by itself while no command
waits. -/

namespace Sys2Proof.Machine
open Sys2Proof

/-- The map entries that name a block of zone `z`: its live blocks (R39). -/
def State.logLive (s : State) (z : Nat) : List (Nat × Nat) := s.tb.conv.filter fun e => s.zoneOfStripe (e.2 % 2 ^ 40) == z

/-- A map entry's block as an offset in its zone. -/
def State.liveOff (s : State) (v : Nat) : Nat :=
  let st := v % 2 ^ 40
  (st - s.zoneOfStripe st * s.spz) * s.stripeBlocks + v / 2 ^ 40

/-- Nothing is on its way to or from a stripe of zone `z`. -/
def State.logQuiet (s : State) (z : Nat) : Bool :=
  let here (n : Nat) : Bool := s.zoneOfStripe n == z
  !(s.mb.ports.any fun p => p.reqs.any (fun r => here r.stripe) || p.tags.any fun t => here t.2.req.stripe)
    && !(s.mb.deferred.any fun r => here r.stripe) && !(s.mb.downReqs.any fun r => here r.stripe)
    && !(s.mb.recons.any fun x => here x.stripe)

/-- The reset of zone `z` is on its way already. -/
def State.resetUnderWay (s : State) (z : Nat) : Bool :=
  (s.nv.ring.any fun r => decide (s.jseq < r.jseq) && r.body == .zoneState [(z, 1)])
    || s.jn.waitRecs.any fun w => w.1 == .zoneState [(z, 1)]

/-- A log zone may be compacted: Full, with a block that is not live, and no live block lost (R164). -/
def State.logWorn (s : State) (z : Nat) : Bool :=
  (s.zone z).log && (s.zone z).st == 14 && decide ((s.logLive z).length < s.zoneCap)
    && !((s.logLive z).any fun e => s.isLost z (s.liveOff e.2)) && !s.resetUnderWay z

/-- The log zone with the fewest live blocks (R39). (DESIGN CHOICE, log entry 141.) -/
def State.moveZone (s : State) : Option Nat :=
  ((s.tb.zones.map (·.1)).filter s.logWorn).foldl (fun a z => match a with
    | some y => if (s.logLive z).length < (s.logLive y).length then some z else a
    | none => some z) none

/-- The command number that a compaction move has inside the part, beyond every tag of R50. -/
def moveTag : Nat := 65536

/-- A compaction move of the live block that entry `e` of the map names (R41): it is read as Background. -/
def State.moveStart (s : State) (e : Nat × Nat) : State :=
  let (nsid, lba) := (e.1 / 2 ^ 40, e.1 % 2 ^ 40)
  let (st, b) := (e.2 % 2 ^ 40, e.2 / 2 ^ 40)
  let io : IoCmd := ⟨.write, nsid, lba, 1, [], false, 0, 0, 0, 0, .zopen, false, 0, 0, 0, 4096⟩
  let c : Cmd :=
    { cntlid := 65536, qid := 0, cid := 0, cls := 4, io := some io, opcode := 0, order := 0, st := .running, released := true,
      claimed := false, status := 0, dnr := false, since := s.now, started := true, zone := none, base := 0, total := 0, done := 0,
      asked := 0, folded := 0, owed := 0, rdOut := 0, pkts := 0, sent := false, got := [], need := 0, tailMseq := 0, host := 0,
      lba := lba, arrival := s.now, step4 := s.now, relAt := s.now, waited := false, recon := false, move := some (st, b) }
  (s.setCmd moveTag c).routeRead st (b / 16) (b % 16) 1 moveTag 0 4

/-- Compaction goes on (R39, R41): one move at a time from the zone with the fewest live blocks; a zone without any returns to Empty
by a reset of its own. (DESIGN CHOICE, log entry 141.) -/
def State.compact (s : State) : State :=
  if ¬ s.bgOk ∨ ¬ s.flag Fld.GNT.STATUS.REPLAY_DONE ∨ s.get Fld.GNT.STATUS.ROLE = 2 ∨ (s.cmd? moveTag).isSome then s
  else match s.moveZone with
    | none => s
    | some z =>
      match s.logLive z with
      | e :: _ => s.moveStart e
      | [] => if s.logQuiet z then s.recIssue (.zoneState [(z, 1)]) else s

end Sys2Proof.Machine
end

