-- ==== Sys2Proof/Machine/Idle.lean ====
section
/-! DEFINITION. What happens when no command waits: the model's clock advances by one microsecond (log entry 4). -/

namespace Sys2Proof.Machine
open Sys2Proof

/-- A microsecond of Dark time of slot `n`: a whole minute counts in DARK_MINUTES (R98). -/
def State.darkMicro (s : State) (n : Nat) : State :=
  let f := tgetD s.mb.darkFrac n 0 + 1000
  if f < 60000000000 then s.modMb fun m => { m with darkFrac := tput m.darkFrac n f }
  else
    (s.modMb fun m => { m with darkFrac := tdel m.darkFrac n }).modTb fun t =>
      { t with darkMin := t.darkMin.modify n (· + 1) }

/-- Every Dark member gathers a microsecond of Dark time. -/
def State.darkTick (s : State) : State :=
  (s.columns.filter fun c => (s.power c).ps == 4).foldl (fun t c => t.darkMicro (t.slotOfCol c)) s

/-- A microsecond of the reference on PTP time, trimmed by the correction of PTP.ADJ_RATE, signed, in 1/1,024 ppb: a microsecond gains
ADJ_RATE × 2^-10 × 10^-6 ns, of which whole nanoseconds show (R213). -/
def State.ptpTick (s : State) : State :=
  let f := s.tg.rateFrac + (BitVec.ofNat 32 (s.regN Reg.PTP.ADJ_RATE)).toInt
  (s.modTg fun t => { t with rateFrac := f % 1024000000 }).wr64 Reg.PTP.TIME_LO
    ((s.ptpTime : Int) + 1000 + f / 1024000000).toNat

/-- One idle microsecond: the model's clock and PTP time advance (R213, log entry 4), counters of CK_CTRL cycles
count the 400 cycles of a microsecond (R346, R8), Dark members gather Dark time (R98), and compaction of the conventional log goes
on (R41). -/
def idleTick (s : State) : State :=
  let s1 := { s with now := s.now + 1000 }
  if s.aon.coreUp then (s1.ptpTick.count { code := 0x01, n := 400 }).darkTick.compact else s1

end Sys2Proof.Machine
end

