-- ==== Sys2Proof/Machine/Step.lean ====
section
/-! DEFINITION. One step of the block: the command at the front of the queue, or an idle tick. -/

namespace Sys2Proof.Machine
open Sys2Proof

/-- Take the command at the front of the queue and run it with the queue's rest; on an empty queue the block idles
for one microsecond of the model's clock (log entry 4). (DESIGN CHOICE, log entry 1.) -/
def step (s : State) : Host.Outcome State Fault Refusal :=
  match s.pending with
  | [] => .next (idleTick s)
  | c :: r => exec c { s with pending := r }

/-- The state with the command a table word spells put at the front of its queue; the table gives no bits, so no word
spells a command and the state is unchanged. -/
def State.withFetchWord (s : State) (nbits w : Nat) : State :=
  match decodeTableWord nbits w with
  | some c => { s with pending := c :: s.pending }
  | none => s

end Sys2Proof.Machine
end

