-- ==== Sys2Proof/Safety.lean ====
section
/-! DEFINITION. What the claims call a well-kept state, and the conditions under which commands act. -/

namespace Sys2Proof

/-- The commands that reach the always-on domain, or the pins it samples, while the core is held in reset (R355, R356).
(DEDUCED, log entry 15.) -/
def Instr.alwaysOn : Instr → Bool
  | .alwaysOnRelease | .porstAssert | .supplyOutOfRange _ | .coreResetRelease | .pfailFall | .pfailRise | .epPerstChange _ => true
  | _ => false

/-- Commands that change registers and nothing else. -/
def Instr.registersOnly : Instr → Bool
  | .lockTimeout | .fltClearFirst | .refReturn | .feedReverseClear _ | .attemptReset _ | .dramCool _ _ | .dramHot _ _
  | .lockWrite _ _ | .dclkStop _ | .periphRequestChange _ _ | .strProbe _ | .epLinkUp _ _ | .zoneSelectLoad _
  | .tblSelectLoad _ => true
  | _ => false

/-- Commands that send an answer or a frame and change nothing else. -/
def Instr.sendsOnly : Instr → Bool
  | .sbStatusRead | .getEndpointId _ | .getMctpVersionSupport _ _ | .getMessageTypeSupport _ | .getEndpointUuid _
  | .pfcXoffRefresh _ _ | .identityFrameSend _ | .memberInboundRead _ _ _ | .ptpSyncSend _ => true
  | _ => false

/-- The controller whose admin queue carries an SPDM request of carrier 2 (R374). -/
def Instr.adminSender : Instr → Option Nat
  | .challenge k id _ _ | .getCapabilities k id | .getCertificate k id _ _ _ | .getDigests k id | .getMeasurements k id _ _ _
  | .getVersion k id | .negotiateAlgorithms k id _ _ => if k = 2 then some id else none
  | _ => none

/-- The SPDM and MCTP requests that change what the part remembers of a requester (R374, R376, R377). -/
def Instr.attests : Instr → Bool
  | .setEndpointId _ _ | .challenge _ _ _ _ | .getCapabilities _ _ | .getCertificate _ _ _ _ _ | .getDigests _ _
  | .getMeasurements _ _ _ _ _ | .getVersion _ _ | .negotiateAlgorithms _ _ _ _ => true
  | _ => false

/-- Commands that change registers, the always-on domain with its pins and slot channels, and the members' and ports' state, and nothing else. -/
def Instr.shelfOnly : Instr → Bool
  | .alwaysOnRelease | .feedDeadTimeExpiry | .feedUvMaskEnd | .feedRevert | .ppsOutFall | .ppsOutRise
  | .tocsinAliveEdge | .tocsinPulseEnd | .tocsinRestart | .perstRelease _ | .shutdownComplete _ | .slotClear _
  | .shelfResume | .backoffExpiry _ | .minOffExpiry _ | .slotDemand _ | .miSuspendEnd _ | .backgroundWindowEnd _
  | .berylShareWindowEnd | .scrubStop | .tagQuarantineEnd _ _ | .memberCfgDone _ _ _ | .memberInboundWrite _ _ _ => true
  | _ => false

/-- Commands of the switch and of Tabor that change registers and their two blocks' tables, and nothing else. -/
def Instr.switchOnly : Instr → Bool
  | .neighAgeOut _ | .policerRefill | .ptpSetGo | .pfcPauseExpiry _ _ | .pfcStormEnd _ _ | .pfcFrameReceive _ _ _
  | .shaperRefill | .tblCommitAddress | .tblCommitEntry => true
  | _ => false

/-- Commands of Carillon (a record's write with no bad line) and of the checkpoint that change registers, the event blocks, the journal and Garnet, and send, and
nothing else. -/
def Instr.recordsOnly : Instr → Bool
  | .freezeExpiry | .evrFreezeWrite _ | .userRecord _ | .carillonClear _ | .recordLatch _
  | .carillonRecordWrite false | .checkpointStart => true
  | _ => false

/-- The clears of the counters (R349). -/
def Instr.countersOnly : Instr → Bool
  | .counterClearSel | .counterClearAll => true
  | _ => false

/-- Commands of the connections that change registers and the fabric's tables, and send, and nothing else. -/
def Instr.connectionsOnly : Instr → Bool
  | .responderResourceTimeout _ _ | .ccRateIncrease _ => true
  | _ => false

/-- Commands of the connections that may also fetch a context, whose miss the counters and their event count (R189). -/
def Instr.connectionsFetch : Instr → Bool
  | .ackCoalesceExpiry _ | .setupTimeout _ => true
  | _ => false

end Sys2Proof

namespace Sys2Proof.Machine
open Sys2Proof

/-- Strictly rising keys and no entry equal to what an unlisted key stands for. -/
def canonTab {α : Type} [DecidableEq α] (t : Tab α) (d : α) : Bool := risingFrom 0 t && t.all fun x => x.2 ≠ d

/-- The sparse tables of the state stand in their canonical form, so that equal contents are equal data: the register file,
the content of DRAM, the staging buffer of R367. -/
def State.canon (s : State) : Bool := canonTab s.regs 0 && s.dram.wf && s.boot.buffer.wf

/-- Tag `t` holds the command `c`, running and at step 4 of R17 with I/O command `io` on namespace `n`, and the checks of
that step find nothing against it (R63), it waits for no table page (R398), and the device serves it itself: it is Optimized, or the
command came from the partner or moves an implicit close (R43). -/
abbrev State.atStep4 (s : State) (t : Nat) (c : Cmd) (io : IoCmd) (n : Ns) : Prop :=
  s.cmd? t = some c ∧ c.io = some io ∧ c.st = .running ∧ c.started = false ∧ c.claimed = false ∧ s.stopped = false ∧
    s.pageHeld c = false ∧ (s.get Fld.ZMP.ANA.STATE ≠ 2 ∨ s.forwarded c = true ∨ c.move ≠ none) ∧ (s.ioCheck c io).1 = 0 ∧ s.ns? io.nsid = some n

/-- The fuses once loaded stay: the SVN floor only rises, an owner hash once fused stays, nothing else changes. -/
def fusesKept : Option Fuses → Option Fuses → Prop
  | none, _ => True
  | some _, none => False
  | some f, some g => f.svnFloor ≤ g.svnFloor ∧ (f.ownerHash.isSome = true → g.ownerHash = f.ownerHash) ∧
      { g with svnFloor := f.svnFloor, ownerHash := f.ownerHash } = f

end Sys2Proof.Machine
end

