-- ==== Sys2Proof/Certificates/Slice0/Obligations.lean ====
section
/-! DEFINITION. The statements for the provers: what the commands do, what they leave unchanged, and what every step keeps. -/

open Sys2Proof Sys2Proof.Machine

/-- A step runs the command at the front of the queue (00_scope.md). -/
def Obligations.StepRunsTheFrontCommand : Prop :=
  ∀ (c : Instr) (r : List Instr) (s : State), s.pending = c :: r → step s = exec c { s with pending := r }

/-- A step on an empty queue advances the clock by a microsecond (R8, R98, R346). -/
def Obligations.IdleStepAdvancesTimeAlone : Prop :=
  ∀ s : State, s.pending = [] →
    (s.aon.coreUp = false → step s = .next { s with now := s.now + 1000 }) ∧
    (s.aon.coreUp = true →
      (∀ f : Int, f = s.tg.rateFrac + (BitVec.ofNat 32 (s.regN Reg.PTP.ADJ_RATE)).toInt →
        step s = .next ((((({ s with now := s.now + 1000 } : State).modTg fun t => { t with rateFrac := f % 1024000000 }).wr64 Reg.PTP.TIME_LO
          ((s.ptpTime : Int) + 1000 + f / 1024000000).toNat).count { code := 0x01, n := 400 }).darkTick.compact)))

/-- The reference clock and the root PLL: what each event shows (R9, R10, R333). -/
def Obligations.ReferenceAndRootPll : Prop :=
  ∀ s : State, s.aon.coreUp = true →
    (∀ off : Int, s.flag Fld.CLK.STATUS.REF_PRESENT = true → -5000 ≤ off → off ≤ 5000 →
      exec (.refMeasure off) s
        = .next ((s.put Fld.CLK.REF_OFFSET.PPB_DIV10 (codeOf 16 off)).on Fld.CLK.STATUS.REF_IN_RANGE).settle) ∧
    (∀ off : Int, s.flag Fld.CLK.STATUS.REF_PRESENT = true → -32768 ≤ off → off ≤ 32767 → (off < -5000 ∨ 5000 < off) →
      exec (.refMeasure off) s
        = .next (((s.put Fld.CLK.REF_OFFSET.PPB_DIV10 (codeOf 16 off)).off Fld.CLK.STATUS.REF_IN_RANGE).event
            Fld.CLK.EVENT.REF_RANGE 19).settle) ∧
    (s.flag Fld.CLK.STATUS.REF_PRESENT = true →
      exec .refLost s = .next ((s.off Fld.CLK.STATUS.REF_PRESENT).event Fld.CLK.EVENT.REF_LOST 17).settle) ∧
    exec .refReturn s = .next (s.on Fld.CLK.STATUS.REF_PRESENT) ∧
    (s.flag Fld.CLK.STATUS.ROOT_LOCK = true →
      exec .clkLockLost s
        = .next ((((((s.off Fld.CLK.STATUS.ROOT_LOCK).satInc Fld.CLK.LOCK_COUNT.COUNT).on Fld.CLK.STATUS.SLOW_FALLBACK).modAon
            fun a => { a with ring := true }).event Fld.CLK.EVENT.LOCK_LOST 16).event Fld.CLK.EVENT.FALLBACK_ENTERED 18).settle) ∧
    (s.flag Fld.CLK.STATUS.REF_PRESENT = true → s.flag Fld.CLK.STATUS.ROOT_LOCK = false → s.aon.dumpPhase ≠ 1 →
      exec .rootPllRelock s = .next (s.on Fld.CLK.STATUS.ROOT_LOCK)) ∧
    (s.flag Fld.CLK.STATUS.REF_PRESENT = true → s.flag Fld.CLK.STATUS.ROOT_LOCK = false → s.aon.dumpPhase = 1 →
      exec .rootPllRelock s
        = .next (s.on Fld.CLK.STATUS.ROOT_LOCK).dumpStart)

/-- Supplies, PORST_N and the resets of both domains (R332, R355, R356, R365, R405, R406, R408). -/
def Obligations.SuppliesAndResets : Prop :=
  ∀ s : State,
    (s.aon.released = false →
      exec .alwaysOnRelease s
        = .next ((s.modAon fun a => { a with released := true, porst := true }).setN Reg.TOP.SUPPLY (setBit (s.regN Reg.TOP.SUPPLY) 0))) ∧
    exec .porstAssert s = .next s.powerReset ∧
    exec (.supplyOutOfRange 0) s = .next { s.powerReset with aon := { s.powerReset.aon with porst := s.aon.porst } } ∧
    (∀ n : Nat, 1 ≤ n → n < 8 → s.aon.coreUp = true → s.aon.dumpPhase ≠ 1 → s.aon.dumpPhase ≠ 2 →
      exec (.supplyOutOfRange n) s
        = .next (((s.setN Reg.TOP.SUPPLY (clrBit (s.regN Reg.TOP.SUPPLY) n)).setN Reg.TOP.SUPPLY
            (setBit ((s.setN Reg.TOP.SUPPLY (clrBit (s.regN Reg.TOP.SUPPLY) n)).regN Reg.TOP.SUPPLY) (8 + n))).coreReset 5)) ∧
    (∀ n : Nat, 1 ≤ n → n < 8 → s.aon.coreUp = false →
      exec (.supplyOutOfRange n) s = .next (s.setN Reg.TOP.SUPPLY (clrBit (s.regN Reg.TOP.SUPPLY) n))) ∧
    (s.aon.released = true → s.aon.porst = true → s.aon.pfail = true → s.aon.coreUp = false →
      exec .coreResetRelease s = .next s.coreStart ∧ s.coreStart.aon.coreUp = true ∧ s.coreStart.boot.phase = 1) ∧
    (s.aon.coreUp = true → exec .coreResetCmd s = .next (s.coreReset 4)) ∧
    (s.aon.coreUp = true → s.flag Fld.FLT.STATUS.HALTED = true → s.get Fld.FLT.CFG.HALT_HOLD_S ≠ 0 →
      exec .haltHoldExpiry s = .next (s.coreReset 3)) ∧
    (s.aon.coreUp = true → exec .coreWatchdogMiss s = .next (s.raise 64).settle)

/-- What a core reset clears and what it keeps (R355, R356, R264, R368, R334). -/
def Obligations.CoreResetLeaves : Prop :=
  ∀ (s : State) (k : Nat), k < 8 → s.canon = true →
    (s.coreReset k).get Fld.FLT.RESET_CAUSE.V = k ∧
    (s.coreReset k).keys = Keys.reset ∧
    (s.coreReset k).flag Fld.TOP.STATUS.SEALED = false ∧
    (s.coreReset k).aon.coreUp = false ∧
    (s.coreReset k).fr = Front.reset ∧
    (s.coreReset k).fab = Fabric.reset ∧
    (s.coreReset k).fuse = s.fuse ∧
    (s.coreReset k).flash = s.flash ∧
    (s.coreReset k).pending = s.pending ∧
    (s.coreReset k).aon.porst = s.aon.porst ∧
    (s.coreReset k).aon.pfail = s.aon.pfail ∧
    (s.coreReset k).aon.epPerst = s.aon.epPerst ∧
    (∀ a : Nat, keptAcross a = false → a ≠ Reg.EVC.PEND 41 → (s.coreReset k).reg a = tgetD regResets a 0)

/-- PFAIL_N and the end of the dump (R127, R129, R333, R406). -/
def Obligations.PowerFailSequence : Prop :=
  ∀ s : State,
    (s.aon.pfail = true → s.aon.coreUp = true → s.aon.dumpPhase ≠ 1 →
      exec .pfailFall s = .next ((s.modAon fun a => { a with pfail := false }).condOn 400).settle) ∧
    (s.aon.pfail = true → s.aon.coreUp = true → s.aon.dumpPhase = 1 →
      exec .pfailFall s = .next (((s.modAon fun a => { a with pfail := false }).condOn 400).powerHold).settle) ∧
    (s.aon.pfail = false → (s.aon.coreUp = false ∨ s.aon.dumpPhase ≠ 3) →
      exec .pfailRise s = .next ((s.modAon fun a => { a with pfail := true }).condOff 400)) ∧
    (s.aon.pfail = false → s.aon.coreUp = true → s.aon.dumpPhase = 3 →
      exec .pfailRise s = .next (((s.modAon fun a => { a with pfail := true }).condOff 400).coreReset 2)) ∧
    (∀ (us : Nat) (bad : List Nat) (u : State), s.aon.coreUp = true → s.aon.dumpPhase = 2 → s.flag Fld.GNT.STATUS.DUMP_PENDING = false →
      u = ((List.range 256).foldl (fun s k => s.wearAdd (512 + k) 16 2) s).linesRetire bad →
      exec (.dumpComplete us bad) s = .next
        (let s2 : State := u.modNv fun v => { v with dump := (some ⟨u.rd64 Reg.GNT.JSEQ_LO, u.nv.mirApplied, u.nv.mirReleased,
           u.slots, u.slots.map fun e => (e.1, slotCrc e.2), us % 65536⟩) }
         if u.aon.pfail then s2.coreReset 2 else s2.powerHold)) ∧
    (∀ (us : Nat) (bad : List Nat), s.aon.coreUp = true → s.aon.dumpPhase = 2 → s.flag Fld.GNT.STATUS.DUMP_PENDING = true →
      exec (.dumpComplete us bad) s = .next
        (if s.aon.pfail then s.coreReset 2 else s.powerHold))

/-- The steps of the start sequence, each in its phase (R357, R364, R366, R368, R397, R399). -/
def Obligations.StartSequence : Prop :=
  ∀ s : State, s.aon.coreUp = true → s.stopped = false →
    (∀ (fu : Fuses) (fl : FlashImage), s.boot.phase = 1 →
      exec (.fuseLoadDone fu fl) s
        = .next ((((((s.setFuse (s.fuse.getD fu)).setFlash (s.flash.getD fl)).on Fld.CLK.STATUS.ROOT_LOCK).fuseShow
            (s.fuse.getD fu)).flashShow (s.flash.getD fl)).copyNext)) ∧
    (s.boot.phase = 2 → exec .imageVerified s = .next s.imageVerified.settle) ∧
    (∀ mib us : Nat, s.flag Fld.DDC.STATUS.TRAINED = false → s.boot.trainFails < 2 → (s.boot.phase = 2 ∨ s.boot.phase = 3) →
      ∃ t : State, exec (.ddrTrainingDone true mib us) s = .next t ∧ t.flag Fld.DDC.STATUS.TRAINED = true ∧
        t.flag Fld.CLK.STATUS.DDR_LOCK = true ∧ t.get Fld.TOP.DRAM_FITTED.V = mib % 2 ^ Fld.TOP.DRAM_FITTED.V.w ∧
        t.boot.phase = (if s.boot.phase = 3 then 4 else 2)) ∧
    (∀ mib us : Nat, s.flag Fld.DDC.STATUS.TRAINED = false → s.boot.trainFails = 0 → (s.boot.phase = 2 ∨ s.boot.phase = 3) →
      ∃ t : State, exec (.ddrTrainingDone false mib us) s = .next t.settle ∧ t.boot = { s.boot with trainFails := 1 }) ∧
    (∀ (strips : Nat) (met : Bool), s.boot.phase = 4 →
      exec (.imageApply strips met) s = .next (s.imageApply strips met).settle) ∧
    (s.flag Fld.TOP.STATUS.HOLD_SEAL = true → s.flag Fld.TOP.STATUS.SEALED = false →
      exec .sealGo s = .next ((s.sealSet.put Fld.TOP.STATUS.MODE 1).modBoot fun b => { b with phase := 6 }).settle) ∧
    (∀ present : List Nat, s.boot.phase = 6 → s.lay.isSome = true →
      exec (.slotDiscovery present) s = .next (s.discovery present).settle) ∧
    (∀ (tb : Tables) (q : Nat) (holds : Bool) (fixed bad : List Nat), s.boot.phase = 7 → s.lay.isSome = true →
      (s.linesRetire fixed).tableStore = some (tb, q) →
      (((s.linesRetire fixed).mirrorOn = false ∨ holds = true) → (s.linesRetire fixed).garnetLost = false →
        exec (.replay true holds fixed bad) s = .next (((s.linesRetire fixed).replayRing tb q bad).replayEnd q holds).settle) ∧
      (((s.linesRetire fixed).mirrorOn = false ∨ holds = true) → (s.linesRetire fixed).garnetLost = true →
        exec (.replay true holds fixed bad) s = .next (((s.linesRetire fixed).restore tb q).replayEnd q holds).settle) ∧
      ((s.linesRetire fixed).mirrorOn = true → holds = false →
        exec (.replay true holds fixed bad) s = .next (((s.linesRetire fixed).rejoin tb q).replayEnd q holds).settle))

/-- Setting the seal extends MSL7 alone and clears HOLD_SEAL (R368, R372). -/
def Obligations.SealExtendsSlotSeven : Prop :=
  ∀ s : State, s.boot.msl.length = 16 →
    (s.sealSet.boot.msl.getD 7 0 = Config.sha384 (digBytes (s.boot.msl.getD 7 0) ++ digBytes (Config.sha384 (ascii "SEAL")))) ∧
    (∀ n : Nat, n ≠ 7 → s.sealSet.boot.msl.getD n 0 = s.boot.msl.getD n 0) ∧
    (s.aon.coreUp = true → s.flag Fld.TOP.STATUS.SEALED = true → exec .sealGo s = .next s.settle)

/-- The CFG commands EXTEND, STAGE, ACTIVATE, RAISE_SVN and OWNER_FUSE, and the end of STAGE's programming (18_startup_configuration_trust.md). -/
def Obligations.ConfigurationCommands : Prop :=
  ∀ (s : State) (f : Fuses), s.aon.coreUp = true → s.fuse = some f →
    (s.flag Fld.CFG.CMD_RESULT.BUSY = false →
      (∀ n : Nat, 12 ≤ n → n < 16 →
        exec (.cfgExtend n) s = .next ((s.mslExtend n (digOf s.cfgData)).put Fld.CFG.CMD_RESULT.CODE 0)) ∧
      (∀ n : Nat, n < 12 → exec (.cfgExtend n) s = .next (s.put Fld.CFG.CMD_RESULT.CODE 2)) ∧
      (∀ (a n top : Nat) (img : List Byte), a = s.rd64 Reg.CFG.UPD_ADDR_LO → n = s.get Fld.CFG.UPD_LEN.V →
        top = (if s.flag Fld.DDC.STATUS.TRAINED = true then s.get Fld.TOP.DRAM_FITTED.V * 2 ^ 20 else 2 ^ 25) →
        img = (if s.flag Fld.DDC.STATUS.TRAINED = true then s.dramRead a n else memGetAll s.boot.buffer a n) →
        (top < a + n → exec .cfgStage s = .next (s.put Fld.CFG.CMD_RESULT.CODE 8)) ∧
        (a + n ≤ top → exec .cfgStage s = .next (
          if s.stageCheck f img ≠ 0 then s.put Fld.CFG.CMD_RESULT.CODE (stageCode (s.stageCheck f img))
          else ((s.modBoot fun b => { b with stage := (some (img, s.stageCopy)) }).put Fld.CFG.CMD_RESULT.CODE 0).on
            Fld.CFG.CMD_RESULT.BUSY))) ∧
      exec .cfgActivate s = .next ((s.coreReset 5).setN Reg.CFG.COPY 0) ∧
      (s.get Fld.TOP.STATUS.MODE ≠ 2 → s.flag Fld.CFG.STATUS.FW_VERIFIED = true →
        exec .cfgRaiseSvn s = .next (((s.setFuse { f with svnFloor := (max f.svnFloor (s.get Fld.CFG.SVN.FW_SVN)) }).put
          Fld.CFG.SVN.FLOOR (max f.svnFloor (s.get Fld.CFG.SVN.FW_SVN))).put Fld.CFG.CMD_RESULT.CODE 0)) ∧
      (s.get Fld.TOP.STATUS.MODE ≠ 2 → f.ownerHash = none →
        exec .cfgOwnerFuse s = .next (((s.setFuse { f with ownerHash := (some (digOf s.cfgData)) }).on
          Fld.CFG.STATUS.OWNER_SET).put Fld.CFG.CMD_RESULT.CODE 0)) ∧
      (s.get Fld.TOP.STATUS.MODE ≠ 2 → f.ownerHash.isSome = true →
        exec .cfgOwnerFuse s = .next (s.put Fld.CFG.CMD_RESULT.CODE 7)) ∧
      (s.get Fld.TOP.STATUS.MODE = 2 →
        exec .cfgRaiseSvn s = .next (s.put Fld.CFG.CMD_RESULT.CODE 1) ∧
        exec .cfgOwnerFuse s = .next (s.put Fld.CFG.CMD_RESULT.CODE 1))) ∧
    (∀ (img : List Byte) (c : Nat) (fl : FlashImage), s.boot.stage = some (img, c) → s.flash = some fl →
      (∃ t : State, exec (.stageComplete true) s = .next t ∧
        t.flash = some { fl with
          dir0 := nextDir fl c img,
          dir1 := nextDir fl c img,
          imgA := (if c = 0 then img ++ fl.imgA.drop img.length else fl.imgA),
          imgB := (if c = 0 then fl.imgB else img ++ fl.imgB.drop img.length) } ∧
        t.boot.stage = none ∧ t.get Fld.CFG.CMD_RESULT.CODE = 0 ∧ t.flag Fld.CFG.CMD_RESULT.BUSY = false) ∧
      exec (.stageComplete false) s = .next ((((((s.modBoot fun b => { b with stage := none }).off
        Fld.CFG.CMD_RESULT.BUSY).put Fld.CFG.CMD_RESULT.CODE 6).satInc ⟨Reg.SIO.SPI_ERR, 0, 32⟩).event
          Fld.SIO.EVENT.SPI_ERROR 1396)))

/-- Overlay requests and the pass that applies one (R226, R227, R369, R370). -/
def Obligations.OverlayCommands : Prop :=
  ∀ s : State, s.aon.coreUp = true →
    (∀ n : Nat, n < 16 → s.ovlValid n = true →
      exec (.ovlRequest n) s = .next (((s.modBoot fun b => { b with ovlReqs := b.ovlReqs ++ [(n, s.ptpTime)] }).put
        Fld.TGS.OVL_STATUS.PENDING n).on Fld.TGS.OVL_STATUS.PENDING_VALID).settle) ∧
    (∀ n : Nat, n < 16 → s.ovlValid n = false → exec (.ovlRequest n) s = .next s.ovlRefuse.settle) ∧
    (∀ m : Nat, s.flag Fld.CFG.STATUS.IMAGE_APPLIED = true → s.stopped = false → s.tg.ovlDue = some m →
      exec .overlayApply s = .next ((s.modTg fun t => { t with ovlDue := none }).ovlShow.overlayPass m).settle) ∧
    (∀ (n made : Nat) (r : List (Nat × Nat)), s.flag Fld.CFG.STATUS.IMAGE_APPLIED = true → s.stopped = false → s.tg.ovlDue = none →
      s.boot.ovlReqs = (n, made) :: r →
      (s.glist 7).running = none →
      exec .overlayApply s = .next (((((s.advTo (made + 1000)).modBoot fun b => { b with ovlReqs := r }).ovlShow).overlayPass n)).settle)

/-- SPDM requests and MCTP control commands on a carrier that is up (R374, R375, R376, R377). -/
def Obligations.AttestationRequests : Prop :=
  ∀ s : State, s.aon.coreUp = true →
    (∀ carrier sender : Nat, s.carrierUp carrier sender = true → (carrier = 2 → s.ctrlReady sender = true) →
      exec (.getVersion carrier sender) s = .next (s.spdmRequest carrier sender .getVersion) ∧
      exec (.getCapabilities carrier sender) s = .next (s.spdmRequest carrier sender .getCapabilities) ∧
      (∀ a b : Bool, exec (.negotiateAlgorithms carrier sender a b) s = .next (s.spdmRequest carrier sender (.negotiate a b))) ∧
      exec (.getDigests carrier sender) s = .next (s.spdmRequest carrier sender .getDigests) ∧
      (∀ slot off len : Nat,
        exec (.getCertificate carrier sender slot off len) s = .next (s.spdmRequest carrier sender (.getCertificate slot off len))) ∧
      (∀ (slot : Nat) (nonce : List Byte),
        exec (.challenge carrier sender slot nonce) s = .next (s.spdmRequest carrier sender (.challenge slot nonce))) ∧
      (∀ (index : Nat) (sign : Bool) (nonce : List Byte),
        exec (.getMeasurements carrier sender index sign nonce) s
          = .next (s.spdmRequest carrier sender (.getMeasurements index sign nonce)))) ∧
    (∀ carrier : Nat, carrier < 2 → s.carrierUp carrier 0 = true →
      (∀ eid : Nat, 8 ≤ eid → eid ≤ 254 →
        exec (.setEndpointId carrier eid) s = .next ((s.modBoot fun b => { b with eid := b.eid.set carrier eid }).emit
          (.spdm carrier 1 0 ([0] ++ leBytes 1 eid ++ [0])))) ∧
      exec (.getEndpointId carrier) s = .next (s.emit (.spdm carrier 2 0 (leBytes 1 (s.boot.eid.getD carrier 0) ++ [0, 0]))) ∧
      exec (.getEndpointUuid carrier) s
        = .next (s.emit (.spdm carrier 3 0 (fitBytes 16 (Config.freeBytes 14 (s.rd64 Reg.CFG.UID_LO))))) ∧
      exec (.getMctpVersionSupport carrier 5) s = .next (s.emit (.spdm carrier 4 0 (Config.freeBytes 15 5))) ∧
      exec (.getMessageTypeSupport carrier) s = .next (s.emit (.spdm carrier 5 0 [2, 0x00, 0x05]))) ∧
    (∀ (cntlid cid : Nat) (sgl : Sgl) (c : Ctrl) (r : SpdmReq), s.ctrl? cntlid = some c → bit c.csts 0 = true → keyedSgl sgl.ty = true →
      exec (.securitySend cntlid cid sgl r) s = .next ((s.spdmRequest 2 cntlid r).adminDone cntlid cid 0)) ∧
    (∀ (cntlid cid alloc k : Nat) (sgl : Sgl) (c : Ctrl) (x : Spdm), s.ctrl? cntlid = some c → bit c.csts 0 = true → keyedSgl sgl.ty = true →
      cntlid ∉ s.boot.resynch → s.spdmKey 2 cntlid = some k → tget s.boot.spdm k = some x →
      exec (.securityReceive cntlid cid alloc sgl) s
        = .next (((s.modBoot fun b => { b with spdm := tput b.spdm k { x with response := none } }).sendAdmin
            cntlid cid sgl ((x.response.getD []).take alloc))))

/-- Fabrics commands, keep-alive and event requests of a controller (R23, R24, R26, R50, R61, R176). -/
def Obligations.FabricsAndKeepAlive : Prop :=
  ∀ s : State, s.aon.coreUp = true →
    (∀ (conn port cntlid sqsize hsq kato cid : Nat) (nqn : List Nat) (c : Conn), s.conn? conn = some c → c.st = 1 → c.port = port →
      c.hsq = hsq → s.connectCheck c 0 cntlid sqsize nqn = 0 →
      exec (.fabricsConnect conn port 0 cntlid sqsize hsq kato cid nqn) s = .next
        (((s.modFr fun f => { f with
            ctrls := (tput f.ctrls s.freeCntlid ⟨(s.hostOf nqn).getD 0, port, 0, 0, kato, 0, 64, [], [], [], []⟩),
            queues := (f.queues ++ [⟨s.freeCntlid, 0, sqsize + 1, conn, 1 % (sqsize + 1), []⟩]) }).capShow.setConn
          conn { c with cntlid := some s.freeCntlid, qid := 0, host := (s.hostOf nqn).getD 0, st := 3 }).respond s.freeCntlid 0 cid 0 false
            s.freeCntlid 0)) ∧
    (∀ (id cid : Nat) (c : Ctrl), s.ctrl? id = some c →
      exec (.propertyGet id cid 0x14) s = .next (s.adminDone id cid 0 false c.cc 0) ∧
      exec (.propertyGet id cid 0x1C) s = .next (s.adminDone id cid 0 false c.csts 0) ∧
      (∀ v : Nat, bit v 0 = true → bit c.cc 0 = false → bits v 11 3 < 2 →
        exec (.propertySet id cid 0x14 v) s = .next
          (((s.modCtrl id fun x => { x with cc := v % 2 ^ 32 }).modCtrl id fun x => { x with csts := setBit x.csts 0 }).adminDone id cid 0)) ∧
      (∀ v : Nat, bit v 0 = false →
        exec (.propertySet id cid 0x14 v) s = .next
          (((s.modCtrl id fun x => { x with cc := v % 2 ^ 32 }).ctrlReset id).adminDone id cid 0).settle) ∧
      (c.kato ≠ 0 → exec (.keepAliveExpiry id) s = .next (s.ctrlDelete id).settle) ∧
      (bit c.csts 0 = true → exec (.keepAlive id cid) s = .next (s.adminDone id cid 0)) ∧
      (bit c.csts 0 = true → c.aers.length < 4 → c.events = [] →
        exec (.asyncEventRequest id cid) s = .next (s.modCtrl id fun x => { x with aers := x.aers ++ [cid] })) ∧
      (∀ (k : Nat) (r : List Nat), bit c.csts 0 = true → c.aers.length < 4 → c.events = k :: r →
        exec (.asyncEventRequest id cid) s = .next
          (((s.modCtrl id fun x => { x with events := r }).emit (.asyncEvent id k)).adminDone id cid 0 false (asyncDw0 k) 0))) ∧
    (∀ (id cid : Nat) (q : Queue), s.queue? id 0 = some q →
      exec (.fabricsDisconnect id 0 cid) s = .next ((s.respond id 0 cid 0 false 0 0).ctrlDelete id).settle)

/-- Identify, log pages, features and Abort on an enabled controller (R50, R52, R53, R61, R62, R64). -/
def Obligations.IdentifyLogsFeaturesAbort : Prop :=
  ∀ (s : State) (id cid : Nat) (sgl : Sgl) (c : Ctrl), s.aon.coreUp = true → keyedSgl sgl.ty = true → s.ctrl? id = some c → bit c.csts 0 = true →
    (∀ csi nsid : Nat, exec (.identify id cid 0x01 csi nsid sgl) s = .next
      (s.page id cid sgl 4096 [fieldLe 77 1 0x0A, fieldLe 78 2 id, fieldLe 258 1 3, fieldLe 259 1 3,
        fieldLe 316 2 (s.get Fld.NVQ.EDSTT.EDSTT), fieldLe 318 1 1, fieldLe 342 1 10, fieldLe 343 1 0x5F, fieldLe 344 4 1,
        fieldLe 348 4 1, fieldLe 516 4 1024, fieldLe 525 1 0, fieldLe 526 2 255, (768, fitBytes 256 s.boot.nqn), fieldLe 528 2 255, fieldLe 1792 4 4,
        fieldLe 1796 4 1] 0 4096)) ∧
    (∀ off len : Nat, exec (.getLogPage id cid 0x01 0 off len sgl) s = .next (s.page id cid sgl 64 [] off len)) ∧
    (∀ v : Nat, 1000 ≤ v → v ≤ 120000 →
      exec (.setFeatures id cid 0x0F v) s = .next ((s.modCtrl id fun x => { x with kato := v }).adminDone id cid 0).settle) ∧
    (∀ v : Nat, exec (.setFeatures id cid 0x0B v) s
      = .next ((s.modCtrl id fun x => { x with aec := v % 2 ^ 32 }).adminDone id cid 0).settle) ∧
    (∀ v : Nat, bit (s.host c.host).perm 2 = true →
      exec (.setFeatures id cid 0x01 v) s = .next ((((((s.put Fld.NVQ.ARB.AB v).put Fld.NVQ.ARB.LPW (bits v 8 8)).put Fld.NVQ.ARB.MPW
        (bits v 16 8)).put Fld.NVQ.ARB.HPW (bits v 24 8)).event Fld.NVQ.EVENT.ARB_CHANGED 292).adminDone id cid 0).settle) ∧
    exec (.getFeatures id cid 0x0F) s = .next (s.adminDone id cid 0 false c.kato) ∧
    exec (.getFeatures id cid 0x0B) s = .next (s.adminDone id cid 0 false c.aec) ∧
    exec (.getFeatures id cid 0x01) s = .next (s.adminDone id cid 0 false (s.regN Reg.NVQ.ARB)) ∧
    (∀ sqid target : Nat, s.abortsBefore id cid < 4 → s.abortMark id sqid target = none → sqid ≠ 0 →
      s.tagOf id sqid target = none →
      exec (.abort id cid sqid target) s
        = .next ((s.satInc Fld.NVQ.ABORT_COUNT.NOT_ABORTED).adminDone id cid 0 false 1).settle) ∧
    (∀ (sqid target : Nat) (s1 : State), s.abortsBefore id cid < 4 → s.abortMark id sqid target = some s1 →
      exec (.abort id cid sqid target) s = .next ((s1.satInc Fld.NVQ.ABORT_COUNT.ABORTED).adminDone id cid 0).settle)

/-- Device self-test and the vendor register commands (R64, R65, R66, R67, R322). -/
def Obligations.SelfTestAndVendorAccess : Prop :=
  ∀ (s : State) (id cid : Nat) (c : Ctrl), s.aon.coreUp = true → s.ctrl? id = some c → bit c.csts 0 = true →
    (∀ (nsid : Nat) (pb : Bool), s.stNsidOk c nsid = true → s.get Fld.NVQ.SELFTEST.OP = 0 →
      (s.flag Fld.SWC.TOPO_CFG.PARTNERED = false ∨ pb = false) →
      exec (.selftestShort id cid nsid pb) s = .next (((s.setN Reg.NVQ.SELFTEST (1 + 16 + 2 ^ 16 * (id % 2 ^ 16))).modFr
        fun f => { f with stNsid := nsid }).adminDone id cid 0) ∧
      exec (.selftestExtended id cid nsid pb) s = .next (((((s.setN Reg.NVQ.SELFTEST (2 + 16 + 2 ^ 16 * (id % 2 ^ 16))).modFr
        fun f => { f with stNsid := nsid }).modMb fun m => { m with scrubSelf := true, scrubLost := false }).scrubBegin).adminDone id cid 0)) ∧
    (∀ (nsid : Nat) (pb : Bool), s.stNsidOk c nsid = true →
      (s.get Fld.NVQ.SELFTEST.OP ≠ 0 ∨ (s.flag Fld.SWC.TOPO_CFG.PARTNERED = true ∧ pb = true)) →
      exec (.selftestShort id cid nsid pb) s = .next (s.adminDone id cid 0x11D) ∧
      exec (.selftestExtended id cid nsid pb) s = .next (s.adminDone id cid 0x11D)) ∧
    exec (.selftestAbort id cid 0xF) s = .next ((s.selftestEnd 1).scrubShow.adminDone id cid 0).settle ∧
    (∀ stc : Nat, stc ≠ 0xF → exec (.selftestAbort id cid stc) s = .next (s.adminDone id cid 0x02).settle) ∧
    (s.get Fld.NVQ.SELFTEST.OP = 1 → exec (.selftestSegmentDone true) s = .next (s.selftestEnd 7).settle) ∧
    (s.get Fld.NVQ.SELFTEST.OP = 1 → s.get Fld.NVQ.SELFTEST.SEGMENT = 2 → s.healthBad = true →
      exec (.selftestSegmentDone false) s = .next (s.selftestEnd 7).settle) ∧
    (s.get Fld.NVQ.SELFTEST.OP = 1 → 3 ≤ s.get Fld.NVQ.SELFTEST.SEGMENT →
      exec (.selftestSegmentDone false) s = .next (s.selftestEnd 0).settle) ∧
    (s.get Fld.NVQ.SELFTEST.OP = 1 → s.get Fld.NVQ.SELFTEST.SEGMENT < 3 →
      (s.get Fld.NVQ.SELFTEST.SEGMENT ≠ 2 ∨ s.healthBad = false) →
      ∃ r : Nat, exec (.selftestSegmentDone false) s
        = .next (({ s with freeCtr := s.freeCtr + 1 }.inc Fld.NVQ.SELFTEST.SEGMENT).put Fld.NVQ.SELFTEST.PERCENT (r % 101))) ∧
    (∀ off : Nat, bit (s.host c.host).perm 2 = true → offOk off = true →
      exec (.vendorRegisterRead id cid off false) s
        = .next ((s.readAccess .v off).2.adminDone id cid 0 false (s.readAccess .v off).1 0).settle) ∧
    (∀ off v : Nat, bit (s.host c.host).perm 2 = true → offOk off = true →
      exec (.vendorRegisterWrite id cid off v) s
        = .next ((s.writeDword .v off v).2.adminDone id cid (if (s.writeDword .v off v).1 then 0x0C else 0)).settle) ∧
    (∀ (off : Nat) (pair : Bool), bit (s.host c.host).perm 2 = false →
      exec (.vendorRegisterRead id cid off pair) s = .next (s.adminDone id cid 0x01))

/-- I/O commands at step 4 of R17 that pass the common checks (R17, R33, R37, R38, R39, R47, R63, R178). -/
def Obligations.IoCommandsStart : Prop :=
  ∀ (s : State) (t : Nat) (c : Cmd) (io : IoCmd) (n : Ns), s.aon.coreUp = true → s.atStep4 t c io n →
    (io.op = .read → exec (.read t) s
      = .next ((s.setCmd t { c with step4 := s.now }).readStart t { c with step4 := s.now } io n).settle) ∧
    (io.op = .write → exec (.write t) s
      = .next ((s.setCmd t { c with step4 := s.now }).writeStart t { c with step4 := s.now } io n).settle) ∧
    (io.op = .append → exec (.zoneAppend t) s
      = .next ((s.setCmd t { c with step4 := s.now }).writeStart t { c with step4 := s.now } io n).settle) ∧
    (io.op = .writeZeroes → exec (.writeZeroes t) s
      = .next ((s.setCmd t { c with step4 := s.now }).dealloc t { c with step4 := s.now } io n [(io.slba, io.nlb)]).settle) ∧
    (io.op = .dsm → (n.conv = false ∨ keyedSgl io.sgl = true) → exec (.datasetManagement t) s
      = .next ((s.setCmd t { c with step4 := s.now }).dealloc t { c with step4 := s.now } io n io.ranges).settle) ∧
    (io.op = .dsm → n.conv = true → keyedSgl io.sgl = false → exec (.datasetManagement t) s
      = .next ((s.setCmd t { c with step4 := s.now }).cmdEnd t 0x11 false).settle) ∧
    (io.op = .flush → exec (.flush t) s = .next ((s.setCmd t { c with step4 := s.now }).cmdEnd t 0 false)) ∧
    (io.op = .zoneSend → io.zact = .zopen → exec (.zoneOpen t) s
      = .next ((s.setCmd t { c with step4 := s.now }).zoneSend t { c with step4 := s.now } io n).settle) ∧
    (io.op = .zoneSend → io.zact = .zclose → exec (.zoneClose t) s
      = .next ((s.setCmd t { c with step4 := s.now }).zoneSend t { c with step4 := s.now } io n).settle) ∧
    (io.op = .zoneSend → io.zact = .zfinish → exec (.zoneFinish t) s
      = .next ((s.setCmd t { c with step4 := s.now }).zoneSend t { c with step4 := s.now } io n).settle) ∧
    (io.op = .zoneSend → io.zact = .zreset → exec (.zoneReset t) s
      = .next ((s.setCmd t { c with step4 := s.now }).zoneSend t { c with step4 := s.now } io n).settle) ∧
    (io.op = .zoneSend → io.zact = .zoffline → exec (.zoneOffline t) s
      = .next ((s.setCmd t { c with step4 := s.now }).zoneSend t { c with step4 := s.now } io n).settle) ∧
    (io.op = .zoneReceive → n.conv = false → keyedSgl io.sgl = true → exec (.zoneMgmtReceive t) s
      = .next (((s.setCmd t { c with step4 := s.now }).emit (.adminData c.cntlid c.cid io.rkey io.addr
          ((leBytes 8 (n.zones.zipIdx.drop (io.slba / s.zoneBlocks)).length ++ leBytes 56 0
            ++ ((n.zones.zipIdx.drop (io.slba / s.zoneBlocks)).take (io.len / 64)).flatMap
                fun x => (s.setCmd t { c with step4 := s.now }).zoneDesc x.2 x.1).take io.len))).cmdEnd t 0 false))

/-- Write-kind commands that end at once (R20, R33, R37, R38, R39). -/
def Obligations.WriteCommandRefusals : Prop :=
  ∀ (s : State) (t : Nat) (c : Cmd) (io : IoCmd) (n : Ns), s.cmd? t = some c → c.claimed = false →
    (s.writeProtected = true → s.dataCheck n io = 0 → (io.op = .append → n.conv = false) →
      s.writeStart t c io n = s.cmdEnd t 0x20 false) ∧
    (io.op = .append → n.conv = true → s.writeStart t c io n = s.cmdEnd t 0x01 false) ∧
    (n.conv = true → s.zoneSend t c io n = s.cmdEnd t 0x01 false) ∧
    (n.conv = false → s.writeProtected = true → s.zoneSend t c io n = s.cmdEnd t 0x20 false) ∧
    (∀ rs : List (Nat × Nat), n.conv = false → s.dealloc t c io n rs = s.cmdEnd t 0x01 false) ∧
    (∀ rs : List (Nat × Nat), n.conv = true → s.writeProtected = true → s.dealloc t c io n rs = s.cmdEnd t 0x20 false)

/-- Acceptance of capsules, and the windows of the background shares (R48, R49, R51, R54, R93, R43). -/
def Obligations.QueuesAndShares : Prop :=
  ∀ s : State, s.aon.coreUp = true →
    (∀ (q : Queue) (b : Nat) (fixed : List Nat), s.stopped = false → s.nextQueue 0 = some (q, b) →
      ((s.freeTag true false).isSome = true ∨ q.aerFirst = true) →
      exec (.commandAccept fixed) s = .next (((s.modFr fun f => { f with
        wrrLast := (f.wrrLast.set 0 q.key), wrrBurst := (f.wrrBurst.set 0 (if q.caps.length ≤ 1 then 0 else b)) }).acceptFrom q 0).linesRetire fixed)) ∧
    (∀ n : Nat, exec (.backgroundWindowEnd n) s = .next (s.modPort n fun p => { p with fgNs := 0, bgNs := 0, bgWaits := false })) ∧
    exec .berylShareWindowEnd s = .next (s.modMb fun m => { m with brlFg := 0, brlBg := 0 }) ∧
    (∀ (cap : Capsule) (blks : List HostBlk), s.stopped = false → cap.qid ≠ 0 → cap.cntlid / 0x1000 ≠ s.devNum →
      exec (.forwardedCommandReceive cap blks) s = .next (s.forwardIn cap blks))

/-- Namespace commits, failback, host entries, zone entries and the translation probe (R25, R32, R42, R43, R45, R46, R73). -/
def Obligations.NamespacesHostsAndProbe : Prop :=
  ∀ s : State, s.aon.coreUp = true →
    (s.fr.nsQueue.length < 2048 →
      exec .nsCreate s = .next (((s.modFr fun f => { f with nsQueue := f.nsQueue ++
        [(1, s.get Fld.ZMP.NS_SELECT.V, s.regN Reg.ZMP.NS_CFG, s.rd64 Reg.ZMP.NS_SIZE_LO)] }).on Fld.ZMP.NS_RESULT.BUSY).nsRun 2049).settle ∧
      exec .nsDelete s = .next (((s.modFr fun f => { f with nsQueue := f.nsQueue ++
        [(2, s.get Fld.ZMP.NS_SELECT.V, s.regN Reg.ZMP.NS_CFG, s.rd64 Reg.ZMP.NS_SIZE_LO)] }).on Fld.ZMP.NS_RESULT.BUSY).nsRun 2049).settle) ∧
    (∀ id : Nat, s.fr.nsDel = some id → ((s.nsCmds id).any fun x => x.2.started) = false →
      exec .nsDeleteComplete s = .next ((s.nsDeleteEnd id).nsRun 2049).settle) ∧
    (s.get Fld.GNT.STATUS.ROLE = 2 → s.inStep = true → s.flag Fld.GNT.VERIFY.LAST_OK = true →
      s.flag Fld.TOP.STATUS.DRAM_SHORT = false → exec .failbackRequest s = .next (s.anaSet 0xF).settle) ∧
    ((s.get Fld.GNT.STATUS.ROLE ≠ 2 ∨ s.inStep = false ∨ s.flag Fld.GNT.VERIFY.LAST_OK = false ∨
        s.flag Fld.TOP.STATUS.DRAM_SHORT = true) → exec .failbackRequest s = .next (s.evAt 320 Fld.ZMP.EVENT.FAILBACK_REFUSED).settle) ∧
    (∀ fixed bad : List Nat, s.mirrorOn = true → s.stopped = false → s.get Fld.GNT.STATUS.ROLE = 2 → s.get Fld.ZMP.ANA.STATE = 0xF →
      exec (.failbackOwnershipPass fixed bad) s = .next (s.takeover fixed bad).settle) ∧
    (∀ z : Nat, z < 2 ^ 32 → exec (.zoneSelectLoad z) s = .next ((List.range 16).foldl
      (fun u m => u.setN (Reg.ZMP.ZONE_ENTRY m) (leAt (s.zoneEntry z) (4 * m) 4)) (s.put Fld.ZMP.ZONE_SELECT.V z))) ∧
    (∀ h : Nat, h < 1024 →
      exec (.hostInvalidate h) s = .next ((s.modHost h fun e => { e with perm := putBit e.perm 0 false }).hostDelete h).settle) ∧
    (∀ h m v : Nat, h < 1024 → m < 32 → exec (.hostAccessMapWrite h m v) s = .next (s.accessWrite h m (v % 2 ^ 32)).settle) ∧
    (∀ pos : Nat, s.lay.isSome = true → s.rd64 Reg.STR.PROBE_STRIPE_LO % 2 ^ 40 < s.layout.stripes → pos % 32 < s.layout.width →
      ∃ t : State, exec (.strProbe pos) s = .next t ∧
        t.get Fld.STR.PROBE_RESULT.COLUMN
          = s.layout.colAt (s.rd64 Reg.STR.PROBE_STRIPE_LO % 2 ^ 40) (pos % 32) % 2 ^ Fld.STR.PROBE_RESULT.COLUMN.w ∧
        t.get Fld.STR.PROBE_RESULT.DONE = 1 ∧ t.get Fld.STR.PROBE_RESULT.ERROR = 0 ∧
        t.rd64 Reg.STR.PROBE_INDEX_LO
          = s.layout.index (s.rd64 Reg.STR.PROBE_STRIPE_LO % 2 ^ 40)
              (s.layout.colAt (s.rd64 Reg.STR.PROBE_STRIPE_LO % 2 ^ 40) (pos % 32)) % 2 ^ 64)

/-- Recomputed slots and reconstructions for host reads (R89, R91, R92, R93). -/
def Obligations.RecomputeAndReconstruction : Prop :=
  ∀ s : State, s.aon.coreUp = true →
    (∀ (k : Nat) (io : BgIo) (l : List Blk) (v u : State), (s.slot k).st = 3 → (s.slot k).freeing = false →
      s.recReach (s.bgCols (s.slot k).stripe (s.recIo k io)) = some v →
      (List.range (s.slot k).folded).foldl (fun (a : List (Option Blk) × State) i =>
        (a.1 ++ [(a.2.recBlock k (s.recIo k io) i).1], (a.2.recBlock k (s.recIo k io) i).2)) ([], v.bgReads (s.slot k).stripe (s.recIo k io)) = (l.map some, u) →
      exec (.slotRecomputeDone k io) s = .next (((u.setSlot k
        { (l.zipIdx).foldl (fun y e => foldBlk y (e.2 / 16) (e.2 % 16) e.1)
            { s.slot k with folded := 0, p := [], q := [], pm := [], qm := [], was := 0, kept := [] } with
          st := 1, cur := (l.drop ((s.slot k).folded / 16 * 16)) }).pump (s.slot k).zone).linesRetire (s.recIo k io).fixed)) ∧
    (∀ (k : Nat) (io : BgIo), (s.slot k).st ≠ 3 → exec (.slotRecomputeDone k io) s = .next s) ∧
    (∀ (id : Nat) (j : Recon), (s.mb.recons.find? fun x => x.id == id) = some j →
      exec (.reconstructionStart id) s = .next (s.reconStart id).settle ∧
      exec (.reconstructionDone id) s = .next (s.reconDone id).settle)

/-- Power states of members: the events that move them (R98, R99, R100, R101, R102, R109, R110, R113, R114). -/
def Obligations.MemberPowerEvents : Prop :=
  ∀ s : State, s.aon.coreUp = true →
    (s.get Fld.MBR.DARK_EPOCH.MINUTES ≠ 0 → s.lay.isSome = true →
      exec .darkEpochBoundary s = .next (s.darkChange s.chooseDark).settle) ∧
    (∀ n c : Nat, s.colOfSlot n = some c →
      ((s.power c).ps = 1 → s.quiet c = true →
        exec (.idleTimeout n) s = .next (s.toIdle c)) ∧
      ((s.power c).ps = 2 → (s.inPs 1).length < s.get Fld.MBR.PWR_CFG.ACTIVE_MAX →
        (s.mb.deferred.any fun r => r.col == c) = true →
        exec (.activationDone n) s = .next (s.toActive c).redispatch.settle) ∧
      ((s.power c).ps = 6 → exec (.wakeTimeout n) s = .next (s.wakeFail c).settle) ∧
      (∀ (d : DriveId) (ms : Nat), (s.power c).ps = 6 → s.pt (s.slotOfCol c) = ptUp → unnamedCol (s.col c) = false →
        isDrive (s.col c) d = true →
        exec (.wakeComplete n d true ms) s
          = .next ((s.setN Reg.MBR.WAKE_LAST (ms % 65536 + 65536 * s.slotOfCol c)).memberIdle c d).settle)) ∧
    (∀ n : Nat, s.pt n = ptQuiescing → bit s.aon.slotPerst n = true →
      exec (.memberShutdownComplete n) s = .next (s.shutdownOver n).settle ∧
      (∀ ms : Nat, exec (.shutdownWaitTimeout n ms) s
        = .next (((s.evAt 463 Fld.MBR.PWR_EVENT.ABRUPT_OFF).onSlot n fun s c => s.detail 0x22 465 (s.memberIdOf c) ms 0).shutdownOver
            n).settle)) ∧
    (∀ (req tag : Nat) (r : MReq) (i : Nat), s.get Fld.MBR.WAKE_CFG.DEFER_MAX ≠ 0 →
      (s.mb.deferred.find? fun r => r.id == req && s.waits r) = some r → r.own = .host tag i →
      exec (.deferExpiry req) s = .next (((((s.detach tag).evAt 463 Fld.MBR.PWR_EVENT.DEFER_EXPIRED).mbrShow.reconShow).cmdFail tag 0x82
            false)).settle) ∧
    (∀ v : Nat, exec (.pwrConfigWrite 1 v) s = .next (s.setN Reg.MBR.DARK_EPOCH (v % 16384)).settle) ∧
    (∀ v : Nat, exec (.pwrConfigWrite 2 v) s = .next (s.setN Reg.MBR.IDLE_CFG (v % 65536 + 2 ^ 24 * bits v 24 8)).settle) ∧
    (s.flag Fld.GNT.STATUS.REPLAY_DONE = true → s.lay.isSome = true →
      exec .darkTimeRecord s = .next (s.recIssue (.darkTime s.tb.darkMin)))

/-- Records, tails, chunk wear, checkpoints and keeper copies (R116, R118, R123, R130, R131, R132). -/
def Obligations.JournalRecords : Prop :=
  ∀ s : State, s.aon.coreUp = true →
    (∀ (j : Nat) (bad staged : List Nat) (u : State), s.flag Fld.FLT.STATUS.HALTED = false → (s.nv.ring.any fun r => r.jseq == j && !r.verified) = true →
      u = (s.modNv fun v => { v with ring := v.ring.map fun r => if r.jseq = j then { r with verified := true } else r }) →
      exec (.journalRecordWritten j bad staged) s
        = .next (((u.badRetire (u.ringLine j) 16 bad).badRetire stagingBase 131072 staged).commitAll).settle) ∧
    (∀ (k i t : Nat) (c : Cmd) (bad : List Nat), s.flag Fld.FLT.STATUS.HALTED = false → s.cmd? t = some c → c.owed ≠ 0 →
      (tget s.nv.tails (16 * k + i)).isSome = true →
      exec (.tailWriteComplete k i t bad) s
        = .next (((s.setCmd t { c with owed := c.owed - 1 }).badRetire (tailBase + 1024 * k + 65 * i) 65 bad).pump (s.slot k).zone).settle) ∧
    (∀ (chunk free : Nat) (fixed : List Nat), chunk < 1664 → s.chunkFree free = true → s.lessWorn (tgetD s.nv.wear free 0) = false →
      tgetD s.nv.wear free 0 + 2 ^ 30 ≤ tgetD s.nv.wear (s.physChunk chunk) 0 →
      exec (.chunkWearCopy chunk free fixed) s
        = .next (((s.modNv fun v => { v with chunkMap := tput v.chunkMap chunk free }).wearAdd chunk 1024 2).linesRetire
            (fixed.filter fun l => l / 1024 == chunk))) ∧
    (s.flag Fld.GNT.STATUS.REPLAY_DONE = true → s.jn.ckpt = none → s.jn.ckptDue = true → s.stopped = false → s.keeperUp = true →
      exec .checkpointStart s
        = .next ((s.modJn fun j => { j with ckpt := (some (s.latched, s.jseq, j.dirty)), ckptDue := false, dirty := [] }).on Fld.GNT.STATUS.CKPT_RUNNING)) ∧
    (∀ (tb : Tables) (q n : Nat) (ps : List Nat) (io : BgIo) (v u w : State), s.jn.ckpt = some (tb, q, ps) → s.bgOk = true → s.keepersIn ≠ [] →
      s.bgReach s.keepersIn = some v → (∀ c : Nat, c ∈ v.keepersIn → c ∉ io.wrBad ∧ c ∉ io.conflict) →
      n = (v.ckptNumber + 1) % 2 ^ 32 →
      u = ((v.keepersIn.foldl (fun s c => (s.logCommit c tb q n ps).logDone c 4 (s.keepLog c) io) v).modNv fun v => { v with
        ring := v.ring.filter fun r => decide (q < r.jseq) }) →
      w = (((((u.setN Reg.GNT.RING_USE u.ringUse).wr64 Reg.GNT.CKPT_SEQ_LO q).setN Reg.GNT.CKPT_NUM n).modJn fun j => { j with
        ckpt := none, waitRecs := [] }).recIssue (.checkpoint n q)) →
      exec (.checkpointCommit io) s = .next ((((w.modJn fun j => { j with waitRecs := j.waitRecs ++
        ((u.setN Reg.GNT.RING_USE u.ringUse).wr64 Reg.GNT.CKPT_SEQ_LO q |>.setN Reg.GNT.CKPT_NUM n).jn.waitRecs }).off
          Fld.GNT.STATUS.CKPT_RUNNING).evAt 402 Fld.GNT.EVENT.CKPT_DONE).recDrain.relCheck).settle) ∧
    (∀ io : BgIo, s.stopped = false →
      exec (.ringCopyStream io) s = .next ((s.keepersIn.filter s.poweredUp).foldl
        (fun s c => (s.logCopies c).logDone c 3 (s.keepLog c) io) s).settle) ∧
    (∀ (i c : Nat) (r : List Nat) (io : BgIo) (v u : State), s.jn.keeperCopy = i :: r → s.tb.keepers[i]? = some c → s.bgOk = true →
      s.bgReach [c] = some v → c ∉ io.wrBad → c ∉ io.conflict →
      u = ((v.modJn fun j => { j with keeperCopy := r }).logFull c).logDone c 4 (KeepLog.empty (0, 0)) io →
      exec (.keeperCopyDone io) s = .next ( ((u.put Fld.GNT.KEEPERS.IN_STEP (setBit (u.get Fld.GNT.KEEPERS.IN_STEP) i)).evAt 402
          Fld.GNT.EVENT.KEEPER_IN_STEP).settle))

/-- The partner mirror: records, acknowledgements, resends, heartbeats, silence (R136, R138, R139, R140, R143, R144). -/
def Obligations.MirrorRows : Prop :=
  ∀ s : State, s.aon.coreUp = true → s.mirrorOn = true → s.stopped = false →
    (∀ (p m : Nat) (b : MirBody) (bad : List Nat), (s.pathUp p).mirrorKeyMissing = false →
      ¬ ((s.pathUp p).jn.rebase = true ∧ (s.pathUp p).get Fld.GNT.STATUS.ROLE = 2) → m = (s.pathUp p).mirA + 1 →
      (s.pathUp p).mirBlocked b = false →
      exec (.mirrorRecordReceive p m b bad) s = .next
        (((((s.pathUp p).modJn fun j => { j with rxHeld := j.rxHeld.filter fun e => e.mseq ≠ m }).mirApply m b bad).mirHeld 1024).mirAck)) ∧
    (∀ (p m : Nat) (b : MirBody) (bad : List Nat), (s.pathUp p).mirrorKeyMissing = false →
      ¬ ((s.pathUp p).jn.rebase = true ∧ (s.pathUp p).get Fld.GNT.STATUS.ROLE = 2) → m ≤ (s.pathUp p).mirA →
      exec (.mirrorRecordReceive p m b bad) s = .next ((s.pathUp p).satInc Fld.GNT.DUP_COUNT.V).mirAck) ∧
    (∀ (p m : Nat) (b : MirBody) (bad : List Nat), (s.pathUp p).mirrorKeyMissing = false →
      ¬ ((s.pathUp p).jn.rebase = true ∧ (s.pathUp p).get Fld.GNT.STATUS.ROLE = 2) → (s.pathUp p).mirA + 1 < m →
      m ≤ (s.pathUp p).mirA + 1024 → ((s.pathUp p).jn.rxHeld.any fun e => e.mseq == m) = false →
      exec (.mirrorRecordReceive p m b bad) s = .next ((s.pathUp p).modJn fun j => { j with rxHeld := j.rxHeld ++ [⟨m, b, bad⟩] })) ∧
    (∀ p x : Nat, x ≤ (s.pathUp p).nv.mseq → (s.pathUp p).mseqAcked < x →
      exec (.mirrorAckReceive p x false) s = .next ((((s.pathUp p).wr64 Reg.GNT.MSEQ_ACKED_LO x).modJn fun j =>
        { j with tx := j.tx.filter fun e => decide (x < e.1) }).resyncCheck.commitAll.relCheck).settle) ∧
    (∀ (m n : Nat) (b : MirBody), s.mirrorKeyMissing = false → s.jn.partnerWait = false → (s.jn.tx.find? fun e => e.1 == m) = some (n, b) →
      exec (.mirrorRetxTimeout m) s = .next ((s.satInc Fld.GNT.RETX_COUNT.V).sendMirror n 0 1 (mirCls b) (s.mirContent n b))) ∧
    (∀ p : Nat, p < 2 → s.flag (pathField p) = true →
      exec (.mirrorPathDown p) s = .next ((s.off (pathField p)).evAt 402 Fld.GNT.EVENT.PATH_DOWN).settle) ∧
    exec .heartbeatSend s
      = .next ((s.sendMirror s.nv.mseq 2 (s.get Fld.GNT.STATUS.ROLE + 4 * b2n s.mirrorKeyMissing) 4 []).modJn fun j => { j with hbSent := true }) ∧
    (∀ (p sent role : Nat) (w : Bool), exec (.heartbeatReceive p sent role w) s = .next (s.heartbeat p sent role w).settle) ∧
    (s.jn.contest = false → exec .partnerSilent s = .next s.partnerSilent.settle) ∧
    (∀ (fixed bad : List Nat) (u : State), s.jn.contest = true → s.get Fld.GNT.STATUS.ROLE = 1 →
      u = (((s.evAt 402 Fld.GNT.EVENT.PARTNER_LOST).outOfStep).modJn fun j => { j with contest := false, keyGen := j.keyGen + 1 }) →
      exec (.reservationResult true fixed bad) s = .next (((u.recNow (.owner u.devNum u.resKey)).commitAll).settle)) ∧
    (∀ fixed bad : List Nat, s.jn.contest = true → s.get Fld.GNT.STATUS.ROLE = 1 → exec (.reservationResult false fixed bad) s = .next s.standDown.settle) ∧
    (s.mirrorSends = true → s.get Fld.GNT.STATUS.ROLE = 1 →
      exec .verifyRecordSend s = .next (s.mirSend (.verify s.nv.mseq s.jn.digTx)).2)

/-- Columns and slots: absence, failure, admission, management commands and the scrub (R146, R147, R148, R149, R150, R151, R166). -/
def Obligations.MemberFailureAndAdmission : Prop :=
  ∀ s : State, s.aon.coreUp = true →
    (∀ n c : Nat, s.colOfSlot n = some c → s.pt n ≠ ptUp → s.poweredUp c = true →
      exec (.linkDownAbsent n) s = .next ((if s.pt n = ptOff then (s.absentColumn c).awaitAbsent n c
        else s.absentColumn c).modPort n fun p => { p with removing := false }).settle) ∧
    (∀ c : Nat, (s.col c).st = 3 → (s.port (s.slotOfCol c)).awaiting = false → (s.port (s.slotOfCol c)).probe = false →
      exec (.absentHoldExpiry c) s = .next (s.failColumn c 0x08).settle) ∧
    (∀ (n : Nat) (d : DriveId), (s.port n).probe = true → s.pt n = ptUp →
      exec (.driveAdmissionCheck n d) s = .next (s.admission n d).settle) ∧
    (∀ n c : Nat, s.colOfSlot n = some c → ((s.col c).st = 2 ∨ (s.col c).st = 3 ∨ (s.col c).st = 6) →
      (s.wouldLose c = false →
        exec (.memberFailCmd n) s = .next ((s.failColumn c 0x0A).put Fld.MBR.MCMD_RESULT.CODE 0).settle) ∧
      (s.wouldLose c = true → exec (.memberFailCmd n) s = .next (s.put Fld.MBR.MCMD_RESULT.CODE 2).settle)) ∧
    (∀ (n c : Nat) (d : DriveId), s.flag (Fld.DRP_P.SLOT_STATUS.PRESENT n) = true → s.colOfSlot n = some c →
      (s.port n).drive = some d → (s.col c).st = 0 → (s.col c).refused = false → s.admitCode (some c) d = 0 →
      exec (.memberAdopt n) s = .next ((s.adopt c d).put Fld.MBR.MCMD_RESULT.CODE 0).settle) ∧
    (∀ n : Nat, s.flag (Fld.DRP_P.SLOT_STATUS.PRESENT n) = false →
      exec (.memberAdopt n) s = .next (s.put Fld.MBR.MCMD_RESULT.CODE 3).settle ∧
      exec (.memberClearRefused n) s = .next (s.put Fld.MBR.MCMD_RESULT.CODE 3).settle) ∧
    (∀ n c : Nat, s.flag (Fld.DRP_P.SLOT_STATUS.PRESENT n) = true → s.colOfSlot n = some c → (s.col c).refused = true →
      exec (.memberClearRefused n) s = .next (((s.setCol c { s.col c with refused := false }).modPort n fun p =>
        { p with awaiting := true }).put Fld.MBR.MCMD_RESULT.CODE 0).settle) ∧
    (s.lay.isSome = true → exec .scrubStart s
      = .next (s.scrubBegin.put Fld.MBR.MCMD_RESULT.CODE 0)) ∧
    exec .scrubStop s = .next (s.scrubStop.put Fld.MBR.MCMD_RESULT.CODE 0)

/-- Rebuild, resynchronisation, copy-back, scrub and repair run while the background gate is open (R106, R153, R157, R158, R160, R165, R167). -/
def Obligations.BackgroundRows : Prop :=
  ∀ s : State, s.aon.coreUp = true →
    (s.bgOk = true →
      (∀ (c : Nat) (io : BgIo), exec (.rebuildStripe c io) s = .next (s.rebuildStripe c io).settle) ∧
      (∀ (c : Nat) (io : BgIo), s.poweredUp c = true → exec (.resyncStrip c io) s = .next (s.resyncStrip c io).settle) ∧
      (∀ (c : Nat) (io : BgIo), (s.col c).st = 6 → s.poweredUp c = true →
        exec (.copybackStripe c io) s = .next (s.copybackStripe c io).settle) ∧
      (∀ io : BgIo, s.ctxOpen = false → s.scrubRuns = true → exec (.scrubStripe io) s = .next (s.scrubStripe io).settle) ∧
      (∀ (c n : Nat) (io : BgIo), s.repairable c = true →
        (s.mb.unread.any fun u => u.1 == n && s.layout.colAt n u.2.1 == c) = true →
        exec (.repairDone c n io) s = .next (s.repair c n io).settle)) ∧
    (s.bgOk = false →
      (∀ (c : Nat) (io : BgIo), exec (.rebuildStripe c io) s = .next s) ∧
      (∀ (c : Nat) (io : BgIo), exec (.resyncStrip c io) s = .next s) ∧
      (∀ (c : Nat) (io : BgIo), exec (.copybackStripe c io) s = .next s) ∧
      (∀ io : BgIo, exec (.scrubStripe io) s = .next s) ∧
      (∀ (c n : Nat) (io : BgIo), exec (.repairDone c n io) s = .next s))

/-- Frames through the switch, and the events of priority pauses (08_fabric_transport.md, 09_switch_and_cascade.md). -/
def Obligations.FramesAndPauses : Prop :=
  ∀ s : State, s.aon.coreUp = true →
    (∀ (p : Nat) (f : EthFrame), p < 7 → exec (.frameArrival p f) s = .next (s.receiveFrame p f).settle) ∧
    (∀ f : EthFrame, exec (.frameArrival 7 f) s = .next (s.offerFrame f).settle) ∧
    (∀ (p t : Nat) (u : State) (x : SwFrame) (r : List SwFrame), p < 7 → s.portUp p = true → s.pick p = some (t, u) →
      u.queueOf p t = x :: r → exec (.egressFrameStart p) s = .next (u.sendFrame x p)) ∧
    (∀ x : SwFrame, s.intHead = some x → exec (.egressFrameStart 7) s = .next (s.sendFrame x 7)) ∧
    (∀ (p t : Nat) (x : SwFrame) (r : List SwFrame), p < 7 → s.queueOf p t = x :: r →
      exec (.frameAgeDrop p t) s = .next ((((s.dropCopy x p).satInc ⟨Reg.SWC.DROP_AGED, 0, 32⟩).dropCount p t).event
        Fld.SWC.EVENT.AGED 145).settle) ∧
    (∀ (p e : Nat) (qs : List Nat), p < 6 → ∃ u : State, exec (.pfcFrameReceive p e qs) s = .next u ∧
      u = { s with sw := { s.sw with paused := u.sw.paused } } ∧
      (∀ t : Nat, t < 8 → bit e t = true → bit (s.get (Fld.FAB_E.PFC_CFG.LOSSLESS p)) t = true → 8 * p + t ∉ s.sw.ignored →
        (8 * p + t ∈ u.sw.paused ↔ qs.getD t 0 ≠ 0)) ∧
      (∀ t : Nat, t < 8 → (bit e t = false ∨ bit (s.get (Fld.FAB_E.PFC_CFG.LOSSLESS p)) t = false ∨ 8 * p + t ∈ s.sw.ignored) →
        (8 * p + t ∈ u.sw.paused ↔ 8 * p + t ∈ s.sw.paused)) ∧
      (∀ k : Nat, k / 8 ≠ p → (k ∈ u.sw.paused ↔ k ∈ s.sw.paused))) ∧
    (∀ p t : Nat, 8 * p + t ∈ s.sw.paused →
      exec (.pfcWatchdogExpiry p t) s = .next ((s.modSw fun w => { w with
        paused := dropEl w.paused (8 * p + t), ignored := addNew w.ignored (8 * p + t) }).event Fld.FAB.EVENT.PFC_STORM 177).settle) ∧
    (∀ p t : Nat, exec (.pfcStormEnd p t) s = .next (s.modSw fun w => { w with ignored := dropEl w.ignored (8 * p + t) })) ∧
    (∀ p t : Nat, exec (.pfcPauseExpiry p t) s = .next (s.modSw fun w => { w with paused := dropEl w.paused (8 * p + t) })) ∧
    (∀ p t : Nat, 8 * p + t ∈ s.sw.xoff → exec (.pfcXoffRefresh p t) s = .next (s.sendOwn p (0x100 + t) 0xFFFF))

/-- The tables, the identity frames and the links of the switch (09_switch_and_cascade.md, 08_fabric_transport.md). -/
def Obligations.SwitchTablesAndLinks : Prop :=
  ∀ s : State, s.aon.coreUp = true →
    (∀ i : Nat, (tgetD s.sw.neigh i Neigh.vacant).valid = true → (tgetD s.sw.neigh i Neigh.vacant).fixed = false →
      exec (.neighAgeOut i) s = .next (s.setNeigh i { tgetD s.sw.neigh i Neigh.vacant with valid := false })) ∧
    (∀ v : Nat, exec (.tblSelectLoad v) s = .next (s.tblLoad v)) ∧
    (∀ t i : Nat, t = bits (s.regN Reg.SWC.TBL_SELECT) 28 4 → i = bits (s.regN Reg.SWC.TBL_SELECT) 0 12 →
      (t < 3 → i < tblSize t → s.tblCheck t = 0 →
        exec .tblCommitEntry s = .next ((s.tblInstall t i).put ⟨Reg.SWC.TBL_STATUS, 1, 3⟩ 0).genInc) ∧
      (t < 3 → i < tblSize t → s.tblCheck t ≠ 0 →
        exec .tblCommitEntry s = .next (s.put ⟨Reg.SWC.TBL_STATUS, 1, 3⟩ (s.tblCheck t))) ∧
      (t < 3 → tblSize t ≤ i → exec .tblCommitEntry s = .next (s.put ⟨Reg.SWC.TBL_STATUS, 1, 3⟩ 1)) ∧
      (3 ≤ t → i < tblSize t → exec .tblCommitAddress s = .next (s.tblStage t i)) ∧
      (3 ≤ t → tblSize t ≤ i → exec .tblCommitAddress s = .next (s.put ⟨Reg.SWC.TBL_STATUS, 1, 3⟩ 1))) ∧
    (∀ p : Nat, 2 ≤ p → p ≤ 5 → s.portUp p = true →
      exec (.identityFrameSend p) s = .next (s.emit (.inter (s.interHdr p 0 s.devNum 4 false) (s.identOut p))) ∧
      (∀ board dev port devs smac : Nat, tget s.sw.ident p ≠ some (board, dev, port, devs, smac) →
        exec (.identityFrameReceive p board dev port devs smac) s
          = .next ((s.modSw fun w => { w with ident := tput w.ident p (board, dev, port, devs, smac) }).setTopo (p - 2)
              (s.topoResult (p - 2) board dev port devs) (board, dev, port, devs)).settle) ∧
      (∀ board dev port devs smac : Nat, tget s.sw.ident p = some (board, dev, port, devs, smac) →
        exec (.identityFrameReceive p board dev port devs smac) s = .next s.settle)) ∧
    (∀ p : Nat, 2 ≤ p → p ≤ 5 → tget s.sw.ident p = none →
      exec (.topoNoPeerTimeout p) s = .next (s.setTopo (p - 2) 0 (0, 0, 0, 0)).settle) ∧
    (∀ p : Nat, p < 7 → s.flag (Fld.FAB_E.PORT_CFG.ENABLE p) = true → s.aon.squelched = false → 6 ≤ s.boot.phase →
      s.boot.phase ≠ 9 → exec (.portLinkUp p) s
        = .next (((((s.on (Fld.FAB_E.PORT_STATUS.LINK_UP p)).on (Fld.FAB_E.PORT_STATUS.AN_DONE p)).putB
            (Fld.FAB_E.PORT_STATUS.FEC_LOCK p) (p ≠ 6)).modSw fun w => { w with ident := tdel w.ident p }).mgtLink p true)) ∧
    (∀ (p : Nat) (u : State), p < 7 → s.flag (Fld.FAB_E.PORT_STATUS.LINK_UP p) = true →
      u = ((((s.setN (Reg.FAB_E.PORT_STATUS p) 0).mgtLink p false).dropQueued p).modSw fun w =>
        { w with ident := tdel w.ident p, paused := w.paused.filter fun k => k / 8 ≠ p }) →
      exec (.portLinkDown p) s = .next (if 2 ≤ p ∧ p ≤ 5 then u.setTopo (p - 2) 0 (0, 0, 0, 0) else u).settle)

/-- Packets and timers of an established connection whose context is resident (08_fabric_transport.md). -/
def Obligations.ConnectionPackets : Prop :=
  ∀ s : State, s.aon.coreUp = true →
    (∀ (k : Nat) (c : Conn) (u : State), s.conn? k = some c → c.tr = 0 → c.st ≠ 4 → c.st ≠ 5 →
      u = (s.add64 Reg.QPC.HITS_LO 1).count { code := 0x0D, n := 1, masters := c.masters } →
      (∀ (port id : Nat) (p : RcPkt) (cap : Capsule) (q : Queue) (d : Conn), port ≠ 6 → p.op = .send true cap → p.ce = false →
        p.psn % 2 ^ 24 = c.epsn → c.sendLen + sendBytes p ≤ 16777216 → c.cntlid = some id → u.queue? id c.qid = some q →
        q.caps.length < q.depth → d = { c with resp := c.resp.filter fun r => psnLe p.psn r.1 } →
        exec (.rcRequestReceive k port p) s
          = .next ((((((u.setConn k d).setConn k { d with nakSent := false }).modQueue id c.qid fun x =>
              { x with caps := x.caps ++ [({ cap with cntlid := id, qid := c.qid }, false, u.now)] }).modConn k fun x =>
                { x with sendLen := 0 }).ackOwed k p 1 false).touch k).settle) ∧
      (∀ psn : Nat, c.una ≠ [] → psnLe c.oldest psn = true → psnLe (psn + 1) c.spsn = true →
        exec (.ackReceive k psn false) s
          = .next (((c.readsDone psn).foldl State.dataAcked (u.setConn k { c with
              una := c.left psn,
              retries := (if c.left psn = c.una then c.retries else 0),
              rnr := (if c.left psn = c.una then c.rnr else 0),
              rnrWait := none,
              due := (if c.left psn = [] then none else some (u.now + u.ackTimeout)) })).touch k).settle) ∧
      (∀ (psn : Nat) (m : TxMsg) (r : List TxMsg), c.una = m :: r → m.psn = psn → psn < 2 ^ 24 → psnLe (psn + 1) c.spsn = true →
        c.retries < u.get Fld.FAB.RC_CFG.RETRY_CNT →
        exec (.nakSequenceErrorReceive k psn false) s
          = .next (((((u.satInc Fld.FAB.NAK_RCVD.V).setConn k { c with retries := c.retries + 1 }).retransmit k psn).touch k)).settle) ∧
      (∀ (kind : Nat) (v : State),
        v = (((u.satInc Fld.FAB.NAK_RCVD.V).satInc Fld.FAB.CONN_FAILED.V).event Fld.FAB.EVENT.CONN_FAILED 176).delConn k →
        exec (.nakErrorReceive k kind false) s
          = .next ((match c.cntlid with | some id => v.ctrlDelete id | none => v).touch k).settle) ∧
      (∀ psn : Nat, c.una ≠ [] → (u.get Fld.FAB.RC_CFG.RNR_RETRY = 7 ∨ c.rnr < u.get Fld.FAB.RC_CFG.RNR_RETRY) →
        exec (.rnrNakReceive k psn false) s
          = .next (((u.satInc Fld.FAB.NAK_RCVD.V).setConn k { c with rnr := c.rnr + 1, rnrWait := some psn }).touch k).settle) ∧
      (∀ (psn key addr i : Nat) (ack : Bool) (data : List Byte) (w : Win) (d : Conn), psn % 2 ^ 24 = c.epsn → c.wmsg = none →
        data.length ≤ 16777216 →
        u.winServe (s.get Fld.FAB.WIN_STATUS.GEN) c.host true key addr data.length = some (i, w) →
        d = { c with resp := c.resp.filter fun r => psnLe psn r.1 } →
        exec (.windowWriteReceive k psn true true ack false key addr data.length data) s
          = .next ((((((u.setConn k d).setConn k { d with nakSent := false }).dramWrite
              ((winOf (u.winSet (s.get Fld.FAB.WIN_STATUS.GEN)) i).base + addr) data).modConn k fun x => { x with wmsg := none }).ackOwed k
                ⟨psn, ack, false, winBytes true data.length, .write true true key addr data.length data⟩ 1 false).touch k).settle) ∧
      (∀ (psn key addr len i : Nat) (w : Win) (d : Conn), psn % 2 ^ 24 = c.epsn → c.wmsg = none → len ≤ 16777216 →
        u.winServe (s.get Fld.FAB.WIN_STATUS.GEN) c.host false key addr len = some (i, w) →
        d = { c with resp := c.resp.filter fun r => psnLe psn r.1 } →
        exec (.windowReadRequest k psn false key addr len) s
          = .next (((((((u.setConn k d).setConn k { d with nakSent := false }).roce 0x30 k psn (packets c.pmtu len)).emit
              (.windowData k psn (u.dramRead (w.base + addr) len))).modConn k fun x =>
                { x with resp := x.resp ++ [(psn, s.get Fld.FAB.WIN_STATUS.GEN)] }).ackOwed k
                  ⟨psn, true, false, winBytes true 0, .readReq key addr len⟩ (packets c.pmtu len) true).touch k).settle) ∧
      (u.flag Fld.FAB.CC_CFG.ENABLE = true →
        (∀ t : Nat, c.cnpCut = some t → t + 1000 * u.get Fld.FAB.CC_CFG.CNP_INTERVAL ≤ u.now) →
        exec (.cnpReceive k) s = .next ((u.setConn k { c with
          rate := (if c.rate / 2 < 1000 then 1000 else c.rate / 2),
          cnpCut := some u.now }).touch k)) ∧
      (c.una ≠ [] → c.retries < s.get Fld.FAB.RC_CFG.RETRY_CNT →
        exec (.ackTimeout k) s
          = .next (((s.setConn k { c with retries := c.retries + 1 }).retransmit k c.oldest).touch k).settle) ∧
      (c.una ≠ [] → s.get Fld.FAB.RC_CFG.RETRY_CNT ≤ c.retries →
        exec (.ackTimeout k) s = .next ((s.connError k).touch k).settle) ∧
      (c.owed ≠ 0 → exec (.ackCoalesceExpiry k) s
        = .next ((s.setConn k { c with owed := 0 }).roce 0x20 k ((c.epsn + 0xFFFFFF) % 2 ^ 24) 0)) ∧
      (∀ p : Nat, c.rnrWait = some p → exec (.rnrRetryTimerExpiry k) s
        = .next (((s.setConn k { c with rnrWait := none }).retransmit k p).touch k)) ∧
      (s.flag Fld.FAB.CC_CFG.ENABLE = true → exec (.ccRateIncrease k) s = .next (s.setConn k { c with
        rate := (if c.rate + 1000 * s.get Fld.FAB.CC_CFG.RAI < portMbps c.port then c.rate + 1000 * s.get Fld.FAB.CC_CFG.RAI
          else portMbps c.port) })) ∧
      (∀ (port : Nat) (p : RcPkt), port ≠ 6 → p.op ≠ .notRc →
        exec (.rcRequestReceive k port p) s = .next (u.pktRun k (s.asReq p)).settle) ∧
      (∀ (psn : Nat) (ce : Bool), exec (.ackReceive k psn ce) s = .next (u.pktRun k (.ack psn ce)).settle) ∧
      (∀ (psn : Nat) (ce : Bool), exec (.nakSequenceErrorReceive k psn ce) s = .next (u.pktRun k (.nakSeq psn ce)).settle) ∧
      (∀ (kind : Nat) (ce : Bool), exec (.nakErrorReceive k kind ce) s = .next (u.pktRun k (.nakErr kind ce)).settle) ∧
      (∀ (psn : Nat) (ce : Bool), exec (.rnrNakReceive k psn ce) s = .next (u.pktRun k (.rnr psn ce)).settle) ∧
      (∀ (psn key addr len : Nat) (first last ack ce : Bool) (data : List Byte),
        exec (.windowWriteReceive k psn first last ack ce key addr len data) s
          = .next (u.pktRun k (s.asReq ⟨psn, ack, ce, winBytes first data.length, .write first last key addr len data⟩)).settle) ∧
      (∀ (psn key addr len : Nat) (ce : Bool), exec (.windowReadRequest k psn ce key addr len) s
        = .next (u.pktRun k (s.asReq ⟨psn, true, ce, winBytes true 0, .readReq key addr len⟩)).settle) ∧
      exec (.cnpReceive k) s = .next (u.pktRun k .cnp)) ∧
    (∀ (k port : Nat) (p : RcPkt), port ≠ 6 → p.op = .notRc → exec (.rcRequestReceive k port p) s = .next (s.satInc Fld.FAB.BAD_RX.V)) ∧
    (∀ (k : Nat) (p : RcPkt), exec (.rcRequestReceive k 6 p) s = .next (s.satInc (Fld.FAB_E.RX_DROP.V 6)))

/-- Connections coming and going, context fetches, windows, read requests and responder resources (08_fabric_transport.md). -/
def Obligations.ConnectionsAndWindows : Prop :=
  ∀ s : State, s.aon.coreUp = true →
    (∀ (port peer pl rf hs ird ds pm psn : Nat) (h : Option Nat), port ≤ 5 →
      (pl < 32 → exec (.cmReq port peer pl rf hs ird ds pm psn h) s = .next (s.emit (.cm 2 peer 0x01))) ∧
      (32 ≤ pl → rf ≠ 0 → exec (.cmReq port peer pl rf hs ird ds pm psn h) s = .next (s.emit (.cm 2 peer 0x02))) ∧
      (32 ≤ pl → rf = 0 → 64 ≤ (s.fab.conns.filter fun x => x.2.st == 1).length →
        exec (.cmReq port peer pl rf hs ird ds pm psn h) s
          = .next ((s.event Fld.QPC.EVENT.SETUP_EXHAUSTED 274).emit (.cm 2 peer 0x06)).settle) ∧
      (32 ≤ pl → rf = 0 → (s.fab.conns.filter fun x => x.2.st == 1).length < 64 → ird = 0 →
        exec (.cmReq port peer pl rf hs ird ds pm psn h) s = .next (s.emit (.cm 2 peer 0x07))) ∧
      (32 ≤ pl → rf = 0 → (s.fab.conns.filter fun x => x.2.st == 1).length < 64 → ird ≠ 0 →
        ∃ (t : State) (k : Nat) (c : Conn) (arg : Nat), exec (.cmReq port peer pl rf hs ird ds pm psn h) s
            = .next ((t.setConn k c).emit (.cm 1 peer arg)) ∧
          c.port = port ∧ c.peer = peer ∧ c.st = 1 ∧ c.tr = 0 ∧ c.hsq = hs ∧ c.epsn = psn % 2 ^ 24 ∧ c.cntlid = none)) ∧
    (∀ k : Nat, exec (.cmDreqReceive k) s = .next (s.connGone k).settle) ∧
    (∀ (k : Nat) (c : Conn), s.conn? k = some c → c.st = 1 →
      exec (.setupTimeout k) s = .next ((s.emit (.cm 3 c.peer 0)).delConn k)) ∧
    (∀ (k ns : Nat) (c : Conn), s.conn? k = some c → c.st = 4 →
      ns ≤ (s.setConn k { c with st := 3, held := [] }).get Fld.QPC.FETCH_LAT_MAX.V →
      exec (.contextFetchDone k ns) s = .next ((((c.held.foldl (fun s h => s.pktRun k h.2)
        (s.setConn k { c with st := 3, held := [] })).sendWaiting k).touch k).fetchNext).settle) ∧
    exec .deadlineScan s = .next ((s.fab.conns.filter fun x => x.2.st == 5 &&
      (match x.2.due with | some t => decide (t ≤ s.now) | none => false)).foldl (fun s x => s.fetch x.1) s) ∧
    (s.flag Fld.FAB.WIN_STATUS.OLD_IN_FLIGHT = false → exec .winCommit s = .next s.winSwitch) ∧
    (s.flag Fld.FAB.WIN_STATUS.OLD_IN_FLIGHT = true → exec .winCommit s = .next (s.on Fld.FAB.WIN_STATUS.PENDING)) ∧
    (s.flag Fld.FAB.WIN_STATUS.OLD_IN_FLIGHT = true → s.oldUsed (s.get Fld.FAB.WIN_STATUS.GEN) = false →
      s.flag Fld.FAB.WIN_STATUS.PENDING = false →
      exec .winOldRelease s = .next ((s.modFab fun f => { f with old := [] }).off Fld.FAB.WIN_STATUS.OLD_IN_FLIGHT)) ∧
    (∀ (k psn : Nat) (c : Conn), s.conn? k = some c → exec (.responderResourceTimeout k psn) s
      = .next (s.setConn k { c with resp := c.resp.filter fun r => r.1 ≠ psn })) ∧
    (∀ (k psn : Nat) (bs : List HostBlk), exec (.readResponseReceive k psn false bs) s = .next (s.readResponse k psn bs).settle) ∧
    (∀ (k psn t off n cells : Nat) (bs : List HostBlk) (cn : Conn) (m : TxMsg) (c : Cmd) (io : IoCmd) (ns : Ns) (u : State),
      s.conn? k = some cn → (cn.una.find? fun y => y.psn == psn) = some m → m.kind = .readReq t off n cells → bs.length = n →
      s.cmd? t = some c → c.st = .running → c.claimed = false → c.io = some io → s.ns? io.nsid = some ns →
      u = (s.setConn k { cn with
        una := (cn.una.filter fun y => y.psn ≠ psn),
        retries := 0,
        due := (if (cn.una.filter fun y => y.psn ≠ psn) = [] then none else some (s.now + s.ackTimeout)) }).touch k →
      exec (.readResponseReceive k psn false bs) s
        = .next ((u.setCmd t { c with rdOut := c.rdOut - 1 }).ingress t { c with rdOut := c.rdOut - 1 } io ns off bs).settle) ∧
    (∀ t : Nat, exec (.rdmaReadIssue t) s = .next (s.rdmaRead t).settle) ∧
    (∀ (t m cells : Nat) (c : Cmd) (io : IoCmd) (q : Queue) (ns : Ns) (k : Conn), s.cmd? t = some c → c.io = some io →
      s.queue? c.cntlid c.qid = some q → s.ns? io.nsid = some ns → s.conn? q.conn = some k → c.st = .running → c.claimed = false →
      c.zone.isSome = true → c.asked < c.total → s.stopped = false → k.tr = 0 → k.st ≠ 4 → k.st ≠ 5 → k.waitTx = [] →
      m = min (c.total - c.asked) (131072 / (4096 + lbafMeta ns.lbaf)) → cells = (dataBytes ns m + 255) / 256 →
      k.reads.length < min k.ird 16 → cells ≤ s.get Fld.FAB.RD_POOL.CELLS_FREE → s.get Fld.FAB.RD_POOL.REQ_OUT < 64 →
      exec (.rdmaReadIssue t) s
        = .next (((s.setCmd t { c with asked := c.asked + m, rdOut := c.rdOut + 1 }).emit (.rdmaRead c.cntlid c.qid c.cid c.asked io.rkey
            (io.addr + dataBytes ns c.asked) (dataBytes ns m))).connSend q.conn (.readReq t c.asked m cells)).settle)

/-- PTP messages, PPS and setting the time (10_time_gates_and_shaping.md). -/
def Obligations.PtpAndPps : Prop :=
  ∀ s : State, s.aon.coreUp = true →
    (∀ (p kind par : Nat) (o : Option Int) (st : Option Nat), p < 7 →
      exec (.ptpMessageReceive p kind false o st par) s = .next (s.satInc ⟨Reg.PTP.RX_DROP, 0, 32⟩).settle) ∧
    (∀ (p kind x par : Nat), p < 7 → bit (bits (s.regN Reg.PTP.CFG) 8 7) p = true →
      exec (.ptpMessageReceive p kind true none (some x) par) s = .next ((((if kind < 4 then s.modTg fun t =>
        { t with rxStamp := tput t.rxStamp p (s.ptpTime - s.phyLat p) } else s).ptpPort p x).ptpParent p par).ptpAnswer p kind).settle) ∧
    ((s.get Fld.PTP.STATUS.SERVO = 2 ∨ s.get Fld.PTP.STATUS.SERVO = 3) → exec .syncLossTimeout s = .next s.servoHold.settle) ∧
    (∀ p : Nat, p < 7 → s.get (portState p) = 6 → exec (.ptpSyncSend p) s
      = .next (((s.ptpSend p 0 (s.txStamp p)).ptpSend p 8 (s.txStamp p)).ptpSend p 11 s.announced)) ∧
    (s.get Fld.PTP.PPS.IN_MODE = 1 → exec .ppsInEdge s = .next (s.wr64 Reg.PTP.PPS_IN_TS_LO s.ptpTime)) ∧
    (s.get Fld.PTP.PPS.IN_MODE = 2 → exec .ppsInLost s = .next (s.event Fld.PTP.EVENT.PPS_IN_LOST 116).settle) ∧
    (s.flag Fld.PTP.PPS.OUT_EN = true → s.ptpTime % 10 ^ 9 = 0 →
      exec .ppsOutRise s = .next (s.modAon fun a => { a with ppsOut := true })) ∧
    exec .ppsOutFall s = .next (s.modAon fun a => { a with ppsOut := false }) ∧
    ((s.get Fld.PTP.PPS.IN_MODE = 2 ∨ ((List.range 7).any fun n => s.get (portState n) = 9) = false) →
      exec .ptpSetGo s = .next (s.modTg fun t => { t with setGo := some (s.rd64 Reg.PTP.SET_TIME_LO) })) ∧
    (∀ v : Nat, s.tg.setGo = some v → exec .ptpTimeSet s = .next
      ((((s.advTo ((s.ptpTime / 1000 + 1) * 1000)).modTg fun t => { t with setGo := none }).timeStep v)).settle) ∧
    (∀ p x : Nat, p < 7 → s.get (portState p) = 9 → x % 16 ≠ 9 →
      exec (.announceReceiptTimeout p x) s = .next (s.ptpPort p (x % 16)).settle)

/-- Gate lists: entries, commits and starts; and the refill of shapers and policers (10_time_gates_and_shaping.md). -/
def Obligations.GatesAndShapers : Prop :=
  ∀ s : State, s.aon.coreUp = true →
    (∀ (l : Nat) (g : GSet), l < 8 → (s.glist l).running = some g → exec (.gateEntryStart l) s = .next (s.gateEntry l).settle) ∧
    (∀ l code : Nat, l = s.get Fld.TGS.LSEL.V → code = commitCheck l (s.glist l) s.tg.cal → code ≠ 0 →
      exec .listCommit s = .next ((s.modList l fun x => { x with error := code }).event Fld.TGS.EVENT.LIST_REFUSED 130).settle) ∧
    (∀ (l : Nat) (g : GSet), l = s.get Fld.TGS.LSEL.V → l ≠ 7 → commitCheck l (s.glist l) s.tg.cal = 0 →
      g = ⟨(s.glist l).sBase, (s.glist l).sCycle, (List.range (s.glist l).sLen).map (fun i => tgetD (s.glist l).sEnt i (0, 0)), 0, 0⟩ →
      ((s.flag ⟨Reg.TGS.CFG, 0, 1⟩ = false ∨ s.flag Fld.PTP.STATUS.LOCKED = true) → exec .listCommit s
        = .next ((((s.modList l fun x => { x with error := 0, pending := some g, waitLock := false }).schedule l).tgsStatus)).settle) ∧
      (s.flag ⟨Reg.TGS.CFG, 0, 1⟩ = true → s.flag Fld.PTP.STATUS.LOCKED = false → exec .listCommit s
        = .next ((s.modList l fun x => { x with error := 0, pending := some g, waitLock := true }).tgsStatus).settle)) ∧
    (∀ (l : Nat) (g : GSet), l < 7 → (s.glist l).pending = some g → (s.glist l).waitLock = false →
      exec (.listStart l) s = .next ((((((s.advTo g.start).modList l fun x =>
        { x with pending := none, running := some g, pos := 0, cyc := 0 }).applyGates l).tgsStatus).event
          Fld.TGS.EVENT.LIST_STARTED 129)).settle) ∧
    exec .shaperRefill s = .next (queues56.foldl (fun s x => s.shapeTick x.1 x.2) s) ∧
    exec .policerRefill s = .next (queues56.foldl (fun s x => s.policeTick x.1 x.2) s)

/-- The DMA engine: doorbells, stops, resets, descriptors, bursts and peripheral lines (11_dma_engine.md). -/
def Obligations.DmaCommands : Prop :=
  ∀ s : State, s.aon.coreUp = true →
    (∀ (p : Path) (n : Nat), n < 32 → (8 ≤ n ∨ p = .fw) →
      (s.flag Fld.AES.STATUS.HALTED = false → s.aon.dumpPhase = 0 → s.dmaSt n = 0 →
        exec (.dmaDoorbell p n) s = .next ((s.put (Fld.DMA_C.DB_COUNT.V n) (s.get (Fld.DMA_C.DB_COUNT.V n) + 1)).dmaFetch n
          ((s.put (Fld.DMA_C.DB_COUNT.V n) (s.get (Fld.DMA_C.DB_COUNT.V n) + 1)).rd64 (Reg.DMA_C.HEAD_LO n))).settle) ∧
      (s.dmaSt n = 5 → exec (.dmaStop p n) s = .next ((s.setDma n 0).event (Fld.DMA_C.EVENT.STOPPED n) (1232 + 2 * n)).settle) ∧
      (s.dmaSt n = 7 → exec (.dmaReset p n) s = .next ((((s.modDma n fun c => { c with
        jobs := [], bursts := [], fetch := none, stopping := false, want := none }).setDma n 0).put (Fld.DMA_C.BUF_USE.V n)
          0).lineRelease n).settle)) ∧
    (∀ (p : Path) (n : Nat), n < 8 → p ≠ .fw →
      exec (.dmaDoorbell p n) s = .next (s.event Fld.DMA.EVENT.FW_WRITE 1297).settle ∧
      exec (.dmaStop p n) s = .next (s.event Fld.DMA.EVENT.FW_WRITE 1297).settle ∧
      exec (.dmaReset p n) s = .next (s.event Fld.DMA.EVENT.FW_WRITE 1297).settle) ∧
    (∀ n a : Nat, (s.dmaCh n).fetch = some a → s.dmaSt n = 1 →
      (a % 64 = 0 → a + 64 ≤ s.dramTop → s.descCheck n (decodeDesc (s.dramRead a 64)) = 0 →
        exec (.descFetchDone n false) s = .next (s.dmaAccept n a (decodeDesc (s.dramRead a 64))).settle) ∧
      (a % 64 = 0 → a + 64 ≤ s.dramTop → s.descCheck n (decodeDesc (s.dramRead a 64)) ≠ 0 →
        exec (.descFetchDone n false) s = .next (s.dmaRefuse n a (s.descCheck n (decodeDesc (s.dramRead a 64)))
          (decodeDesc (s.dramRead a 64))).settle) ∧
      (a % 64 ≠ 0 → exec (.descFetchDone n false) s = .next (s.dmaRefuse n a 0x11 (decodeDesc [])).settle)) ∧
    (∀ (n : Nat) (hi : Bool) (j : Job) (data : List Byte) (err : Nat) (u : State), u = s.lineArb → s.flag Fld.AES.STATUS.HALTED = false →
      u.dmaPick u.readReady u.dma.rrRead = some (n, hi) → (u.dmaCh n).jobs.getLast? = some j →
      exec (.dmaReadBurst data err) s = .next ((u.modDmac fun d => { d with
        rrRead := if hi then (n, u.dma.rrRead.2) else (u.dma.rrRead.1, n) }).readBurst n j data err).settle) ∧
    (∀ (n a : Nat) (hi : Bool) (b : List Byte) (r : List (Nat × List Byte)) (u : State), u = s.lineArb → s.flag Fld.AES.STATUS.HALTED = false →
      u.dmaPick u.writeReady u.dma.rrWrite = some (n, hi) → (u.dmaCh n).bursts = (a, b) :: r → bit u.ep.command 2 = true →
      exec (.dmaWriteBurst 0) s = .next ((u.modDmac fun d => { d with
        rrWrite := if hi then (n, u.dma.rrWrite.2) else (u.dma.rrWrite.1, n) }).dmaWrite1 n)) ∧
    (∀ (n : Nat) (j : Job) (rest : List Job), (s.dmaCh n).jobs = j :: rest → j.closed = true → j.written = j.issued →
      exec (.dmaWriteComplete n 0) s = .next (s.descComplete n j rest 0).settle) ∧
    (∀ n : Nat, s.dmaSt n = 6 → (s.dmaCh n).stopping = false → chainEnded (s.dmaCh n).jobs = false →
      (decodeDesc (s.dramRead (s.rd64 (Reg.DMA_C.CUR_DESC_LO n)) 64)).isEnd = true →
      exec (.tailRefetch n false) s = .next (s.dmaAtEnd n).settle) ∧
    (∀ (l : Nat) (up : Bool), l < 10 → tget s.dma.owner l = none →
      exec (.periphRequestChange l up) s = .next (s.setN Reg.DMA.LINES (putBit (s.regN Reg.DMA.LINES) l up))) ∧
    (∀ (l n : Nat) (u : State), l < 10 → tget s.dma.owner l = some n →
      u = s.setN Reg.DMA.LINES (putBit (s.regN Reg.DMA.LINES) l true) → u.dmaSt n = 4 → (u.dmaCh n).want = some l →
      exec (.periphRequestChange l true) s = .next (u.setDma n 3)) ∧
    (∀ (l n cnt : Nat) (j : Job) (data : List Byte), tget s.dma.owner l = some n → (s.dmaCh n).jobs.getLast? = some j →
      j.d.sspace = 2 → j.d.line = l → j.closed = false → s.dmaSt n ≠ 3 → s.dmaSt n ≠ 4 →
      exec (.periphFinalRequest l cnt data) s = .next (s.modDmac fun d => { d with finals := tput d.finals l (fitBytes cnt data) })) ∧
    (∀ n : Nat, n < 32 → exec (.epCompletionTimeout n) s = .next (s.dmaEpFail n).settle)

/-- Key imports, zeroises, tamper alarms and the pipelines' window (12_cipher_and_keys.md). -/
def Obligations.KeyStoreCommands : Prop :=
  ∀ s : State, s.aon.coreUp = true →
    (s.flag Fld.KEY.IMP_RESULT.BUSY = false → exec .keyImport s = .next
      (({ s with keys := { s.keys with imp := some (s.regN Reg.KEY.IMP_CTRL,
          (List.range 18).flatMap (fun m => leBytes 4 (s.regN (Reg.KEY.IMP_DATA m))),
          (List.range 24).flatMap (fun m => leBytes 4 (s.regN (Reg.KEY.EPHEM m)))) } }).on Fld.KEY.IMP_RESULT.BUSY)) ∧
    (s.keys.imp.isSome = true → exec .keyImportDone s = .next s.importDone.settle) ∧
    (∀ n : Nat, n < 4096 → s.keys.imp = none → exec (.keyZeroiseSlot n) s = .next (s.zeroNow (some n)).settle) ∧
    (s.keys.imp = none → exec .keyZeroiseAll s = .next (s.zeroNow none).settle) ∧
    (∀ (ctrl : Nat) (d e : List Byte), s.keys.imp = some (ctrl, d, e) →
      (∀ n : Nat, n < 4096 → n ≠ ctrl % 4096 →
        exec (.keyZeroiseSlot n) s = .next ({ s with keys := { s.keys with waiting := s.keys.waiting ++ [some n] } } : State).settle) ∧
      (∀ n : Nat, n = ctrl % 4096 → exec (.keyZeroiseSlot n) s
        = .next ((((s.importEnd 8).event Fld.KEY.EVENT.IMPORT_FAILED 1329).zeroNow (some n))).settle) ∧
      exec .keyZeroiseAll s = .next ((((s.importEnd 8).event Fld.KEY.EVENT.IMPORT_FAILED 1329).zeroNow none)).settle) ∧
    (s.flag Fld.KEY.STATUS.ZEROISING = true →
      exec .zeroiseDone s = .next ((s.off Fld.KEY.STATUS.ZEROISING).event Fld.KEY.EVENT.ZEROISED 1330).settle) ∧
    (∀ d : Nat, d < 4 → exec (.tamperAlarm d) s = .next (s.event ⟨Reg.AES.TAMPER, d, 1⟩ (1312 + d)).settle) ∧
    exec .aesFloorWindowEnd s = .next { s with keys := { s.keys with winStorage := 0, winDesc := 0 } }

/-- A drive port from reset to Up, and out of it (13_drive_ports.md, 07_failure_and_rebuild.md). -/
def Obligations.DrivePortLink : Prop :=
  ∀ (s : State) (n : Nat), s.aon.coreUp = true → n < 48 →
    (s.pt n = ptReset → s.flag (Fld.SLP_C.STATUS.PG n) = true →
      exec (.perstRelease n) s = .next ((s.put (Fld.DRP_P.STATUS.STATE n) ptTraining).perst n true)) ∧
    (∀ (sp w : Nat) (u : State), (s.pt n = ptTraining ∨ s.pt n = ptRecovering) →
      u = (((s.put (Fld.DRP_P.STATUS.STATE n) ptConfiguring).put (Fld.DRP_P.STATUS.SPEED n) sp).put (Fld.DRP_P.STATUS.WIDTH n) w) →
      (4 ≤ sp → s.fullWidth ≤ w → exec (.linkL0Reached n sp w) s = .next u.settle) ∧
      ((sp < 4 ∨ w < s.fullWidth) → exec (.linkL0Reached n sp w) s
        = .next (u.event (Fld.DRP_P.SLOT_STATUS.DEGRADED n) (drpSrc n 4)).settle)) ∧
    (s.pt n = ptTraining → (s.port n).tries = 0 →
      exec (.trainingTimeout n) s
        = .next (((s.put (Fld.DRP_P.STATUS.STATE n) ptReset).perst n false).modPort n fun p => { p with tries := 1 })) ∧
    (s.pt n = ptTraining → (s.port n).tries ≠ 0 → exec (.trainingTimeout n) s = .next (s.trainFail n).settle) ∧
    (∀ w : Nat, s.pt n = ptConfiguring →
      exec (.portConfigured n w) s = .next (((((s.put (Fld.DRP_P.STATUS.STATE n) ptUp).putBit64 Reg.DRP.UP_LO n true).modPort n fun p =>
        { p with cfsTried := false, tries := 0 }).memberSetup n).critWarn n w).settle) ∧
    (s.pt n = ptUp → exec (.linkLeavesL0 n) s = .next ((s.portLeave n ptRecovering).satInc (Fld.DRP_P.LINK_ERR.V n)).settle) ∧
    (∀ u : State, s.pt n = ptRecovering → u = ((s.portOff n).modPort n fun p => { p with wanted := false, probe := false }) →
      (u.colOfSlot n = none → exec (.recoveryTimeout n) s = .next u.settle) ∧
      (∀ c : Nat, u.colOfSlot n = some c → (u.power c).ps = 6 → exec (.recoveryTimeout n) s = .next (u.wakeFail c).settle) ∧
      (∀ c : Nat, u.colOfSlot n = some c → (u.power c).ps ≠ 6 →
        exec (.recoveryTimeout n) s = .next ((u.absentColumn c).awaitAbsent n c).settle)) ∧
    (s.pt n = ptQuiescing → bit s.aon.slotPerst n = false →
      exec (.portQuiesced n) s = .next (if (s.port n).removing = true then (s.portOff n).removalDone n else s.portOff n).settle) ∧
    (s.pt n = ptUp → (s.port n).cfsTried = false →
      exec (.controllerFatalStatus n) s
        = .next ((s.modPort n fun p => { p with cfsTried := true }).emit (.member n 0 10 0 0 []))) ∧
    ((s.port n).cfsTried = true → exec (.controllerReadyTimeout n) s = .next
      ((s.modPort n fun p => { p with cfsTried := false }).onSlot n fun s c => s.failMark c 0x02).settle)

/-- Member requests on a drive port: issue, completion, time-out, and the tag buffers (13_drive_ports.md, 07_failure_and_rebuild.md). -/
def Obligations.DriveRequests : Prop :=
  ∀ s : State, s.aon.coreUp = true →
    (∀ n : Nat, s.stopped = false → s.pt n = ptUp → (s.port n).live < 1024 →
      exec (.memberRequestIssue n) s = .next (s.reqIssue n).settle ∧
      (∀ (r : MReq) (wrr : Nat × Nat) (t : Nat) (u : State),
        s.pickReq { s.port n with reqs := ((s.port n).reqs.filter fun q => !s.heldBack q) } = some (r, wrr) →
        ((List.range 2048).find? fun y => (tget (s.port n).tags y).isNone) = some t → (r.write = true → s.writeCheck r = []) →
        u = (s.modPort n fun p => { p with
          reqs := (p.reqs.filter fun q => q.id ≠ r.id),
          tags := (tput p.tags t ⟨r, false, s.now, [], 0⟩),
          wrr := wrr }) →
        exec (.memberRequestIssue n) s
          = .next ((((if r.write then u.mzoneWrite r.col r.stripe r.lba else u).cmdOut n t r 0).usedNow r.col).tagsShow n).settle)) ∧
    (∀ (n t : Nat) (x : PTag) (bs : List Blk), n < 48 → t < 2048 → tget (s.port n).tags t = some x → x.quarantined = false →
      x.moved + s.cmdBlks n x.req < x.req.n →
      exec (.memberCompletion n t 0 bs) s = .next ((s.modPort n fun p => { p with
        tags := tput p.tags t { x with moved := x.moved + s.cmdBlks n x.req, at_ := s.now } }).cmdOut n t x.req
          (x.moved + s.cmdBlks n x.req)).settle) ∧
    (∀ (n t : Nat) (x : PTag) (bs : List Blk) (u : State), n < 48 → t < 2048 → tget (s.port n).tags t = some x →
      x.quarantined = false → x.req.n ≤ x.moved + s.cmdBlks n x.req →
      u = (((s.modPort n fun p => { p with tags := tdel p.tags t }).memberCount n x.req true ((s.now - x.at_) / 1000)).tagFreed n) →
      (x.req.write = false → exec (.memberCompletion n t 0 bs) s = .next (u.readEnd x.req true bs).settle) ∧
      (x.req.write = true → exec (.memberCompletion n t 0 bs) s
        = .next ((u.writeOver x.req.own x.req.stripe x.req.pos).relCheck.finishAll).settle)) ∧
    (∀ (n t st : Nat) (bs : List Blk), n < 48 → t < 2048 → tget (s.port n).tags t = none →
      exec (.memberCompletion n t st bs) s
        = .next ((s.satInc (Fld.DRP_P.LATE_CPL.V n)).detail 0x21 (drpSrc n 5) (n + 2 ^ 16 * t) 0 0).settle) ∧
    (∀ (n t : Nat) (x : PTag), tget (s.port n).tags t = some x → x.quarantined = false →
      exec (.completionTimeout n t) s = .next (s.cplTimeout n t).settle) ∧
    (∀ (n t : Nat) (x : PTag), tget (s.port n).tags t = some x → x.quarantined = true →
      exec (.tagQuarantineEnd n t) s = .next ((s.modPort n fun p => { p with tags := tdel p.tags t }).tagsShow n)) ∧
    (∀ (n a : Nat) (x : PTag) (bs : List Byte), tget (s.port n).tags (a / tagBytes) = some x → x.quarantined = false →
      a % tagBytes + bs.length ≤ tagBytes →
      exec (.memberInboundWrite n a bs) s = .next (s.modPort n fun p => { p with tags := (tput p.tags (a / tagBytes)
        { x with buf := bs.zipIdx.foldl (fun b e => tput b (a % tagBytes + e.2) e.1) x.buf }) })) ∧
    (∀ (n a : Nat) (x : PTag) (bs : List Byte), tget (s.port n).tags (a / tagBytes) = some x → x.quarantined = true →
      exec (.memberInboundWrite n a bs) s = .next (s.satInc (Fld.DRP_P.LATE_DATA.V n))) ∧
    (∀ (n a len : Nat) (x : PTag), tget (s.port n).tags (a / tagBytes) = some x →
      (x.quarantined = false → a % tagBytes + len ≤ tagBytes →
        exec (.memberInboundRead n a len) s = .next (s.emit (.pcie 0 ((List.range len).map fun i =>
          (tget x.buf (a % tagBytes + i)).getD ((x.req.blks.flatMap blkBytes).getD (a % tagBytes + i) 0))))) ∧
      ((x.quarantined = true ∨ tagBytes < a % tagBytes + len) →
        exec (.memberInboundRead n a len) s = .next (s.emit (.pcie 1 [])))) ∧
    (∀ n a len : Nat, tget (s.port n).tags (a / tagBytes) = none →
      exec (.memberInboundRead n a len) s = .next (s.emit (.pcie 1 []))) ∧
    (∀ n w : Nat, s.pt n = ptUp → exec (.memberAsyncEvent n w) s = .next ((s.healthRead n).critWarn n w).settle)

/-- Presence, buttons, removal, NVMe-MI polls, port enables and configuration accesses (13_drive_ports.md). -/
def Obligations.PresenceAndSideband : Prop :=
  ∀ (s : State) (n : Nat), s.aon.coreUp = true → n < s.slotsInUse →
    (∀ u v : State, s.flag (Fld.DRP_P.SLOT_STATUS.PRESENT n) = false →
      u = (((s.modPort n fun p => { p with rawAbsent := false }).putBit64 Reg.DRP.PRESENT_LO n true).on
        (Fld.DRP_P.SLOT_STATUS.PRESENT n)).eventHeld Fld.DRP.EVENT.PRESENCE (drpSrc n 0) →
      v = u.event (Fld.DRP_P.SLOT_STATUS.PRESENCE_CHANGED n) (drpSrc n 0) →
      exec (.presenceChange n true) s = .next (if v.boot.phase < 7 then v else v.awaitProbe n).settle) ∧
    (s.flag (Fld.DRP_P.SLOT_STATUS.PRESENT n) = true →
      exec (.presenceChange n true) s = .next (s.modPort n fun p => { p with rawAbsent := false }).settle) ∧
    (exec (.presenceChange n false) s = .next (s.presenceChange n false).settle) ∧
    (s.flag (Fld.DRP_P.SLOT_STATUS.PRESENT n) = true →
      exec (.buttonPress n) s = .next ((s.event (Fld.DRP_P.SLOT_STATUS.BUTTON n) (drpSrc n 1)).putB
        (Fld.DRP_P.SLOT_STATUS.BUTTON_WINDOW n) (!s.flag (Fld.DRP_P.SLOT_STATUS.BUTTON_WINDOW n)))) ∧
    (s.flag (Fld.DRP_P.SLOT_STATUS.BUTTON_WINDOW n) = true →
      exec (.buttonWindowExpiry n) s = .next ((s.off (Fld.DRP_P.SLOT_STATUS.BUTTON_WINDOW n)).removal n).settle) ∧
    exec (.slotRemoveRequest n) s = .next (s.removal n).settle ∧
    (∀ v : State, v = (((s.emit (.smbus (s.chainOf n) (s.get Fld.DRP.MI_CFG.MUX_ADDR) (n % 12 + 1))).emit (.smbus (s.chainOf n) 0x6A 0)).emit
        (.smbus (s.chainOf n) (s.get Fld.DRP.MI_CFG.MUX_ADDR) 0)) → s.pt n ≠ ptOff → bit s.mb.chainsStuck (s.chainOf n) = false → bit (s.get Fld.SIO.STATUS.V) (s.chainOf n) = false →
      exec (.miPoll n none) s = .next (v.on (Fld.DRP_P.MI_STATUS.STALE n)) ∧
      (∀ w temp life : Nat, exec (.miPoll n (some (w, temp, life))) s = .next (((v.setN
        (Reg.DRP_P.MI_STATUS n) (life % 256 + 2 ^ 8 * (255 - w % 256) + 2 ^ 16 * (temp % 256))).modPort n fun p =>
          { p with miAt := s.now + 1 }).critWarn n (255 - w % 256)).settle)) ∧
    (∀ k : Nat, k < 4 → exec (.miBusStuck k false) s = .next (s.emit (.smbus k 0 0)) ∧
      exec (.miBusStuck k true) s = .next (((s.emit (.smbus k 0 0)).modMb fun m =>
        { m with chainsStuck := setBit m.chainsStuck k }).eventHeld Fld.DRP.EVENT.MI_BUS_STUCK
          (drpSrc (k * (if s.flag Fld.DRP.MODE.X4 then 6 else 12)) 5)).settle ∧
      exec (.miSuspendEnd k) s = .next (s.modMb fun m => { m with chainsStuck := clrBit m.chainsStuck k })) ∧
    (∀ v : Bool, exec (.portEnableWrite n v) s = .next (s.portEnable n v).settle) ∧
    (s.flag (Fld.DRP_P.CFG_STATUS.BUSY n) = false → s.flag (Fld.DRP_P.STATUS.PENDING n) = false →
      (s.pt n = ptUp ∨ s.pt n = ptConfiguring) →
      exec (.memberCfgRead n) s = .next (((s.on (Fld.DRP_P.CFG_STATUS.BUSY n)).modPort n fun p => { p with cfgOp := 1 }).emit
        (.member n 0 11 (s.get (Fld.DRP_P.CFG_ADDR.V n)) 0 [])) ∧
      (s.cfgWritable n = true →
        exec (.memberCfgWrite n) s = .next (((s.on (Fld.DRP_P.CFG_STATUS.BUSY n)).modPort n fun p => { p with cfgOp := 2 }).emit
          (.member n 0 12 (s.get (Fld.DRP_P.CFG_ADDR.V n)) (s.get (Fld.DRP_P.CFG_DATA.V n)) [])))) ∧
    (∀ d : Nat, s.flag (Fld.DRP_P.CFG_STATUS.BUSY n) = true →
      ((s.port n).cfgOp = 1 → exec (.memberCfgDone n 0 d) s = .next ((((s.off (Fld.DRP_P.CFG_STATUS.BUSY n)).put
        (Fld.DRP_P.CFG_STATUS.RESULT n) 0).put (Fld.DRP_P.CFG_DATA.V n) d).modPort n fun p => { p with cfgOp := 0 })) ∧
      ((s.port n).cfgOp ≠ 1 → exec (.memberCfgDone n 0 d) s = .next (((s.off (Fld.DRP_P.CFG_STATUS.BUSY n)).put
        (Fld.DRP_P.CFG_STATUS.RESULT n) 0).modPort n fun p => { p with cfgOp := 0 }))) ∧
    (∀ k : Nat, k < 12 → (∀ m : Nat, m < 48 → s.dclkOf m = k → bit s.aon.slotGates m = false ∧ s.ch m ≠ chShut) →
      exec (.dclkStop k) s = .next (s.setN Reg.DRP.DCLK_EN (clrBit (s.regN Reg.DRP.DCLK_EN) k)))

/-- Slot-power channels: demand, ramp, current limit and temperature (14_slot_power.md). -/
def Obligations.SlotPowerRamps : Prop :=
  ∀ (s : State) (n : Nat), s.aon.coreUp = true → n < 48 →
    exec (.slotDemand n) s = .next (s.slotDemand n) ∧
    (∀ (mv : Nat) (u : State), s.slotOk n = true → s.ch n = chQueued → s.demandCounts n = true → s.rampHead n = true →
      s.get Fld.SLP.STATUS.RAMPING < s.get Fld.SLP.CFG.RAMP_MAX → mv ≤ 200 →
      u = ((s.setCh n chRamping).modChan n fun c => { c with bad := 0 }) →
      exec (.rampGrant n mv) s = .next (u.setN Reg.DRP.DCLK_EN (setBit (u.regN Reg.DRP.DCLK_EN) (s.dclkOf n))).settle) ∧
    (∀ us : Nat, s.ch n = chRamping →
      exec (.rampComplete n us false) s = .next ((((s.put (Fld.SLP_C.LAST_RAMP.V n) us).setCh n chOn).pgGive n).portPg n) ∧
      exec (.rampComplete n us true) s
        = .next (((s.put (Fld.SLP_C.LAST_RAMP.V n) us).setCh n chOverload).modChan n fun c => { c with bad := 1 })) ∧
    (s.ch n = chRamping →
      exec (.inrushTimerExpiry n) s = .next (s.slotFault n 2 (Fld.SLP_C.EVENT.INRUSH_TIMEOUT n)).settle) ∧
    ((s.ch n = chRamping ∨ s.ch n = chOn ∨ s.ch n = chOverload) →
      exec (.fastTrip n) s = .next ((s.satInc (Fld.SLP_C.TRIPS.V n)).slotFault n 1 (Fld.SLP_C.EVENT.FAST_TRIP n)).settle) ∧
    (s.ch n = chOverload →
      exec (.faultTimerExpiry n) s = .next (s.slotFault n 4 (Fld.SLP_C.EVENT.OVERLOAD n)).settle ∧
      exec (.pgReturn n) s = .next (((((s.setCh n chOn).modChan n fun c => { c with bad := 0 }).off
        (Fld.SLP_C.STATUS.LIMITING n)).pgGive n).portPg n)) ∧
    (∀ t : Int, s.flag (Fld.SLP_C.CFG.TSRC n) = true → (s.chan n).diodeBad = false → -640 ≤ t → t ≤ 3200 →
      exec (.diodeMeasure n t) s = .next ((s.on (Fld.SLP_C.STATUS.TSRC_ACTIVE n)).newTemp n t).settle) ∧
    (∀ t : Int, s.flag (Fld.SLP_C.CFG.TSRC n) = true → (s.chan n).diodeBad = false → (t < -640 ∨ 3200 < t) →
      exec (.diodeMeasure n t) s = .next (((s.modChan n fun c => { c with diodeBad := true }).off
        (Fld.SLP_C.STATUS.TSRC_ACTIVE n)).event (Fld.SLP_C.EVENT.DIODE_FAULT n) (slpSrc n 5)).settle) ∧
    (∀ pw : Nat, s.get (Fld.SLP_C.MODEL0.TAU1 n) ≠ 0 → s.get (Fld.SLP_C.MODEL1.TAU2 n) ≠ 0 →
      s.flag (Fld.SLP_C.STATUS.TSRC_ACTIVE n) = true →
      exec (.thermalModelUpdate n pw) s = .next (s.modChan n fun c => { c with
        d1 := (s.chan n).d1 + ((pw : Rat) / 1000 * ((s.get (Fld.SLP_C.MODEL0.R1 n) : Rat) / 100) - (s.chan n).d1)
          / (10 * (s.get (Fld.SLP_C.MODEL0.TAU1 n) : Rat)),
        d2 := (s.chan n).d2 + ((pw : Rat) / 1000 * ((s.get (Fld.SLP_C.MODEL1.R2 n) : Rat) / 100) - (s.chan n).d2)
          / (10 * (s.get (Fld.SLP_C.MODEL1.TAU2 n) : Rat)) })) ∧
    (∀ ma mv : Nat, 100 * s.get (Fld.SLP_C.TIMER.PG_V n) ≤ mv →
      exec (.overloadEntry n ma mv false) s = .next (((s.put (Fld.SLP_C.MEAS.CURRENT n) ma).put (Fld.SLP_C.MEAS.VOUT n) mv).putB
        (Fld.SLP_C.STATUS.LIMITING n) false))

/-- Slot-power channels: back-off, minimum off time, clearing, open sense and the gate supply (14_slot_power.md). -/
def Obligations.SlotPowerOffAndFaults : Prop :=
  ∀ (s : State) (n : Nat), s.aon.coreUp = true → n < 48 →
    (s.ch n = chBackoff → s.demandCounts n = true → s.temp16 n ≤ 2080 →
      exec (.backoffExpiry n) s = .next ((s.enqueueCh n).inc (Fld.SLP_C.STATUS.ATTEMPT n))) ∧
    (s.flag (Fld.SLP_C.STATUS.PG n) = true → exec (.attemptReset n) s = .next (s.put (Fld.SLP_C.STATUS.ATTEMPT n) 0)) ∧
    ((s.chan n).demand = true → s.portCalls n = false → s.pt n = ptOff → s.flag (Fld.DRP_P.STATUS.PENDING n) = false →
      exec (.slotDemandWithdrawn n) s = .next ((s.modChan n fun c => { c with demand := false }).demandGone n).settle) ∧
    ((s.chan n).demand = true → s.portCalls n = true → s.pt n = ptOff → s.flag (Fld.DRP_P.STATUS.PENDING n) = true →
      s.flag (Fld.SLP_C.CTRL.FORCE_OFF n) = false → exec (.slotDemandWithdrawn n) s
        = .next (((s.modChan n fun c => { c with demand := true }).demandGone n).slotDemand n).settle) ∧
    (s.ch n = chShut → exec (.shutdownComplete n) s = .next (s.setCh n chMinOff)) ∧
    (s.ch n = chMinOff → exec (.minOffExpiry n) s = .next (s.minOffEnd n)) ∧
    (s.ch n = chLatched → exec (.slotClear n) s = .next ((s.setCh n chMinOff).put (Fld.SLP_C.STATUS.ATTEMPT n) 0)) ∧
    (∀ mv : Nat, 200 < mv → s.ch n ≠ chOff → s.ch n ≠ chLatched →
      exec (.openSenseInjection [(n, mv)] []) s = .next (((s.put (Fld.SLP_C.STATUS.CAUSE n) 5).event (Fld.SLP_C.EVENT.OPEN_SENSE n)
        (slpSrc n 4)).latchCh n).settle) ∧
    exec (.gateChargePumpUv false) s = .next (s.raise 1217).settle ∧
    exec (.gateChargePumpUv true) s = .next (s.raise 1218).settle

/-- The feed selector and the shelf-stop (14_slot_power.md). -/
def Obligations.FeedsAndShelfStop : Prop :=
  ∀ s : State, s.aon.coreUp = true →
    (∀ (f : Nat) (mv : Int), f < 2 →
      (s.feedUsable f = true → exec (.feedUnusable f mv) s = .next ((s.put (feedV f) (codeOf 16 mv)).feedLost f).settle) ∧
      (s.flag (feedBit 5 f) = false → s.flag (feedBit 7 f) = false →
        ((s.put (feedV f) (codeOf 16 mv)).on (feedBit 3 f)).get Fld.SLP.FEED_STATUS.SELECTED ≠ 0 →
        exec (.feedQualified f mv) s = .next ((s.put (feedV f) (codeOf 16 mv)).on (feedBit 3 f))) ∧
      (s.flag (feedBit 5 f) = false → s.flag (feedBit 7 f) = false →
        ((s.put (feedV f) (codeOf 16 mv)).on (feedBit 3 f)).get Fld.SLP.FEED_STATUS.SELECTED = 0 →
        exec (.feedQualified f mv) s = .next ((s.put (feedV f) (codeOf 16 mv)).on (feedBit 3 f)).selectFeed) ∧
      (mv < -300 → exec (.feedReversed f mv) s = .next ((((s.put (feedV f) (codeOf 16 mv)).on (feedBit 5 f)).event
        Fld.SLP.EVENT.FEED_REVERSED 1220).feedLost f).settle) ∧
      exec (.feedReverseClear f) s = .next (s.off (feedBit 5 f))) ∧
    (s.flag Fld.SLP.FEED_STATUS.SWITCHING = true → s.flag Fld.SLP.STATUS.SHELF_STOPPED = false →
      exec .feedDeadTimeExpiry s = .next (s.modAon fun a => { a with feedGates := 2 ^ (s.mb.feedNext - 1) })) ∧
    (s.flag Fld.SLP.FEED_STATUS.SWITCHING = true → s.aon.feedGates ≠ 0 →
      exec .feedSwitchComplete s = .next ((((((s.put Fld.SLP.FEED_STATUS.SELECTED s.mb.feedNext).off
        Fld.SLP.FEED_STATUS.SWITCHING).modMb fun m => { m with feedNext := 0 }).satInc Fld.SLP.FEED_SWITCHES.V).event
          Fld.SLP.EVENT.FEED_SWITCHED 1219)).settle) ∧
    (s.flag Fld.SLP.FEED_STATUS.SWITCHING = false →
      exec .feedUvMaskEnd s = .next (s.modMb fun m => { m with uvMask := false })) ∧
    (s.flag Fld.SLP.FEED_CFG.REVERT = true → s.feedUsable (s.get Fld.SLP.FEED_CFG.PRIMARY) = true →
      s.get Fld.SLP.FEED_STATUS.SELECTED ≠ 0 → s.get Fld.SLP.FEED_STATUS.SELECTED ≠ s.get Fld.SLP.FEED_CFG.PRIMARY + 1 →
      s.flag Fld.SLP.FEED_STATUS.SWITCHING = false →
      exec .feedRevert s = .next (s.feedSwitch (s.get Fld.SLP.FEED_CFG.PRIMARY))) ∧
    exec .shelfStopCmd s = .next (s.shelfStop 1).settle ∧
    exec .shelfResume s = .next (s.stopEnds [1, 3])

/-- The endpoint's link, resets and configuration requests (15_management_endpoint.md). -/
def Obligations.EndpointLink : Prop :=
  ∀ s : State, s.aon.coreUp = true →
    (s.aon.epPerst = false → exec (.epPerstChange true) s = .next (s.epPerst true).settle) ∧
    (s.aon.epPerst = true → exec (.epPerstChange false) s = .next (s.epPerst false).settle) ∧
    (∀ (sp w : Nat) (u : State), s.epState = epTraining → s.aon.squelched = false →
      u = ((s.put Fld.EPF.STATUS.SPEED sp).put Fld.EPF.STATUS.WIDTH w).on Fld.EPF.STATUS.LINK_UP →
      exec (.epLinkUp sp w) s = .next (u.setEp (if u.epServes then epReady else epNotReady))) ∧
    ((s.epState = epReady ∨ s.epState = epNotReady) → exec .epLinkDown s = .next s.epResetLost.settle) ∧
    (s.epState = epResetting → exec .epLinkDown s = .next s.epLinkLost) ∧
    (s.epState = epReady →
      exec .functionLevelReset s = .next (((s.setEp epResetting).modEp fun e => { e with linkKept := true }).funcClear).settle) ∧
    (∀ v : Bool, exec (.epEnableWrite v) s = .next (s.epEnable v).settle) ∧
    (s.epState = epResetting → exec .funcResetDone s = .next s.funcResetDone.settle) ∧
    (∀ off v : Nat, (s.epState = epNotReady ∨ (s.epState = epResetting ∧ s.ep.linkKept = true)) →
      ∀ w : Bool, exec (.epConfigRequest w off v) s = .next (s.emit (.pcie 3 []))) ∧
    (∀ off v : Nat, s.epState = epReady →
      exec (.epConfigRequest true off v) s = .next ((s.cfgWrite (off / 4 * 4) v).emit (.pcie 0 [])).settle ∧
      exec (.epConfigRequest false off v) s
        = .next ((s.cfgRead (off / 4 * 4)).2.emit (.pcie 0 (leBytes 4 (s.cfgRead (off / 4 * 4)).1))))

/-- BAR2 reads and writes of DRAM, and MSI-X table writes (15_management_endpoint.md). -/
def Obligations.Bar2AndMsix : Prop :=
  ∀ s : State, s.aon.coreUp = true → s.epMemOk = true →
    (s.flag Fld.DDC.STATUS.TRAINED = true →
      (∀ off len : Nat, off + len ≤ 2 ^ s.get Fld.EPF.BAR2_CFG.LOG2 →
        (s.rd64 Reg.EPF.BAR2_MAP_LO + off + len ≤ s.get Fld.TOP.DRAM_FITTED.V * 2 ^ 20 →
          exec (.bar2Read off len false) s
            = .next ((s.emit (.pcie 0 (s.dramRead (s.rd64 Reg.EPF.BAR2_MAP_LO + off) len))).bwAdd 56 0 len) ∧
          exec (.bar2Read off len true) s = .next (s.emit (.pcie 2 []))) ∧
        (s.get Fld.TOP.DRAM_FITTED.V * 2 ^ 20 < s.rd64 Reg.EPF.BAR2_MAP_LO + off + len →
          ∀ u : Bool, exec (.bar2Read off len u) s = .next ((s.emit (.pcie 1 [])).event Fld.EPF.EVENT.BAR2_RANGE 1346).settle)) ∧
      (∀ (off : Nat) (bs : List Byte), off + bs.length ≤ 2 ^ s.get Fld.EPF.BAR2_CFG.LOG2 →
        (s.rd64 Reg.EPF.BAR2_MAP_LO + off + bs.length ≤ s.get Fld.TOP.DRAM_FITTED.V * 2 ^ 20 →
          s.get Fld.TOP.DRAM_REQUIRED.V * 2 ^ 20 ≤ s.rd64 Reg.EPF.BAR2_MAP_LO + off →
          exec (.bar2Write off bs false) s
            = .next ((s.bwAdd 56 bs.length 0).dramWrite (s.rd64 Reg.EPF.BAR2_MAP_LO + off) bs)) ∧
        (s.rd64 Reg.EPF.BAR2_MAP_LO + off + bs.length ≤ s.get Fld.TOP.DRAM_FITTED.V * 2 ^ 20 →
          s.rd64 Reg.EPF.BAR2_MAP_LO + off < s.get Fld.TOP.DRAM_REQUIRED.V * 2 ^ 20 →
          s.inSampleRing (s.rd64 Reg.EPF.BAR2_MAP_LO + off) bs.length = false →
          exec (.bar2Write off bs false) s = .next (((s.bwAdd 56 bs.length 0).satInc Fld.EPF.BAR2_DISCARDS.BAR2).event
            Fld.EPF.EVENT.BAR2_PROTECTED 1345).settle) ∧
        (s.get Fld.TOP.DRAM_FITTED.V * 2 ^ 20 < s.rd64 Reg.EPF.BAR2_MAP_LO + off + bs.length →
          exec (.bar2Write off bs false) s
            = .next ((s.bwAdd 56 bs.length 0).event Fld.EPF.EVENT.BAR2_RANGE 1346).settle) ∧
        exec (.bar2Write off bs true) s
          = .next ((s.bwAdd 56 bs.length 0).modEp fun e => { e with aer := setBit e.aer 12 }))) ∧
    (s.flag Fld.DDC.STATUS.TRAINED = false →
      ∀ (off : Nat) (bs : List Byte), off + bs.length ≤ 2 ^ s.get Fld.EPF.BAR2_CFG.LOG2 → off + bs.length ≤ 2 ^ 25 →
        exec (.bar2Write off bs false) s
          = .next ((s.bwAdd 56 bs.length 0).modBoot fun b => { b with buffer := memPutAll b.buffer off bs })) ∧
    (∀ off v : Nat, off < 0x8000 → exec (.msixTableWrite off v) s = .next (s.msixWrite off v))

/-- A BAR2 write changes the bytes it covers and no other (R310). -/
def Obligations.Bar2WriteFrame : Prop :=
  ∀ (s t : State) (off : Nat) (bs : List Byte), s.aon.coreUp = true → s.epMemOk = true → s.flag Fld.DDC.STATUS.TRAINED = true →
    off + bs.length ≤ 2 ^ s.get Fld.EPF.BAR2_CFG.LOG2 →
    s.rd64 Reg.EPF.BAR2_MAP_LO + off + bs.length ≤ s.get Fld.TOP.DRAM_FITTED.V * 2 ^ 20 →
    s.get Fld.TOP.DRAM_REQUIRED.V * 2 ^ 20 ≤ s.rd64 Reg.EPF.BAR2_MAP_LO + off →
    exec (.bar2Write off bs false) s = .next t →
    (∀ i : Nat, i < bs.length → memGet t.dram (s.rd64 Reg.EPF.BAR2_MAP_LO + off + i) = bs.getD i 0) ∧
    (∀ a : Nat, (a < s.rd64 Reg.EPF.BAR2_MAP_LO + off ∨ s.rd64 Reg.EPF.BAR2_MAP_LO + off + bs.length ≤ a) →
      memGet t.dram a = memGet s.dram a) ∧
    t.regs = s.regs ∧ t.nv = s.nv ∧ t.tb = s.tb ∧ t.fr = s.fr ∧ t.emitted = s.emitted ∧ t.pending = s.pending

/-- Register accesses on the paths, the sideband target and the lock (15_management_endpoint.md, 20_register_index.md). -/
def Obligations.RegisterAccess : Prop :=
  ∀ s : State, s.aon.coreUp = true →
    (∀ (p : Path) (off v : Nat), s.reaches p = true → offOk off = true →
      exec (.registerWrite p off v 4) s = .next (s.writeDword p off v).2.settle ∧
      exec (.rcRegisterRead p off 4) s = .next ((s.readAccess p off).2.emit (.regValue p (s.readAccess p off).1 0)).settle ∧
      exec (.pairLowRead p off) s = .next ((s.readAccess p off).2.emit (.regValue p (s.readAccess p off).1 0)).settle) ∧
    (∀ off v : Nat, s.reaches .e = true → off < 2 ^ 25 →
      (∀ len : Nat, len < 4 → exec (.registerWrite .e off v len) s
        = .next ((s.flushHeld .e).event Fld.EPF.EVENT.PARTIAL_WRITE 1347).settle) ∧
      (off % 4 = 0 → exec (.registerWrite .e off v 8) s = .next ((s.writeDword .e off (v % 2 ^ 32)).2.writeDword .e (off + 4)
        (v / 2 ^ 32)).2.settle) ∧
      (∀ len : Nat, 8 < len → exec (.registerWrite .e off v len) s = .next (s.flushHeld .e).settle)) ∧
    (∀ off : Nat, s.reaches .e = true → off < 2 ^ 25 →
      (∀ len : Nat, 1 ≤ len → len < 4 → off % 4 + len ≤ 4 → exec (.rcRegisterRead .e off len) s
        = .next ((s.readAccess .e (off / 4 * 4)).2.emit (.regValue .e
          ((s.readAccess .e (off / 4 * 4)).1 / 2 ^ (8 * (off % 4)) % 2 ^ (8 * len)) 0)).settle) ∧
      (off % 8 = 0 → exec (.rcRegisterRead .e off 8) s = .next (((s.flushHeld .e).readPair .e off).2.2.emit
        (.regValue .e ((s.flushHeld .e).readPair .e off).1 ((s.flushHeld .e).readPair .e off).2.1)).settle) ∧
      (∀ len : Nat, 8 < len → exec (.rcRegisterRead .e off len) s = .next ((s.flushHeld .e).emit (.pcie 1 [])).settle)) ∧
    (∀ p : Path, exec (.pairLowWriteTimeout p) s = .next (s.flushHeld p).settle) ∧
    (s.reaches .s = true →
      (∀ off : Nat, offOk off = true → exec (.sbRegisterRead off true) s
        = .next ((s.readAccess .s off).2.emit (.sideband 0 (s.readAccess .s off).1)).settle) ∧
      (∀ off : Nat, offOk off = false → exec (.sbRegisterRead off true) s = .next (s.emit (.sideband 2 0))) ∧
      (∀ off v : Nat, offOk off = true → exec (.sbRegisterWrite off v true) s
        = .next ((s.writeDword .s off v).2.modAcc fun c => { c with sbStatus := b2n (s.writeDword .s off v).1 }).settle) ∧
      (∀ off v : Nat, offOk off = false →
        exec (.sbRegisterWrite off v true) s = .next (s.modAcc fun c => { c with sbStatus := 2 })) ∧
      exec .sbStatusRead s = .next (s.emit (.sideband s.acc.sbStatus 0))) ∧
    (∀ p : Path, s.get Fld.EPF.LOCK.OWNER = 0 → pathCode p < 4 → pathCode p ≠ 0 →
      exec (.lockWrite p (pathCode p)) s = .next (s.put Fld.EPF.LOCK.OWNER (pathCode p))) ∧
    (∀ p : Path, pathCode p ≠ 0 → s.get Fld.EPF.LOCK.OWNER = pathCode p →
      exec (.lockWrite p 0) s = .next (s.put Fld.EPF.LOCK.OWNER 0)) ∧
    exec .lockTimeout s = .next (s.put Fld.EPF.LOCK.OWNER 0)

/-- TOCSIN, the pending registers, first-fault clearing and firmware's sources (16_faults_and_events.md). -/
def Obligations.TocsinAndFirstFault : Prop :=
  ∀ s : State, s.aon.coreUp = true →
    (s.flag Fld.FLT.STATUS.PULSING = true → s.aon.levelSet = false →
      exec .tocsinPulseEnd s = .next ((s.off Fld.FLT.STATUS.PULSING).put Fld.FLT.STATUS.TOCSIN 0)) ∧
    (∀ u : State, s.flag Fld.FLT.STATUS.PULSING = true → s.aon.levelSet = true → u = s.off Fld.FLT.STATUS.PULSING →
      exec .tocsinPulseEnd s = .next (u.put Fld.FLT.STATUS.TOCSIN (u.get Fld.FLT.TOCSIN_CTRL.LEVEL))) ∧
    (s.get Fld.FLT.CFG.TOCSIN_MODE = 1 → s.tocsinPending = false →
      exec .tocsinRestart s = .next ((s.on Fld.FLT.STATUS.ALIVE).modAon fun a => { a with tocsinHold := false })) ∧
    (s.flag Fld.FLT.STATUS.ALIVE = true → s.flag Fld.FLT.STATUS.TOCSIN = false →
      exec .tocsinAliveEdge s = .next (s.on Fld.FLT.STATUS.TOCSIN)) ∧
    (s.flag Fld.FLT.STATUS.ALIVE = true → s.flag Fld.FLT.STATUS.TOCSIN = true → s.aon.tocsinHold = false →
      exec .tocsinAliveEdge s = .next (s.off Fld.FLT.STATUS.TOCSIN)) ∧
    (s.flag Fld.FLT.STATUS.ALIVE = true → s.flag Fld.FLT.STATUS.TOCSIN = true → s.aon.tocsinHold = true →
      exec .tocsinAliveEdge s = .next (((s.off Fld.FLT.STATUS.TOCSIN).off Fld.FLT.STATUS.ALIVE).modAon fun a =>
        { a with tocsinHold := false })) ∧
    (∀ m v : Nat, m < 48 → exec (.pendClear m v) s = .next (((s.pruneHeld).setReg (Reg.EVC.PEND m)
      ((s.pruneHeld).reg (Reg.EVC.PEND m) &&& ~~~ BitVec.ofNat 32 v)).raiseAll
        (((s.pruneHeld).setReg (Reg.EVC.PEND m) ((s.pruneHeld).reg (Reg.EVC.PEND m) &&& ~~~ BitVec.ofNat 32 v)).riseAgain m
          ((s.pruneHeld).reg (Reg.EVC.PEND m) &&& BitVec.ofNat 32 v).toNat)).settle) ∧
    exec .fltClearFirst s = .next (((s.setN Reg.FLT.FIRST 0).wr64 Reg.FLT.FIRST_TIME_LO 0).setN Reg.FLT.OVERFLOW 0) ∧
    (∀ n : Nat, 1424 ≤ n → n < 1536 → exec (.firmwareSourceRaise n) s = .next (s.raise n).settle)

/-- Carillon's records and freezes, and the performance counters' clears and window (16_faults_and_events.md, 17_performance_counters.md). -/
def Obligations.CarillonAndCounters : Prop :=
  ∀ s : State, s.aon.coreUp = true →
    (s.flag Fld.EVR.STATUS.READY = true → s.flag Fld.EVR.CTRL.FREEZE = false → exec (.carillonRecordWrite false) s = .next s.carNext) ∧
    (exec (.evrFreezeWrite 1) s = .next ((s.on Fld.EVR.CTRL.FREEZE).on Fld.EVR.STATUS.FROZEN)) ∧
    (s.flag Fld.EVR.CTRL.FREEZE = true →
      exec (.evrFreezeWrite 0) s = .next s.unfreeze ∧ exec .freezeExpiry s = .next s.unfreeze) ∧
    (∀ p : Path, exec (.carillonClear p) s = .next
      (((s.modNv fun v => { v with carillon := [] }).setN Reg.EVR.NEXT_SEQ 0).carPut
        (((s.modNv fun v => { v with carillon := [] }).setN Reg.EVR.NEXT_SEQ 0).carOwn 1 (pathCode p) 0 0))) ∧
    (∀ tag : Nat, exec (.userRecord tag) s = .next (s.carillon (s.carOwn (0x100 + tag % 256) (s.regN (Reg.EVR.SW_P 0))
      (s.regN (Reg.EVR.SW_P 1)) (s.regN (Reg.EVR.SW_P 2))))) ∧
    (∀ (n : Nat) (r : CarRec), n < 65536 → tget s.nv.carillon n = some r →
      exec (.recordLatch n) s = .next ((s.setN Reg.EVR.RSEL n).putRdata (carBytes r))) ∧
    (exec .counterClearSel s = .next ((s.setCtr (s.regN Reg.PMC.CSEL % 256)
      { s.ctr (s.regN Reg.PMC.CSEL % 256) with val := 0, ovf := false }).setN (Reg.PMC.OVF (s.regN Reg.PMC.CSEL % 256 / 32))
        (clrBit ((s.setCtr (s.regN Reg.PMC.CSEL % 256) { s.ctr (s.regN Reg.PMC.CSEL % 256) with val := 0, ovf := false }).regN
          (Reg.PMC.OVF (s.regN Reg.PMC.CSEL % 256 / 32))) (s.regN Reg.PMC.CSEL % 256 % 32)))) ∧
    exec .counterClearAll s = .next ((List.range 256).foldl State.ctrClear s) ∧
    (s.pmc.bwFresh = true → exec .bwWindowEnd s = .next (s.modPmc fun p => { p with bwNow := [], bwFresh := false })) ∧
    (s.pmc.bwFresh = false → exec .bwWindowEnd s = .next (((s.modPmc fun p => { p with bwLast := p.bwNow, bwNow := [] }).setN Reg.PMC.BW_SEQ
      ((s.regN Reg.PMC.BW_SEQ + 1) % 2 ^ 32)).evLatch ⟨Reg.PMC.EVENT, 2, 1⟩ 98))

/-- DRAM errors, the patrol, refresh, and management's sideband transfers (20_register_index.md). -/
def Obligations.DramAndSideband : Prop :=
  ∀ (s : State) (ch : Nat), s.aon.coreUp = true → s.flag Fld.DDC.STATUS.TRAINED = true → ch < 2 →
    (∀ addr devs : Nat, exec (.dramEccCorrected ch addr devs) s = .next (((((s.eccShow ch addr devs false).satInc
      Fld.DDC.CE_TOTAL.V).satInc (Fld.DDC_C.CE_COUNT.V ch)).event Fld.DDC.EVENT.CE 1361).event ⟨Reg.DDC_C.EVENT ch, 0, 1⟩ 1361).settle) ∧
    (∀ addr devs r : Nat, r < 2 → exec (.dramEccUncorrectable ch addr devs r) s
      = .next (((s.eccShow ch addr devs true).satInc Fld.DDC.UE_TOTAL.V).satInc (Fld.DDC_C.UE_COUNT.V ch))) ∧
    (∀ addr devs r : Nat, 2 ≤ r → exec (.dramEccUncorrectable ch addr devs r) s
      = .next (((((((s.eccShow ch addr devs true).satInc Fld.DDC.UE_TOTAL.V).satInc (Fld.DDC_C.UE_COUNT.V ch)).modAcc fun c =>
          { c with reload := addNew c.reload (addr / 4096) }).pageNeeded (r - 3) (if r < 3 then none else some (addr / 4096))).event
          Fld.DDC.EVENT.UE 1360).event ⟨Reg.DDC_C.EVENT ch, 1, 1⟩ 1360).settle) ∧
    (∀ (t page : Nat) (c : Cmd), s.cmd? t = some c → (s.pageNeeded t (some page)).pageHeld c = true) ∧
    (∀ page : Nat, exec (.tablePageReloadDone page) s = .next (s.modAcc fun c =>
          { c with reload := dropEl c.reload page, pageWait := c.pageWait.filter fun e => e.2 ≠ page }).settle) ∧
    (s.get (Fld.DDC_C.PATROL_CFG.HOURS ch) ≠ 0 → exec (.patrolPassDone ch) s
      = .next (((s.wr64 (Reg.DDC_C.PATROL_POS_LO ch) 0).event Fld.DDC.EVENT.PATROL_DONE 1362).event ⟨Reg.DDC_C.EVENT ch, 3, 1⟩
          1362).settle) ∧
    (∀ temp : Nat, 85 ≤ temp → exec (.dramHot ch temp) s = .next (s.setN (Reg.DDC_C.REFRESH ch) (1 + 256 * (temp % 256)))) ∧
    (∀ temp : Nat, temp < 80 → exec (.dramCool ch temp) s = .next (s.setN (Reg.DDC_C.REFRESH ch) (0 + 256 * (temp % 256)))) ∧
    (∀ k : Nat, k < 4 → exec (.sidebandXferStart k) s = .next (s.xferStart k).settle) ∧
    (∀ (k x r : Nat) (bs : List Byte), tget s.acc.xfer k = some x → r ≤ 5 →
      exec (.sidebandXferDone k r bs) s = .next (s.xferDone k x r bs).settle)

/-- What the machine holds right after reset (R1, R6, R14, R355, R264, R334). -/
def Obligations.ResetLeaves : Prop :=
  State.reset.regN Reg.TOP.ID = 0x483200B1 ∧
  State.reset.regN Reg.PMC.CAP = 0x01000018 ∧ State.reset.regN Reg.DMA.CAP = 0x20081000 ∧ State.reset.regN Reg.KEY.CAP = 0x04001000 ∧
  State.reset.regN Reg.FAB.CAP = 0x00100740 ∧ State.reset.regN Reg.NVQ.CAP = 0x04004040 ∧ State.reset.regN Reg.ZMP.CAP = 0x04400400 ∧
  State.reset.regN Reg.GNT.CAP = 0x01002020 ∧ State.reset.regN Reg.MBR.CAP = 0x04001030 ∧ State.reset.regN Reg.DRP.CAP = 0x300C0404 ∧
  State.reset.regN Reg.SLP.CAP = 0x30029600 ∧ State.reset.regN Reg.SWC.CAP = 0x88401000 ∧ State.reset.regN Reg.AES.CAP = 0x10000F03 ∧
  State.reset.pending = [] ∧ State.reset.aon.coreUp = false ∧ State.reset.aon.released = false ∧
  State.reset.keys = Keys.reset ∧ State.reset.fr = Front.reset ∧ State.reset.fab = Fabric.reset ∧
  State.reset.flag Fld.TOP.STATUS.SEALED = false ∧ State.reset.flag Fld.FLT.STATUS.HALTED = false ∧
  State.reset.dram = [] ∧ State.reset.slots = [] ∧ State.reset.fuse = none ∧
  (∀ n : Nat, n < 48 → State.reset.pt n = ptOff ∧ State.reset.ch n = chOff)

/-- The state after reset is in canonical form (00_scope.md). -/
def Obligations.ResetIsCanonical : Prop :=
  State.reset.canon = true

/-- Every step keeps the canonical form of registers and memory (R4, R15, R367). -/
def Obligations.StepKeepsCanonicalForm : Prop :=
  ∀ s t : State, s.canon = true → step s = .next t → t.canon = true

/-- No step changes a fuse back (R357, R363, R371). -/
def Obligations.FusesOnlyGrow : Prop :=
  ∀ s t : State, step s = .next t → fusesKept s.fuse t.fuse

/-- A step takes one command off the queue, adds none, and never turns the clock back (00_scope.md, R8). -/
def Obligations.StepTakesOneCommandAndTimeRuns : Prop :=
  ∀ s t : State, step s = .next t → t.pending = s.pending.tail ∧ s.now ≤ t.now

/-- While the core is held in reset only the always-on domain acts (R355, R356). -/
def Obligations.CoreHeldInResetIgnoresCommands : Prop :=
  ∀ (c : Instr) (s : State), s.aon.coreUp = false → c.alwaysOn = false → exec c s = .next s

/-- Any one or two missing data strips are recovered from P and Q (R76, R77). -/
def Obligations.RecoveryGivesTheData : Prop :=
  (∀ (ds : List (Nat × Blk)) (x : Nat) (b p : Blk) (q : Option Blk),
    coverOf p = sumCover ((x, b) :: ds) (fun _ => 1) → recover1 x none ds (some p) q = some (coverOf b)) ∧
  (∀ (ds : List (Nat × Blk)) (x : Nat) (b q : Blk), x < 30 →
    coverOf q = sumCover ((x, b) :: ds) gexp → recover1 x none ds none (some q) = some (coverOf b)) ∧
  (∀ (ds : List (Nat × Blk)) (x y : Nat) (b c p q : Blk), x < 30 → y < 30 → x ≠ y →
    coverOf p = sumCover ((x, b) :: (y, c) :: ds) (fun _ => 1) → coverOf q = sumCover ((x, b) :: (y, c) :: ds) gexp →
    recover1 x (some y) ds (some p) (some q) = some (coverOf b))

/-- In x4 mode the registers of slots 24 to 47 read 0, ignore writes and are not recorded (R390). -/
def Obligations.UpperSlotRegistersInX4Mode : Prop :=
  ∀ (s : State) (p : Path) (a : Nat),
    s.flag Fld.DRP.MODE.X4 = true → a % 4 = 0 →
    ((0x298000 ≤ a ∧ a < 0x2B0000) ∨ (0x301600 ≤ a ∧ a < 0x301C00)) → (rowAt a).isSome = true →
    s.reaches p = true → s.held_ p = none → (∀ h : Nat, s.latch_ p ≠ some (a - 4, h)) → s.lockedOut p a = false →
    exec (.rcRegisterRead p a 4) s = .next (s.emit (.regValue p 0 0)).settle ∧
    (∀ v : Nat, exec (.registerWrite p a v 4) s = .next s.settle) ∧
    (∀ v : Nat, (s.writeDword p a v).2 = s ∧ (s.readAccess p a).1 = 0 ∧ (s.readAccess p a).2 = s)

/-- Until the image is applied, configuration requests get Request Retry Status and memory requests Unsupported Request (R309). -/
def Obligations.EndpointBeforeTheImage : Prop :=
  ∀ s : State, s.aon.coreUp = true → s.epServes = false →
    (∀ sp w : Nat, s.epState = epTraining → s.aon.squelched = false →
      ∃ t : State, exec (.epLinkUp sp w) s = .next t ∧ t.epState = epNotReady) ∧
    (s.epState = epNotReady →
      (∀ (wr : Bool) (off v : Nat), exec (.epConfigRequest wr off v) s = .next (s.emit (.pcie 3 []))) ∧
      (∀ (off len : Nat) (u : Bool), exec (.bar2Read off len u) s = .next (s.emit (.pcie 1 []))) ∧
      (∀ off len : Nat, exec (.rcRegisterRead .e off len) s = .next (s.emit (.pcie 1 []))) ∧
      (∀ (off : Nat) (l : List Byte) (po : Bool), exec (.bar2Write off l po) s = .next s) ∧
      (∀ off v len : Nat, exec (.registerWrite .e off v len) s = .next s))

/-- EXTEND extends one of the slots 12 to 15 by the digest in CFG.DATA, whole (R373). -/
def Obligations.ExtendChangesOneSlotWhole : Prop :=
  ∀ s : State, s.aon.coreUp = true → s.flag Fld.CFG.CMD_RESULT.BUSY = false → s.boot.msl.length = 16 →
    (∀ n : Nat, 12 ≤ n → n < 16 → ∃ t : State, exec (.cfgExtend n) s = .next t ∧
      t.boot.msl.getD n 0 = Config.sha384 (digBytes (s.boot.msl.getD n 0) ++ digBytes (digOf s.cfgData)) ∧
      (∀ m : Nat, m ≠ n → t.boot.msl.getD m 0 = s.boot.msl.getD m 0) ∧
      (∀ m : Nat, s.get Fld.CFG.MSL_SELECT.V = n → t.mslData m = leAt (digBytes (t.boot.msl.getD n 0)) (4 * m) 4)) ∧
    (∀ n : Nat, n < 12 → ∃ t : State, exec (.cfgExtend n) s = .next t ∧ t.boot = s.boot)

/-- CLEAR_SEL clears one counter and its OVF bit, CLEAR_ALL all of them; a latched high word stays (R349). -/
def Obligations.CounterClears : Prop :=
  ∀ s : State, s.aon.coreUp = true →
    (∃ t : State, exec .counterClearSel s = .next t ∧ t.acc = s.acc ∧
      (t.ctr (s.get Fld.PMC.CSEL.V)).val = 0 ∧ (t.ctr (s.get Fld.PMC.CSEL.V)).ovf = false ∧
      bit (t.regN (Reg.PMC.OVF (s.get Fld.PMC.CSEL.V / 32))) (s.get Fld.PMC.CSEL.V % 32) = false ∧
      (∀ i : Nat, i ≠ s.get Fld.PMC.CSEL.V → t.ctr i = s.ctr i) ∧
      (∀ i : Nat, i < 256 → i ≠ s.get Fld.PMC.CSEL.V →
        bit (t.regN (Reg.PMC.OVF (i / 32))) (i % 32) = bit (s.regN (Reg.PMC.OVF (i / 32))) (i % 32))) ∧
    (∃ t : State, exec .counterClearAll s = .next t ∧ t.acc = s.acc ∧
      ∀ i : Nat, i < 256 → (t.ctr i).val = 0 ∧ (t.ctr i).ovf = false ∧ bit (t.regN (Reg.PMC.OVF (i / 32))) (i % 32) = false)

/-- Commands that change registers alone, and commands that only send (R9, R200, R252, R272, R303, R316, R328, R377, R399). -/
def Obligations.FrameOfRegisterAndSendCommands : Prop :=
  ∀ (c : Instr) (s t : State), exec c s = .next t →
    (c.registersOnly = true → t = { s with regs := t.regs }) ∧
    (c.sendsOnly = true → t = { s with emitted := t.emitted }) ∧
    (c = .heartbeatSend → t = { s with regs := t.regs, jn := t.jn, emitted := t.emitted })

/-- SPDM and MCTP requests leave everything but their own context as it was (R374, R376, R377). -/
def Obligations.FrameOfAttestationRequests : Prop :=
  ∀ (c : Instr) (s t : State), c.attests = true → (∀ id : Nat, c.adminSender = some id → s.ctrlReady id = true) → exec c s = .next t →
    t = { s with
      boot := { s.boot with spdm := t.boot.spdm, resynch := t.boot.resynch, eid := t.boot.eid, tick := t.boot.tick },
      regs := t.regs, emitted := t.emitted, freeCtr := t.freeCtr } ∧
    ∀ a : Nat, a ≠ Reg.CFG.SPDM → t.reg a = s.reg a

/-- What the commands of slots, feeds, TOCSIN and windows leave unchanged (R94, R218, R272, R294, R303, R306, R337). -/
def Obligations.FrameOfShelfCommands : Prop :=
  ∀ (c : Instr) (s t : State), c.shelfOnly = true → exec c s = .next t →
    t = { s with regs := t.regs, aon := t.aon, mb := t.mb }

/-- What the commands of the switch, of records, of counters and of connections leave unchanged (R131, R174, R190, R206, R229, R231, R343, R344, R345, R349). -/
def Obligations.FrameOfSwitchRecordAndCounterCommands : Prop :=
  ∀ (c : Instr) (s t : State), exec c s = .next t →
    (c.switchOnly = true → t = { s with regs := t.regs, sw := t.sw, tg := t.tg }) ∧
    (c.recordsOnly = true → t = { s with regs := t.regs, ev := t.ev, jn := t.jn, nv := t.nv, freeCtr := t.freeCtr, emitted := t.emitted }) ∧
    (c.countersOnly = true → t = { s with regs := t.regs, pmc := t.pmc }) ∧
    (c.connectionsOnly = true → t = { s with regs := t.regs, fab := t.fab, emitted := t.emitted }) ∧
    (c.connectionsFetch = true → t = { s with
      regs := t.regs, fab := t.fab, emitted := t.emitted, pmc := t.pmc, ev := t.ev, ep := t.ep, aon := t.aon })
end

