-- ==== Sys2Proof/Laws/State.lean ====
section
/-! SUPPORT. One lemma per field of State per update of it: what the update leaves in that field. -/

namespace Sys2Proof.Machine
open Sys2Proof

section modMb
variable (s : State) (f : Members → Members)
@[simp] theorem State.modMb_pending : (s.modMb f).pending = s.pending := rfl
@[simp] theorem State.modMb_regs : (s.modMb f).regs = s.regs := rfl
@[simp] theorem State.modMb_now : (s.modMb f).now = s.now := rfl
@[simp] theorem State.modMb_freeCtr : (s.modMb f).freeCtr = s.freeCtr := rfl
@[simp] theorem State.modMb_emitted : (s.modMb f).emitted = s.emitted := rfl
@[simp] theorem State.modMb_aon : (s.modMb f).aon = s.aon := rfl
@[simp] theorem State.modMb_fuse : (s.modMb f).fuse = s.fuse := rfl
@[simp] theorem State.modMb_flash : (s.modMb f).flash = s.flash := rfl
@[simp] theorem State.modMb_nv : (s.modMb f).nv = s.nv := rfl
@[simp] theorem State.modMb_lay : (s.modMb f).lay = s.lay := rfl
@[simp] theorem State.modMb_tb : (s.modMb f).tb = s.tb := rfl
@[simp] theorem State.modMb_slots : (s.modMb f).slots = s.slots := rfl
@[simp] theorem State.modMb_dram : (s.modMb f).dram = s.dram := rfl
@[simp] theorem State.modMb_boot : (s.modMb f).boot = s.boot := rfl
@[simp] theorem State.modMb_acc : (s.modMb f).acc = s.acc := rfl
@[simp] theorem State.modMb_ev : (s.modMb f).ev = s.ev := rfl
@[simp] theorem State.modMb_ep : (s.modMb f).ep = s.ep := rfl
@[simp] theorem State.modMb_mb : (s.modMb f).mb = f s.mb := rfl
@[simp] theorem State.modMb_fr : (s.modMb f).fr = s.fr := rfl
@[simp] theorem State.modMb_jn : (s.modMb f).jn = s.jn := rfl
@[simp] theorem State.modMb_keys : (s.modMb f).keys = s.keys := rfl
@[simp] theorem State.modMb_dma : (s.modMb f).dma = s.dma := rfl
@[simp] theorem State.modMb_tg : (s.modMb f).tg = s.tg := rfl
@[simp] theorem State.modMb_pmc : (s.modMb f).pmc = s.pmc := rfl
@[simp] theorem State.modMb_sw : (s.modMb f).sw = s.sw := rfl
@[simp] theorem State.modMb_fab : (s.modMb f).fab = s.fab := rfl
end modMb

section modFr
variable (s : State) (f : Front → Front)
@[simp] theorem State.modFr_pending : (s.modFr f).pending = s.pending := rfl
@[simp] theorem State.modFr_regs : (s.modFr f).regs = s.regs := rfl
@[simp] theorem State.modFr_now : (s.modFr f).now = s.now := rfl
@[simp] theorem State.modFr_freeCtr : (s.modFr f).freeCtr = s.freeCtr := rfl
@[simp] theorem State.modFr_emitted : (s.modFr f).emitted = s.emitted := rfl
@[simp] theorem State.modFr_aon : (s.modFr f).aon = s.aon := rfl
@[simp] theorem State.modFr_fuse : (s.modFr f).fuse = s.fuse := rfl
@[simp] theorem State.modFr_flash : (s.modFr f).flash = s.flash := rfl
@[simp] theorem State.modFr_nv : (s.modFr f).nv = s.nv := rfl
@[simp] theorem State.modFr_lay : (s.modFr f).lay = s.lay := rfl
@[simp] theorem State.modFr_tb : (s.modFr f).tb = s.tb := rfl
@[simp] theorem State.modFr_slots : (s.modFr f).slots = s.slots := rfl
@[simp] theorem State.modFr_dram : (s.modFr f).dram = s.dram := rfl
@[simp] theorem State.modFr_boot : (s.modFr f).boot = s.boot := rfl
@[simp] theorem State.modFr_acc : (s.modFr f).acc = s.acc := rfl
@[simp] theorem State.modFr_ev : (s.modFr f).ev = s.ev := rfl
@[simp] theorem State.modFr_ep : (s.modFr f).ep = s.ep := rfl
@[simp] theorem State.modFr_mb : (s.modFr f).mb = s.mb := rfl
@[simp] theorem State.modFr_fr : (s.modFr f).fr = f s.fr := rfl
@[simp] theorem State.modFr_jn : (s.modFr f).jn = s.jn := rfl
@[simp] theorem State.modFr_keys : (s.modFr f).keys = s.keys := rfl
@[simp] theorem State.modFr_dma : (s.modFr f).dma = s.dma := rfl
@[simp] theorem State.modFr_tg : (s.modFr f).tg = s.tg := rfl
@[simp] theorem State.modFr_pmc : (s.modFr f).pmc = s.pmc := rfl
@[simp] theorem State.modFr_sw : (s.modFr f).sw = s.sw := rfl
@[simp] theorem State.modFr_fab : (s.modFr f).fab = s.fab := rfl
end modFr

section modJn
variable (s : State) (f : Journal → Journal)
@[simp] theorem State.modJn_pending : (s.modJn f).pending = s.pending := rfl
@[simp] theorem State.modJn_regs : (s.modJn f).regs = s.regs := rfl
@[simp] theorem State.modJn_now : (s.modJn f).now = s.now := rfl
@[simp] theorem State.modJn_freeCtr : (s.modJn f).freeCtr = s.freeCtr := rfl
@[simp] theorem State.modJn_emitted : (s.modJn f).emitted = s.emitted := rfl
@[simp] theorem State.modJn_aon : (s.modJn f).aon = s.aon := rfl
@[simp] theorem State.modJn_fuse : (s.modJn f).fuse = s.fuse := rfl
@[simp] theorem State.modJn_flash : (s.modJn f).flash = s.flash := rfl
@[simp] theorem State.modJn_nv : (s.modJn f).nv = s.nv := rfl
@[simp] theorem State.modJn_lay : (s.modJn f).lay = s.lay := rfl
@[simp] theorem State.modJn_tb : (s.modJn f).tb = s.tb := rfl
@[simp] theorem State.modJn_slots : (s.modJn f).slots = s.slots := rfl
@[simp] theorem State.modJn_dram : (s.modJn f).dram = s.dram := rfl
@[simp] theorem State.modJn_boot : (s.modJn f).boot = s.boot := rfl
@[simp] theorem State.modJn_acc : (s.modJn f).acc = s.acc := rfl
@[simp] theorem State.modJn_ev : (s.modJn f).ev = s.ev := rfl
@[simp] theorem State.modJn_ep : (s.modJn f).ep = s.ep := rfl
@[simp] theorem State.modJn_mb : (s.modJn f).mb = s.mb := rfl
@[simp] theorem State.modJn_fr : (s.modJn f).fr = s.fr := rfl
@[simp] theorem State.modJn_jn : (s.modJn f).jn = f s.jn := rfl
@[simp] theorem State.modJn_keys : (s.modJn f).keys = s.keys := rfl
@[simp] theorem State.modJn_dma : (s.modJn f).dma = s.dma := rfl
@[simp] theorem State.modJn_tg : (s.modJn f).tg = s.tg := rfl
@[simp] theorem State.modJn_pmc : (s.modJn f).pmc = s.pmc := rfl
@[simp] theorem State.modJn_sw : (s.modJn f).sw = s.sw := rfl
@[simp] theorem State.modJn_fab : (s.modJn f).fab = s.fab := rfl
end modJn

section modAon
variable (s : State) (f : Aon → Aon)
@[simp] theorem State.modAon_pending : (s.modAon f).pending = s.pending := rfl
@[simp] theorem State.modAon_regs : (s.modAon f).regs = s.regs := rfl
@[simp] theorem State.modAon_now : (s.modAon f).now = s.now := rfl
@[simp] theorem State.modAon_freeCtr : (s.modAon f).freeCtr = s.freeCtr := rfl
@[simp] theorem State.modAon_emitted : (s.modAon f).emitted = s.emitted := rfl
@[simp] theorem State.modAon_aon : (s.modAon f).aon = f s.aon := rfl
@[simp] theorem State.modAon_fuse : (s.modAon f).fuse = s.fuse := rfl
@[simp] theorem State.modAon_flash : (s.modAon f).flash = s.flash := rfl
@[simp] theorem State.modAon_nv : (s.modAon f).nv = s.nv := rfl
@[simp] theorem State.modAon_lay : (s.modAon f).lay = s.lay := rfl
@[simp] theorem State.modAon_tb : (s.modAon f).tb = s.tb := rfl
@[simp] theorem State.modAon_slots : (s.modAon f).slots = s.slots := rfl
@[simp] theorem State.modAon_dram : (s.modAon f).dram = s.dram := rfl
@[simp] theorem State.modAon_boot : (s.modAon f).boot = s.boot := rfl
@[simp] theorem State.modAon_acc : (s.modAon f).acc = s.acc := rfl
@[simp] theorem State.modAon_ev : (s.modAon f).ev = s.ev := rfl
@[simp] theorem State.modAon_ep : (s.modAon f).ep = s.ep := rfl
@[simp] theorem State.modAon_mb : (s.modAon f).mb = s.mb := rfl
@[simp] theorem State.modAon_fr : (s.modAon f).fr = s.fr := rfl
@[simp] theorem State.modAon_jn : (s.modAon f).jn = s.jn := rfl
@[simp] theorem State.modAon_keys : (s.modAon f).keys = s.keys := rfl
@[simp] theorem State.modAon_dma : (s.modAon f).dma = s.dma := rfl
@[simp] theorem State.modAon_tg : (s.modAon f).tg = s.tg := rfl
@[simp] theorem State.modAon_pmc : (s.modAon f).pmc = s.pmc := rfl
@[simp] theorem State.modAon_sw : (s.modAon f).sw = s.sw := rfl
@[simp] theorem State.modAon_fab : (s.modAon f).fab = s.fab := rfl
end modAon

section modNv
variable (s : State) (f : Nv → Nv)
@[simp] theorem State.modNv_pending : (s.modNv f).pending = s.pending := rfl
@[simp] theorem State.modNv_regs : (s.modNv f).regs = s.regs := rfl
@[simp] theorem State.modNv_now : (s.modNv f).now = s.now := rfl
@[simp] theorem State.modNv_freeCtr : (s.modNv f).freeCtr = s.freeCtr := rfl
@[simp] theorem State.modNv_emitted : (s.modNv f).emitted = s.emitted := rfl
@[simp] theorem State.modNv_aon : (s.modNv f).aon = s.aon := rfl
@[simp] theorem State.modNv_fuse : (s.modNv f).fuse = s.fuse := rfl
@[simp] theorem State.modNv_flash : (s.modNv f).flash = s.flash := rfl
@[simp] theorem State.modNv_nv : (s.modNv f).nv = f s.nv := rfl
@[simp] theorem State.modNv_lay : (s.modNv f).lay = s.lay := rfl
@[simp] theorem State.modNv_tb : (s.modNv f).tb = s.tb := rfl
@[simp] theorem State.modNv_slots : (s.modNv f).slots = s.slots := rfl
@[simp] theorem State.modNv_dram : (s.modNv f).dram = s.dram := rfl
@[simp] theorem State.modNv_boot : (s.modNv f).boot = s.boot := rfl
@[simp] theorem State.modNv_acc : (s.modNv f).acc = s.acc := rfl
@[simp] theorem State.modNv_ev : (s.modNv f).ev = s.ev := rfl
@[simp] theorem State.modNv_ep : (s.modNv f).ep = s.ep := rfl
@[simp] theorem State.modNv_mb : (s.modNv f).mb = s.mb := rfl
@[simp] theorem State.modNv_fr : (s.modNv f).fr = s.fr := rfl
@[simp] theorem State.modNv_jn : (s.modNv f).jn = s.jn := rfl
@[simp] theorem State.modNv_keys : (s.modNv f).keys = s.keys := rfl
@[simp] theorem State.modNv_dma : (s.modNv f).dma = s.dma := rfl
@[simp] theorem State.modNv_tg : (s.modNv f).tg = s.tg := rfl
@[simp] theorem State.modNv_pmc : (s.modNv f).pmc = s.pmc := rfl
@[simp] theorem State.modNv_sw : (s.modNv f).sw = s.sw := rfl
@[simp] theorem State.modNv_fab : (s.modNv f).fab = s.fab := rfl
end modNv

section modEv
variable (s : State) (f : Events → Events)
@[simp] theorem State.modEv_pending : (s.modEv f).pending = s.pending := rfl
@[simp] theorem State.modEv_regs : (s.modEv f).regs = s.regs := rfl
@[simp] theorem State.modEv_now : (s.modEv f).now = s.now := rfl
@[simp] theorem State.modEv_freeCtr : (s.modEv f).freeCtr = s.freeCtr := rfl
@[simp] theorem State.modEv_emitted : (s.modEv f).emitted = s.emitted := rfl
@[simp] theorem State.modEv_aon : (s.modEv f).aon = s.aon := rfl
@[simp] theorem State.modEv_fuse : (s.modEv f).fuse = s.fuse := rfl
@[simp] theorem State.modEv_flash : (s.modEv f).flash = s.flash := rfl
@[simp] theorem State.modEv_nv : (s.modEv f).nv = s.nv := rfl
@[simp] theorem State.modEv_lay : (s.modEv f).lay = s.lay := rfl
@[simp] theorem State.modEv_tb : (s.modEv f).tb = s.tb := rfl
@[simp] theorem State.modEv_slots : (s.modEv f).slots = s.slots := rfl
@[simp] theorem State.modEv_dram : (s.modEv f).dram = s.dram := rfl
@[simp] theorem State.modEv_boot : (s.modEv f).boot = s.boot := rfl
@[simp] theorem State.modEv_acc : (s.modEv f).acc = s.acc := rfl
@[simp] theorem State.modEv_ev : (s.modEv f).ev = f s.ev := rfl
@[simp] theorem State.modEv_ep : (s.modEv f).ep = s.ep := rfl
@[simp] theorem State.modEv_mb : (s.modEv f).mb = s.mb := rfl
@[simp] theorem State.modEv_fr : (s.modEv f).fr = s.fr := rfl
@[simp] theorem State.modEv_jn : (s.modEv f).jn = s.jn := rfl
@[simp] theorem State.modEv_keys : (s.modEv f).keys = s.keys := rfl
@[simp] theorem State.modEv_dma : (s.modEv f).dma = s.dma := rfl
@[simp] theorem State.modEv_tg : (s.modEv f).tg = s.tg := rfl
@[simp] theorem State.modEv_pmc : (s.modEv f).pmc = s.pmc := rfl
@[simp] theorem State.modEv_sw : (s.modEv f).sw = s.sw := rfl
@[simp] theorem State.modEv_fab : (s.modEv f).fab = s.fab := rfl
end modEv

section modBoot
variable (s : State) (f : Boot → Boot)
@[simp] theorem State.modBoot_pending : (s.modBoot f).pending = s.pending := rfl
@[simp] theorem State.modBoot_regs : (s.modBoot f).regs = s.regs := rfl
@[simp] theorem State.modBoot_now : (s.modBoot f).now = s.now := rfl
@[simp] theorem State.modBoot_freeCtr : (s.modBoot f).freeCtr = s.freeCtr := rfl
@[simp] theorem State.modBoot_emitted : (s.modBoot f).emitted = s.emitted := rfl
@[simp] theorem State.modBoot_aon : (s.modBoot f).aon = s.aon := rfl
@[simp] theorem State.modBoot_fuse : (s.modBoot f).fuse = s.fuse := rfl
@[simp] theorem State.modBoot_flash : (s.modBoot f).flash = s.flash := rfl
@[simp] theorem State.modBoot_nv : (s.modBoot f).nv = s.nv := rfl
@[simp] theorem State.modBoot_lay : (s.modBoot f).lay = s.lay := rfl
@[simp] theorem State.modBoot_tb : (s.modBoot f).tb = s.tb := rfl
@[simp] theorem State.modBoot_slots : (s.modBoot f).slots = s.slots := rfl
@[simp] theorem State.modBoot_dram : (s.modBoot f).dram = s.dram := rfl
@[simp] theorem State.modBoot_boot : (s.modBoot f).boot = f s.boot := rfl
@[simp] theorem State.modBoot_acc : (s.modBoot f).acc = s.acc := rfl
@[simp] theorem State.modBoot_ev : (s.modBoot f).ev = s.ev := rfl
@[simp] theorem State.modBoot_ep : (s.modBoot f).ep = s.ep := rfl
@[simp] theorem State.modBoot_mb : (s.modBoot f).mb = s.mb := rfl
@[simp] theorem State.modBoot_fr : (s.modBoot f).fr = s.fr := rfl
@[simp] theorem State.modBoot_jn : (s.modBoot f).jn = s.jn := rfl
@[simp] theorem State.modBoot_keys : (s.modBoot f).keys = s.keys := rfl
@[simp] theorem State.modBoot_dma : (s.modBoot f).dma = s.dma := rfl
@[simp] theorem State.modBoot_tg : (s.modBoot f).tg = s.tg := rfl
@[simp] theorem State.modBoot_pmc : (s.modBoot f).pmc = s.pmc := rfl
@[simp] theorem State.modBoot_sw : (s.modBoot f).sw = s.sw := rfl
@[simp] theorem State.modBoot_fab : (s.modBoot f).fab = s.fab := rfl
end modBoot

section modEp
variable (s : State) (f : Endpoint → Endpoint)
@[simp] theorem State.modEp_pending : (s.modEp f).pending = s.pending := rfl
@[simp] theorem State.modEp_regs : (s.modEp f).regs = s.regs := rfl
@[simp] theorem State.modEp_now : (s.modEp f).now = s.now := rfl
@[simp] theorem State.modEp_freeCtr : (s.modEp f).freeCtr = s.freeCtr := rfl
@[simp] theorem State.modEp_emitted : (s.modEp f).emitted = s.emitted := rfl
@[simp] theorem State.modEp_aon : (s.modEp f).aon = s.aon := rfl
@[simp] theorem State.modEp_fuse : (s.modEp f).fuse = s.fuse := rfl
@[simp] theorem State.modEp_flash : (s.modEp f).flash = s.flash := rfl
@[simp] theorem State.modEp_nv : (s.modEp f).nv = s.nv := rfl
@[simp] theorem State.modEp_lay : (s.modEp f).lay = s.lay := rfl
@[simp] theorem State.modEp_tb : (s.modEp f).tb = s.tb := rfl
@[simp] theorem State.modEp_slots : (s.modEp f).slots = s.slots := rfl
@[simp] theorem State.modEp_dram : (s.modEp f).dram = s.dram := rfl
@[simp] theorem State.modEp_boot : (s.modEp f).boot = s.boot := rfl
@[simp] theorem State.modEp_acc : (s.modEp f).acc = s.acc := rfl
@[simp] theorem State.modEp_ev : (s.modEp f).ev = s.ev := rfl
@[simp] theorem State.modEp_ep : (s.modEp f).ep = f s.ep := rfl
@[simp] theorem State.modEp_mb : (s.modEp f).mb = s.mb := rfl
@[simp] theorem State.modEp_fr : (s.modEp f).fr = s.fr := rfl
@[simp] theorem State.modEp_jn : (s.modEp f).jn = s.jn := rfl
@[simp] theorem State.modEp_keys : (s.modEp f).keys = s.keys := rfl
@[simp] theorem State.modEp_dma : (s.modEp f).dma = s.dma := rfl
@[simp] theorem State.modEp_tg : (s.modEp f).tg = s.tg := rfl
@[simp] theorem State.modEp_pmc : (s.modEp f).pmc = s.pmc := rfl
@[simp] theorem State.modEp_sw : (s.modEp f).sw = s.sw := rfl
@[simp] theorem State.modEp_fab : (s.modEp f).fab = s.fab := rfl
end modEp

section modAcc
variable (s : State) (f : Access → Access)
@[simp] theorem State.modAcc_pending : (s.modAcc f).pending = s.pending := rfl
@[simp] theorem State.modAcc_regs : (s.modAcc f).regs = s.regs := rfl
@[simp] theorem State.modAcc_now : (s.modAcc f).now = s.now := rfl
@[simp] theorem State.modAcc_freeCtr : (s.modAcc f).freeCtr = s.freeCtr := rfl
@[simp] theorem State.modAcc_emitted : (s.modAcc f).emitted = s.emitted := rfl
@[simp] theorem State.modAcc_aon : (s.modAcc f).aon = s.aon := rfl
@[simp] theorem State.modAcc_fuse : (s.modAcc f).fuse = s.fuse := rfl
@[simp] theorem State.modAcc_flash : (s.modAcc f).flash = s.flash := rfl
@[simp] theorem State.modAcc_nv : (s.modAcc f).nv = s.nv := rfl
@[simp] theorem State.modAcc_lay : (s.modAcc f).lay = s.lay := rfl
@[simp] theorem State.modAcc_tb : (s.modAcc f).tb = s.tb := rfl
@[simp] theorem State.modAcc_slots : (s.modAcc f).slots = s.slots := rfl
@[simp] theorem State.modAcc_dram : (s.modAcc f).dram = s.dram := rfl
@[simp] theorem State.modAcc_boot : (s.modAcc f).boot = s.boot := rfl
@[simp] theorem State.modAcc_acc : (s.modAcc f).acc = f s.acc := rfl
@[simp] theorem State.modAcc_ev : (s.modAcc f).ev = s.ev := rfl
@[simp] theorem State.modAcc_ep : (s.modAcc f).ep = s.ep := rfl
@[simp] theorem State.modAcc_mb : (s.modAcc f).mb = s.mb := rfl
@[simp] theorem State.modAcc_fr : (s.modAcc f).fr = s.fr := rfl
@[simp] theorem State.modAcc_jn : (s.modAcc f).jn = s.jn := rfl
@[simp] theorem State.modAcc_keys : (s.modAcc f).keys = s.keys := rfl
@[simp] theorem State.modAcc_dma : (s.modAcc f).dma = s.dma := rfl
@[simp] theorem State.modAcc_tg : (s.modAcc f).tg = s.tg := rfl
@[simp] theorem State.modAcc_pmc : (s.modAcc f).pmc = s.pmc := rfl
@[simp] theorem State.modAcc_sw : (s.modAcc f).sw = s.sw := rfl
@[simp] theorem State.modAcc_fab : (s.modAcc f).fab = s.fab := rfl
end modAcc

section modTb
variable (s : State) (f : Tables → Tables)
@[simp] theorem State.modTb_pending : (s.modTb f).pending = s.pending := rfl
@[simp] theorem State.modTb_regs : (s.modTb f).regs = s.regs := rfl
@[simp] theorem State.modTb_now : (s.modTb f).now = s.now := rfl
@[simp] theorem State.modTb_freeCtr : (s.modTb f).freeCtr = s.freeCtr := rfl
@[simp] theorem State.modTb_emitted : (s.modTb f).emitted = s.emitted := rfl
@[simp] theorem State.modTb_aon : (s.modTb f).aon = s.aon := rfl
@[simp] theorem State.modTb_fuse : (s.modTb f).fuse = s.fuse := rfl
@[simp] theorem State.modTb_flash : (s.modTb f).flash = s.flash := rfl
@[simp] theorem State.modTb_nv : (s.modTb f).nv = s.nv := rfl
@[simp] theorem State.modTb_lay : (s.modTb f).lay = s.lay := rfl
@[simp] theorem State.modTb_tb : (s.modTb f).tb = f s.tb := rfl
@[simp] theorem State.modTb_slots : (s.modTb f).slots = s.slots := rfl
@[simp] theorem State.modTb_dram : (s.modTb f).dram = s.dram := rfl
@[simp] theorem State.modTb_boot : (s.modTb f).boot = s.boot := rfl
@[simp] theorem State.modTb_acc : (s.modTb f).acc = s.acc := rfl
@[simp] theorem State.modTb_ev : (s.modTb f).ev = s.ev := rfl
@[simp] theorem State.modTb_ep : (s.modTb f).ep = s.ep := rfl
@[simp] theorem State.modTb_mb : (s.modTb f).mb = s.mb := rfl
@[simp] theorem State.modTb_fr : (s.modTb f).fr = s.fr := rfl
@[simp] theorem State.modTb_jn : (s.modTb f).jn = s.jn := rfl
@[simp] theorem State.modTb_keys : (s.modTb f).keys = s.keys := rfl
@[simp] theorem State.modTb_dma : (s.modTb f).dma = s.dma := rfl
@[simp] theorem State.modTb_tg : (s.modTb f).tg = s.tg := rfl
@[simp] theorem State.modTb_pmc : (s.modTb f).pmc = s.pmc := rfl
@[simp] theorem State.modTb_sw : (s.modTb f).sw = s.sw := rfl
@[simp] theorem State.modTb_fab : (s.modTb f).fab = s.fab := rfl
end modTb

section modKeys
variable (s : State) (f : Keys → Keys)
@[simp] theorem State.modKeys_pending : (s.modKeys f).pending = s.pending := rfl
@[simp] theorem State.modKeys_regs : (s.modKeys f).regs = s.regs := rfl
@[simp] theorem State.modKeys_now : (s.modKeys f).now = s.now := rfl
@[simp] theorem State.modKeys_freeCtr : (s.modKeys f).freeCtr = s.freeCtr := rfl
@[simp] theorem State.modKeys_emitted : (s.modKeys f).emitted = s.emitted := rfl
@[simp] theorem State.modKeys_aon : (s.modKeys f).aon = s.aon := rfl
@[simp] theorem State.modKeys_fuse : (s.modKeys f).fuse = s.fuse := rfl
@[simp] theorem State.modKeys_flash : (s.modKeys f).flash = s.flash := rfl
@[simp] theorem State.modKeys_nv : (s.modKeys f).nv = s.nv := rfl
@[simp] theorem State.modKeys_lay : (s.modKeys f).lay = s.lay := rfl
@[simp] theorem State.modKeys_tb : (s.modKeys f).tb = s.tb := rfl
@[simp] theorem State.modKeys_slots : (s.modKeys f).slots = s.slots := rfl
@[simp] theorem State.modKeys_dram : (s.modKeys f).dram = s.dram := rfl
@[simp] theorem State.modKeys_boot : (s.modKeys f).boot = s.boot := rfl
@[simp] theorem State.modKeys_acc : (s.modKeys f).acc = s.acc := rfl
@[simp] theorem State.modKeys_ev : (s.modKeys f).ev = s.ev := rfl
@[simp] theorem State.modKeys_ep : (s.modKeys f).ep = s.ep := rfl
@[simp] theorem State.modKeys_mb : (s.modKeys f).mb = s.mb := rfl
@[simp] theorem State.modKeys_fr : (s.modKeys f).fr = s.fr := rfl
@[simp] theorem State.modKeys_jn : (s.modKeys f).jn = s.jn := rfl
@[simp] theorem State.modKeys_keys : (s.modKeys f).keys = f s.keys := rfl
@[simp] theorem State.modKeys_dma : (s.modKeys f).dma = s.dma := rfl
@[simp] theorem State.modKeys_tg : (s.modKeys f).tg = s.tg := rfl
@[simp] theorem State.modKeys_pmc : (s.modKeys f).pmc = s.pmc := rfl
@[simp] theorem State.modKeys_sw : (s.modKeys f).sw = s.sw := rfl
@[simp] theorem State.modKeys_fab : (s.modKeys f).fab = s.fab := rfl
end modKeys

section modDmac
variable (s : State) (f : Dma → Dma)
@[simp] theorem State.modDmac_pending : (s.modDmac f).pending = s.pending := rfl
@[simp] theorem State.modDmac_regs : (s.modDmac f).regs = s.regs := rfl
@[simp] theorem State.modDmac_now : (s.modDmac f).now = s.now := rfl
@[simp] theorem State.modDmac_freeCtr : (s.modDmac f).freeCtr = s.freeCtr := rfl
@[simp] theorem State.modDmac_emitted : (s.modDmac f).emitted = s.emitted := rfl
@[simp] theorem State.modDmac_aon : (s.modDmac f).aon = s.aon := rfl
@[simp] theorem State.modDmac_fuse : (s.modDmac f).fuse = s.fuse := rfl
@[simp] theorem State.modDmac_flash : (s.modDmac f).flash = s.flash := rfl
@[simp] theorem State.modDmac_nv : (s.modDmac f).nv = s.nv := rfl
@[simp] theorem State.modDmac_lay : (s.modDmac f).lay = s.lay := rfl
@[simp] theorem State.modDmac_tb : (s.modDmac f).tb = s.tb := rfl
@[simp] theorem State.modDmac_slots : (s.modDmac f).slots = s.slots := rfl
@[simp] theorem State.modDmac_dram : (s.modDmac f).dram = s.dram := rfl
@[simp] theorem State.modDmac_boot : (s.modDmac f).boot = s.boot := rfl
@[simp] theorem State.modDmac_acc : (s.modDmac f).acc = s.acc := rfl
@[simp] theorem State.modDmac_ev : (s.modDmac f).ev = s.ev := rfl
@[simp] theorem State.modDmac_ep : (s.modDmac f).ep = s.ep := rfl
@[simp] theorem State.modDmac_mb : (s.modDmac f).mb = s.mb := rfl
@[simp] theorem State.modDmac_fr : (s.modDmac f).fr = s.fr := rfl
@[simp] theorem State.modDmac_jn : (s.modDmac f).jn = s.jn := rfl
@[simp] theorem State.modDmac_keys : (s.modDmac f).keys = s.keys := rfl
@[simp] theorem State.modDmac_dma : (s.modDmac f).dma = f s.dma := rfl
@[simp] theorem State.modDmac_tg : (s.modDmac f).tg = s.tg := rfl
@[simp] theorem State.modDmac_pmc : (s.modDmac f).pmc = s.pmc := rfl
@[simp] theorem State.modDmac_sw : (s.modDmac f).sw = s.sw := rfl
@[simp] theorem State.modDmac_fab : (s.modDmac f).fab = s.fab := rfl
end modDmac

section modSw
variable (s : State) (f : Switch → Switch)
@[simp] theorem State.modSw_pending : (s.modSw f).pending = s.pending := rfl
@[simp] theorem State.modSw_regs : (s.modSw f).regs = s.regs := rfl
@[simp] theorem State.modSw_now : (s.modSw f).now = s.now := rfl
@[simp] theorem State.modSw_freeCtr : (s.modSw f).freeCtr = s.freeCtr := rfl
@[simp] theorem State.modSw_emitted : (s.modSw f).emitted = s.emitted := rfl
@[simp] theorem State.modSw_aon : (s.modSw f).aon = s.aon := rfl
@[simp] theorem State.modSw_fuse : (s.modSw f).fuse = s.fuse := rfl
@[simp] theorem State.modSw_flash : (s.modSw f).flash = s.flash := rfl
@[simp] theorem State.modSw_nv : (s.modSw f).nv = s.nv := rfl
@[simp] theorem State.modSw_lay : (s.modSw f).lay = s.lay := rfl
@[simp] theorem State.modSw_tb : (s.modSw f).tb = s.tb := rfl
@[simp] theorem State.modSw_slots : (s.modSw f).slots = s.slots := rfl
@[simp] theorem State.modSw_dram : (s.modSw f).dram = s.dram := rfl
@[simp] theorem State.modSw_boot : (s.modSw f).boot = s.boot := rfl
@[simp] theorem State.modSw_acc : (s.modSw f).acc = s.acc := rfl
@[simp] theorem State.modSw_ev : (s.modSw f).ev = s.ev := rfl
@[simp] theorem State.modSw_ep : (s.modSw f).ep = s.ep := rfl
@[simp] theorem State.modSw_mb : (s.modSw f).mb = s.mb := rfl
@[simp] theorem State.modSw_fr : (s.modSw f).fr = s.fr := rfl
@[simp] theorem State.modSw_jn : (s.modSw f).jn = s.jn := rfl
@[simp] theorem State.modSw_keys : (s.modSw f).keys = s.keys := rfl
@[simp] theorem State.modSw_dma : (s.modSw f).dma = s.dma := rfl
@[simp] theorem State.modSw_tg : (s.modSw f).tg = s.tg := rfl
@[simp] theorem State.modSw_pmc : (s.modSw f).pmc = s.pmc := rfl
@[simp] theorem State.modSw_sw : (s.modSw f).sw = f s.sw := rfl
@[simp] theorem State.modSw_fab : (s.modSw f).fab = s.fab := rfl
end modSw

section modTg
variable (s : State) (f : Tabor → Tabor)
@[simp] theorem State.modTg_pending : (s.modTg f).pending = s.pending := rfl
@[simp] theorem State.modTg_regs : (s.modTg f).regs = s.regs := rfl
@[simp] theorem State.modTg_now : (s.modTg f).now = s.now := rfl
@[simp] theorem State.modTg_freeCtr : (s.modTg f).freeCtr = s.freeCtr := rfl
@[simp] theorem State.modTg_emitted : (s.modTg f).emitted = s.emitted := rfl
@[simp] theorem State.modTg_aon : (s.modTg f).aon = s.aon := rfl
@[simp] theorem State.modTg_fuse : (s.modTg f).fuse = s.fuse := rfl
@[simp] theorem State.modTg_flash : (s.modTg f).flash = s.flash := rfl
@[simp] theorem State.modTg_nv : (s.modTg f).nv = s.nv := rfl
@[simp] theorem State.modTg_lay : (s.modTg f).lay = s.lay := rfl
@[simp] theorem State.modTg_tb : (s.modTg f).tb = s.tb := rfl
@[simp] theorem State.modTg_slots : (s.modTg f).slots = s.slots := rfl
@[simp] theorem State.modTg_dram : (s.modTg f).dram = s.dram := rfl
@[simp] theorem State.modTg_boot : (s.modTg f).boot = s.boot := rfl
@[simp] theorem State.modTg_acc : (s.modTg f).acc = s.acc := rfl
@[simp] theorem State.modTg_ev : (s.modTg f).ev = s.ev := rfl
@[simp] theorem State.modTg_ep : (s.modTg f).ep = s.ep := rfl
@[simp] theorem State.modTg_mb : (s.modTg f).mb = s.mb := rfl
@[simp] theorem State.modTg_fr : (s.modTg f).fr = s.fr := rfl
@[simp] theorem State.modTg_jn : (s.modTg f).jn = s.jn := rfl
@[simp] theorem State.modTg_keys : (s.modTg f).keys = s.keys := rfl
@[simp] theorem State.modTg_dma : (s.modTg f).dma = s.dma := rfl
@[simp] theorem State.modTg_tg : (s.modTg f).tg = f s.tg := rfl
@[simp] theorem State.modTg_pmc : (s.modTg f).pmc = s.pmc := rfl
@[simp] theorem State.modTg_sw : (s.modTg f).sw = s.sw := rfl
@[simp] theorem State.modTg_fab : (s.modTg f).fab = s.fab := rfl
end modTg

section modPmc
variable (s : State) (f : Pmc → Pmc)
@[simp] theorem State.modPmc_pending : (s.modPmc f).pending = s.pending := rfl
@[simp] theorem State.modPmc_regs : (s.modPmc f).regs = s.regs := rfl
@[simp] theorem State.modPmc_now : (s.modPmc f).now = s.now := rfl
@[simp] theorem State.modPmc_freeCtr : (s.modPmc f).freeCtr = s.freeCtr := rfl
@[simp] theorem State.modPmc_emitted : (s.modPmc f).emitted = s.emitted := rfl
@[simp] theorem State.modPmc_aon : (s.modPmc f).aon = s.aon := rfl
@[simp] theorem State.modPmc_fuse : (s.modPmc f).fuse = s.fuse := rfl
@[simp] theorem State.modPmc_flash : (s.modPmc f).flash = s.flash := rfl
@[simp] theorem State.modPmc_nv : (s.modPmc f).nv = s.nv := rfl
@[simp] theorem State.modPmc_lay : (s.modPmc f).lay = s.lay := rfl
@[simp] theorem State.modPmc_tb : (s.modPmc f).tb = s.tb := rfl
@[simp] theorem State.modPmc_slots : (s.modPmc f).slots = s.slots := rfl
@[simp] theorem State.modPmc_dram : (s.modPmc f).dram = s.dram := rfl
@[simp] theorem State.modPmc_boot : (s.modPmc f).boot = s.boot := rfl
@[simp] theorem State.modPmc_acc : (s.modPmc f).acc = s.acc := rfl
@[simp] theorem State.modPmc_ev : (s.modPmc f).ev = s.ev := rfl
@[simp] theorem State.modPmc_ep : (s.modPmc f).ep = s.ep := rfl
@[simp] theorem State.modPmc_mb : (s.modPmc f).mb = s.mb := rfl
@[simp] theorem State.modPmc_fr : (s.modPmc f).fr = s.fr := rfl
@[simp] theorem State.modPmc_jn : (s.modPmc f).jn = s.jn := rfl
@[simp] theorem State.modPmc_keys : (s.modPmc f).keys = s.keys := rfl
@[simp] theorem State.modPmc_dma : (s.modPmc f).dma = s.dma := rfl
@[simp] theorem State.modPmc_tg : (s.modPmc f).tg = s.tg := rfl
@[simp] theorem State.modPmc_pmc : (s.modPmc f).pmc = f s.pmc := rfl
@[simp] theorem State.modPmc_sw : (s.modPmc f).sw = s.sw := rfl
@[simp] theorem State.modPmc_fab : (s.modPmc f).fab = s.fab := rfl
end modPmc

section modFab
variable (s : State) (f : Fabric → Fabric)
@[simp] theorem State.modFab_pending : (s.modFab f).pending = s.pending := rfl
@[simp] theorem State.modFab_regs : (s.modFab f).regs = s.regs := rfl
@[simp] theorem State.modFab_now : (s.modFab f).now = s.now := rfl
@[simp] theorem State.modFab_freeCtr : (s.modFab f).freeCtr = s.freeCtr := rfl
@[simp] theorem State.modFab_emitted : (s.modFab f).emitted = s.emitted := rfl
@[simp] theorem State.modFab_aon : (s.modFab f).aon = s.aon := rfl
@[simp] theorem State.modFab_fuse : (s.modFab f).fuse = s.fuse := rfl
@[simp] theorem State.modFab_flash : (s.modFab f).flash = s.flash := rfl
@[simp] theorem State.modFab_nv : (s.modFab f).nv = s.nv := rfl
@[simp] theorem State.modFab_lay : (s.modFab f).lay = s.lay := rfl
@[simp] theorem State.modFab_tb : (s.modFab f).tb = s.tb := rfl
@[simp] theorem State.modFab_slots : (s.modFab f).slots = s.slots := rfl
@[simp] theorem State.modFab_dram : (s.modFab f).dram = s.dram := rfl
@[simp] theorem State.modFab_boot : (s.modFab f).boot = s.boot := rfl
@[simp] theorem State.modFab_acc : (s.modFab f).acc = s.acc := rfl
@[simp] theorem State.modFab_ev : (s.modFab f).ev = s.ev := rfl
@[simp] theorem State.modFab_ep : (s.modFab f).ep = s.ep := rfl
@[simp] theorem State.modFab_mb : (s.modFab f).mb = s.mb := rfl
@[simp] theorem State.modFab_fr : (s.modFab f).fr = s.fr := rfl
@[simp] theorem State.modFab_jn : (s.modFab f).jn = s.jn := rfl
@[simp] theorem State.modFab_keys : (s.modFab f).keys = s.keys := rfl
@[simp] theorem State.modFab_dma : (s.modFab f).dma = s.dma := rfl
@[simp] theorem State.modFab_tg : (s.modFab f).tg = s.tg := rfl
@[simp] theorem State.modFab_pmc : (s.modFab f).pmc = s.pmc := rfl
@[simp] theorem State.modFab_sw : (s.modFab f).sw = s.sw := rfl
@[simp] theorem State.modFab_fab : (s.modFab f).fab = f s.fab := rfl
end modFab

section setReg
variable (s : State) (a : Nat) (w : Word)
@[simp] theorem State.setReg_pending : (s.setReg a w).pending = s.pending := rfl
@[simp] theorem State.setReg_regs : (s.setReg a w).regs = tputD s.regs a w 0 := rfl
@[simp] theorem State.setReg_now : (s.setReg a w).now = s.now := rfl
@[simp] theorem State.setReg_freeCtr : (s.setReg a w).freeCtr = s.freeCtr := rfl
@[simp] theorem State.setReg_emitted : (s.setReg a w).emitted = s.emitted := rfl
@[simp] theorem State.setReg_aon : (s.setReg a w).aon = s.aon := rfl
@[simp] theorem State.setReg_fuse : (s.setReg a w).fuse = s.fuse := rfl
@[simp] theorem State.setReg_flash : (s.setReg a w).flash = s.flash := rfl
@[simp] theorem State.setReg_nv : (s.setReg a w).nv = s.nv := rfl
@[simp] theorem State.setReg_lay : (s.setReg a w).lay = s.lay := rfl
@[simp] theorem State.setReg_tb : (s.setReg a w).tb = s.tb := rfl
@[simp] theorem State.setReg_slots : (s.setReg a w).slots = s.slots := rfl
@[simp] theorem State.setReg_dram : (s.setReg a w).dram = s.dram := rfl
@[simp] theorem State.setReg_boot : (s.setReg a w).boot = s.boot := rfl
@[simp] theorem State.setReg_acc : (s.setReg a w).acc = s.acc := rfl
@[simp] theorem State.setReg_ev : (s.setReg a w).ev = s.ev := rfl
@[simp] theorem State.setReg_ep : (s.setReg a w).ep = s.ep := rfl
@[simp] theorem State.setReg_mb : (s.setReg a w).mb = s.mb := rfl
@[simp] theorem State.setReg_fr : (s.setReg a w).fr = s.fr := rfl
@[simp] theorem State.setReg_jn : (s.setReg a w).jn = s.jn := rfl
@[simp] theorem State.setReg_keys : (s.setReg a w).keys = s.keys := rfl
@[simp] theorem State.setReg_dma : (s.setReg a w).dma = s.dma := rfl
@[simp] theorem State.setReg_tg : (s.setReg a w).tg = s.tg := rfl
@[simp] theorem State.setReg_pmc : (s.setReg a w).pmc = s.pmc := rfl
@[simp] theorem State.setReg_sw : (s.setReg a w).sw = s.sw := rfl
@[simp] theorem State.setReg_fab : (s.setReg a w).fab = s.fab := rfl
end setReg

section emit
variable (s : State) (e : Emit)
@[simp] theorem State.emit_pending : (s.emit e).pending = s.pending := rfl
@[simp] theorem State.emit_regs : (s.emit e).regs = s.regs := rfl
@[simp] theorem State.emit_now : (s.emit e).now = s.now := rfl
@[simp] theorem State.emit_freeCtr : (s.emit e).freeCtr = s.freeCtr := rfl
@[simp] theorem State.emit_emitted : (s.emit e).emitted = e :: s.emitted := rfl
@[simp] theorem State.emit_aon : (s.emit e).aon = s.aon := rfl
@[simp] theorem State.emit_fuse : (s.emit e).fuse = s.fuse := rfl
@[simp] theorem State.emit_flash : (s.emit e).flash = s.flash := rfl
@[simp] theorem State.emit_nv : (s.emit e).nv = s.nv := rfl
@[simp] theorem State.emit_lay : (s.emit e).lay = s.lay := rfl
@[simp] theorem State.emit_tb : (s.emit e).tb = s.tb := rfl
@[simp] theorem State.emit_slots : (s.emit e).slots = s.slots := rfl
@[simp] theorem State.emit_dram : (s.emit e).dram = s.dram := rfl
@[simp] theorem State.emit_boot : (s.emit e).boot = s.boot := rfl
@[simp] theorem State.emit_acc : (s.emit e).acc = s.acc := rfl
@[simp] theorem State.emit_ev : (s.emit e).ev = s.ev := rfl
@[simp] theorem State.emit_ep : (s.emit e).ep = s.ep := rfl
@[simp] theorem State.emit_mb : (s.emit e).mb = s.mb := rfl
@[simp] theorem State.emit_fr : (s.emit e).fr = s.fr := rfl
@[simp] theorem State.emit_jn : (s.emit e).jn = s.jn := rfl
@[simp] theorem State.emit_keys : (s.emit e).keys = s.keys := rfl
@[simp] theorem State.emit_dma : (s.emit e).dma = s.dma := rfl
@[simp] theorem State.emit_tg : (s.emit e).tg = s.tg := rfl
@[simp] theorem State.emit_pmc : (s.emit e).pmc = s.pmc := rfl
@[simp] theorem State.emit_sw : (s.emit e).sw = s.sw := rfl
@[simp] theorem State.emit_fab : (s.emit e).fab = s.fab := rfl
end emit

section setSlots
variable (s : State) (t : Tab Slot)
@[simp] theorem State.setSlots_pending : (s.setSlots t).pending = s.pending := rfl
@[simp] theorem State.setSlots_regs : (s.setSlots t).regs = s.regs := rfl
@[simp] theorem State.setSlots_now : (s.setSlots t).now = s.now := rfl
@[simp] theorem State.setSlots_freeCtr : (s.setSlots t).freeCtr = s.freeCtr := rfl
@[simp] theorem State.setSlots_emitted : (s.setSlots t).emitted = s.emitted := rfl
@[simp] theorem State.setSlots_aon : (s.setSlots t).aon = s.aon := rfl
@[simp] theorem State.setSlots_fuse : (s.setSlots t).fuse = s.fuse := rfl
@[simp] theorem State.setSlots_flash : (s.setSlots t).flash = s.flash := rfl
@[simp] theorem State.setSlots_nv : (s.setSlots t).nv = s.nv := rfl
@[simp] theorem State.setSlots_lay : (s.setSlots t).lay = s.lay := rfl
@[simp] theorem State.setSlots_tb : (s.setSlots t).tb = s.tb := rfl
@[simp] theorem State.setSlots_slots : (s.setSlots t).slots = t := rfl
@[simp] theorem State.setSlots_dram : (s.setSlots t).dram = s.dram := rfl
@[simp] theorem State.setSlots_boot : (s.setSlots t).boot = s.boot := rfl
@[simp] theorem State.setSlots_acc : (s.setSlots t).acc = s.acc := rfl
@[simp] theorem State.setSlots_ev : (s.setSlots t).ev = s.ev := rfl
@[simp] theorem State.setSlots_ep : (s.setSlots t).ep = s.ep := rfl
@[simp] theorem State.setSlots_mb : (s.setSlots t).mb = s.mb := rfl
@[simp] theorem State.setSlots_fr : (s.setSlots t).fr = s.fr := rfl
@[simp] theorem State.setSlots_jn : (s.setSlots t).jn = s.jn := rfl
@[simp] theorem State.setSlots_keys : (s.setSlots t).keys = s.keys := rfl
@[simp] theorem State.setSlots_dma : (s.setSlots t).dma = s.dma := rfl
@[simp] theorem State.setSlots_tg : (s.setSlots t).tg = s.tg := rfl
@[simp] theorem State.setSlots_pmc : (s.setSlots t).pmc = s.pmc := rfl
@[simp] theorem State.setSlots_sw : (s.setSlots t).sw = s.sw := rfl
@[simp] theorem State.setSlots_fab : (s.setSlots t).fab = s.fab := rfl
end setSlots

section setFuse
variable (s : State) (x : Fuses)
@[simp] theorem State.setFuse_pending : (s.setFuse x).pending = s.pending := rfl
@[simp] theorem State.setFuse_regs : (s.setFuse x).regs = s.regs := rfl
@[simp] theorem State.setFuse_now : (s.setFuse x).now = s.now := rfl
@[simp] theorem State.setFuse_freeCtr : (s.setFuse x).freeCtr = s.freeCtr := rfl
@[simp] theorem State.setFuse_emitted : (s.setFuse x).emitted = s.emitted := rfl
@[simp] theorem State.setFuse_aon : (s.setFuse x).aon = s.aon := rfl
@[simp] theorem State.setFuse_fuse : (s.setFuse x).fuse = some x := rfl
@[simp] theorem State.setFuse_flash : (s.setFuse x).flash = s.flash := rfl
@[simp] theorem State.setFuse_nv : (s.setFuse x).nv = s.nv := rfl
@[simp] theorem State.setFuse_lay : (s.setFuse x).lay = s.lay := rfl
@[simp] theorem State.setFuse_tb : (s.setFuse x).tb = s.tb := rfl
@[simp] theorem State.setFuse_slots : (s.setFuse x).slots = s.slots := rfl
@[simp] theorem State.setFuse_dram : (s.setFuse x).dram = s.dram := rfl
@[simp] theorem State.setFuse_boot : (s.setFuse x).boot = s.boot := rfl
@[simp] theorem State.setFuse_acc : (s.setFuse x).acc = s.acc := rfl
@[simp] theorem State.setFuse_ev : (s.setFuse x).ev = s.ev := rfl
@[simp] theorem State.setFuse_ep : (s.setFuse x).ep = s.ep := rfl
@[simp] theorem State.setFuse_mb : (s.setFuse x).mb = s.mb := rfl
@[simp] theorem State.setFuse_fr : (s.setFuse x).fr = s.fr := rfl
@[simp] theorem State.setFuse_jn : (s.setFuse x).jn = s.jn := rfl
@[simp] theorem State.setFuse_keys : (s.setFuse x).keys = s.keys := rfl
@[simp] theorem State.setFuse_dma : (s.setFuse x).dma = s.dma := rfl
@[simp] theorem State.setFuse_tg : (s.setFuse x).tg = s.tg := rfl
@[simp] theorem State.setFuse_pmc : (s.setFuse x).pmc = s.pmc := rfl
@[simp] theorem State.setFuse_sw : (s.setFuse x).sw = s.sw := rfl
@[simp] theorem State.setFuse_fab : (s.setFuse x).fab = s.fab := rfl
end setFuse

section setFlash
variable (s : State) (x : FlashImage)
@[simp] theorem State.setFlash_pending : (s.setFlash x).pending = s.pending := rfl
@[simp] theorem State.setFlash_regs : (s.setFlash x).regs = s.regs := rfl
@[simp] theorem State.setFlash_now : (s.setFlash x).now = s.now := rfl
@[simp] theorem State.setFlash_freeCtr : (s.setFlash x).freeCtr = s.freeCtr := rfl
@[simp] theorem State.setFlash_emitted : (s.setFlash x).emitted = s.emitted := rfl
@[simp] theorem State.setFlash_aon : (s.setFlash x).aon = s.aon := rfl
@[simp] theorem State.setFlash_fuse : (s.setFlash x).fuse = s.fuse := rfl
@[simp] theorem State.setFlash_flash : (s.setFlash x).flash = some x := rfl
@[simp] theorem State.setFlash_nv : (s.setFlash x).nv = s.nv := rfl
@[simp] theorem State.setFlash_lay : (s.setFlash x).lay = s.lay := rfl
@[simp] theorem State.setFlash_tb : (s.setFlash x).tb = s.tb := rfl
@[simp] theorem State.setFlash_slots : (s.setFlash x).slots = s.slots := rfl
@[simp] theorem State.setFlash_dram : (s.setFlash x).dram = s.dram := rfl
@[simp] theorem State.setFlash_boot : (s.setFlash x).boot = s.boot := rfl
@[simp] theorem State.setFlash_acc : (s.setFlash x).acc = s.acc := rfl
@[simp] theorem State.setFlash_ev : (s.setFlash x).ev = s.ev := rfl
@[simp] theorem State.setFlash_ep : (s.setFlash x).ep = s.ep := rfl
@[simp] theorem State.setFlash_mb : (s.setFlash x).mb = s.mb := rfl
@[simp] theorem State.setFlash_fr : (s.setFlash x).fr = s.fr := rfl
@[simp] theorem State.setFlash_jn : (s.setFlash x).jn = s.jn := rfl
@[simp] theorem State.setFlash_keys : (s.setFlash x).keys = s.keys := rfl
@[simp] theorem State.setFlash_dma : (s.setFlash x).dma = s.dma := rfl
@[simp] theorem State.setFlash_tg : (s.setFlash x).tg = s.tg := rfl
@[simp] theorem State.setFlash_pmc : (s.setFlash x).pmc = s.pmc := rfl
@[simp] theorem State.setFlash_sw : (s.setFlash x).sw = s.sw := rfl
@[simp] theorem State.setFlash_fab : (s.setFlash x).fab = s.fab := rfl
end setFlash

section setLay
variable (s : State) (l : Layout)
@[simp] theorem State.setLay_pending : (s.setLay l).pending = s.pending := rfl
@[simp] theorem State.setLay_regs : (s.setLay l).regs = s.regs := rfl
@[simp] theorem State.setLay_now : (s.setLay l).now = s.now := rfl
@[simp] theorem State.setLay_freeCtr : (s.setLay l).freeCtr = s.freeCtr := rfl
@[simp] theorem State.setLay_emitted : (s.setLay l).emitted = s.emitted := rfl
@[simp] theorem State.setLay_aon : (s.setLay l).aon = s.aon := rfl
@[simp] theorem State.setLay_fuse : (s.setLay l).fuse = s.fuse := rfl
@[simp] theorem State.setLay_flash : (s.setLay l).flash = s.flash := rfl
@[simp] theorem State.setLay_nv : (s.setLay l).nv = s.nv := rfl
@[simp] theorem State.setLay_lay : (s.setLay l).lay = some l := rfl
@[simp] theorem State.setLay_tb : (s.setLay l).tb = s.tb := rfl
@[simp] theorem State.setLay_slots : (s.setLay l).slots = s.slots := rfl
@[simp] theorem State.setLay_dram : (s.setLay l).dram = s.dram := rfl
@[simp] theorem State.setLay_boot : (s.setLay l).boot = s.boot := rfl
@[simp] theorem State.setLay_acc : (s.setLay l).acc = s.acc := rfl
@[simp] theorem State.setLay_ev : (s.setLay l).ev = s.ev := rfl
@[simp] theorem State.setLay_ep : (s.setLay l).ep = s.ep := rfl
@[simp] theorem State.setLay_mb : (s.setLay l).mb = s.mb := rfl
@[simp] theorem State.setLay_fr : (s.setLay l).fr = s.fr := rfl
@[simp] theorem State.setLay_jn : (s.setLay l).jn = s.jn := rfl
@[simp] theorem State.setLay_keys : (s.setLay l).keys = s.keys := rfl
@[simp] theorem State.setLay_dma : (s.setLay l).dma = s.dma := rfl
@[simp] theorem State.setLay_tg : (s.setLay l).tg = s.tg := rfl
@[simp] theorem State.setLay_pmc : (s.setLay l).pmc = s.pmc := rfl
@[simp] theorem State.setLay_sw : (s.setLay l).sw = s.sw := rfl
@[simp] theorem State.setLay_fab : (s.setLay l).fab = s.fab := rfl
end setLay

section setSlot
variable (s : State) (n : Nat) (x : Slot)
@[simp] theorem State.setSlot_pending : (s.setSlot n x).pending = s.pending := rfl
@[simp] theorem State.setSlot_regs : (s.setSlot n x).regs = s.regs := rfl
@[simp] theorem State.setSlot_now : (s.setSlot n x).now = s.now := rfl
@[simp] theorem State.setSlot_freeCtr : (s.setSlot n x).freeCtr = s.freeCtr := rfl
@[simp] theorem State.setSlot_emitted : (s.setSlot n x).emitted = s.emitted := rfl
@[simp] theorem State.setSlot_aon : (s.setSlot n x).aon = s.aon := rfl
@[simp] theorem State.setSlot_fuse : (s.setSlot n x).fuse = s.fuse := rfl
@[simp] theorem State.setSlot_flash : (s.setSlot n x).flash = s.flash := rfl
@[simp] theorem State.setSlot_nv : (s.setSlot n x).nv = s.nv := rfl
@[simp] theorem State.setSlot_lay : (s.setSlot n x).lay = s.lay := rfl
@[simp] theorem State.setSlot_tb : (s.setSlot n x).tb = s.tb := rfl
@[simp] theorem State.setSlot_slots : (s.setSlot n x).slots = tputD s.slots n x Slot.free := rfl
@[simp] theorem State.setSlot_dram : (s.setSlot n x).dram = s.dram := rfl
@[simp] theorem State.setSlot_boot : (s.setSlot n x).boot = s.boot := rfl
@[simp] theorem State.setSlot_acc : (s.setSlot n x).acc = s.acc := rfl
@[simp] theorem State.setSlot_ev : (s.setSlot n x).ev = s.ev := rfl
@[simp] theorem State.setSlot_ep : (s.setSlot n x).ep = s.ep := rfl
@[simp] theorem State.setSlot_mb : (s.setSlot n x).mb = s.mb := rfl
@[simp] theorem State.setSlot_fr : (s.setSlot n x).fr = s.fr := rfl
@[simp] theorem State.setSlot_jn : (s.setSlot n x).jn = s.jn := rfl
@[simp] theorem State.setSlot_keys : (s.setSlot n x).keys = s.keys := rfl
@[simp] theorem State.setSlot_dma : (s.setSlot n x).dma = s.dma := rfl
@[simp] theorem State.setSlot_tg : (s.setSlot n x).tg = s.tg := rfl
@[simp] theorem State.setSlot_pmc : (s.setSlot n x).pmc = s.pmc := rfl
@[simp] theorem State.setSlot_sw : (s.setSlot n x).sw = s.sw := rfl
@[simp] theorem State.setSlot_fab : (s.setSlot n x).fab = s.fab := rfl
end setSlot

section dramWrite
variable (s : State) (a : Nat) (l : List Byte)
@[simp] theorem State.dramWrite_pending : (s.dramWrite a l).pending = s.pending := rfl
@[simp] theorem State.dramWrite_regs : (s.dramWrite a l).regs = s.regs := rfl
@[simp] theorem State.dramWrite_now : (s.dramWrite a l).now = s.now := rfl
@[simp] theorem State.dramWrite_freeCtr : (s.dramWrite a l).freeCtr = s.freeCtr := rfl
@[simp] theorem State.dramWrite_emitted : (s.dramWrite a l).emitted = s.emitted := rfl
@[simp] theorem State.dramWrite_aon : (s.dramWrite a l).aon = s.aon := rfl
@[simp] theorem State.dramWrite_fuse : (s.dramWrite a l).fuse = s.fuse := rfl
@[simp] theorem State.dramWrite_flash : (s.dramWrite a l).flash = s.flash := rfl
@[simp] theorem State.dramWrite_nv : (s.dramWrite a l).nv = s.nv := rfl
@[simp] theorem State.dramWrite_lay : (s.dramWrite a l).lay = s.lay := rfl
@[simp] theorem State.dramWrite_tb : (s.dramWrite a l).tb = s.tb := rfl
@[simp] theorem State.dramWrite_slots : (s.dramWrite a l).slots = s.slots := rfl
@[simp] theorem State.dramWrite_dram : (s.dramWrite a l).dram = memPutAll s.dram a l := rfl
@[simp] theorem State.dramWrite_boot : (s.dramWrite a l).boot = s.boot := rfl
@[simp] theorem State.dramWrite_acc : (s.dramWrite a l).acc = s.acc := rfl
@[simp] theorem State.dramWrite_ev : (s.dramWrite a l).ev = s.ev := rfl
@[simp] theorem State.dramWrite_ep : (s.dramWrite a l).ep = s.ep := rfl
@[simp] theorem State.dramWrite_mb : (s.dramWrite a l).mb = s.mb := rfl
@[simp] theorem State.dramWrite_fr : (s.dramWrite a l).fr = s.fr := rfl
@[simp] theorem State.dramWrite_jn : (s.dramWrite a l).jn = s.jn := rfl
@[simp] theorem State.dramWrite_keys : (s.dramWrite a l).keys = s.keys := rfl
@[simp] theorem State.dramWrite_dma : (s.dramWrite a l).dma = s.dma := rfl
@[simp] theorem State.dramWrite_tg : (s.dramWrite a l).tg = s.tg := rfl
@[simp] theorem State.dramWrite_pmc : (s.dramWrite a l).pmc = s.pmc := rfl
@[simp] theorem State.dramWrite_sw : (s.dramWrite a l).sw = s.sw := rfl
@[simp] theorem State.dramWrite_fab : (s.dramWrite a l).fab = s.fab := rfl
end dramWrite

section setN
variable (s : State) (a v : Nat)
@[simp] theorem State.setN_pending : (s.setN a v).pending = s.pending := rfl
@[simp] theorem State.setN_now : (s.setN a v).now = s.now := rfl
@[simp] theorem State.setN_freeCtr : (s.setN a v).freeCtr = s.freeCtr := rfl
@[simp] theorem State.setN_emitted : (s.setN a v).emitted = s.emitted := rfl
@[simp] theorem State.setN_aon : (s.setN a v).aon = s.aon := rfl
@[simp] theorem State.setN_fuse : (s.setN a v).fuse = s.fuse := rfl
@[simp] theorem State.setN_flash : (s.setN a v).flash = s.flash := rfl
@[simp] theorem State.setN_nv : (s.setN a v).nv = s.nv := rfl
@[simp] theorem State.setN_lay : (s.setN a v).lay = s.lay := rfl
@[simp] theorem State.setN_tb : (s.setN a v).tb = s.tb := rfl
@[simp] theorem State.setN_slots : (s.setN a v).slots = s.slots := rfl
@[simp] theorem State.setN_dram : (s.setN a v).dram = s.dram := rfl
@[simp] theorem State.setN_boot : (s.setN a v).boot = s.boot := rfl
@[simp] theorem State.setN_acc : (s.setN a v).acc = s.acc := rfl
@[simp] theorem State.setN_ev : (s.setN a v).ev = s.ev := rfl
@[simp] theorem State.setN_ep : (s.setN a v).ep = s.ep := rfl
@[simp] theorem State.setN_mb : (s.setN a v).mb = s.mb := rfl
@[simp] theorem State.setN_fr : (s.setN a v).fr = s.fr := rfl
@[simp] theorem State.setN_jn : (s.setN a v).jn = s.jn := rfl
@[simp] theorem State.setN_keys : (s.setN a v).keys = s.keys := rfl
@[simp] theorem State.setN_dma : (s.setN a v).dma = s.dma := rfl
@[simp] theorem State.setN_tg : (s.setN a v).tg = s.tg := rfl
@[simp] theorem State.setN_pmc : (s.setN a v).pmc = s.pmc := rfl
@[simp] theorem State.setN_sw : (s.setN a v).sw = s.sw := rfl
@[simp] theorem State.setN_fab : (s.setN a v).fab = s.fab := rfl
end setN

section put
variable (s : State) (f : FieldAt) (v : Nat)
@[simp] theorem State.put_pending : (s.put f v).pending = s.pending := rfl
@[simp] theorem State.put_now : (s.put f v).now = s.now := rfl
@[simp] theorem State.put_freeCtr : (s.put f v).freeCtr = s.freeCtr := rfl
@[simp] theorem State.put_emitted : (s.put f v).emitted = s.emitted := rfl
@[simp] theorem State.put_aon : (s.put f v).aon = s.aon := rfl
@[simp] theorem State.put_fuse : (s.put f v).fuse = s.fuse := rfl
@[simp] theorem State.put_flash : (s.put f v).flash = s.flash := rfl
@[simp] theorem State.put_nv : (s.put f v).nv = s.nv := rfl
@[simp] theorem State.put_lay : (s.put f v).lay = s.lay := rfl
@[simp] theorem State.put_tb : (s.put f v).tb = s.tb := rfl
@[simp] theorem State.put_slots : (s.put f v).slots = s.slots := rfl
@[simp] theorem State.put_dram : (s.put f v).dram = s.dram := rfl
@[simp] theorem State.put_boot : (s.put f v).boot = s.boot := rfl
@[simp] theorem State.put_acc : (s.put f v).acc = s.acc := rfl
@[simp] theorem State.put_ev : (s.put f v).ev = s.ev := rfl
@[simp] theorem State.put_ep : (s.put f v).ep = s.ep := rfl
@[simp] theorem State.put_mb : (s.put f v).mb = s.mb := rfl
@[simp] theorem State.put_fr : (s.put f v).fr = s.fr := rfl
@[simp] theorem State.put_jn : (s.put f v).jn = s.jn := rfl
@[simp] theorem State.put_keys : (s.put f v).keys = s.keys := rfl
@[simp] theorem State.put_dma : (s.put f v).dma = s.dma := rfl
@[simp] theorem State.put_tg : (s.put f v).tg = s.tg := rfl
@[simp] theorem State.put_pmc : (s.put f v).pmc = s.pmc := rfl
@[simp] theorem State.put_sw : (s.put f v).sw = s.sw := rfl
@[simp] theorem State.put_fab : (s.put f v).fab = s.fab := rfl
end put

section on
variable (s : State) (f : FieldAt)
@[simp] theorem State.on_pending : (s.on f).pending = s.pending := rfl
@[simp] theorem State.on_now : (s.on f).now = s.now := rfl
@[simp] theorem State.on_freeCtr : (s.on f).freeCtr = s.freeCtr := rfl
@[simp] theorem State.on_emitted : (s.on f).emitted = s.emitted := rfl
@[simp] theorem State.on_aon : (s.on f).aon = s.aon := rfl
@[simp] theorem State.on_fuse : (s.on f).fuse = s.fuse := rfl
@[simp] theorem State.on_flash : (s.on f).flash = s.flash := rfl
@[simp] theorem State.on_nv : (s.on f).nv = s.nv := rfl
@[simp] theorem State.on_lay : (s.on f).lay = s.lay := rfl
@[simp] theorem State.on_tb : (s.on f).tb = s.tb := rfl
@[simp] theorem State.on_slots : (s.on f).slots = s.slots := rfl
@[simp] theorem State.on_dram : (s.on f).dram = s.dram := rfl
@[simp] theorem State.on_boot : (s.on f).boot = s.boot := rfl
@[simp] theorem State.on_acc : (s.on f).acc = s.acc := rfl
@[simp] theorem State.on_ev : (s.on f).ev = s.ev := rfl
@[simp] theorem State.on_ep : (s.on f).ep = s.ep := rfl
@[simp] theorem State.on_mb : (s.on f).mb = s.mb := rfl
@[simp] theorem State.on_fr : (s.on f).fr = s.fr := rfl
@[simp] theorem State.on_jn : (s.on f).jn = s.jn := rfl
@[simp] theorem State.on_keys : (s.on f).keys = s.keys := rfl
@[simp] theorem State.on_dma : (s.on f).dma = s.dma := rfl
@[simp] theorem State.on_tg : (s.on f).tg = s.tg := rfl
@[simp] theorem State.on_pmc : (s.on f).pmc = s.pmc := rfl
@[simp] theorem State.on_sw : (s.on f).sw = s.sw := rfl
@[simp] theorem State.on_fab : (s.on f).fab = s.fab := rfl
end on

section off
variable (s : State) (f : FieldAt)
@[simp] theorem State.off_pending : (s.off f).pending = s.pending := rfl
@[simp] theorem State.off_now : (s.off f).now = s.now := rfl
@[simp] theorem State.off_freeCtr : (s.off f).freeCtr = s.freeCtr := rfl
@[simp] theorem State.off_emitted : (s.off f).emitted = s.emitted := rfl
@[simp] theorem State.off_aon : (s.off f).aon = s.aon := rfl
@[simp] theorem State.off_fuse : (s.off f).fuse = s.fuse := rfl
@[simp] theorem State.off_flash : (s.off f).flash = s.flash := rfl
@[simp] theorem State.off_nv : (s.off f).nv = s.nv := rfl
@[simp] theorem State.off_lay : (s.off f).lay = s.lay := rfl
@[simp] theorem State.off_tb : (s.off f).tb = s.tb := rfl
@[simp] theorem State.off_slots : (s.off f).slots = s.slots := rfl
@[simp] theorem State.off_dram : (s.off f).dram = s.dram := rfl
@[simp] theorem State.off_boot : (s.off f).boot = s.boot := rfl
@[simp] theorem State.off_acc : (s.off f).acc = s.acc := rfl
@[simp] theorem State.off_ev : (s.off f).ev = s.ev := rfl
@[simp] theorem State.off_ep : (s.off f).ep = s.ep := rfl
@[simp] theorem State.off_mb : (s.off f).mb = s.mb := rfl
@[simp] theorem State.off_fr : (s.off f).fr = s.fr := rfl
@[simp] theorem State.off_jn : (s.off f).jn = s.jn := rfl
@[simp] theorem State.off_keys : (s.off f).keys = s.keys := rfl
@[simp] theorem State.off_dma : (s.off f).dma = s.dma := rfl
@[simp] theorem State.off_tg : (s.off f).tg = s.tg := rfl
@[simp] theorem State.off_pmc : (s.off f).pmc = s.pmc := rfl
@[simp] theorem State.off_sw : (s.off f).sw = s.sw := rfl
@[simp] theorem State.off_fab : (s.off f).fab = s.fab := rfl
end off

section putB
variable (s : State) (f : FieldAt) (b : Bool)
@[simp] theorem State.putB_pending : (s.putB f b).pending = s.pending := rfl
@[simp] theorem State.putB_now : (s.putB f b).now = s.now := rfl
@[simp] theorem State.putB_freeCtr : (s.putB f b).freeCtr = s.freeCtr := rfl
@[simp] theorem State.putB_emitted : (s.putB f b).emitted = s.emitted := rfl
@[simp] theorem State.putB_aon : (s.putB f b).aon = s.aon := rfl
@[simp] theorem State.putB_fuse : (s.putB f b).fuse = s.fuse := rfl
@[simp] theorem State.putB_flash : (s.putB f b).flash = s.flash := rfl
@[simp] theorem State.putB_nv : (s.putB f b).nv = s.nv := rfl
@[simp] theorem State.putB_lay : (s.putB f b).lay = s.lay := rfl
@[simp] theorem State.putB_tb : (s.putB f b).tb = s.tb := rfl
@[simp] theorem State.putB_slots : (s.putB f b).slots = s.slots := rfl
@[simp] theorem State.putB_dram : (s.putB f b).dram = s.dram := rfl
@[simp] theorem State.putB_boot : (s.putB f b).boot = s.boot := rfl
@[simp] theorem State.putB_acc : (s.putB f b).acc = s.acc := rfl
@[simp] theorem State.putB_ev : (s.putB f b).ev = s.ev := rfl
@[simp] theorem State.putB_ep : (s.putB f b).ep = s.ep := rfl
@[simp] theorem State.putB_mb : (s.putB f b).mb = s.mb := rfl
@[simp] theorem State.putB_fr : (s.putB f b).fr = s.fr := rfl
@[simp] theorem State.putB_jn : (s.putB f b).jn = s.jn := rfl
@[simp] theorem State.putB_keys : (s.putB f b).keys = s.keys := rfl
@[simp] theorem State.putB_dma : (s.putB f b).dma = s.dma := rfl
@[simp] theorem State.putB_tg : (s.putB f b).tg = s.tg := rfl
@[simp] theorem State.putB_pmc : (s.putB f b).pmc = s.pmc := rfl
@[simp] theorem State.putB_sw : (s.putB f b).sw = s.sw := rfl
@[simp] theorem State.putB_fab : (s.putB f b).fab = s.fab := rfl
end putB

section inc
variable (s : State) (f : FieldAt) (n : Nat)
@[simp] theorem State.inc_pending : (s.inc f n).pending = s.pending := rfl
@[simp] theorem State.inc_now : (s.inc f n).now = s.now := rfl
@[simp] theorem State.inc_freeCtr : (s.inc f n).freeCtr = s.freeCtr := rfl
@[simp] theorem State.inc_emitted : (s.inc f n).emitted = s.emitted := rfl
@[simp] theorem State.inc_aon : (s.inc f n).aon = s.aon := rfl
@[simp] theorem State.inc_fuse : (s.inc f n).fuse = s.fuse := rfl
@[simp] theorem State.inc_flash : (s.inc f n).flash = s.flash := rfl
@[simp] theorem State.inc_nv : (s.inc f n).nv = s.nv := rfl
@[simp] theorem State.inc_lay : (s.inc f n).lay = s.lay := rfl
@[simp] theorem State.inc_tb : (s.inc f n).tb = s.tb := rfl
@[simp] theorem State.inc_slots : (s.inc f n).slots = s.slots := rfl
@[simp] theorem State.inc_dram : (s.inc f n).dram = s.dram := rfl
@[simp] theorem State.inc_boot : (s.inc f n).boot = s.boot := rfl
@[simp] theorem State.inc_acc : (s.inc f n).acc = s.acc := rfl
@[simp] theorem State.inc_ev : (s.inc f n).ev = s.ev := rfl
@[simp] theorem State.inc_ep : (s.inc f n).ep = s.ep := rfl
@[simp] theorem State.inc_mb : (s.inc f n).mb = s.mb := rfl
@[simp] theorem State.inc_fr : (s.inc f n).fr = s.fr := rfl
@[simp] theorem State.inc_jn : (s.inc f n).jn = s.jn := rfl
@[simp] theorem State.inc_keys : (s.inc f n).keys = s.keys := rfl
@[simp] theorem State.inc_dma : (s.inc f n).dma = s.dma := rfl
@[simp] theorem State.inc_tg : (s.inc f n).tg = s.tg := rfl
@[simp] theorem State.inc_pmc : (s.inc f n).pmc = s.pmc := rfl
@[simp] theorem State.inc_sw : (s.inc f n).sw = s.sw := rfl
@[simp] theorem State.inc_fab : (s.inc f n).fab = s.fab := rfl
end inc

section satInc
variable (s : State) (f : FieldAt) (n : Nat)
@[simp] theorem State.satInc_pending : (s.satInc f n).pending = s.pending := rfl
@[simp] theorem State.satInc_now : (s.satInc f n).now = s.now := rfl
@[simp] theorem State.satInc_freeCtr : (s.satInc f n).freeCtr = s.freeCtr := rfl
@[simp] theorem State.satInc_emitted : (s.satInc f n).emitted = s.emitted := rfl
@[simp] theorem State.satInc_aon : (s.satInc f n).aon = s.aon := rfl
@[simp] theorem State.satInc_fuse : (s.satInc f n).fuse = s.fuse := rfl
@[simp] theorem State.satInc_flash : (s.satInc f n).flash = s.flash := rfl
@[simp] theorem State.satInc_nv : (s.satInc f n).nv = s.nv := rfl
@[simp] theorem State.satInc_lay : (s.satInc f n).lay = s.lay := rfl
@[simp] theorem State.satInc_tb : (s.satInc f n).tb = s.tb := rfl
@[simp] theorem State.satInc_slots : (s.satInc f n).slots = s.slots := rfl
@[simp] theorem State.satInc_dram : (s.satInc f n).dram = s.dram := rfl
@[simp] theorem State.satInc_boot : (s.satInc f n).boot = s.boot := rfl
@[simp] theorem State.satInc_acc : (s.satInc f n).acc = s.acc := rfl
@[simp] theorem State.satInc_ev : (s.satInc f n).ev = s.ev := rfl
@[simp] theorem State.satInc_ep : (s.satInc f n).ep = s.ep := rfl
@[simp] theorem State.satInc_mb : (s.satInc f n).mb = s.mb := rfl
@[simp] theorem State.satInc_fr : (s.satInc f n).fr = s.fr := rfl
@[simp] theorem State.satInc_jn : (s.satInc f n).jn = s.jn := rfl
@[simp] theorem State.satInc_keys : (s.satInc f n).keys = s.keys := rfl
@[simp] theorem State.satInc_dma : (s.satInc f n).dma = s.dma := rfl
@[simp] theorem State.satInc_tg : (s.satInc f n).tg = s.tg := rfl
@[simp] theorem State.satInc_pmc : (s.satInc f n).pmc = s.pmc := rfl
@[simp] theorem State.satInc_sw : (s.satInc f n).sw = s.sw := rfl
@[simp] theorem State.satInc_fab : (s.satInc f n).fab = s.fab := rfl
end satInc

section wr64
variable (s : State) (a v : Nat)
@[simp] theorem State.wr64_pending : (s.wr64 a v).pending = s.pending := rfl
@[simp] theorem State.wr64_now : (s.wr64 a v).now = s.now := rfl
@[simp] theorem State.wr64_freeCtr : (s.wr64 a v).freeCtr = s.freeCtr := rfl
@[simp] theorem State.wr64_emitted : (s.wr64 a v).emitted = s.emitted := rfl
@[simp] theorem State.wr64_aon : (s.wr64 a v).aon = s.aon := rfl
@[simp] theorem State.wr64_fuse : (s.wr64 a v).fuse = s.fuse := rfl
@[simp] theorem State.wr64_flash : (s.wr64 a v).flash = s.flash := rfl
@[simp] theorem State.wr64_nv : (s.wr64 a v).nv = s.nv := rfl
@[simp] theorem State.wr64_lay : (s.wr64 a v).lay = s.lay := rfl
@[simp] theorem State.wr64_tb : (s.wr64 a v).tb = s.tb := rfl
@[simp] theorem State.wr64_slots : (s.wr64 a v).slots = s.slots := rfl
@[simp] theorem State.wr64_dram : (s.wr64 a v).dram = s.dram := rfl
@[simp] theorem State.wr64_boot : (s.wr64 a v).boot = s.boot := rfl
@[simp] theorem State.wr64_acc : (s.wr64 a v).acc = s.acc := rfl
@[simp] theorem State.wr64_ev : (s.wr64 a v).ev = s.ev := rfl
@[simp] theorem State.wr64_ep : (s.wr64 a v).ep = s.ep := rfl
@[simp] theorem State.wr64_mb : (s.wr64 a v).mb = s.mb := rfl
@[simp] theorem State.wr64_fr : (s.wr64 a v).fr = s.fr := rfl
@[simp] theorem State.wr64_jn : (s.wr64 a v).jn = s.jn := rfl
@[simp] theorem State.wr64_keys : (s.wr64 a v).keys = s.keys := rfl
@[simp] theorem State.wr64_dma : (s.wr64 a v).dma = s.dma := rfl
@[simp] theorem State.wr64_tg : (s.wr64 a v).tg = s.tg := rfl
@[simp] theorem State.wr64_pmc : (s.wr64 a v).pmc = s.pmc := rfl
@[simp] theorem State.wr64_sw : (s.wr64 a v).sw = s.sw := rfl
@[simp] theorem State.wr64_fab : (s.wr64 a v).fab = s.fab := rfl
end wr64

section add64
variable (s : State) (a n : Nat)
@[simp] theorem State.add64_pending : (s.add64 a n).pending = s.pending := rfl
@[simp] theorem State.add64_now : (s.add64 a n).now = s.now := rfl
@[simp] theorem State.add64_freeCtr : (s.add64 a n).freeCtr = s.freeCtr := rfl
@[simp] theorem State.add64_emitted : (s.add64 a n).emitted = s.emitted := rfl
@[simp] theorem State.add64_aon : (s.add64 a n).aon = s.aon := rfl
@[simp] theorem State.add64_fuse : (s.add64 a n).fuse = s.fuse := rfl
@[simp] theorem State.add64_flash : (s.add64 a n).flash = s.flash := rfl
@[simp] theorem State.add64_nv : (s.add64 a n).nv = s.nv := rfl
@[simp] theorem State.add64_lay : (s.add64 a n).lay = s.lay := rfl
@[simp] theorem State.add64_tb : (s.add64 a n).tb = s.tb := rfl
@[simp] theorem State.add64_slots : (s.add64 a n).slots = s.slots := rfl
@[simp] theorem State.add64_dram : (s.add64 a n).dram = s.dram := rfl
@[simp] theorem State.add64_boot : (s.add64 a n).boot = s.boot := rfl
@[simp] theorem State.add64_acc : (s.add64 a n).acc = s.acc := rfl
@[simp] theorem State.add64_ev : (s.add64 a n).ev = s.ev := rfl
@[simp] theorem State.add64_ep : (s.add64 a n).ep = s.ep := rfl
@[simp] theorem State.add64_mb : (s.add64 a n).mb = s.mb := rfl
@[simp] theorem State.add64_fr : (s.add64 a n).fr = s.fr := rfl
@[simp] theorem State.add64_jn : (s.add64 a n).jn = s.jn := rfl
@[simp] theorem State.add64_keys : (s.add64 a n).keys = s.keys := rfl
@[simp] theorem State.add64_dma : (s.add64 a n).dma = s.dma := rfl
@[simp] theorem State.add64_tg : (s.add64 a n).tg = s.tg := rfl
@[simp] theorem State.add64_pmc : (s.add64 a n).pmc = s.pmc := rfl
@[simp] theorem State.add64_sw : (s.add64 a n).sw = s.sw := rfl
@[simp] theorem State.add64_fab : (s.add64 a n).fab = s.fab := rfl
end add64

section putBit64
variable (s : State) (a n : Nat) (b : Bool)
@[simp] theorem State.putBit64_pending : (s.putBit64 a n b).pending = s.pending := rfl
@[simp] theorem State.putBit64_now : (s.putBit64 a n b).now = s.now := rfl
@[simp] theorem State.putBit64_freeCtr : (s.putBit64 a n b).freeCtr = s.freeCtr := rfl
@[simp] theorem State.putBit64_emitted : (s.putBit64 a n b).emitted = s.emitted := rfl
@[simp] theorem State.putBit64_aon : (s.putBit64 a n b).aon = s.aon := rfl
@[simp] theorem State.putBit64_fuse : (s.putBit64 a n b).fuse = s.fuse := rfl
@[simp] theorem State.putBit64_flash : (s.putBit64 a n b).flash = s.flash := rfl
@[simp] theorem State.putBit64_nv : (s.putBit64 a n b).nv = s.nv := rfl
@[simp] theorem State.putBit64_lay : (s.putBit64 a n b).lay = s.lay := rfl
@[simp] theorem State.putBit64_tb : (s.putBit64 a n b).tb = s.tb := rfl
@[simp] theorem State.putBit64_slots : (s.putBit64 a n b).slots = s.slots := rfl
@[simp] theorem State.putBit64_dram : (s.putBit64 a n b).dram = s.dram := rfl
@[simp] theorem State.putBit64_boot : (s.putBit64 a n b).boot = s.boot := rfl
@[simp] theorem State.putBit64_acc : (s.putBit64 a n b).acc = s.acc := rfl
@[simp] theorem State.putBit64_ev : (s.putBit64 a n b).ev = s.ev := rfl
@[simp] theorem State.putBit64_ep : (s.putBit64 a n b).ep = s.ep := rfl
@[simp] theorem State.putBit64_mb : (s.putBit64 a n b).mb = s.mb := rfl
@[simp] theorem State.putBit64_fr : (s.putBit64 a n b).fr = s.fr := rfl
@[simp] theorem State.putBit64_jn : (s.putBit64 a n b).jn = s.jn := rfl
@[simp] theorem State.putBit64_keys : (s.putBit64 a n b).keys = s.keys := rfl
@[simp] theorem State.putBit64_dma : (s.putBit64 a n b).dma = s.dma := rfl
@[simp] theorem State.putBit64_tg : (s.putBit64 a n b).tg = s.tg := rfl
@[simp] theorem State.putBit64_pmc : (s.putBit64 a n b).pmc = s.pmc := rfl
@[simp] theorem State.putBit64_sw : (s.putBit64 a n b).sw = s.sw := rfl
@[simp] theorem State.putBit64_fab : (s.putBit64 a n b).fab = s.fab := rfl
end putBit64

end Sys2Proof.Machine
end

