-- ==== Sys2Proof/Laws/Word.lean ====
section
/-! SUPPORT. Laws of the sorted tables and of the byte memory: what an entry reads after a write or a removal, and that
every operation keeps the canonical form. -/

namespace Sys2Proof
variable {α : Type}

@[simp] theorem tget_nil (k : Nat) : tget ([] : Tab α) k = none := rfl

@[simp] theorem tget_tput_same (t : Tab α) (k : Nat) (v : α) : tget (tput t k v) k = some v := by
  induction t with
  | nil => simp [tput, tget]
  | cons x r ih =>
    obtain ⟨a, y⟩ := x
    simp only [tput]
    split
    · simp [tget]
    · split
      · simp [tget]
      · have : a ≠ k := fun h => ‹¬k = a› h.symm
        simp [tget, this, ih]

theorem tget_tput_other (t : Tab α) {k j : Nat} (v : α) (h : j ≠ k) : tget (tput t k v) j = tget t j := by
  induction t with
  | nil => simp [tput, tget, Ne.symm h]
  | cons x r ih =>
    obtain ⟨a, y⟩ := x
    simp only [tput]
    split
    · simp [tget, Ne.symm h]
    · split
      · subst_vars; simp [tget, Ne.symm h]
      · simp [tget, ih]

@[simp] theorem tget_tdel_same (t : Tab α) (k : Nat) : tget (tdel t k) k = none := by
  induction t with
  | nil => rfl
  | cons x r ih => obtain ⟨a, y⟩ := x; simp only [tdel]; split <;> simp_all [tget]

theorem tget_tdel_other (t : Tab α) {k j : Nat} (h : j ≠ k) : tget (tdel t k) j = tget t j := by
  induction t with
  | nil => rfl
  | cons x r ih =>
    obtain ⟨a, y⟩ := x
    simp only [tdel]
    split
    · have : a ≠ j := fun e => h (by omega)
      simp [tget, this, ih]
    · simp [tget, ih]

variable [DecidableEq α]

@[simp] theorem tgetD_tputD_same (t : Tab α) (k : Nat) (v d : α) : tgetD (tputD t k v d) k d = v := by
  by_cases h : v = d <;> simp [tgetD, tputD, h]

theorem tgetD_tputD_other (t : Tab α) {k j : Nat} (v d e : α) (h : j ≠ k) :
    tgetD (tputD t k v d) j e = tgetD t j e := by
  by_cases hv : v = d <;> simp [tgetD, tputD, hv, tget_tput_other, tget_tdel_other, h]

end Sys2Proof

namespace Sys2Proof.Machine
open Sys2Proof
variable {α : Type}

theorem risingFrom_weaken {t : List (Nat × α)} {a b : Nat} (h : risingFrom b t = true) (hab : a ≤ b) :
    risingFrom a t = true := by
  cases t with
  | nil => rfl
  | cons x r =>
    simp only [risingFrom, Bool.and_eq_true, decide_eq_true_eq] at *
    exact ⟨by omega, h.2⟩

theorem risingFrom_tput {t : Tab α} {lo k : Nat} (v : α) (h : risingFrom lo t = true) (hk : lo ≤ k) :
    risingFrom lo (tput t k v) = true := by
  induction t generalizing lo with
  | nil => simp [tput, risingFrom, hk]
  | cons x r ih =>
    obtain ⟨a, y⟩ := x
    simp only [risingFrom, Bool.and_eq_true, decide_eq_true_eq] at h
    simp only [tput]
    split
    · simp only [risingFrom, Bool.and_eq_true, decide_eq_true_eq]; exact ⟨hk, by omega, h.2⟩
    · split
      · subst_vars; simp [risingFrom, h]
      · simp only [risingFrom, Bool.and_eq_true, decide_eq_true_eq]
        exact ⟨h.1, ih h.2 (by omega)⟩

theorem risingFrom_tdel {t : Tab α} {lo : Nat} (k : Nat) (h : risingFrom lo t = true) : risingFrom lo (tdel t k) = true := by
  induction t generalizing lo with
  | nil => rfl
  | cons x r ih =>
    obtain ⟨a, y⟩ := x
    simp only [risingFrom, Bool.and_eq_true, decide_eq_true_eq] at h
    simp only [tdel]
    split
    · exact risingFrom_weaken (ih h.2) (by omega)
    · simp only [risingFrom, Bool.and_eq_true, decide_eq_true_eq]; exact ⟨h.1, ih h.2⟩

theorem mem_tput {t : Tab α} {k : Nat} {v : α} {x : Nat × α} (h : x ∈ tput t k v) : x = (k, v) ∨ x ∈ t := by
  induction t with
  | nil => simpa [tput] using h
  | cons y r ih =>
    obtain ⟨a, z⟩ := y
    simp only [tput] at h
    split at h
    · simp at h ⊢; grind
    · split at h
      · simp at h ⊢; grind
      · simp at h ⊢
        rcases h with h | h
        · grind
        · rcases ih h with h | h <;> grind

theorem mem_tdel {t : Tab α} {k : Nat} {x : Nat × α} (h : x ∈ tdel t k) : x ∈ t := by
  induction t with
  | nil => exact h
  | cons y r ih =>
    obtain ⟨a, z⟩ := y
    simp only [tdel] at h
    split at h
    · exact List.mem_cons_of_mem _ (ih h)
    · simp at h ⊢; grind

/-- A table in canonical form: strictly rising keys, no entry equal to what an unlisted key stands for. -/
theorem canon_tputD [DecidableEq α] {t : Tab α} (d : α) (h : risingFrom 0 t = true) (hd : ∀ x ∈ t, x.2 ≠ d) (k : Nat)
    (v : α) : risingFrom 0 (tputD t k v d) = true ∧ ∀ x ∈ tputD t k v d, x.2 ≠ d := by
  unfold tputD
  split
  · exact ⟨risingFrom_tdel k h, fun x hx => hd x (mem_tdel hx)⟩
  · refine ⟨risingFrom_tput v h (Nat.zero_le k), fun x hx => ?_⟩
    rcases mem_tput hx with rfl | hx
    · assumption
    · exact hd x hx

/-! ### Byte memory -/

theorem memGet_memPut_same (m : Memory) (a : Nat) (b : Byte) : memGet (memPut m a b) a = b := by
  unfold memGet memPut tgetD
  split <;> simp_all

theorem memGet_memPut_other (m : Memory) {a c : Nat} (b : Byte) (h : c ≠ a) : memGet (memPut m a b) c = memGet m c := by
  unfold memGet memPut tgetD
  split <;> simp [tget_tput_other, tget_tdel_other, h]

theorem memPut_wf {m : Memory} (h : m.wf = true) (a : Nat) (b : Byte) : Memory.wf (memPut m a b) = true := by
  simp only [Memory.wf, Bool.and_eq_true, List.all_eq_true, decide_eq_true_eq] at *
  unfold memPut
  split
  · exact ⟨risingFrom_tdel a h.1, fun x hx => h.2 x (mem_tdel hx)⟩
  · refine ⟨risingFrom_tput b h.1 (Nat.zero_le a), fun x hx => ?_⟩
    rcases mem_tput hx with rfl | hx
    · assumption
    · exact h.2 x hx

theorem memPutAll_wf {m : Memory} (h : m.wf = true) (a : Nat) (l : List Byte) : Memory.wf (memPutAll m a l) = true := by
  induction l generalizing m a with
  | nil => exact h
  | cons b r ih => exact ih (memPut_wf h a b) (a + 1)

theorem memGet_memPutAll_outside (m : Memory) (a c : Nat) (l : List Byte) (h : c < a ∨ a + l.length ≤ c) :
    memGet (memPutAll m a l) c = memGet m c := by
  induction l generalizing m a with
  | nil => rfl
  | cons b r ih =>
    simp only [List.length_cons] at h
    rw [memPutAll, ih _ _ (by omega), memGet_memPut_other _ _ (by omega)]

end Sys2Proof.Machine
end

