-- ==== Sys2Proof/Laws/Ops.lean ====
section
/-! SUPPORT. Laws of the register operations: a field reads back what was put into it, every other field reads as before,
and every register operation keeps the canonical form of the register file. -/

namespace Sys2Proof.Machine
open Sys2Proof

/-- The register file in canonical form. -/
abbrev RegsOk (t : Tab Word) : Prop := risingFrom 0 t = true ∧ ∀ x ∈ t, x.2 ≠ 0

/-- A field lies inside its 32-bit register. -/
abbrev FieldAt.fits (f : FieldAt) : Prop := f.lo + f.w ≤ 32

/-- Two fields share no bit. -/
abbrev FieldAt.apart (f g : FieldAt) : Prop := f.reg ≠ g.reg ∨ f.lo + f.w ≤ g.lo ∨ g.lo + g.w ≤ f.lo

@[simp] theorem State.reg_setReg_same (s : State) (a : Nat) (w : Word) : (s.setReg a w).reg a = w := by
  simp [State.reg]

theorem State.reg_setReg_other (s : State) {a b : Nat} (w : Word) (h : b ≠ a) : (s.setReg a w).reg b = s.reg b := by
  simp [State.reg, tgetD_tputD_other _ _ _ _ h]

theorem State.setReg_ok {s : State} (h : RegsOk s.regs) (a : Nat) (w : Word) : RegsOk (s.setReg a w).regs :=
  canon_tputD 0 h.1 h.2 a w

/-- Replacing the `w` bits from `lo` of a number below `2 ^ 32`. -/
theorem splice_lt {r lo w v : Nat} (hr : r < 2 ^ 32) (hf : lo + w ≤ 32) :
    r - r / 2 ^ lo % 2 ^ w * 2 ^ lo + v % 2 ^ w * 2 ^ lo < 2 ^ 32 := by
  have hw : 0 < 2 ^ w := Nat.two_pow_pos w
  have hl : 0 < 2 ^ lo := Nat.two_pow_pos lo
  have e1 : r = 2 ^ lo * (r / 2 ^ lo) + r % 2 ^ lo := (Nat.div_add_mod r _).symm
  have e2 : r / 2 ^ lo = 2 ^ w * (r / 2 ^ lo / 2 ^ w) + r / 2 ^ lo % 2 ^ w := (Nat.div_add_mod _ _).symm
  have hq : r / 2 ^ lo / 2 ^ w < 2 ^ (32 - lo - w) := by
    rw [Nat.div_div_eq_div_mul, ← Nat.pow_add]
    apply Nat.div_lt_of_lt_mul
    rw [← Nat.pow_add]
    simpa [show lo + w + (32 - lo - w) = 32 by omega] using hr
  have hv : v % 2 ^ w < 2 ^ w := Nat.mod_lt _ hw
  have hc : r % 2 ^ lo < 2 ^ lo := Nat.mod_lt _ hl
  generalize hq' : r / 2 ^ lo / 2 ^ w = q at *
  generalize hb : r / 2 ^ lo % 2 ^ w = b at *
  generalize hcc : r % 2 ^ lo = c at *
  generalize hvv : v % 2 ^ w = x at *
  have h32 : 2 ^ 32 = 2 ^ lo * (2 ^ w * 2 ^ (32 - lo - w)) := by
    rw [← Nat.pow_add, ← Nat.pow_add]; congr 1; omega
  have e3 : r - b * 2 ^ lo + x * 2 ^ lo = 2 ^ lo * (2 ^ w * q + x) + c := by
    rw [e1, e2, Nat.mul_add, Nat.mul_add, Nat.mul_comm b, Nat.mul_comm x]; omega
  rw [e3, h32]
  calc 2 ^ lo * (2 ^ w * q + x) + c < 2 ^ lo * (2 ^ w * q + x) + 2 ^ lo := by omega
    _ = 2 ^ lo * (2 ^ w * q + x + 1) := by rw [Nat.mul_add _ _ 1]; omega
    _ ≤ 2 ^ lo * (2 ^ w * 2 ^ (32 - lo - w)) := by
      apply Nat.mul_le_mul_left
      calc 2 ^ w * q + x + 1 ≤ 2 ^ w * q + 2 ^ w := by omega
        _ = 2 ^ w * (q + 1) := by rw [Nat.mul_add]; omega
        _ ≤ 2 ^ w * 2 ^ (32 - lo - w) := Nat.mul_le_mul_left _ hq

/-- What stands below, in and above the replaced bits. -/
theorem splice_eq (r lo w v : Nat) :
    r - r / 2 ^ lo % 2 ^ w * 2 ^ lo + v % 2 ^ w * 2 ^ lo
      = 2 ^ lo * (2 ^ w * (r / 2 ^ lo / 2 ^ w) + v % 2 ^ w) + r % 2 ^ lo := by
  have e1 : r = 2 ^ lo * (r / 2 ^ lo) + r % 2 ^ lo := (Nat.div_add_mod r _).symm
  have e2 : r / 2 ^ lo = 2 ^ w * (r / 2 ^ lo / 2 ^ w) + r / 2 ^ lo % 2 ^ w := (Nat.div_add_mod _ _).symm
  generalize r / 2 ^ lo / 2 ^ w = q at *
  generalize r / 2 ^ lo % 2 ^ w = b at *
  generalize r % 2 ^ lo = c at *
  generalize v % 2 ^ w = x at *
  rw [e1, e2, Nat.mul_add, Nat.mul_add, Nat.mul_comm b, Nat.mul_comm x]; omega

theorem splice_field (r lo w v : Nat) :
    (r - r / 2 ^ lo % 2 ^ w * 2 ^ lo + v % 2 ^ w * 2 ^ lo) / 2 ^ lo % 2 ^ w = v % 2 ^ w := by
  rw [splice_eq, Nat.mul_add_div (Nat.two_pow_pos lo), Nat.div_eq_of_lt (Nat.mod_lt _ (Nat.two_pow_pos lo)), Nat.add_zero,
    Nat.mul_add_mod, Nat.mod_mod]

theorem splice_below (r lo w v l u : Nat) (h : l + u ≤ lo) :
    (r - r / 2 ^ lo % 2 ^ w * 2 ^ lo + v % 2 ^ w * 2 ^ lo) / 2 ^ l % 2 ^ u = r / 2 ^ l % 2 ^ u := by
  rw [splice_eq]
  have p : 2 ^ lo = 2 ^ l * (2 ^ u * 2 ^ (lo - l - u)) := by rw [← Nat.pow_add, ← Nat.pow_add]; congr 1; omega
  have key : ∀ q c : Nat, (2 ^ lo * q + c) / 2 ^ l % 2 ^ u = c / 2 ^ l % 2 ^ u := by
    intro q c
    rw [p, Nat.mul_assoc, Nat.mul_add_div (Nat.two_pow_pos l), Nat.mul_assoc, Nat.mul_add_mod]
  have e2 := key (r / 2 ^ lo) (r % 2 ^ lo)
  rw [Nat.div_add_mod] at e2
  rw [key, e2]

theorem splice_above (r lo w v l u : Nat) (h : lo + w ≤ l) :
    (r - r / 2 ^ lo % 2 ^ w * 2 ^ lo + v % 2 ^ w * 2 ^ lo) / 2 ^ l % 2 ^ u = r / 2 ^ l % 2 ^ u := by
  have p : 2 ^ l = 2 ^ lo * 2 ^ w * 2 ^ (l - lo - w) := by rw [← Nat.pow_add, ← Nat.pow_add]; congr 1; omega
  have hw : 0 < 2 ^ w := Nat.two_pow_pos w
  have key : ∀ q x c : Nat, x < 2 ^ w → c < 2 ^ lo → (2 ^ lo * (2 ^ w * q + x) + c) / 2 ^ l = q / 2 ^ (l - lo - w) := by
    intro q x c hx hc
    rw [p, ← Nat.div_div_eq_div_mul, ← Nat.div_div_eq_div_mul, Nat.mul_add_div (Nat.two_pow_pos lo), Nat.div_eq_of_lt hc,
      Nat.add_zero, Nat.mul_add_div hw, Nat.div_eq_of_lt hx, Nat.add_zero]
  rw [splice_eq, key _ _ _ (Nat.mod_lt _ hw) (Nat.mod_lt _ (Nat.two_pow_pos lo))]
  congr 1
  rw [p, ← Nat.div_div_eq_div_mul, ← Nat.div_div_eq_div_mul]

theorem State.reg_put_same (s : State) (f : FieldAt) (v : Nat) (hf : f.fits) :
    ((s.put f v).reg f.reg).toNat
      = (s.reg f.reg).toNat - (s.reg f.reg).toNat / 2 ^ f.lo % 2 ^ f.w * 2 ^ f.lo + v % 2 ^ f.w * 2 ^ f.lo := by
  simp only [State.put, State.reg_setReg_same, BitVec.toNat_ofNat]
  exact Nat.mod_eq_of_lt (splice_lt (s.reg f.reg).isLt hf)

/-- A field reads back what was put into it. -/
theorem State.get_put_same (s : State) (f : FieldAt) (v : Nat) (hf : f.fits) : (s.put f v).get f = v % 2 ^ f.w := by
  rw [State.get, s.reg_put_same f v hf, splice_field]

/-- A field that shares no bit with the one written reads as before. -/
theorem State.get_put_other (s : State) (f g : FieldAt) (v : Nat) (hf : f.fits) (h : g.apart f) :
    (s.put f v).get g = s.get g := by
  by_cases hr : g.reg = f.reg
  · rcases h with h | h | h
    · exact absurd hr h
    · rw [State.get, hr, s.reg_put_same f v hf, splice_below _ _ _ _ _ _ h, State.get, hr]
    · rw [State.get, hr, s.reg_put_same f v hf, splice_above _ _ _ _ _ _ h, State.get, hr]
  · rw [State.get, State.put, State.reg_setReg_other _ _ hr, State.get]

theorem State.regN_setN_same (s : State) (a v : Nat) : (s.setN a v).regN a = v % 2 ^ 32 := by
  simp [State.setN, State.regN]

theorem State.regN_setN_other (s : State) {a b : Nat} (v : Nat) (h : b ≠ a) : (s.setN a v).regN b = s.regN b := by
  simp [State.setN, State.regN, State.reg_setReg_other _ _ h]

/-- A register pair reads back what was written to it. -/
theorem State.rd64_wr64_same (s : State) (a v : Nat) : (s.wr64 a v).rd64 a = v % 2 ^ 64 := by
  simp only [State.rd64, State.wr64]
  rw [State.regN_setN_other _ _ (by omega), State.regN_setN_same, State.regN_setN_same]
  omega

theorem State.put_ok {s : State} (h : RegsOk s.regs) (f : FieldAt) (v : Nat) : RegsOk (s.put f v).regs := State.setReg_ok h _ _
theorem State.setN_ok {s : State} (h : RegsOk s.regs) (a v : Nat) : RegsOk (s.setN a v).regs := State.setReg_ok h _ _
theorem State.wr64_ok {s : State} (h : RegsOk s.regs) (a v : Nat) : RegsOk (s.wr64 a v).regs :=
  State.setN_ok (State.setN_ok h _ _) _ _

/-- A write to DRAM changes the bytes it covers alone. -/
theorem State.dramWrite_outside (s : State) (a c : Nat) (l : List Byte) (h : c < a ∨ a + l.length ≤ c) :
    memGet (s.dramWrite a l).dram c = memGet s.dram c := memGet_memPutAll_outside _ _ _ _ h

theorem State.dramWrite_wf {s : State} (h : s.dram.wf = true) (a : Nat) (l : List Byte) :
    Memory.wf (s.dramWrite a l).dram = true := memPutAll_wf h a l

end Sys2Proof.Machine
end

