-- ==== Sys2Proof/Laws/Counted.lean ====
section
/-! SUPPORT. What an event source and a performance counter leave alone: however a count overflows and whatever its source
latches, records or sends, the connections, the controllers, the tables, the DRAM, the members and the clock stay. -/

namespace Sys2Proof.Machine
open Sys2Proof

/-- From `s` to `t` no part of the data path changed: what latching a source and counting keep. -/
structure PathKept (s t : State) : Prop where
  fab : t.fab = s.fab
  fr : t.fr = s.fr
  tb : t.tb = s.tb
  mb : t.mb = s.mb
  sw : t.sw = s.sw
  tg : t.tg = s.tg
  dma : t.dma = s.dma
  slots : t.slots = s.slots
  dram : t.dram = s.dram
  now : t.now = s.now
  lay : t.lay = s.lay
  pending : t.pending = s.pending

theorem PathKept.refl (s : State) : PathKept s s := ⟨rfl, rfl, rfl, rfl, rfl, rfl, rfl, rfl, rfl, rfl, rfl, rfl⟩

theorem PathKept.trans {a b c : State} (h : PathKept a b) (g : PathKept b c) : PathKept a c :=
  ⟨g.fab.trans h.fab, g.fr.trans h.fr, g.tb.trans h.tb, g.mb.trans h.mb, g.sw.trans h.sw, g.tg.trans h.tg, g.dma.trans h.dma,
    g.slots.trans h.slots, g.dram.trans h.dram, g.now.trans h.now, g.lay.trans h.lay, g.pending.trans h.pending⟩

theorem PathKept.ite {a s t : State} {p : Prop} [Decidable p] (h : PathKept a s) (g : PathKept a t) :
    PathKept a (if p then s else t) := by
  split
  · exact h
  · exact g

theorem PathKept.setReg {o s : State} (h : PathKept o s) (a : Nat) (w : Word) : PathKept o (s.setReg a w) :=
  h.trans ⟨rfl, rfl, rfl, rfl, rfl, rfl, rfl, rfl, rfl, rfl, rfl, rfl⟩

theorem PathKept.setN {o s : State} (h : PathKept o s) (a v : Nat) : PathKept o (s.setN a v) := h.setReg _ _

theorem PathKept.put {o s : State} (h : PathKept o s) (f : FieldAt) (v : Nat) : PathKept o (s.put f v) := h.setReg _ _

theorem PathKept.putB {o s : State} (h : PathKept o s) (f : FieldAt) (v : Bool) : PathKept o (s.putB f v) := h.setReg _ _

theorem PathKept.on {o s : State} (h : PathKept o s) (f : FieldAt) : PathKept o (s.on f) := h.setReg _ _

theorem PathKept.off {o s : State} (h : PathKept o s) (f : FieldAt) : PathKept o (s.off f) := h.setReg _ _

theorem PathKept.wr64 {o s : State} (h : PathKept o s) (a v : Nat) : PathKept o (s.wr64 a v) := (h.setN _ _).setN _ _

theorem PathKept.add64 {o s : State} (h : PathKept o s) (a v : Nat) : PathKept o (s.add64 a v) := h.wr64 _ _

theorem PathKept.satInc {o s : State} (h : PathKept o s) (f : FieldAt) (n : Nat) : PathKept o (s.satInc f n) := h.put _ _

theorem PathKept.emit {o s : State} (h : PathKept o s) (e : Emit) : PathKept o (s.emit e) :=
  h.trans ⟨rfl, rfl, rfl, rfl, rfl, rfl, rfl, rfl, rfl, rfl, rfl, rfl⟩

theorem PathKept.modAon {o s : State} (h : PathKept o s) (f : Aon → Aon) : PathKept o (s.modAon f) :=
  h.trans ⟨rfl, rfl, rfl, rfl, rfl, rfl, rfl, rfl, rfl, rfl, rfl, rfl⟩

theorem PathKept.modEp {o s : State} (h : PathKept o s) (f : Endpoint → Endpoint) : PathKept o (s.modEp f) :=
  h.trans ⟨rfl, rfl, rfl, rfl, rfl, rfl, rfl, rfl, rfl, rfl, rfl, rfl⟩

theorem PathKept.modNv {o s : State} (h : PathKept o s) (f : Nv → Nv) : PathKept o (s.modNv f) :=
  h.trans ⟨rfl, rfl, rfl, rfl, rfl, rfl, rfl, rfl, rfl, rfl, rfl, rfl⟩

theorem PathKept.modEv {o s : State} (h : PathKept o s) (f : Events → Events) : PathKept o (s.modEv f) :=
  h.trans ⟨rfl, rfl, rfl, rfl, rfl, rfl, rfl, rfl, rfl, rfl, rfl, rfl⟩

theorem PathKept.modPmc {o s : State} (h : PathKept o s) (f : Pmc → Pmc) : PathKept o (s.modPmc f) :=
  h.trans ⟨rfl, rfl, rfl, rfl, rfl, rfl, rfl, rfl, rfl, rfl, rfl, rfl⟩

theorem PathKept.fresh {o s : State} (h : PathKept o s) (k : Nat) : PathKept o (s.fresh k).2 :=
  h.trans ⟨rfl, rfl, rfl, rfl, rfl, rfl, rfl, rfl, rfl, rfl, rfl, rfl⟩

theorem PathKept.capture {o s : State} (h : PathKept o s) (n : Nat) : PathKept o (s.capture n).2 := by
  unfold State.capture
  repeat' with_reducible first | exact h | apply PathKept.emit | apply PathKept.setN | apply PathKept.put | apply PathKept.putB | apply PathKept.on | apply PathKept.off | apply PathKept.wr64 | apply PathKept.add64 | apply PathKept.satInc | apply PathKept.modAon | apply PathKept.modEp | apply PathKept.modNv | apply PathKept.modEv | apply PathKept.modPmc | apply PathKept.fresh | dsimp only | split

theorem PathKept.tocsinFault {o s : State} (h : PathKept o s)  : PathKept o (s.tocsinFault ) := by
  unfold State.tocsinFault
  repeat' with_reducible first | exact h | apply PathKept.emit | apply PathKept.setN | apply PathKept.put | apply PathKept.putB | apply PathKept.on | apply PathKept.off | apply PathKept.wr64 | apply PathKept.add64 | apply PathKept.satInc | apply PathKept.modAon | apply PathKept.modEp | apply PathKept.modNv | apply PathKept.modEv | apply PathKept.modPmc | apply PathKept.fresh | apply PathKept.capture | dsimp only | split

theorem PathKept.sendVector {o s : State} (h : PathKept o s) (v : Nat) : PathKept o (s.sendVector v) := by
  unfold State.sendVector
  repeat' with_reducible first | exact h | apply PathKept.emit | apply PathKept.setN | apply PathKept.put | apply PathKept.putB | apply PathKept.on | apply PathKept.off | apply PathKept.wr64 | apply PathKept.add64 | apply PathKept.satInc | apply PathKept.modAon | apply PathKept.modEp | apply PathKept.modNv | apply PathKept.modEv | apply PathKept.modPmc | apply PathKept.fresh | apply PathKept.capture | apply PathKept.tocsinFault | dsimp only | split

theorem PathKept.carillon {o s : State} (h : PathKept o s) (r : CarRec) : PathKept o (s.carillon r) := by
  unfold State.carillon
  repeat' with_reducible first | exact h | apply PathKept.emit | apply PathKept.setN | apply PathKept.put | apply PathKept.putB | apply PathKept.on | apply PathKept.off | apply PathKept.wr64 | apply PathKept.add64 | apply PathKept.satInc | apply PathKept.modAon | apply PathKept.modEp | apply PathKept.modNv | apply PathKept.modEv | apply PathKept.modPmc | apply PathKept.fresh | apply PathKept.capture | apply PathKept.tocsinFault | apply PathKept.sendVector | dsimp only | split

theorem PathKept.record {o s : State} (h : PathKept o s) (code src p0 p1 p2 : Nat) (f g : Bool) : PathKept o (s.record code src p0 p1 p2 f g) := by
  unfold State.record
  repeat' with_reducible first | exact h | apply PathKept.emit | apply PathKept.setN | apply PathKept.put | apply PathKept.putB | apply PathKept.on | apply PathKept.off | apply PathKept.wr64 | apply PathKept.add64 | apply PathKept.satInc | apply PathKept.modAon | apply PathKept.modEp | apply PathKept.modNv | apply PathKept.modEv | apply PathKept.modPmc | apply PathKept.fresh | apply PathKept.capture | apply PathKept.tocsinFault | apply PathKept.sendVector | apply PathKept.carillon | dsimp only | split

theorem PathKept.latch1 {o s : State} (h : PathKept o s) (n p : Nat) : PathKept o (s.latch1 n p) := by
  unfold State.latch1
  repeat' with_reducible first | exact h | apply PathKept.emit | apply PathKept.setN | apply PathKept.put | apply PathKept.putB | apply PathKept.on | apply PathKept.off | apply PathKept.wr64 | apply PathKept.add64 | apply PathKept.satInc | apply PathKept.modAon | apply PathKept.modEp | apply PathKept.modNv | apply PathKept.modEv | apply PathKept.modPmc | apply PathKept.fresh | apply PathKept.capture | apply PathKept.tocsinFault | apply PathKept.sendVector | apply PathKept.carillon | apply PathKept.record | dsimp only | split

theorem PathKept.latch {o s : State} (h : PathKept o s) (n p : Nat) : PathKept o (s.latch n p) := by
  unfold State.latch
  repeat' with_reducible first | exact h | apply PathKept.emit | apply PathKept.setN | apply PathKept.put | apply PathKept.putB | apply PathKept.on | apply PathKept.off | apply PathKept.wr64 | apply PathKept.add64 | apply PathKept.satInc | apply PathKept.modAon | apply PathKept.modEp | apply PathKept.modNv | apply PathKept.modEv | apply PathKept.modPmc | apply PathKept.fresh | apply PathKept.capture | apply PathKept.tocsinFault | apply PathKept.sendVector | apply PathKept.carillon | apply PathKept.record | apply PathKept.latch1 | dsimp only | split

theorem PathKept.evLatch {o s : State} (h : PathKept o s) (f : FieldAt) (n p : Nat) : PathKept o (s.evLatch f n p) := by
  unfold State.evLatch
  repeat' with_reducible first | exact h | apply PathKept.emit | apply PathKept.setN | apply PathKept.put | apply PathKept.putB | apply PathKept.on | apply PathKept.off | apply PathKept.wr64 | apply PathKept.add64 | apply PathKept.satInc | apply PathKept.modAon | apply PathKept.modEp | apply PathKept.modNv | apply PathKept.modEv | apply PathKept.modPmc | apply PathKept.fresh | apply PathKept.capture | apply PathKept.tocsinFault | apply PathKept.sendVector | apply PathKept.carillon | apply PathKept.record | apply PathKept.latch1 | apply PathKept.latch | dsimp only | split

theorem PathKept.setCtr {o s : State} (h : PathKept o s) (i : Nat) (c : Ctr) : PathKept o (s.setCtr i c) := by
  unfold State.setCtr
  repeat' with_reducible first | exact h | apply PathKept.emit | apply PathKept.setN | apply PathKept.put | apply PathKept.putB | apply PathKept.on | apply PathKept.off | apply PathKept.wr64 | apply PathKept.add64 | apply PathKept.satInc | apply PathKept.modAon | apply PathKept.modEp | apply PathKept.modNv | apply PathKept.modEv | apply PathKept.modPmc | apply PathKept.fresh | apply PathKept.capture | apply PathKept.tocsinFault | apply PathKept.sendVector | apply PathKept.carillon | apply PathKept.record | apply PathKept.latch1 | apply PathKept.latch | apply PathKept.evLatch | dsimp only | split

theorem PathKept.countOn {o s : State} (h : PathKept o s) (e : PmcEv) (i : Nat) : PathKept o (s.countOn e i) := by
  unfold State.countOn
  repeat' with_reducible first | exact h | apply PathKept.emit | apply PathKept.setN | apply PathKept.put | apply PathKept.putB | apply PathKept.on | apply PathKept.off | apply PathKept.wr64 | apply PathKept.add64 | apply PathKept.satInc | apply PathKept.modAon | apply PathKept.modEp | apply PathKept.modNv | apply PathKept.modEv | apply PathKept.modPmc | apply PathKept.fresh | apply PathKept.capture | apply PathKept.tocsinFault | apply PathKept.sendVector | apply PathKept.carillon | apply PathKept.record | apply PathKept.latch1 | apply PathKept.latch | apply PathKept.evLatch | apply PathKept.setCtr | dsimp only | split

theorem PathKept.count {o s : State} (h : PathKept o s) (e : PmcEv) : PathKept o (s.count e) := by
  unfold State.count
  split
  · rename_i g
    clear g
    generalize s.pmc.ctrs.map (·.1) = l
    induction l generalizing s with
    | nil => exact h
    | cons i l ih => exact ih (h.countOn e i)
  · exact h

end Sys2Proof.Machine
end

