-- ==== Sys2Proof/Laws/Kept.lean ====
section
/-! SUPPORT. What every operation of the model keeps: the queue of waiting commands, the fuses once loaded, the direction of
the clock, the canonical form of the sparse tables; and how the forms a meaning is built of keep it. -/

namespace Sys2Proof.Machine
open Sys2Proof

/-- What every operation keeps from `a` to `b`. -/
structure Kept (a b : State) : Prop where
  pending : b.pending = a.pending
  fuse : fusesKept a.fuse b.fuse
  now : a.now ≤ b.now
  canon : a.canon = true → b.canon = true

theorem fusesKept_refl (f : Option Fuses) : fusesKept f f := by
  cases f <;> simp [fusesKept]

theorem fusesKept_trans {a b c : Option Fuses} (h : fusesKept a b) (g : fusesKept b c) : fusesKept a c := by
  rcases a with _ | a <;> rcases b with _ | b <;> rcases c with _ | c <;> simp only [fusesKept] at *
  obtain ⟨h1, h2, h3⟩ := h
  obtain ⟨g1, g2, g3⟩ := g
  refine ⟨Nat.le_trans h1 g1, fun x => ?_, ?_⟩
  · rw [g2 (h2 x ▸ x), h2 x]
  · rw [← h3, ← g3]

theorem Kept.refl (s : State) : Kept s s := ⟨rfl, fusesKept_refl _, Nat.le_refl _, id⟩

theorem Kept.same {a s t : State} (h : Kept a s) (hp : t.pending = s.pending) (hf : t.fuse = s.fuse) (hn : t.now = s.now)
    (hr : t.regs = s.regs) (hd : t.dram = s.dram) (hb : t.boot.buffer = s.boot.buffer) : Kept a t :=
  ⟨hp.trans h.pending, hf ▸ h.fuse, hn ▸ h.now, fun x => by have := h.canon x; simp only [State.canon, hr, hd, hb] at this ⊢; exact this⟩

theorem ite_kept {a s t : State} {c : Prop} [Decidable c] (hs : Kept a s) (ht : Kept a t) : Kept a (if c then s else t) := by
  split <;> assumption

theorem foldl_kept {α : Type} {a s : State} {f : State → α → State} {l : List α} (h : Kept a s)
    (hf : ∀ s x, Kept a s → Kept a (f s x)) : Kept a (l.foldl f s) := by
  induction l generalizing s with
  | nil => exact h
  | cons x l ih => exact ih (hf s x h)

/-- What a command's outcome keeps. -/
def OutKept (a : State) : Host.Outcome State Fault Refusal → Prop
  | .next t => Kept a t
  | _ => True

theorem next_kept {a s : State} (h : Kept a s) : OutKept a (.next s) := h

theorem outIte_kept {a : State} {c : Prop} [Decidable c] {s t : Host.Outcome State Fault Refusal} (hs : OutKept a s) (ht : OutKept a t) :
    OutKept a (if c then s else t) := by
  split <;> assumption

theorem snd_kept {α : Type} {a t : State} {p : α × State} {x : α} (h : Kept a p.2) (e : p = (x, t)) : Kept a t := by
  subst e; exact h

theorem snd3_kept {α β : Type} {a t : State} {p : α × β × State} {x : α} {y : β} (h : Kept a p.2.2) (e : p = (x, y, t)) : Kept a t := by
  subst e; exact h

/-- What an operation that may not apply keeps. -/
def OptKept (a : State) : Option State → Prop
  | some t => Kept a t
  | none => True

theorem optSome_kept {a s : State} (h : Kept a s) : OptKept a (some s) := h

theorem optNone_kept {a : State} : OptKept a none := trivial

theorem some_kept {a t : State} {o : Option State} (h : OptKept a o) (e : o = some t) : Kept a t := by
  subst e; exact h

theorem foldlP_kept {α β : Type} {a : State} {p : β × State} {f : β × State → α → β × State} {l : List α} (h : Kept a p.2)
    (hf : ∀ p x, Kept a p.2 → Kept a (f p x).2) : Kept a (l.foldl f p).2 := by
  induction l generalizing p with
  | nil => exact h
  | cons x l ih => exact ih (hf p x h)

theorem ite2_kept {α : Type} {a : State} {x y : α × State} {c : Prop} [Decidable c] (hx : Kept a x.2) (hy : Kept a y.2) :
    Kept a (if c then x else y).2 := by
  split <;> assumption

/-- What an operation that may not apply keeps, with a number beside the state. -/
def OptPKept (a : State) : Option (Nat × State) → Prop
  | some x => Kept a x.2
  | none => True

theorem someP_kept {a t : State} {n : Nat} {o : Option (Nat × State)} (h : OptPKept a o) (e : o = some (n, t)) : Kept a t := by
  subst e; exact h

theorem optP_kept {a t : State} {n : Nat} (h : Kept a t) : OptPKept a (some (n, t)) := h

theorem optIte_kept {a : State} {c : Prop} [Decidable c] {x y : Option State} (hx : OptKept a x) (hy : OptKept a y) :
    OptKept a (if c then x else y) := by
  split <;> assumption

theorem optOr_kept {a : State} {x y : Option State} (hx : OptKept a x) (hy : OptKept a y) : OptKept a (x.or y) := by
  cases x <;> assumption

theorem optGetD_kept {a s : State} {x : Option State} (hx : OptKept a x) (h : Kept a s) : Kept a (x.getD s) := by
  cases x <;> assumption

theorem optMap_kept {a : State} {o : Option State} {f : State → State} (h : OptKept a o) (hf : ∀ s, Kept a s → Kept a (f s)) :
    OptKept a (o.map f) := by
  cases o with
  | none => trivial
  | some s => exact hf s h

theorem optBind_kept {a : State} {o : Option State} {f : State → Option State} (h : OptKept a o)
    (hf : ∀ s, Kept a s → OptKept a (f s)) : OptKept a (o.bind f) := by
  cases o with
  | none => trivial
  | some s => exact hf s h

theorem optFold_kept {α : Type} {a : State} {o : Option State} {f : Option State → α → Option State} {l : List α}
    (h : OptKept a o) (hf : ∀ o x, OptKept a o → OptKept a (f o x)) : OptKept a (l.foldl f o) := by
  induction l generalizing o with
  | nil => exact h
  | cons x l ih => exact ih (hf o x h)

end Sys2Proof.Machine
end

