-- ==== Sys2Proof/Laws/KeptOps.lean ====
section
/-! SUPPORT. What every operation keeps (Kept), one lemma per operation and per meaning: the register operations, the key stores of blocks, switch, windows and journal. -/

namespace Sys2Proof.Machine
open Sys2Proof

theorem canonTab_ok {t : Tab Word} : canonTab t 0 = true ↔ RegsOk t := by simp [canonTab, RegsOk, List.all_eq_true]

theorem Kept.regsTo {a s t : State} (h : Kept a s) (hp : t.pending = s.pending) (hf : t.fuse = s.fuse) (hn : t.now = s.now)
    (hr : canonTab s.regs 0 = true → canonTab t.regs 0 = true) (hd : t.dram = s.dram) (hb : t.boot.buffer = s.boot.buffer) :
    Kept a t :=
  ⟨hp.trans h.pending, hf ▸ h.fuse, hn ▸ h.now, fun x => by
    have := h.canon x
    simp only [State.canon, hd, hb, Bool.and_eq_true] at this ⊢
    exact ⟨⟨hr this.1.1, this.1.2⟩, this.2⟩⟩

theorem State.setReg_kept {b0 s : State} (h : Kept b0 s) (a : Nat) (w : Word) : Kept b0 (s.setReg a w) :=
  Kept.regsTo h rfl rfl rfl (fun c => canonTab_ok.2 (State.setReg_ok (canonTab_ok.1 c) a w)) rfl rfl

theorem State.put_kept {orig s : State} (h : Kept orig s) (f : FieldAt) (v : Nat) :
    Kept orig (State.put s f v) := by
  unfold State.put
  repeat' with_reducible first | assumption | intro _ | apply State.setReg_kept | dsimp only

theorem State.on_kept {orig s : State} (h : Kept orig s) (f : FieldAt) :
    Kept orig (State.on s f) := by
  unfold State.on
  repeat' with_reducible first | assumption | intro _ | apply State.put_kept

theorem State.off_kept {orig s : State} (h : Kept orig s) (f : FieldAt) :
    Kept orig (State.off s f) := by
  unfold State.off
  repeat' with_reducible first | assumption | intro _ | apply State.put_kept

theorem State.putB_kept {orig s : State} (h : Kept orig s) (f : FieldAt) (b : Bool) :
    Kept orig (State.putB s f b) := by
  unfold State.putB
  repeat' with_reducible first | assumption | intro _ | apply State.put_kept

theorem State.satInc_kept {orig s : State} (h : Kept orig s) (f : FieldAt) (n : Nat) :
    Kept orig (State.satInc s f n) := by
  unfold State.satInc
  repeat' with_reducible first | assumption | intro _ | apply State.put_kept | apply ite_kept | dsimp only | split

theorem State.inc_kept {orig s : State} (h : Kept orig s) (f : FieldAt) (n : Nat) :
    Kept orig (State.inc s f n) := by
  unfold State.inc
  repeat' with_reducible first | assumption | intro _ | apply State.put_kept

theorem State.dec_kept {orig s : State} (h : Kept orig s) (f : FieldAt) (n : Nat) :
    Kept orig (State.dec s f n) := by
  unfold State.dec
  repeat' with_reducible first | assumption | intro _ | apply State.put_kept

theorem State.setN_kept {orig s : State} (h : Kept orig s) (a : Nat) (v : Nat) :
    Kept orig (State.setN s a v) := by
  unfold State.setN
  repeat' with_reducible first | assumption | intro _ | apply State.setReg_kept

theorem State.wr64_kept {orig s : State} (h : Kept orig s) (a : Nat) (v : Nat) :
    Kept orig (State.wr64 s a v) := by
  unfold State.wr64
  repeat' with_reducible first | assumption | intro _ | apply State.setN_kept

theorem State.add64_kept {orig s : State} (h : Kept orig s) (a : Nat) (n : Nat) :
    Kept orig (State.add64 s a n) := by
  unfold State.add64
  repeat' with_reducible first | assumption | intro _ | apply State.wr64_kept

theorem State.putBit64_kept {orig s : State} (h : Kept orig s) (a : Nat) (n : Nat) (b : Bool) :
    Kept orig (State.putBit64 s a n b) := by
  unfold State.putBit64
  repeat' with_reducible first | assumption | intro _ | apply State.wr64_kept

theorem State.emit_kept {b0 s : State} (h : Kept b0 s) (e : Emit) : Kept b0 (State.emit s e) :=
  Kept.same h rfl rfl rfl rfl rfl rfl

theorem State.fresh_kept {b0 s : State} (h : Kept b0 s) (k : Nat) : Kept b0 (s.fresh k).2 :=
  Kept.same h rfl rfl rfl rfl rfl rfl

theorem State.freshBytes_kept {b0 s : State} (h : Kept b0 s) (k : Nat) : Kept b0 (s.freshBytes k).2 :=
  Kept.same h rfl rfl rfl rfl rfl rfl

theorem State.dramWrite_kept {b0 s : State} (h : Kept b0 s) (a : Nat) (l : List Byte) : Kept b0 (s.dramWrite a l) :=
  ⟨h.pending, h.fuse, h.now, fun x => by
    have := h.canon x
    simp only [State.canon, Bool.and_eq_true] at this ⊢
    exact ⟨⟨this.1.1, State.dramWrite_wf this.1.2 a l⟩, this.2⟩⟩

theorem State.modMb_kept {b0 s : State} (h : Kept b0 s) (f : Members → Members) : Kept b0 (State.modMb s f) :=
  Kept.same h rfl rfl rfl rfl rfl rfl

theorem State.modFr_kept {b0 s : State} (h : Kept b0 s) (f : Front → Front) : Kept b0 (State.modFr s f) :=
  Kept.same h rfl rfl rfl rfl rfl rfl

theorem State.modJn_kept {b0 s : State} (h : Kept b0 s) (f : Journal → Journal) : Kept b0 (State.modJn s f) :=
  Kept.same h rfl rfl rfl rfl rfl rfl

theorem State.modAon_kept {b0 s : State} (h : Kept b0 s) (f : Aon → Aon) : Kept b0 (State.modAon s f) :=
  Kept.same h rfl rfl rfl rfl rfl rfl

theorem State.modNv_kept {b0 s : State} (h : Kept b0 s) (f : Nv → Nv) : Kept b0 (State.modNv s f) :=
  Kept.same h rfl rfl rfl rfl rfl rfl

theorem State.modEv_kept {b0 s : State} (h : Kept b0 s) (f : Events → Events) : Kept b0 (State.modEv s f) :=
  Kept.same h rfl rfl rfl rfl rfl rfl

theorem State.modBoot_kept {b0 s : State} (h : Kept b0 s) {f : Boot → Boot} (hf : (f s.boot).buffer = s.boot.buffer) :
    Kept b0 (s.modBoot f) := Kept.same h rfl rfl rfl rfl rfl hf

theorem bufWrite_kept {orig s : State} (h : Kept orig s) (off : Nat) (l : List Byte) :
    Kept orig (s.modBoot fun b => { b with buffer := memPutAll b.buffer off l }) :=
  ⟨h.pending, h.fuse, h.now, fun x => by
    have := h.canon x
    simp only [State.canon, Bool.and_eq_true] at this ⊢
    exact ⟨this.1, memPutAll_wf this.2 off l⟩⟩

theorem State.modEp_kept {b0 s : State} (h : Kept b0 s) (f : Endpoint → Endpoint) : Kept b0 (State.modEp s f) :=
  Kept.same h rfl rfl rfl rfl rfl rfl

theorem State.modAcc_kept {b0 s : State} (h : Kept b0 s) (f : Access → Access) : Kept b0 (State.modAcc s f) :=
  Kept.same h rfl rfl rfl rfl rfl rfl

theorem State.modTb_kept {b0 s : State} (h : Kept b0 s) (f : Tables → Tables) : Kept b0 (State.modTb s f) :=
  Kept.same h rfl rfl rfl rfl rfl rfl

theorem State.modKeys_kept {b0 s : State} (h : Kept b0 s) (f : Keys → Keys) : Kept b0 (State.modKeys s f) :=
  Kept.same h rfl rfl rfl rfl rfl rfl

theorem State.modDmac_kept {b0 s : State} (h : Kept b0 s) (f : Dma → Dma) : Kept b0 (State.modDmac s f) :=
  Kept.same h rfl rfl rfl rfl rfl rfl

theorem State.setSlots_kept {b0 s : State} (h : Kept b0 s) (t : Tab Slot) : Kept b0 (State.setSlots s t) :=
  Kept.same h rfl rfl rfl rfl rfl rfl

theorem State.setFuse_kept {b0 s : State} (h : Kept b0 s) {f : Fuses} (hf : fusesKept s.fuse (some f)) : Kept b0 (s.setFuse f) :=
  ⟨h.pending, fusesKept_trans h.fuse hf, h.now, h.canon⟩

theorem State.setFlash_kept {b0 s : State} (h : Kept b0 s) (f : FlashImage) : Kept b0 (State.setFlash s f) :=
  Kept.same h rfl rfl rfl rfl rfl rfl

theorem State.setLay_kept {b0 s : State} (h : Kept b0 s) (l : Layout) : Kept b0 (State.setLay s l) :=
  Kept.same h rfl rfl rfl rfl rfl rfl

theorem State.modPort_kept {orig s : State} (h : Kept orig s) (n : Nat) (f : Port → Port) :
    Kept orig (State.modPort s n f) := by
  unfold State.modPort
  repeat' with_reducible first | assumption | intro _ | apply State.modMb_kept | dsimp only

theorem State.modChan_kept {orig s : State} (h : Kept orig s) (n : Nat) (f : Chan → Chan) :
    Kept orig (State.modChan s n f) := by
  unfold State.modChan
  repeat' with_reducible first | assumption | intro _ | apply State.modMb_kept | dsimp only

theorem State.modPower_kept {orig s : State} (h : Kept orig s) (c : Nat) (f : Power → Power) :
    Kept orig (State.modPower s c f) := by
  unfold State.modPower
  repeat' with_reducible first | assumption | intro _ | apply State.modMb_kept | dsimp only

theorem State.modCol_kept {orig s : State} (h : Kept orig s) (c : Nat) (f : Column → Column) :
    Kept orig (State.modCol s c f) := by
  unfold State.modCol
  repeat' with_reducible first | assumption | intro _ | apply State.modTb_kept | dsimp only

theorem State.setSlot_kept {b0 s : State} (h : Kept b0 s) (n : Nat) (x : Slot) : Kept b0 (State.setSlot s n x) :=
  Kept.same h rfl rfl rfl rfl rfl rfl

theorem State.modSlot_kept {orig s : State} (h : Kept orig s) (n : Nat) (f : Slot → Slot) :
    Kept orig (State.modSlot s n f) := by
  unfold State.modSlot
  repeat' with_reducible first | assumption | intro _ | apply State.setSlot_kept

theorem State.setCmd_kept {orig s : State} (h : Kept orig s) (t : Nat) (c : Cmd) :
    Kept orig (State.setCmd s t c) := by
  unfold State.setCmd
  repeat' with_reducible first | assumption | intro _ | apply State.modFr_kept | dsimp only

theorem State.modCmd_kept {orig s : State} (h : Kept orig s) (t : Nat) (f : Cmd → Cmd) :
    Kept orig (State.modCmd s t f) := by
  unfold State.modCmd
  repeat' with_reducible first | assumption | intro _ | apply State.setCmd_kept | dsimp only | split

theorem State.modCtrl_kept {orig s : State} (h : Kept orig s) (c : Nat) (f : Ctrl → Ctrl) :
    Kept orig (State.modCtrl s c f) := by
  unfold State.modCtrl
  repeat' with_reducible first | assumption | intro _ | apply State.modFr_kept | dsimp only | split

theorem State.modHost_kept {orig s : State} (h : Kept orig s) (h : Nat) (f : HostEnt → HostEnt) :
    Kept orig (State.modHost s h f) := by
  unfold State.modHost
  repeat' with_reducible first | assumption | intro _ | apply State.modFr_kept | dsimp only

theorem State.sendVector_kept {orig s : State} (h : Kept orig s) (v : Nat) :
    Kept orig (State.sendVector s v) := by
  unfold State.sendVector
  repeat' with_reducible first | assumption | intro _ | apply State.modEp_kept | apply State.modAon_kept | apply State.emit_kept | apply State.on_kept | apply ite_kept | dsimp only | split

theorem State.carillon_kept {orig s : State} (h : Kept orig s) (r : CarRec) :
    Kept orig (State.carillon s r) := by
  unfold State.carillon
  repeat' with_reducible first | assumption | intro _ | apply State.modEv_kept | apply State.satInc_kept | apply State.put_kept | apply ite_kept | dsimp only | split

theorem State.carPut_kept {orig s : State} (h : Kept orig s) (r : CarRec) :
    Kept orig (State.carPut s r) := by
  unfold State.carPut
  repeat' with_reducible first | assumption | intro _ | apply State.carillon_kept | apply State.modNv_kept | apply State.setN_kept | dsimp only

theorem State.carClear_kept {orig s : State} (h : Kept orig s) (path : Nat) :
    Kept orig (State.carClear s path) := by
  unfold State.carClear
  repeat' with_reducible first | assumption | intro _ | apply State.carPut_kept | apply State.carillon_kept | apply State.modNv_kept | apply State.setN_kept | dsimp only

theorem State.carWrite_kept {orig s : State} (h : Kept orig s) (r : CarRec) :
    Kept orig (State.carWrite s r) := by
  unfold State.carWrite
  repeat' with_reducible first | assumption | intro _ | apply State.carClear_kept | apply State.carPut_kept | apply State.fresh_kept | apply ite_kept | refine snd_kept ?_ (by assumption) | refine snd3_kept ?_ (by assumption) | dsimp only | split

theorem State.carNext_kept {orig s : State} (h : Kept orig s)  :
    Kept orig (State.carNext s) := by
  unfold State.carNext
  repeat' with_reducible first | assumption | intro _ | apply State.carWrite_kept | apply State.modEv_kept | apply State.put_kept | apply ite_kept | dsimp only | split

theorem State.carDrain_kept {orig s : State} (h : Kept orig s)  :
    ∀ fuel, Kept orig (State.carDrain s fuel) := by
  intro fuel
  induction fuel generalizing s with
  | zero => exact h
  | succ fuel ih =>
    unfold State.carDrain
    repeat' with_reducible first | assumption | intro _ | apply ih | apply State.carNext_kept | dsimp only | split

theorem State.unfreeze_kept {orig s : State} (h : Kept orig s)  :
    Kept orig (State.unfreeze s) := by
  unfold State.unfreeze
  repeat' with_reducible first | assumption | intro _ | apply State.modEv_kept | apply State.off_kept | apply ite_kept | dsimp only | split

theorem State.carFlush_kept {orig s : State} (h : Kept orig s)  :
    Kept orig (State.carFlush s) := by
  unfold State.carFlush
  generalize (260 : Nat) = fuel260
  repeat' with_reducible first | assumption | intro _ | apply State.unfreeze_kept | apply State.carDrain_kept | apply ite_kept | dsimp only | split

theorem State.record_kept {orig s : State} (h : Kept orig s) (code : Nat) (src : Nat) (p0 : Nat) (p1 : Nat) (p2 : Nat) (fault : Bool) (first : Bool) :
    Kept orig (State.record s code src p0 p1 p2 fault first) := by
  unfold State.record
  repeat' with_reducible first | assumption | intro _ | apply State.carillon_kept

theorem State.capture_kept {orig s : State} (h : Kept orig s) (n : Nat) :
    Kept orig (State.capture s n).2 := by
  unfold State.capture
  repeat' with_reducible first | assumption | intro _ | apply State.wr64_kept | apply State.setN_kept | apply State.satInc_kept | apply State.putB_kept | apply State.on_kept | apply State.put_kept | apply ite_kept | apply ite2_kept | dsimp only | split

theorem State.tocsinFault_kept {orig s : State} (h : Kept orig s)  :
    Kept orig (State.tocsinFault s) := by
  unfold State.tocsinFault
  repeat' with_reducible first | assumption | intro _ | apply State.modAon_kept | apply State.off_kept | apply State.on_kept | apply ite_kept | dsimp only | split

theorem State.latch1_kept {orig s : State} (h : Kept orig s) (n : Nat) (p2 : Nat) :
    Kept orig (State.latch1 s n p2) := by
  unfold State.latch1
  repeat' with_reducible first | assumption | intro _ | apply State.tocsinFault_kept | apply State.capture_kept | apply State.record_kept | apply State.sendVector_kept | apply State.emit_kept | apply State.setN_kept | apply ite_kept | refine snd_kept ?_ (by assumption) | refine snd3_kept ?_ (by assumption) | dsimp only | split

theorem State.latch_kept {orig s : State} (h : Kept orig s) (n : Nat) (p2 : Nat) :
    Kept orig (State.latch s n p2) := by
  unfold State.latch
  repeat' with_reducible first | assumption | intro _ | apply State.latch1_kept | apply ite_kept | dsimp only | split

theorem State.evLatch_kept {orig s : State} (h : Kept orig s) (f : FieldAt) (n : Nat) (p2 : Nat) :
    Kept orig (State.evLatch s f n p2) := by
  unfold State.evLatch
  repeat' with_reducible first | assumption | intro _ | apply State.latch_kept | apply State.on_kept | apply ite_kept | split

theorem State.pruneHeld_kept {orig s : State} (h : Kept orig s)  :
    Kept orig (State.pruneHeld s) := by
  unfold State.pruneHeld
  repeat' with_reducible first | assumption | intro _ | apply State.modEv_kept | dsimp only

theorem State.modPmc_kept {b0 s : State} (h : Kept b0 s) (f : Pmc → Pmc) : Kept b0 (State.modPmc s f) :=
  Kept.same h rfl rfl rfl rfl rfl rfl

theorem State.setCtr_kept {orig s : State} (h : Kept orig s) (i : Nat) (c : Ctr) :
    Kept orig (State.setCtr s i c) := by
  unfold State.setCtr
  repeat' with_reducible first | assumption | intro _ | apply State.modPmc_kept | dsimp only

theorem State.countOn_kept {orig s : State} (h : Kept orig s) (e : PmcEv) (i : Nat) :
    Kept orig (State.countOn s e i) := by
  unfold State.countOn
  repeat' with_reducible first | assumption | intro _ | apply State.setCtr_kept | apply State.evLatch_kept | apply State.setN_kept | apply ite_kept | dsimp only | split

theorem State.count_kept {orig s : State} (h : Kept orig s) (e : PmcEv) :
    Kept orig (State.count s e) := by
  unfold State.count
  repeat' with_reducible first | assumption | intro _ | apply State.countOn_kept | apply ite_kept | apply ite2_kept | apply foldl_kept | dsimp only | split

theorem State.bwAdd_kept {orig s : State} (h : Kept orig s) (port : Nat) (rx : Nat) (tx : Nat) :
    Kept orig (State.bwAdd s port rx tx) := by
  unfold State.bwAdd
  repeat' with_reducible first | assumption | intro _ | apply State.modPmc_kept | dsimp only | split

theorem State.ctrClear_kept {orig s : State} (h : Kept orig s) (i : Nat) :
    Kept orig (State.ctrClear s i) := by
  unfold State.ctrClear
  repeat' with_reducible first | assumption | intro _ | apply State.setCtr_kept | apply State.setN_kept | dsimp only

theorem execCounterClearSel_kept {orig s : State} (h : Kept orig s)  :
    OutKept orig (execCounterClearSel s) := by
  unfold execCounterClearSel
  repeat' with_reducible first | assumption | intro _ | apply State.ctrClear_kept | apply next_kept | apply ite_kept | apply outIte_kept | dsimp only | split

theorem State.ctrClearAll_kept {orig s : State} (h : Kept orig s)  :
    Kept orig (State.ctrClearAll s) := by
  unfold State.ctrClearAll
  repeat' with_reducible first | assumption | intro _ | apply State.ctrClear_kept | apply foldl_kept

theorem execCounterClearAll_kept {orig s : State} (h : Kept orig s)  :
    OutKept orig (execCounterClearAll s) := by
  unfold execCounterClearAll
  repeat' with_reducible first | assumption | intro _ | apply State.ctrClearAll_kept | apply next_kept | apply ite_kept | apply outIte_kept | dsimp only | split

theorem execBwWindowEnd_kept {orig s : State} (h : Kept orig s)  :
    OutKept orig (execBwWindowEnd s) := by
  unfold execBwWindowEnd
  repeat' with_reducible first | assumption | intro _ | apply State.modPmc_kept | apply State.evLatch_kept | apply State.setN_kept | apply next_kept | apply ite_kept | apply outIte_kept | dsimp only | split

theorem State.sampleWrite_kept {orig s : State} (h : Kept orig s) (x : Sample) (seq : Nat) :
    Kept orig (State.sampleWrite s x seq) := by
  unfold State.sampleWrite
  repeat' with_reducible first | assumption | intro _ | apply State.evLatch_kept | apply State.dramWrite_kept | apply State.satInc_kept | apply State.put_kept | apply ite_kept | dsimp only | split

theorem State.sample_kept {orig s : State} (h : Kept orig s) (x : Sample) (e : PmcEv) :
    Kept orig (State.sample s x e) := by
  unfold State.sample
  repeat' with_reducible first | assumption | intro _ | apply State.sampleWrite_kept | apply State.modPmc_kept | apply State.add64_kept | apply ite_kept | dsimp only | split

theorem State.modDma_kept {orig s : State} (h : Kept orig s) (n : Nat) (f : DmaCh → DmaCh) :
    Kept orig (State.modDma s n f) := by
  unfold State.modDma
  repeat' with_reducible first | assumption | intro _ | apply State.modDmac_kept | dsimp only

theorem State.setDma_kept {orig s : State} (h : Kept orig s) (n : Nat) (st : Nat) :
    Kept orig (State.setDma s n st) := by
  unfold State.setDma
  repeat' with_reducible first | assumption | intro _ | apply State.setN_kept | apply State.put_kept | dsimp only

theorem State.dmaPut_kept {orig s : State} (h : Kept orig s) (n : Nat) (j : Job) (b : List Byte) :
    Kept orig (State.dmaPut s n j b) := by
  unfold State.dmaPut
  repeat' with_reducible first | assumption | intro _ | apply State.bwAdd_kept | apply State.count_kept | apply State.dramWrite_kept | apply State.emit_kept | apply State.add64_kept | apply ite_kept | dsimp only | split

theorem State.dmaBack_kept {orig s : State} (h : Kept orig s) (j : Job) (code : Nat) :
    Kept orig (State.dmaBack s j code) := by
  unfold State.dmaBack
  repeat' with_reducible first | assumption | intro _ | apply State.dramWrite_kept

theorem State.dmaWrite1_kept {orig s : State} (h : Kept orig s) (n : Nat) :
    Kept orig (State.dmaWrite1 s n) := by
  unfold State.dmaWrite1
  repeat' with_reducible first | assumption | intro _ | apply State.dmaPut_kept | apply State.modDma_kept | apply State.put_kept | dsimp only | split

theorem State.dmaDrain_kept {orig s : State} (h : Kept orig s) (n : Nat) :
    ∀ fuel, Kept orig (State.dmaDrain s n fuel) := by
  intro fuel
  induction fuel generalizing s with
  | zero => exact h
  | succ fuel ih =>
    unfold State.dmaDrain
    repeat' with_reducible first | assumption | intro _ | apply ih | apply State.dmaWrite1_kept | dsimp only | split

theorem State.dmaBackAll_kept {orig s : State} (h : Kept orig s) (code : Nat) (l : List Job) :
    Kept orig (State.dmaBackAll s code l) := by
  unfold State.dmaBackAll
  repeat' with_reducible first | assumption | intro _ | apply State.dmaBack_kept | apply ite_kept | apply ite2_kept | apply foldl_kept | dsimp only | split

theorem State.dmaUnclaim_kept {orig s : State} (h : Kept orig s) (n : Nat) (line : Nat) :
    Kept orig (State.dmaUnclaim s n line) := by
  unfold State.dmaUnclaim
  repeat' with_reducible first | assumption | intro _ | apply State.modDmac_kept | apply State.setN_kept | apply State.off_kept | apply State.put_kept | dsimp only | split

theorem State.setCh_kept {orig s : State} (h : Kept orig s) (n : Nat) (st : Nat) :
    Kept orig (State.setCh s n st) := by
  unfold State.setCh
  repeat' with_reducible first | assumption | intro _ | apply State.modAon_kept | apply State.putBit64_kept | apply State.put_kept | dsimp only

theorem State.endRequests_kept {orig s : State} (h : Kept orig s) (n : Nat) :
    Kept orig (State.endRequests s n) := by
  unfold State.endRequests
  repeat' with_reducible first | assumption | intro _ | apply State.modPort_kept | apply State.modMb_kept | apply State.put_kept | apply ite_kept | dsimp only | split

theorem State.perst_kept {orig s : State} (h : Kept orig s) (n : Nat) (high : Bool) :
    Kept orig (State.perst s n high) := by
  unfold State.perst
  repeat' with_reducible first | assumption | intro _ | apply State.modAon_kept | dsimp only

theorem State.portLeave_kept {orig s : State} (h : Kept orig s) (n : Nat) (st : Nat) :
    Kept orig (State.portLeave s n st) := by
  unfold State.portLeave
  repeat' with_reducible first | assumption | intro _ | apply State.endRequests_kept | apply State.emit_kept | apply State.putBit64_kept | apply State.put_kept | apply ite_kept | dsimp only | split

theorem State.cfgAbandon_kept {orig s : State} (h : Kept orig s) (n : Nat) :
    Kept orig (State.cfgAbandon s n) := by
  unfold State.cfgAbandon
  repeat' with_reducible first | assumption | intro _ | apply State.modPort_kept | apply State.off_kept | apply State.put_kept | apply ite_kept | dsimp only | split

theorem State.portOff_kept {orig s : State} (h : Kept orig s) (n : Nat) :
    Kept orig (State.portOff s n) := by
  unfold State.portOff
  repeat' with_reducible first | assumption | intro _ | apply State.cfgAbandon_kept | apply State.portLeave_kept | apply State.perst_kept | apply State.put_kept | dsimp only

theorem State.portDrop_kept {orig s : State} (h : Kept orig s) (n : Nat) :
    Kept orig (State.portDrop s n) := by
  unfold State.portDrop
  repeat' with_reducible first | assumption | intro _ | apply State.portOff_kept | apply State.perst_kept | apply ite_kept | split

theorem State.pgLost_kept {orig s : State} (h : Kept orig s) (n : Nat) :
    Kept orig (State.pgLost s n) := by
  unfold State.pgLost
  repeat' with_reducible first | assumption | intro _ | apply State.portDrop_kept | apply State.evLatch_kept | apply State.putBit64_kept | apply State.dec_kept | apply State.off_kept | apply ite_kept | dsimp only | split

theorem State.pgGive_kept {orig s : State} (h : Kept orig s) (n : Nat) :
    Kept orig (State.pgGive s n) := by
  unfold State.pgGive
  repeat' with_reducible first | assumption | intro _ | apply State.evLatch_kept | apply State.putBit64_kept | apply State.inc_kept | apply State.on_kept | apply ite_kept | dsimp only | split

theorem State.stopCh_kept {orig s : State} (h : Kept orig s) (n : Nat) :
    Kept orig (State.stopCh s n) := by
  unfold State.stopCh
  repeat' with_reducible first | assumption | intro _ | apply State.pgLost_kept | apply State.portDrop_kept | apply State.setCh_kept | apply State.modChan_kept | apply State.off_kept | apply State.put_kept | apply ite_kept | dsimp only | split

theorem State.stopChans_kept {orig s : State} (h : Kept orig s)  :
    ∀ fuel, Kept orig (State.stopChans s fuel) := by
  intro fuel
  induction fuel generalizing s with
  | zero => exact h
  | succ fuel ih =>
    unfold State.stopChans
    repeat' with_reducible first | assumption | intro _ | apply ih | apply State.stopCh_kept | dsimp only | split

theorem State.shelfStop0_kept {orig s : State} (h : Kept orig s) (why : Nat) :
    Kept orig (State.shelfStop0 s why) := by
  unfold State.shelfStop0
  repeat' with_reducible first | assumption | intro _ | apply State.stopChans_kept | apply State.evLatch_kept | apply State.modAon_kept | apply State.modMb_kept | apply State.on_kept | apply ite_kept | dsimp only | split

theorem State.enqueueCh_kept {orig s : State} (h : Kept orig s) (n : Nat) :
    Kept orig (State.enqueueCh s n) := by
  unfold State.enqueueCh
  repeat' with_reducible first | assumption | intro _ | apply State.setCh_kept | apply State.modChan_kept | apply State.modMb_kept | apply State.off_kept | dsimp only

theorem State.queueDemands_kept {orig s : State} (h : Kept orig s)  :
    ∀ fuel, Kept orig (State.queueDemands s fuel) := by
  intro fuel
  induction fuel generalizing s with
  | zero => exact h
  | succ fuel ih =>
    unfold State.queueDemands
    repeat' with_reducible first | assumption | intro _ | apply ih | apply State.enqueueCh_kept | apply ite_kept | dsimp only | split

theorem State.raiseS_kept {orig s : State} (h : Kept orig s) (n : Nat) (p2 : Nat) :
    Kept orig (State.raiseS s n p2) := by
  unfold State.raiseS
  repeat' with_reducible first | assumption | intro _ | apply State.shelfStop0_kept | apply State.latch_kept | apply ite_kept | dsimp only | split

theorem State.evS_kept {orig s : State} (h : Kept orig s) (f : FieldAt) (n : Nat) (p2 : Nat) :
    Kept orig (State.evS s f n p2) := by
  unfold State.evS
  repeat' with_reducible first | assumption | intro _ | apply State.raiseS_kept | apply State.on_kept | apply ite_kept | split

theorem State.selftestEnd_kept {orig s : State} (h : Kept orig s) (code : Nat) :
    Kept orig (State.selftestEnd s code) := by
  unfold State.selftestEnd
  repeat' with_reducible first | assumption | intro _ | apply State.evS_kept | apply State.modFr_kept | apply State.modMb_kept | apply State.setN_kept | apply ite_kept | dsimp only | split

theorem State.shelfStop_kept {orig s : State} (h : Kept orig s) (why : Nat) :
    Kept orig (State.shelfStop s why) := by
  unfold State.shelfStop
  repeat' with_reducible first | assumption | intro _ | apply State.selftestEnd_kept | apply State.shelfStop0_kept

theorem State.importEnd_kept {orig s : State} (h : Kept orig s) (code : Nat) :
    Kept orig (State.importEnd s code) := by
  unfold State.importEnd
  repeat' with_reducible first | assumption | intro _ | apply State.modKeys_kept | apply State.setN_kept | apply State.off_kept | apply State.put_kept | apply foldl_kept | dsimp only

theorem State.zeroiseAll_kept {orig s : State} (h : Kept orig s)  :
    Kept orig (State.zeroiseAll s) := by
  unfold State.zeroiseAll
  repeat' with_reducible first | assumption | intro _ | apply State.importEnd_kept | apply State.evS_kept | apply State.modKeys_kept | apply State.put_kept | apply ite_kept | dsimp only | split

theorem State.mwHalt_kept {orig s : State} (h : Kept orig s)  :
    Kept orig (State.mwHalt s) := by
  unfold State.mwHalt
  repeat' with_reducible first | assumption | intro _ | apply State.on_kept

theorem State.dmaHalt1_kept {orig s : State} (h : Kept orig s) (n : Nat) :
    Kept orig (State.dmaHalt1 s n) := by
  unfold State.dmaHalt1
  repeat' with_reducible first | assumption | intro _ | apply State.evS_kept | apply State.dmaBackAll_kept | apply State.dmaDrain_kept | apply State.setDma_kept | apply State.modDma_kept | apply State.put_kept | apply ite_kept | dsimp only | split

theorem State.dmaHalt_kept {orig s : State} (h : Kept orig s)  :
    ∀ fuel, Kept orig (State.dmaHalt s fuel) := by
  intro fuel
  induction fuel generalizing s with
  | zero => exact h
  | succ fuel ih =>
    unfold State.dmaHalt
    repeat' with_reducible first | assumption | intro _ | apply ih | apply State.dmaHalt1_kept | dsimp only | split

theorem State.dpHalt_kept {orig s : State} (h : Kept orig s)  :
    Kept orig (State.dpHalt s) := by
  unfold State.dpHalt
  repeat' with_reducible first | assumption | intro _ | apply State.dmaHalt_kept | apply State.mwHalt_kept | apply State.evS_kept | apply State.on_kept

theorem State.dumpStart_kept {orig s : State} (h : Kept orig s)  :
    Kept orig (State.dumpStart s) := by
  unfold State.dumpStart
  repeat' with_reducible first | assumption | intro _ | apply State.unfreeze_kept | apply State.setSlots_kept | apply State.modAon_kept | apply ite_kept | dsimp only | split

theorem State.classB_kept {orig s : State} (h : Kept orig s) (src : Nat) :
    Kept orig (State.classB s src) := by
  unfold State.classB
  repeat' with_reducible first | assumption | intro _ | apply State.dumpStart_kept | apply State.dmaHalt_kept | apply State.modAon_kept | apply ite_kept | dsimp only | split

theorem State.raise_kept {orig s : State} (h : Kept orig s) (n : Nat) (p2 : Nat) :
    Kept orig (State.raise s n p2) := by
  unfold State.raise
  repeat' with_reducible first | assumption | intro _ | apply State.classB_kept | apply State.dpHalt_kept | apply State.mwHalt_kept | apply State.zeroiseAll_kept | apply State.shelfStop_kept | apply State.selftestEnd_kept | apply State.latch_kept | apply ite_kept | dsimp only | split

theorem State.raiseAll_kept {orig s : State} (h : Kept orig s) (l : List (Nat × Nat)) :
    Kept orig (State.raiseAll s l) := by
  unfold State.raiseAll
  repeat' with_reducible first | assumption | intro _ | apply State.raise_kept | apply foldl_kept | apply foldlP_kept | dsimp only

theorem State.event_kept {orig s : State} (h : Kept orig s) (f : FieldAt) (n : Nat) (p2 : Nat) :
    Kept orig (State.event s f n p2) := by
  unfold State.event
  repeat' with_reducible first | assumption | intro _ | apply State.raise_kept | apply State.on_kept | apply ite_kept | split

theorem State.eventHeld_kept {orig s : State} (h : Kept orig s) (f : FieldAt) (n : Nat) (p2 : Nat) :
    Kept orig (State.eventHeld s f n p2) := by
  unfold State.eventHeld
  repeat' with_reducible first | assumption | intro _ | apply State.raise_kept | apply State.modEv_kept | apply State.on_kept | apply ite_kept | dsimp only | split

theorem State.condOn_kept {orig s : State} (h : Kept orig s) (n : Nat) (p2 : Nat) :
    Kept orig (State.condOn s n p2) := by
  unfold State.condOn
  repeat' with_reducible first | assumption | intro _ | apply State.raise_kept | apply State.modEv_kept | apply ite_kept | dsimp only | split

theorem State.condOff_kept {orig s : State} (h : Kept orig s) (n : Nat) :
    Kept orig (State.condOff s n) := by
  unfold State.condOff
  repeat' with_reducible first | assumption | intro _ | apply State.modEv_kept | dsimp only

theorem State.detail_kept {orig s : State} (h : Kept orig s) (code : Nat) (src : Nat) (p0 : Nat) (p1 : Nat) (p2 : Nat) :
    Kept orig (State.detail s code src p0 p1 p2) := by
  unfold State.detail
  repeat' with_reducible first | assumption | intro _ | apply State.record_kept

theorem State.setZone_kept {orig s : State} (h : Kept orig s) (z : Nat) (x : Zone) :
    Kept orig (State.setZone s z x) := by
  unfold State.setZone
  repeat' with_reducible first | assumption | intro _ | apply State.modTb_kept | dsimp only

theorem State.modZone_kept {orig s : State} (h : Kept orig s) (z : Nat) (f : Zone → Zone) :
    Kept orig (State.modZone s z f) := by
  unfold State.modZone
  repeat' with_reducible first | assumption | intro _ | apply State.setZone_kept

theorem State.strProbe_kept {orig s : State} (h : Kept orig s) (pos : Nat) :
    Kept orig (State.strProbe s pos) := by
  unfold State.strProbe
  repeat' with_reducible first | assumption | intro _ | apply State.wr64_kept | apply State.setN_kept | apply State.on_kept | apply State.put_kept | apply ite_kept | dsimp only | split

theorem execStrProbe_kept {orig s : State} (h : Kept orig s) (pos : Nat) :
    OutKept orig (execStrProbe pos s) := by
  unfold execStrProbe
  repeat' with_reducible first | assumption | intro _ | apply State.strProbe_kept | apply next_kept | apply ite_kept | apply outIte_kept | dsimp only | split

theorem State.sealMismatch_kept {orig s : State} (h : Kept orig s) (hop : Nat) (member : Nat) (stripe : Nat) (pos : Nat) (block : Nat) (mask : Nat) (src : Nat) :
    Kept orig (State.sealMismatch s hop member stripe pos block mask src) := by
  unfold State.sealMismatch
  repeat' with_reducible first | assumption | intro _ | apply State.detail_kept

theorem State.sendOwn_kept {orig s : State} (h : Kept orig s) (p : Nat) (kind : Nat) (arg : Nat) :
    Kept orig (State.sendOwn s p kind arg) := by
  unfold State.sendOwn
  repeat' with_reducible first | assumption | intro _ | apply State.emit_kept

theorem State.sendInter_kept {orig s : State} (h : Kept orig s) (cls : Nat) (m : InterMsg) :
    Kept orig (State.sendInter s cls m) := by
  unfold State.sendInter
  repeat' with_reducible first | assumption | intro _ | apply State.emit_kept | apply State.satInc_kept | dsimp only | split

theorem State.sendMirror_kept {orig s : State} (h : Kept orig s) (mseq : Nat) (kind : Nat) (arg : Nat) (cls : Nat) (content : List Byte) :
    Kept orig (State.sendMirror s mseq kind arg cls content) := by
  unfold State.sendMirror
  repeat' with_reducible first | assumption | intro _ | apply State.emit_kept | apply State.satInc_kept | dsimp only

theorem State.modFab_kept {b0 s : State} (h : Kept b0 s) (f : Fabric → Fabric) : Kept b0 (State.modFab s f) :=
  Kept.same h rfl rfl rfl rfl rfl rfl

theorem State.qpcShow_kept {orig s : State} (h : Kept orig s)  :
    Kept orig (State.qpcShow s) := by
  unfold State.qpcShow
  repeat' with_reducible first | assumption | intro _ | apply State.put_kept | apply foldl_kept | apply foldlP_kept | dsimp only

theorem State.setConn_kept {orig s : State} (h : Kept orig s) (k : Nat) (c : Conn) :
    Kept orig (State.setConn s k c) := by
  unfold State.setConn
  repeat' with_reducible first | assumption | intro _ | apply State.qpcShow_kept | apply State.modFab_kept | dsimp only

theorem State.modConn_kept {orig s : State} (h : Kept orig s) (k : Nat) (f : Conn → Conn) :
    Kept orig (State.modConn s k f) := by
  unfold State.modConn
  repeat' with_reducible first | assumption | intro _ | apply State.setConn_kept | dsimp only | split

theorem State.evict_kept {orig s : State} (h : Kept orig s)  :
    Kept orig (State.evict s) := by
  unfold State.evict
  repeat' with_reducible first | assumption | intro _ | apply State.modConn_kept | apply ite_kept | apply optGetD_kept | apply optOr_kept | dsimp only | split

theorem State.touch_kept {orig s : State} (h : Kept orig s) (k : Nat) :
    Kept orig (State.touch s k) := by
  unfold State.touch
  repeat' with_reducible first | assumption | intro _ | apply State.modConn_kept | apply State.modFab_kept | apply ite_kept | dsimp only | split

theorem State.fetch_kept {orig s : State} (h : Kept orig s) (k : Nat) :
    Kept orig (State.fetch s k) := by
  unfold State.fetch
  repeat' with_reducible first | assumption | intro _ | apply State.evict_kept | apply State.modConn_kept | apply State.count_kept | apply State.add64_kept | apply ite_kept | dsimp only | split

theorem State.fetchNext_kept {orig s : State} (h : Kept orig s)  :
    Kept orig (State.fetchNext s) := by
  unfold State.fetchNext
  repeat' with_reducible first | assumption | intro _ | apply State.fetch_kept | dsimp only | split

theorem State.delConn_kept {orig s : State} (h : Kept orig s) (k : Nat) :
    Kept orig (State.delConn s k) := by
  unfold State.delConn
  repeat' with_reducible first | assumption | intro _ | apply State.fetchNext_kept | apply State.qpcShow_kept | apply State.modFab_kept | dsimp only

theorem State.roce_kept {orig s : State} (h : Kept orig s) (kind : Nat) (k : Nat) (psn : Nat) (arg : Nat) :
    Kept orig (State.roce s kind k psn arg) := by
  unfold State.roce
  repeat' with_reducible first | assumption | intro _ | apply State.emit_kept

theorem State.txNow_kept {orig s : State} (h : Kept orig s) (k : Nat) (n : Nat) (kind : TxKind) :
    Kept orig (State.txNow s k n kind) := by
  unfold State.txNow
  repeat' with_reducible first | assumption | intro _ | apply State.roce_kept | apply State.touch_kept | apply State.setConn_kept | apply ite_kept | dsimp only | split

theorem State.retransmit_kept {orig s : State} (h : Kept orig s) (k : Nat) (p : Nat) :
    Kept orig (State.retransmit s k p) := by
  unfold State.retransmit
  repeat' with_reducible first | assumption | intro _ | apply State.roce_kept | apply State.setConn_kept | apply State.count_kept | apply State.satInc_kept | apply ite_kept | apply ite2_kept | apply foldl_kept | dsimp only | split

theorem State.ackNow_kept {orig s : State} (h : Kept orig s) (k : Nat) :
    Kept orig (State.ackNow s k) := by
  unfold State.ackNow
  repeat' with_reducible first | assumption | intro _ | apply State.roce_kept | apply State.setConn_kept | apply ite_kept | dsimp only | split

theorem State.sendOrWait_kept {orig s : State} (h : Kept orig s) (k : Nat) (w : WaitTx) :
    Kept orig (State.sendOrWait s k w) := by
  unfold State.sendOrWait
  repeat' with_reducible first | assumption | intro _ | apply State.ackNow_kept | apply State.retransmit_kept | apply State.txNow_kept | apply State.fetch_kept | apply State.touch_kept | apply State.setConn_kept | apply ite_kept | dsimp only | split

theorem State.connSend_kept {orig s : State} (h : Kept orig s) (k : Nat) (kind : TxKind) :
    Kept orig (State.connSend s k kind) := by
  unfold State.connSend
  repeat' with_reducible first | assumption | intro _ | apply State.sendOrWait_kept

theorem State.sendWaiting_kept {orig s : State} (h : Kept orig s) (k : Nat) :
    Kept orig (State.sendWaiting s k) := by
  unfold State.sendWaiting
  repeat' with_reducible first | assumption | intro _ | apply State.sendOrWait_kept | apply State.setConn_kept | apply foldl_kept | dsimp only | split

theorem execCcRateIncrease_kept {orig s : State} (h : Kept orig s) (conn : Nat) :
    OutKept orig (execCcRateIncrease conn s) := by
  unfold execCcRateIncrease
  repeat' with_reducible first | assumption | intro _ | apply State.modConn_kept | apply next_kept | apply ite_kept | apply outIte_kept | dsimp only | split

theorem execDeadlineScan_kept {orig s : State} (h : Kept orig s)  :
    OutKept orig (execDeadlineScan s) := by
  unfold execDeadlineScan
  repeat' with_reducible first | assumption | intro _ | apply State.fetch_kept | apply next_kept | apply ite_kept | apply outIte_kept | apply ite2_kept | apply foldl_kept | apply foldlP_kept | dsimp only | split

theorem execAckCoalesceExpiry_kept {orig s : State} (h : Kept orig s) (conn : Nat) :
    OutKept orig (execAckCoalesceExpiry conn s) := by
  unfold execAckCoalesceExpiry
  repeat' with_reducible first | assumption | intro _ | apply State.sendOrWait_kept | apply next_kept | apply ite_kept | apply outIte_kept | dsimp only | split

theorem State.winSwitch_kept {orig s : State} (h : Kept orig s)  :
    Kept orig (State.winSwitch s) := by
  unfold State.winSwitch
  repeat' with_reducible first | assumption | intro _ | apply State.modFab_kept | apply State.event_kept | apply State.inc_kept | apply State.off_kept | apply State.on_kept | apply State.put_kept | apply ite_kept | dsimp only | split

theorem State.winCommit_kept {orig s : State} (h : Kept orig s)  :
    Kept orig (State.winCommit s) := by
  unfold State.winCommit
  repeat' with_reducible first | assumption | intro _ | apply State.winSwitch_kept | apply State.on_kept | apply ite_kept | split

theorem execWinCommit_kept {orig s : State} (h : Kept orig s)  :
    OutKept orig (execWinCommit s) := by
  unfold execWinCommit
  repeat' with_reducible first | assumption | intro _ | apply State.winCommit_kept | apply next_kept | apply ite_kept | apply outIte_kept | dsimp only | split

theorem execWinOldRelease_kept {orig s : State} (h : Kept orig s)  :
    OutKept orig (execWinOldRelease s) := by
  unfold execWinOldRelease
  repeat' with_reducible first | assumption | intro _ | apply State.winSwitch_kept | apply State.modFab_kept | apply State.off_kept | apply next_kept | apply ite_kept | apply outIte_kept | dsimp only | split

theorem execResponderResourceTimeout_kept {orig s : State} (h : Kept orig s) (conn : Nat) (psn : Nat) :
    OutKept orig (execResponderResourceTimeout conn psn s) := by
  unfold execResponderResourceTimeout
  repeat' with_reducible first | assumption | intro _ | apply State.modConn_kept | apply next_kept | apply ite_kept | apply outIte_kept | dsimp only | split

theorem State.modQueue_kept {orig s : State} (h : Kept orig s) (cntlid : Nat) (qid : Nat) (f : Queue → Queue) :
    Kept orig (State.modQueue s cntlid qid f) := by
  unfold State.modQueue
  repeat' with_reducible first | assumption | intro _ | apply State.modFr_kept | apply ite_kept | dsimp only | split

theorem State.respond_kept {orig s : State} (h : Kept orig s) (cntlid : Nat) (qid : Nat) (cid : Nat) (status : Nat) (dnr : Bool) (dw0 : Nat) (dw1 : Nat) (inv : Option Nat) :
    Kept orig (State.respond s cntlid qid cid status dnr dw0 dw1 inv) := by
  unfold State.respond
  repeat' with_reducible first | assumption | intro _ | apply State.connSend_kept | apply State.sendInter_kept | apply State.emit_kept | apply ite_kept | dsimp only | split

theorem State.modPassed_kept {orig s : State} (h : Kept orig s) (cntlid : Nat) (qid : Nat) (cid : Nat) (f : Passed → Passed) :
    Kept orig (State.modPassed s cntlid qid cid f) := by
  unfold State.modPassed
  repeat' with_reducible first | assumption | intro _ | apply State.modFr_kept | apply ite_kept | dsimp only | split

theorem State.passOn_kept {orig s : State} (h : Kept orig s) (cap : Capsule) :
    Kept orig (State.passOn s cap) := by
  unfold State.passOn
  repeat' with_reducible first | assumption | intro _ | apply State.sendInter_kept | apply State.modFr_kept | dsimp only

theorem State.passedPost_kept {orig s : State} (h : Kept orig s) (cntlid : Nat) (qid : Nat) (cid : Nat) :
    Kept orig (State.passedPost s cntlid qid cid) := by
  unfold State.passedPost
  repeat' with_reducible first | assumption | intro _ | apply State.respond_kept | apply State.modFr_kept | apply ite_kept | dsimp only | split

theorem State.passedGot_kept {orig s : State} (h : Kept orig s) (m : InterMsg) :
    Kept orig (State.passedGot s m) := by
  unfold State.passedGot
  repeat' with_reducible first | assumption | intro _ | apply State.passedPost_kept | apply State.modPassed_kept | apply State.connSend_kept | apply State.emit_kept | apply foldl_kept | apply foldlP_kept | dsimp only | split

theorem State.notify_kept {orig s : State} (h : Kept orig s) (cntlid : Nat) (kind : Nat) :
    Kept orig (State.notify s cntlid kind) := by
  unfold State.notify
  repeat' with_reducible first | assumption | intro _ | apply State.respond_kept | apply State.modCtrl_kept | apply State.emit_kept | dsimp only | split

theorem State.notifyAll_kept {orig s : State} (h : Kept orig s) (kind : Nat) (p : Nat → Ctrl → Bool) :
    Kept orig (State.notifyAll s kind p) := by
  unfold State.notifyAll
  repeat' with_reducible first | assumption | intro _ | apply State.notify_kept | apply foldl_kept | apply foldlP_kept | dsimp only

theorem State.nsChanged_kept {orig s : State} (h : Kept orig s) (nsid : Nat) :
    Kept orig (State.nsChanged s nsid) := by
  unfold State.nsChanged
  repeat' with_reducible first | assumption | intro _ | apply State.notifyAll_kept | apply State.modFr_kept | apply ite_kept | dsimp only | split

theorem State.anaSet_kept {orig s : State} (h : Kept orig s) (st : Nat) :
    Kept orig (State.anaSet s st) := by
  unfold State.anaSet
  repeat' with_reducible first | assumption | intro _ | apply State.notifyAll_kept | apply State.event_kept | apply State.put_kept | apply ite_kept | dsimp only | split

theorem State.anaTo_kept {orig s : State} (h : Kept orig s) (st : Nat) :
    Kept orig (State.anaTo s st) := by
  unfold State.anaTo
  repeat' with_reducible first | assumption | intro _ | apply State.anaSet_kept | apply ite_kept | split

theorem State.takeoverEnd_kept {orig s : State} (h : Kept orig s)  :
    Kept orig (State.takeoverEnd s) := by
  unfold State.takeoverEnd
  repeat' with_reducible first | assumption | intro _ | apply State.anaTo_kept | apply State.modJn_kept | apply ite_kept | dsimp only | split

theorem State.nvqShow_kept {orig s : State} (h : Kept orig s)  :
    Kept orig (State.nvqShow s) := by
  unfold State.nvqShow
  repeat' with_reducible first | assumption | intro _ | apply State.put_kept | apply ite_kept | dsimp only | split

theorem State.waitNote_kept {orig s : State} (h : Kept orig s) (c : Cmd) :
    Kept orig (State.waitNote s c) := by
  unfold State.waitNote
  repeat' with_reducible first | assumption | intro _ | apply State.setN_kept | apply ite_kept | dsimp only | split

theorem State.unblock1_kept {orig s : State} (h : Kept orig s) (t : Nat) :
    Kept orig (State.unblock1 s t) := by
  unfold State.unblock1
  repeat' with_reducible first | assumption | intro _ | apply State.waitNote_kept | apply State.setCmd_kept | apply ite_kept | dsimp only | split

theorem State.unblock_kept {orig s : State} (h : Kept orig s)  :
    Kept orig (State.unblock s) := by
  unfold State.unblock
  repeat' with_reducible first | assumption | intro _ | apply State.unblock1_kept | apply State.nvqShow_kept | apply foldl_kept | dsimp only

theorem State.release_kept {orig s : State} (h : Kept orig s) (t : Nat) :
    Kept orig (State.release s t) := by
  unfold State.release
  repeat' with_reducible first | assumption | intro _ | apply State.unblock_kept | apply State.setCmd_kept | apply State.modFr_kept | apply ite_kept | dsimp only | split

theorem State.detach_kept {orig s : State} (h : Kept orig s) (t : Nat) :
    Kept orig (State.detach s t) := by
  unfold State.detach
  repeat' with_reducible first | assumption | intro _ | apply State.modMb_kept | apply ite_kept | dsimp only | split

theorem State.tryPost_kept {orig s : State} (h : Kept orig s) (t : Nat) :
    Kept orig (State.tryPost s t) := by
  unfold State.tryPost
  repeat' with_reducible first | assumption | intro _ | apply State.detach_kept | apply State.unblock_kept | apply State.respond_kept | apply State.sample_kept | apply State.count_kept | apply State.modFr_kept | apply ite_kept | dsimp only | split

theorem State.cmdEnd_kept {orig s : State} (h : Kept orig s) (t : Nat) (status : Nat) (dnr : Bool) :
    Kept orig (State.cmdEnd s t status dnr) := by
  unfold State.cmdEnd
  repeat' with_reducible first | assumption | intro _ | apply State.tryPost_kept | apply State.release_kept | apply State.waitNote_kept | apply State.setCmd_kept | apply ite_kept | dsimp only | split

theorem State.cmdLeave_kept {orig s : State} (h : Kept orig s) (t : Nat) :
    Kept orig (State.cmdLeave s t) := by
  unfold State.cmdLeave
  repeat' with_reducible first | assumption | intro _ | apply State.release_kept | apply State.nvqShow_kept | apply State.modFr_kept | dsimp only

theorem State.adminDone_kept {orig s : State} (h : Kept orig s) (cntlid : Nat) (cid : Nat) (status : Nat) (dnr : Bool) (dw0 : Nat) (dw1 : Nat) (inv : Option Nat) :
    Kept orig (State.adminDone s cntlid cid status dnr dw0 dw1 inv) := by
  unfold State.adminDone
  repeat' with_reducible first | assumption | intro _ | apply State.nvqShow_kept | apply State.respond_kept | apply State.modFr_kept | dsimp only | split

theorem State.evAt_kept {orig s : State} (h : Kept orig s) (base : Nat) (f : FieldAt) :
    Kept orig (State.evAt s base f) := by
  unfold State.evAt
  repeat' with_reducible first | assumption | intro _ | apply State.event_kept

theorem State.wearAdd_kept {orig s : State} (h : Kept orig s) (l : Nat) (n : Nat) (priv : Nat) :
    Kept orig (State.wearAdd s l n priv) := by
  unfold State.wearAdd
  repeat' with_reducible first | assumption | intro _ | apply State.count_kept | apply State.modNv_kept | apply State.put_kept | apply ite_kept | dsimp only | split

theorem State.wearLines_kept {orig s : State} (h : Kept orig s) (l : Nat) (n : Nat) (priv : Nat) :
    Kept orig (State.wearLines s l n priv) := by
  unfold State.wearLines
  repeat' with_reducible first | assumption | intro _ | apply State.wearAdd_kept | apply ite_kept | dsimp only | split

theorem State.lineRetire_kept {orig s : State} (h : Kept orig s) (line : Nat) :
    Kept orig (State.lineRetire s line) := by
  unfold State.lineRetire
  repeat' with_reducible first | assumption | intro _ | apply State.evAt_kept | apply State.condOn_kept | apply State.modNv_kept | apply State.put_kept | apply ite_kept | dsimp only | split

theorem State.linesRetire_kept {orig s : State} (h : Kept orig s) (l : List Nat) :
    Kept orig (State.linesRetire s l) := by
  unfold State.linesRetire
  repeat' with_reducible first | assumption | intro _ | apply State.lineRetire_kept | apply foldl_kept

theorem State.badRetire_kept {orig s : State} (h : Kept orig s) (l : Nat) (n : Nat) (bad : List Nat) :
    Kept orig (State.badRetire s l n bad) := by
  unfold State.badRetire
  repeat' with_reducible first | assumption | intro _ | apply State.linesRetire_kept | dsimp only

theorem execChunkWearCopy_kept {orig s : State} (h : Kept orig s) (chunk : Nat) (free : Nat) (fixed : List Nat) :
    OutKept orig (execChunkWearCopy chunk free fixed s) := by
  unfold execChunkWearCopy
  repeat' with_reducible first | assumption | intro _ | apply State.linesRetire_kept | apply State.wearAdd_kept | apply State.modNv_kept | apply next_kept | apply ite_kept | apply outIte_kept | dsimp only | split

theorem State.mirSend_kept {orig s : State} (h : Kept orig s) (b : MirBody) :
    Kept orig (State.mirSend s b).2 := by
  unfold State.mirSend
  repeat' with_reducible first | assumption | intro _ | apply State.sendMirror_kept | apply State.modNv_kept | apply State.modJn_kept | apply State.wr64_kept | dsimp only

theorem State.mirCopy_kept {orig s : State} (h : Kept orig s) (b : MirBody) :
    Kept orig (State.mirCopy s b).2 := by
  unfold State.mirCopy
  repeat' with_reducible first | assumption | intro _ | apply State.mirSend_kept | apply ite_kept | apply ite2_kept | refine snd_kept ?_ (by assumption) | refine snd3_kept ?_ (by assumption) | dsimp only | split

theorem State.ringPut_kept {orig s : State} (h : Kept orig s) (b : RecBody) (n : Nat) (tailM : Nat) (cmd : Option Nat) :
    Kept orig (State.ringPut s b n tailM cmd) := by
  unfold State.ringPut
  repeat' with_reducible first | assumption | intro _ | apply State.mirCopy_kept | apply State.wearLines_kept | apply State.modNv_kept | apply State.setN_kept | apply ite_kept | refine snd_kept ?_ (by assumption) | refine snd3_kept ?_ (by assumption) | dsimp only | split

theorem State.recIssue_kept {orig s : State} (h : Kept orig s) (b : RecBody) (cmd : Option Nat) (tailM : Nat) :
    Kept orig (State.recIssue s b cmd tailM) := by
  unfold State.recIssue
  repeat' with_reducible first | assumption | intro _ | apply State.ringPut_kept | apply State.evAt_kept | apply State.modJn_kept | apply State.on_kept | apply ite_kept | dsimp only | split

theorem State.recDrain_kept {orig s : State} (h : Kept orig s)  :
    Kept orig (State.recDrain s) := by
  unfold State.recDrain
  repeat' with_reducible first | assumption | intro _ | apply State.recIssue_kept | apply State.modJn_kept | apply State.off_kept | apply foldl_kept | apply foldlP_kept | dsimp only

theorem State.resyncBack_kept {orig s : State} (h : Kept orig s) (stripe : Nat) :
    Kept orig (State.resyncBack s stripe) := by
  unfold State.resyncBack
  repeat' with_reducible first | assumption | intro _ | apply State.modMb_kept | apply ite_kept | dsimp only | split

theorem State.markStale_kept {orig s : State} (h : Kept orig s) (stripe : Nat) (c : Nat) :
    Kept orig (State.markStale s stripe c) := by
  unfold State.markStale
  repeat' with_reducible first | assumption | intro _ | apply State.resyncBack_kept | apply State.modCol_kept | apply State.modTb_kept | dsimp only

theorem State.applySkips_kept {orig s : State} (h : Kept orig s) (k : List (Nat × Nat × Nat)) :
    Kept orig (State.applySkips s k) := by
  unfold State.applySkips
  repeat' with_reducible first | assumption | intro _ | apply State.markStale_kept | apply foldl_kept | apply foldlP_kept | dsimp only | split

theorem State.headerUpdate_kept {orig s : State} (h : Kept orig s)  :
    Kept orig (State.headerUpdate s) := by
  unfold State.headerUpdate
  repeat' with_reducible first | assumption | intro _ | apply State.modNv_kept | apply ite_kept | apply ite2_kept | apply foldl_kept | apply foldlP_kept | dsimp only | split

theorem State.setMap_kept {orig s : State} (h : Kept orig s) (nsid : Nat) (lba : Nat) (v : Option (Nat × Nat)) :
    Kept orig (State.setMap s nsid lba v) := by
  unfold State.setMap
  repeat' with_reducible first | assumption | intro _ | apply State.modTb_kept | dsimp only | split

theorem State.zoneShow_kept {orig s : State} (h : Kept orig s)  :
    Kept orig (State.zoneShow s) := by
  unfold State.zoneShow
  repeat' with_reducible first | assumption | intro _ | apply State.wr64_kept | apply foldl_kept | apply foldlP_kept | dsimp only

theorem State.lossIndex_kept {orig s : State} (h : Kept orig s)  :
    Kept orig (State.lossIndex s) := by
  unfold State.lossIndex
  repeat' with_reducible first | assumption | intro _ | apply State.modTb_kept | apply ite_kept | dsimp only | split

theorem State.lossPut_kept {orig s : State} (h : Kept orig s) (l : Loss) :
    Kept orig (State.lossPut s l) := by
  unfold State.lossPut
  repeat' with_reducible first | assumption | intro _ | apply State.lossIndex_kept | apply State.modZone_kept | apply State.modTb_kept | dsimp only

theorem State.zoneTo_kept {orig s : State} (h : Kept orig s) (z : Nat) (st : Nat) :
    Kept orig (State.zoneTo s z st) := by
  unfold State.zoneTo
  repeat' with_reducible first | assumption | intro _ | apply State.lossIndex_kept | apply State.modZone_kept | apply State.modTb_kept | apply ite_kept | dsimp only | split

theorem State.logAdvance_kept {orig s : State} (h : Kept orig s) (stripe : Nat) (e : Nat) :
    Kept orig (State.logAdvance s stripe e) := by
  unfold State.logAdvance
  repeat' with_reducible first | assumption | intro _ | apply State.modZone_kept | apply ite_kept | dsimp only | split

theorem State.markDirty_kept {orig s : State} (h : Kept orig s) (j : Nat) (b : RecBody) :
    Kept orig (State.markDirty s j b) := by
  unfold State.markDirty
  repeat' with_reducible first | assumption | intro _ | apply State.modTb_kept | apply State.modJn_kept | apply foldl_kept | dsimp only

theorem State.applyRec_kept {orig s : State} (h : Kept orig s) (b : RecBody) :
    Kept orig (State.applyRec s b) := by
  unfold State.applyRec
  repeat' with_reducible first | assumption | intro _ | apply State.logAdvance_kept | apply State.zoneTo_kept | apply State.lossPut_kept | apply State.setMap_kept | apply State.applySkips_kept | apply State.modZone_kept | apply State.modCol_kept | apply State.modTb_kept | apply ite_kept | apply ite2_kept | apply foldl_kept | apply foldlP_kept | apply optGetD_kept | apply optOr_kept | dsimp only | split

theorem State.recNow_kept {orig s : State} (h : Kept orig s) (b : RecBody) :
    Kept orig (State.recNow s b) := by
  unfold State.recNow
  repeat' with_reducible first | assumption | intro _ | apply State.applyRec_kept | apply State.recIssue_kept

theorem State.logStrip_kept {orig s : State} (h : Kept orig s) (c : Nat) (k : KeepLog) (i : Nat) (content : List Byte) :
    Kept orig (State.logStrip s c k i content) := by
  unfold State.logStrip
  repeat' with_reducible first | assumption | intro _ | apply State.emit_kept

theorem State.putLog_kept {orig s : State} (h : Kept orig s) (c : Nat) (strips : List (Nat × List Byte)) (k : KeepLog) :
    Kept orig (State.putLog s c strips k) := by
  unfold State.putLog
  repeat' with_reducible first | assumption | intro _ | apply State.logStrip_kept | apply State.modNv_kept | apply foldl_kept | apply foldlP_kept | dsimp only

theorem State.logCommit_kept {orig s : State} (h : Kept orig s) (c : Nat) (t : Tables) (q : Nat) (n : Nat) (ps : List Nat) :
    Kept orig (State.logCommit s c t q n ps) := by
  unfold State.logCommit
  repeat' with_reducible first | assumption | intro _ | apply State.putLog_kept | apply ite_kept | dsimp only | split

theorem State.logCopies_kept {orig s : State} (h : Kept orig s) (c : Nat) :
    Kept orig (State.logCopies s c) := by
  unfold State.logCopies
  repeat' with_reducible first | assumption | intro _ | apply State.putLog_kept | dsimp only | split

theorem State.logFull_kept {orig s : State} (h : Kept orig s) (c : Nat) :
    Kept orig (State.logFull s c) := by
  unfold State.logFull
  repeat' with_reducible first | assumption | intro _ | apply State.putLog_kept | apply optGetD_kept | apply optOr_kept | dsimp only | split

theorem State.mbrShow_kept {orig s : State} (h : Kept orig s)  :
    Kept orig (State.mbrShow s) := by
  unfold State.mbrShow
  repeat' with_reducible first | assumption | intro _ | apply State.wr64_kept | apply State.put_kept | apply foldl_kept | dsimp only | split

theorem State.setPs_kept {orig s : State} (h : Kept orig s) (c : Nat) (ps : Nat) :
    Kept orig (State.setPs s c ps) := by
  unfold State.setPs
  repeat' with_reducible first | assumption | intro _ | apply State.mbrShow_kept | apply State.modPower_kept | dsimp only

theorem State.usedNow_kept {orig s : State} (h : Kept orig s) (c : Nat) :
    Kept orig (State.usedNow s c) := by
  unfold State.usedNow
  repeat' with_reducible first | assumption | intro _ | apply State.modPower_kept | apply State.modMb_kept | dsimp only

theorem State.toIdle_kept {orig s : State} (h : Kept orig s) (c : Nat) :
    Kept orig (State.toIdle s c) := by
  unfold State.toIdle
  repeat' with_reducible first | assumption | intro _ | apply State.setPs_kept | apply State.modPower_kept | apply State.emit_kept | apply optGetD_kept | apply optOr_kept | dsimp only | split

theorem State.toActive_kept {orig s : State} (h : Kept orig s) (c : Nat) :
    Kept orig (State.toActive s c) := by
  unfold State.toActive
  repeat' with_reducible first | assumption | intro _ | apply State.usedNow_kept | apply State.setPs_kept | apply State.modPower_kept | apply State.emit_kept | apply ite_kept | dsimp only | split

theorem State.setCol_kept {orig s : State} (h : Kept orig s) (c : Nat) (x : Column) :
    Kept orig (State.setCol s c x) := by
  unfold State.setCol
  repeat' with_reducible first | assumption | intro _ | apply State.mbrShow_kept | apply State.recIssue_kept | apply State.modCol_kept | dsimp only

theorem State.failMark_kept {orig s : State} (h : Kept orig s) (c : Nat) (cause : Nat) :
    Kept orig (State.failMark s c cause) := by
  unfold State.failMark
  repeat' with_reducible first | assumption | intro _ | apply State.modMb_kept | dsimp only

theorem State.stow_kept {orig s : State} (h : Kept orig s) (c : Nat) :
    Kept orig (State.stow s c) := by
  unfold State.stow
  repeat' with_reducible first | assumption | intro _ | apply State.setPs_kept | apply State.mbrShow_kept | apply State.modPower_kept | apply State.modMb_kept | apply ite_kept | dsimp only | split

theorem State.placed_kept {orig s : State} (h : Kept orig s) (c : Nat) (n : Nat) :
    Kept orig (State.placed s c n) := by
  unfold State.placed
  repeat' with_reducible first | assumption | intro _ | apply State.modMb_kept | dsimp only

theorem State.notPlaced_kept {orig s : State} (h : Kept orig s) (c : Nat) (n : Nat) :
    Kept orig (State.notPlaced s c n) := by
  unfold State.notPlaced
  repeat' with_reducible first | assumption | intro _ | apply State.modMb_kept | dsimp only

theorem State.placeKey_kept {orig s : State} (h : Kept orig s) (c : Nat) (n : Nat) :
    Kept orig (State.placeKey s c n).2 := by
  unfold State.placeKey
  repeat' with_reducible first | assumption | intro _ | apply State.notPlaced_kept | apply State.placed_kept | apply State.stow_kept | apply State.mbrShow_kept | apply State.recNow_kept | apply State.evAt_kept | dsimp only | split

theorem State.lossAdd_kept {orig s : State} (h : Kept orig s) (z : Nat) (cause : Nat) (off : Nat) (k : Nat) :
    Kept orig (State.lossAdd s z cause off k) := by
  unfold State.lossAdd
  repeat' with_reducible first | assumption | intro _ | apply State.mbrShow_kept | apply State.lossPut_kept | apply State.recIssue_kept | apply State.evAt_kept | apply State.detail_kept | apply State.modMb_kept | apply State.off_kept | apply ite_kept | dsimp only | split

theorem State.lossRange_kept {orig s : State} (h : Kept orig s) (n : Nat) (b0 : Nat) (k : Nat) (ps : List Nat) :
    Kept orig (State.lossRange s n b0 k ps) := by
  unfold State.lossRange
  repeat' with_reducible first | assumption | intro _ | apply State.lossAdd_kept | apply ite_kept | apply ite2_kept | apply foldl_kept | dsimp only | split

theorem State.lossAll_kept {orig s : State} (h : Kept orig s) (n : Nat) :
    Kept orig (State.lossAll s n) := by
  unfold State.lossAll
  repeat' with_reducible first | assumption | intro _ | apply State.lossRange_kept | apply foldl_kept | dsimp only

theorem State.enqueueReq_kept {orig s : State} (h : Kept orig s) (r : MReq) :
    Kept orig (State.enqueueReq s r) := by
  unfold State.enqueueReq
  repeat' with_reducible first | assumption | intro _ | apply State.modPort_kept | dsimp only

theorem State.makeRoom_kept {orig s : State} (h : Kept orig s)  :
    Kept orig (State.makeRoom s) := by
  unfold State.makeRoom
  repeat' with_reducible first | assumption | intro _ | apply State.toIdle_kept | apply ite_kept | dsimp only | split

theorem State.deferReq_kept {orig s : State} (h : Kept orig s) (r : MReq) :
    Kept orig (State.deferReq s r) := by
  unfold State.deferReq
  repeat' with_reducible first | assumption | intro _ | apply State.mbrShow_kept | apply State.modMb_kept | dsimp only

theorem State.addRecon_kept {orig s : State} (h : Kept orig s) (stripe : Nat) (pos : Nat) (b0 : Nat) (n : Nat) (tag : Nat) (idx : Nat) (cls : Nat) (retried : Bool) (noSrc : List Nat) :
    Kept orig (State.addRecon s stripe pos b0 n tag idx cls retried noSrc) := by
  unfold State.addRecon
  repeat' with_reducible first | assumption | intro _ | apply State.modMb_kept | apply ite_kept | apply ite2_kept | apply foldl_kept | apply foldlP_kept | dsimp only | split

theorem State.reconAgain_kept {orig s : State} (h : Kept orig s) (x : Recon) (retried : Bool) (noSrc : List Nat) :
    Kept orig (State.reconAgain s x retried noSrc) := by
  unfold State.reconAgain
  repeat' with_reducible first | assumption | intro _ | apply State.addRecon_kept | apply State.modMb_kept | apply foldl_kept | apply foldlP_kept | dsimp only

theorem State.reconRestart_kept {orig s : State} (h : Kept orig s) (j : Nat) (bad : List Nat) :
    Kept orig (State.reconRestart s j bad) := by
  unfold State.reconRestart
  repeat' with_reducible first | assumption | intro _ | apply State.reconAgain_kept | apply foldl_kept | dsimp only | split

theorem State.routeRead_kept {orig s : State} (h : Kept orig s) (stripe : Nat) (pos : Nat) (b0 : Nat) (n : Nat) (tag : Nat) (idx : Nat) (cls : Nat) :
    Kept orig (State.routeRead s stripe pos b0 n tag idx cls) := by
  unfold State.routeRead
  repeat' with_reducible first | assumption | intro _ | apply State.addRecon_kept | apply State.deferReq_kept | apply State.makeRoom_kept | apply State.enqueueReq_kept | apply State.modMb_kept | apply ite_kept | dsimp only | split

theorem State.sendWrite_kept {orig s : State} (h : Kept orig s) (d : Nat) (r : MReq) :
    Kept orig (State.sendWrite s d r) := by
  unfold State.sendWrite
  repeat' with_reducible first | assumption | intro _ | apply State.deferReq_kept | apply State.makeRoom_kept | apply State.enqueueReq_kept | dsimp only | split

theorem State.skipPos_kept {orig s : State} (h : Kept orig s) (k : Nat) (stripe : Nat) (pos : Nat) :
    Kept orig (State.skipPos s k stripe pos) := by
  unfold State.skipPos
  repeat' with_reducible first | assumption | intro _ | apply State.modSlot_kept | apply State.satInc_kept | apply ite_kept | dsimp only | split

theorem State.routeWrite_kept {orig s : State} (h : Kept orig s) (k : Nat) (stripe : Nat) (pos : Nat) (cls : Nat) (own : Owner) (blks : List Blk) :
    Kept orig (State.routeWrite s k stripe pos cls own blks).2 := by
  unfold State.routeWrite
  repeat' with_reducible first | assumption | intro _ | apply State.skipPos_kept | apply State.sendWrite_kept | apply State.deferReq_kept | apply State.placeKey_kept | apply State.stow_kept | apply State.modMb_kept | apply ite_kept | apply ite2_kept | refine snd_kept ?_ (by assumption) | refine snd3_kept ?_ (by assumption) | dsimp only | split

theorem State.redispatch1_kept {orig s : State} (h : Kept orig s) (r : MReq) :
    Kept orig (State.redispatch1 s r) := by
  unfold State.redispatch1
  repeat' with_reducible first | assumption | intro _ | apply State.sendWrite_kept | apply State.reconRestart_kept | apply State.addRecon_kept | apply State.deferReq_kept | apply State.makeRoom_kept | apply State.enqueueReq_kept | apply State.placeKey_kept | apply State.stow_kept | apply State.modMb_kept | apply ite_kept | refine snd_kept ?_ (by assumption) | refine snd3_kept ?_ (by assumption) | dsimp only | split

theorem State.redispatch_kept {orig s : State} (h : Kept orig s)  :
    Kept orig (State.redispatch s) := by
  unfold State.redispatch
  repeat' with_reducible first | assumption | intro _ | apply State.redispatch1_kept | apply State.mbrShow_kept | apply State.modMb_kept | apply foldl_kept | dsimp only

theorem State.takeUp_kept {orig s : State} (h : Kept orig s) (c : Nat) :
    Kept orig (State.takeUp s c) := by
  unfold State.takeUp
  repeat' with_reducible first | assumption | intro _ | apply State.redispatch1_kept | apply State.mbrShow_kept | apply State.modMb_kept | apply foldl_kept | dsimp only

theorem State.quiesce_kept {orig s : State} (h : Kept orig s) (n : Nat) :
    Kept orig (State.quiesce s n) := by
  unfold State.quiesce
  repeat' with_reducible first | assumption | intro _ | apply State.portLeave_kept | apply ite_kept | dsimp only | split

theorem State.powerDown_kept {orig s : State} (h : Kept orig s) (n : Nat) :
    Kept orig (State.powerDown s n) := by
  unfold State.powerDown
  repeat' with_reducible first | assumption | intro _ | apply State.portLeave_kept | apply State.modPort_kept | apply State.off_kept | apply ite_kept | dsimp only | split

theorem State.darken_kept {orig s : State} (h : Kept orig s) (c : Nat) (target : Nat) :
    Kept orig (State.darken s c target) := by
  unfold State.darken
  repeat' with_reducible first | assumption | intro _ | apply State.quiesce_kept | apply State.takeUp_kept | apply State.redispatch1_kept | apply State.setPs_kept | apply State.modPower_kept | apply State.modPort_kept | apply foldl_kept | apply foldlP_kept | dsimp only | split

theorem State.zmpShow_kept {orig s : State} (h : Kept orig s)  :
    Kept orig (State.zmpShow s) := by
  unfold State.zmpShow
  repeat' with_reducible first | assumption | intro _ | apply State.put_kept | apply ite_kept | dsimp only | split

theorem State.openStripe_kept {orig s : State} (h : Kept orig s) (k : Nat) :
    Kept orig (State.openStripe s k) := by
  unfold State.openStripe
  repeat' with_reducible first | assumption | intro _ | apply State.stow_kept | dsimp only | split

theorem State.activate_kept {orig s : State} (h : Kept orig s) (z : Nat) (st : Nat) (k : Nat) :
    Kept orig (State.activate s z st k) := by
  unfold State.activate
  repeat' with_reducible first | assumption | intro _ | apply State.openStripe_kept | apply State.zmpShow_kept | apply State.modZone_kept | apply State.setSlot_kept | apply State.fresh_kept | apply ite_kept | refine snd_kept ?_ (by assumption) | refine snd3_kept ?_ (by assumption) | dsimp only | split

theorem State.unqueue_kept {orig s : State} (h : Kept orig s) (k : Nat) (p : MReq → Bool) :
    Kept orig (State.unqueue s k p) := by
  unfold State.unqueue
  repeat' with_reducible first | assumption | intro _ | apply State.modMb_kept | dsimp only

theorem State.reown_kept {orig s : State} (h : Kept orig s) (k : Nat) (p : MReq → Bool) (own : Owner) :
    Kept orig (State.reown s k p own) := by
  unfold State.reown
  repeat' with_reducible first | assumption | intro _ | apply State.modMb_kept | apply ite_kept | dsimp only | split

theorem State.orphan_kept {orig s : State} (h : Kept orig s) (k : Nat) (p : MReq → Bool) :
    Kept orig (State.orphan s k p) := by
  unfold State.orphan
  repeat' with_reducible first | assumption | intro _ | apply State.reown_kept | apply State.unqueue_kept

theorem State.tailsDrop_kept {orig s : State} (h : Kept orig s) (k : Nat) (p : Blk → Bool) :
    Kept orig (State.tailsDrop s k p) := by
  unfold State.tailsDrop
  repeat' with_reducible first | assumption | intro _ | apply State.modNv_kept | apply State.modJn_kept | dsimp only

theorem State.slotFree_kept {orig s : State} (h : Kept orig s) (k : Nat) :
    Kept orig (State.slotFree s k) := by
  unfold State.slotFree
  repeat' with_reducible first | assumption | intro _ | apply State.tailsDrop_kept | apply State.reown_kept | apply State.unqueue_kept | apply State.zmpShow_kept | apply State.setSlot_kept | apply ite_kept | dsimp only | split

theorem State.slotDrained_kept {orig s : State} (h : Kept orig s) (k : Nat) :
    Kept orig (State.slotDrained s k) := by
  unfold State.slotDrained
  repeat' with_reducible first | assumption | intro _ | apply State.zmpShow_kept | apply State.modSlot_kept | apply State.setSlot_kept | apply ite_kept | dsimp only | split

theorem State.tailPut_kept {orig s : State} (h : Kept orig s) (k : Nat) (j : Nat) (t : Nat) :
    Kept orig (State.tailPut s k j t) := by
  unfold State.tailPut
  repeat' with_reducible first | assumption | intro _ | apply State.mirCopy_kept | apply State.wearAdd_kept | apply State.modCmd_kept | apply State.modNv_kept | apply State.modJn_kept | refine snd_kept ?_ (by assumption) | refine snd3_kept ?_ (by assumption) | dsimp only | split

theorem State.tailIssue_kept {orig s : State} (h : Kept orig s) (k : Nat) (j : Nat) (t : Nat) :
    Kept orig (State.tailIssue s k j t) := by
  unfold State.tailIssue
  repeat' with_reducible first | assumption | intro _ | apply State.tailPut_kept | apply State.modCmd_kept | apply State.modSlot_kept | apply ite_kept | dsimp only | split

theorem State.tailResume_kept {orig s : State} (h : Kept orig s) (k : Nat) :
    Kept orig (State.tailResume s k) := by
  unfold State.tailResume
  repeat' with_reducible first | assumption | intro _ | apply State.tailPut_kept | apply State.modSlot_kept | apply ite_kept | apply ite2_kept | apply foldl_kept | apply foldlP_kept | dsimp only | split

theorem State.tailBad_kept {orig s : State} (h : Kept orig s) (k : Nat) (pos : Nat) (j : Nat) (t : Blk) (e : Seal) :
    Kept orig (State.tailBad s k pos j t e) := by
  unfold State.tailBad
  repeat' with_reducible first | assumption | intro _ | apply State.linesRetire_kept | apply State.sealMismatch_kept | apply State.event_kept | apply State.satInc_kept | dsimp only

theorem State.tailLost_kept {orig s : State} (h : Kept orig s) (k : Nat) (o : Nat) (e : Seal) :
    Kept orig (State.tailLost s k o e).2 := by
  unfold State.tailLost
  repeat' with_reducible first | assumption | intro _ | apply State.lossAdd_kept | apply State.evAt_kept | dsimp only

theorem State.tailRead_kept {orig s : State} (h : Kept orig s) (k : Nat) :
    Kept orig (State.tailRead s k).2 := by
  unfold State.tailRead
  repeat' with_reducible first | assumption | intro _ | apply State.tailLost_kept | apply State.tailBad_kept | apply ite_kept | apply ite2_kept | apply foldl_kept | apply foldlP_kept | refine snd_kept ?_ (by assumption) | refine snd3_kept ?_ (by assumption) | dsimp only | split

theorem State.stripFull_kept {orig s0 : State} (h : Kept orig s0) (k : Nat) (t : Nat) :
    Kept orig (State.stripFull s0 k t) := by
  unfold State.stripFull
  repeat' with_reducible first | assumption | intro _ | apply State.tailRead_kept | apply State.tailsDrop_kept | apply State.routeWrite_kept | apply State.modCmd_kept | apply State.modSlot_kept | apply ite_kept | apply ite2_kept | apply foldl_kept | apply foldlP_kept | refine snd_kept ?_ (by assumption) | refine snd3_kept ?_ (by assumption) | dsimp only | split

theorem State.foldOne_kept {orig s : State} (h : Kept orig s) (k : Nat) (t : Nat) (b : Blk) :
    Kept orig (State.foldOne s k t b) := by
  unfold State.foldOne
  repeat' with_reducible first | assumption | intro _ | apply State.stripFull_kept | apply State.tailIssue_kept | apply State.modCmd_kept | apply State.setSlot_kept | apply State.modMb_kept | apply State.off_kept | apply ite_kept | apply ite2_kept | apply foldl_kept | dsimp only | split

theorem State.closeStart_kept {orig s : State} (h : Kept orig s) (k : Nat) :
    Kept orig (State.closeStart s k) := by
  unfold State.closeStart
  repeat' with_reducible first | assumption | intro _ | apply State.routeWrite_kept | apply State.modSlot_kept | refine snd_kept ?_ (by assumption) | refine snd3_kept ?_ (by assumption) | dsimp only | split

theorem State.surplus_kept {orig s : State} (h : Kept orig s) (k : List (Nat × Nat × Nat)) :
    Kept orig (State.surplus s k) := by
  unfold State.surplus
  repeat' with_reducible first | assumption | intro _ | apply State.recNow_kept | apply foldl_kept | apply foldlP_kept | dsimp only | split

theorem State.skipsOut_kept {orig s : State} (h : Kept orig s) (k : Nat) :
    Kept orig (State.skipsOut s k) := by
  unfold State.skipsOut
  repeat' with_reducible first | assumption | intro _ | apply State.surplus_kept | apply State.mbrShow_kept | apply State.modSlot_kept | apply ite_kept | dsimp only | split

theorem State.closeEnd_kept {orig s0 : State} (h : Kept orig s0) (k : Nat) :
    Kept orig (State.closeEnd s0 k) := by
  unfold State.closeEnd
  repeat' with_reducible first | assumption | intro _ | apply State.skipsOut_kept | apply State.openStripe_kept | apply State.modCmd_kept | apply State.modSlot_kept | apply State.setSlot_kept | apply State.fresh_kept | apply ite_kept | refine snd_kept ?_ (by assumption) | refine snd3_kept ?_ (by assumption) | dsimp only | split

theorem State.recompute_kept {orig s : State} (h : Kept orig s) (z : Nat) (k : Nat) (tgt : Nat) :
    Kept orig (State.recompute s z k tgt) := by
  unfold State.recompute
  repeat' with_reducible first | assumption | intro _ | apply State.tailsDrop_kept | apply State.orphan_kept | apply State.openStripe_kept | apply State.event_kept | apply State.setSlot_kept | apply State.fresh_kept | apply ite_kept | refine snd_kept ?_ (by assumption) | refine snd3_kept ?_ (by assumption) | dsimp only | split

theorem State.recForget_kept {orig s : State} (h : Kept orig s) (t : Nat) :
    Kept orig (State.recForget s t) := by
  unfold State.recForget
  repeat' with_reducible first | assumption | intro _ | apply State.modNv_kept | apply State.modJn_kept | apply ite_kept | dsimp only | split

theorem State.rollback_kept {orig s0 : State} (h : Kept orig s0) (t : Nat) :
    Kept orig (State.rollback s0 t) := by
  unfold State.rollback
  repeat' with_reducible first | assumption | intro _ | apply State.recForget_kept | apply State.recompute_kept | apply State.slotFree_kept | apply State.cmdEnd_kept | apply State.modZone_kept | apply State.modCmd_kept | apply State.modFr_kept | apply ite_kept | apply ite2_kept | apply foldl_kept | apply foldlP_kept | dsimp only | split

theorem State.cmdFail_kept {orig s : State} (h : Kept orig s) (t : Nat) (status : Nat) (dnr : Bool) :
    Kept orig (State.cmdFail s t status dnr) := by
  unfold State.cmdFail
  repeat' with_reducible first | assumption | intro _ | apply State.rollback_kept | apply State.cmdEnd_kept | apply ite_kept | dsimp only | split

theorem State.foldBad_kept {orig s : State} (h : Kept orig s) (k : Nat) (t : Nat) (b : Blk) :
    Kept orig (State.foldBad s k t b) := by
  unfold State.foldBad
  repeat' with_reducible first | assumption | intro _ | apply State.cmdFail_kept | apply State.sealMismatch_kept | apply State.event_kept | apply State.count_kept | apply State.satInc_kept | dsimp only

theorem State.padStrip_kept {orig s : State} (h : Kept orig s) (k : Nat) :
    Kept orig (State.padStrip s k) := by
  unfold State.padStrip
  repeat' with_reducible first | assumption | intro _ | apply State.stripFull_kept | apply State.setSlot_kept | apply foldl_kept | apply foldlP_kept | dsimp only

theorem State.pumpSlot_kept {orig s : State} (h : Kept orig s) (k : Nat) :
    ∀ fuel, Kept orig (State.pumpSlot s k fuel) := by
  intro fuel
  induction fuel generalizing s with
  | zero => exact h
  | succ fuel ih =>
    unfold State.pumpSlot
    repeat' with_reducible first | assumption | intro _ | apply ih | apply State.padStrip_kept | apply State.foldBad_kept | apply State.closeEnd_kept | apply State.closeStart_kept | apply State.foldOne_kept | apply ite_kept | dsimp only | split

theorem State.recordPiece_kept {orig s : State} (h : Kept orig s) (z : Nat) (t : Nat) (c : Cmd) :
    Kept orig (State.recordPiece s z t c) := by
  unfold State.recordPiece
  repeat' with_reducible first | assumption | intro _ | apply State.surplus_kept | apply State.mbrShow_kept | apply State.recIssue_kept | apply State.setCmd_kept | apply State.modSlot_kept | apply ite_kept | apply optGetD_kept | apply optOr_kept | dsimp only | split

theorem State.commitZone_kept {orig s : State} (h : Kept orig s) (z : Nat) :
    Kept orig (State.commitZone s z) := by
  unfold State.commitZone
  repeat' with_reducible first | assumption | intro _ | apply State.recordPiece_kept | dsimp only | split

theorem State.pump_kept {orig s : State} (h : Kept orig s) (z : Nat) :
    Kept orig (State.pump s z) := by
  unfold State.pump
  repeat' with_reducible first | assumption | intro _ | apply State.commitZone_kept | apply State.pumpSlot_kept | apply ite_kept | dsimp only | split

theorem State.logFill_kept {orig s : State} (h : Kept orig s)  :
    ∀ fuel, Kept orig (State.logFill s fuel) := by
  intro fuel
  induction fuel generalizing s with
  | zero => exact h
  | succ fuel ih =>
    unfold State.logFill
    repeat' with_reducible first | assumption | intro _ | apply ih | apply State.activate_kept | apply ite_kept | dsimp only | split

theorem State.zoneSettle_kept {orig s : State} (h : Kept orig s) (z : Nat) :
    Kept orig (State.zoneSettle s z) := by
  unfold State.zoneSettle
  repeat' with_reducible first | assumption | intro _ | apply State.slotFree_kept | apply State.activate_kept | apply ite_kept | dsimp only | split

theorem State.zoneReadOnly_kept {orig s : State} (h : Kept orig s) (z : Nat) :
    Kept orig (State.zoneReadOnly s z) := by
  unfold State.zoneReadOnly
  repeat' with_reducible first | assumption | intro _ | apply State.zoneSettle_kept | apply State.recNow_kept | apply State.evAt_kept | apply State.cmdEnd_kept | apply State.notifyAll_kept | apply State.modCmd_kept | apply State.modFr_kept | apply ite_kept | apply ite2_kept | apply foldl_kept | apply foldlP_kept | dsimp only | split

theorem State.darkRecord_kept {orig s : State} (h : Kept orig s)  :
    Kept orig (State.darkRecord s) := by
  unfold State.darkRecord
  repeat' with_reducible first | assumption | intro _ | apply State.recIssue_kept

theorem State.joinStep_kept {orig s : State} (h : Kept orig s) (c : Nat) :
    Kept orig (State.joinStep s c) := by
  unfold State.joinStep
  repeat' with_reducible first | assumption | intro _ | apply State.darken_kept | apply State.takeUp_kept | apply State.setPs_kept | apply State.mbrShow_kept | apply State.modPower_kept | apply State.modMb_kept | apply ite_kept | dsimp only | split

theorem State.darkPhase_kept {orig s : State} (h : Kept orig s)  :
    Kept orig (State.darkPhase s) := by
  unfold State.darkPhase
  repeat' with_reducible first | assumption | intro _ | apply State.joinStep_kept | apply State.darkRecord_kept | apply State.evAt_kept | apply State.modMb_kept | apply ite_kept | apply ite2_kept | apply foldl_kept | apply foldlP_kept | dsimp only | split

theorem State.darkChange_kept {orig s : State} (h : Kept orig s) (d : List Nat) :
    Kept orig (State.darkChange s d) := by
  unfold State.darkChange
  repeat' with_reducible first | assumption | intro _ | apply State.darkPhase_kept | apply State.stow_kept | apply State.modMb_kept | apply ite_kept | apply ite2_kept | apply foldl_kept | dsimp only | split

theorem State.limitMove_kept {orig s : State} (h : Kept orig s)  :
    Kept orig (State.limitMove s).2 := by
  unfold State.limitMove
  repeat' with_reducible first | assumption | intro _ | apply State.stow_kept | apply State.evAt_kept | apply State.modMb_kept | apply foldl_kept | apply foldlP_kept | dsimp only | split

theorem State.limitFall_kept {orig s : State} (h : Kept orig s)  :
    Kept orig (State.limitFall s) := by
  unfold State.limitFall
  repeat' with_reducible first | assumption | intro _ | apply State.limitMove_kept | apply State.darkChange_kept | apply ite_kept | refine snd_kept ?_ (by assumption) | refine snd3_kept ?_ (by assumption) | dsimp only | split

theorem State.askPower_kept {orig s : State} (h : Kept orig s) (n : Nat) (probe : Bool) :
    Kept orig (State.askPower s n probe) := by
  unfold State.askPower
  repeat' with_reducible first | assumption | intro _ | apply State.modPort_kept | apply State.on_kept | apply ite_kept | dsimp only | split

theorem State.wakeStart_kept {orig s : State} (h : Kept orig s) (c : Nat) :
    Kept orig (State.wakeStart s c) := by
  unfold State.wakeStart
  repeat' with_reducible first | assumption | intro _ | apply State.askPower_kept | apply State.setPs_kept | apply State.modPower_kept | dsimp only

theorem State.probeStart_kept {orig s : State} (h : Kept orig s) (n : Nat) :
    Kept orig (State.probeStart s n) := by
  unfold State.probeStart
  repeat' with_reducible first | assumption | intro _ | apply State.askPower_kept | apply State.modPort_kept | dsimp only

theorem State.wakes_kept {orig s : State} (h : Kept orig s)  :
    Kept orig (State.wakes s) := by
  unfold State.wakes
  repeat' with_reducible first | assumption | intro _ | apply State.probeStart_kept | apply State.wakeStart_kept | apply ite_kept | apply ite2_kept | apply foldl_kept | dsimp only | split

theorem State.domainClose_kept {orig s : State} (h : Kept orig s) (d : Nat) :
    Kept orig (State.domainClose s d) := by
  unfold State.domainClose
  repeat' with_reducible first | assumption | intro _ | apply State.darken_kept | apply ite_kept | apply ite2_kept | apply foldl_kept | dsimp only | split

theorem State.gatesAct_kept {orig s : State} (h : Kept orig s)  :
    Kept orig (State.gatesAct s) := by
  unfold State.gatesAct
  repeat' with_reducible first | assumption | intro _ | apply State.domainClose_kept | apply State.wakes_kept | apply State.modMb_kept | apply State.on_kept | apply foldl_kept | dsimp only

theorem State.writeOver_kept {orig s : State} (h : Kept orig s) (own : Owner) (stripe : Nat) (pos : Nat) :
    Kept orig (State.writeOver s own stripe pos) := by
  unfold State.writeOver
  repeat' with_reducible first | assumption | intro _ | apply State.pump_kept | apply State.tailResume_kept | apply State.slotDrained_kept | apply State.tailsDrop_kept | apply State.modCmd_kept | apply State.modSlot_kept | apply ite_kept | apply ite2_kept | apply foldl_kept | dsimp only | split

theorem State.reroute_kept {orig s : State} (h : Kept orig s) (r : MReq) :
    Kept orig (State.reroute s r) := by
  unfold State.reroute
  repeat' with_reducible first | assumption | intro _ | apply State.writeOver_kept | apply State.redispatch1_kept | apply State.skipPos_kept | apply State.reconRestart_kept | apply State.evAt_kept | apply ite_kept | dsimp only | split

theorem State.critShow_kept {orig s : State} (h : Kept orig s)  :
    Kept orig (State.critShow s) := by
  unfold State.critShow
  repeat' with_reducible first | assumption | intro _ | apply State.putB_kept | dsimp only

theorem State.ctxStart_kept {orig s : State} (h : Kept orig s) (c : Nat) :
    Kept orig (State.ctxStart s c) := by
  unfold State.ctxStart
  repeat' with_reducible first | assumption | intro _ | apply State.critShow_kept | apply State.stow_kept | apply State.setCol_kept | apply State.mbrShow_kept | apply State.evAt_kept | apply State.modMb_kept | apply ite_kept | apply ite2_kept | apply foldl_kept | dsimp only | split

theorem State.ctxRenumber_kept {orig s : State} (h : Kept orig s)  :
    Kept orig (State.ctxRenumber s) := by
  unfold State.ctxRenumber
  repeat' with_reducible first | assumption | intro _ | apply State.setCol_kept | apply foldl_kept | apply optGetD_kept | apply optOr_kept | dsimp only

theorem State.ctxEnd_kept {orig s : State} (h : Kept orig s) (c : Nat) :
    Kept orig (State.ctxEnd s c) := by
  unfold State.ctxEnd
  repeat' with_reducible first | assumption | intro _ | apply State.ctxRenumber_kept | apply State.ctxStart_kept | apply State.critShow_kept | apply State.darkChange_kept | apply State.mbrShow_kept | apply State.modCol_kept | apply State.modMb_kept | apply ite_kept | dsimp only | split

theorem State.keepersShow_kept {orig s : State} (h : Kept orig s)  :
    Kept orig (State.keepersShow s) := by
  unfold State.keepersShow
  repeat' with_reducible first | assumption | intro _ | apply State.put_kept | apply ite_kept | apply ite2_kept | apply foldl_kept | dsimp only | split

theorem State.keeperChoose_kept {orig s1 : State} (h : Kept orig s1) (i : Nat) :
    Kept orig (State.keeperChoose s1 i) := by
  unfold State.keeperChoose
  repeat' with_reducible first | assumption | intro _ | apply State.keepersShow_kept | apply State.recNow_kept | apply State.modNv_kept | apply State.modJn_kept | apply ite_kept | apply optGetD_kept | apply optOr_kept | dsimp only | split

theorem State.keeperReplace_kept {orig s : State} (h : Kept orig s) (i : Nat) :
    Kept orig (State.keeperReplace s i) := by
  unfold State.keeperReplace
  repeat' with_reducible first | assumption | intro _ | apply State.keeperChoose_kept | apply State.evAt_kept | apply State.put_kept

theorem State.keepersRetry_kept {orig s : State} (h : Kept orig s)  :
    Kept orig (State.keepersRetry s) := by
  unfold State.keepersRetry
  repeat' with_reducible first | assumption | intro _ | apply State.keeperChoose_kept | apply foldl_kept | dsimp only

theorem State.freeExtents_kept {orig s : State} (h : Kept orig s) (l : List Extent) :
    Kept orig (State.freeExtents s l) := by
  unfold State.freeExtents
  repeat' with_reducible first | assumption | intro _ | apply State.recNow_kept | apply foldl_kept | dsimp only

theorem State.holderFail_kept {orig s : State} (h : Kept orig s) (d : Nat) :
    Kept orig (State.holderFail s d) := by
  unfold State.holderFail
  repeat' with_reducible first | assumption | intro _ | apply State.freeExtents_kept | apply State.ctxStart_kept | apply State.limitFall_kept | apply State.setCol_kept | apply State.modMb_kept | apply ite_kept | apply ite2_kept | apply foldl_kept | apply foldlP_kept | apply optGetD_kept | apply optOr_kept | dsimp only | split

theorem State.stripeGone_kept {orig s : State} (h : Kept orig s) (n : Nat) :
    Kept orig (State.stripeGone s n) := by
  unfold State.stripeGone
  repeat' with_reducible first | assumption | intro _ | apply State.zoneReadOnly_kept | apply State.evAt_kept | apply ite_kept | dsimp only | split

theorem State.tripleCheck_kept {orig s : State} (h : Kept orig s)  :
    Kept orig (State.tripleCheck s) := by
  unfold State.tripleCheck
  repeat' with_reducible first | assumption | intro _ | apply State.zoneReadOnly_kept | apply State.lossAll_kept | apply State.evAt_kept | apply ite_kept | apply ite2_kept | apply foldl_kept | apply foldlP_kept | dsimp only | split

theorem State.takeBack_kept {orig s : State} (h : Kept orig s) (c : Nat) :
    Kept orig (State.takeBack s c) := by
  unfold State.takeBack
  repeat' with_reducible first | assumption | intro _ | apply State.endRequests_kept | apply State.modMb_kept | dsimp only

theorem State.failColumn_kept {orig s : State} (h : Kept orig s) (c : Nat) (cause : Nat) :
    Kept orig (State.failColumn s c cause) := by
  unfold State.failColumn
  repeat' with_reducible first | assumption | intro _ | apply State.takeBack_kept | apply State.tripleCheck_kept | apply State.holderFail_kept | apply State.keeperReplace_kept | apply State.ctxStart_kept | apply State.limitMove_kept | apply State.powerDown_kept | apply State.setCol_kept | apply State.mbrShow_kept | apply State.evAt_kept | apply State.modPower_kept | apply State.modMb_kept | apply ite_kept | refine snd_kept ?_ (by assumption) | refine snd3_kept ?_ (by assumption) | dsimp only | split

theorem State.absentColumn_kept {orig s : State} (h : Kept orig s) (c : Nat) :
    Kept orig (State.absentColumn s c) := by
  unfold State.absentColumn
  repeat' with_reducible first | assumption | intro _ | apply State.failColumn_kept | apply State.takeBack_kept | apply State.tripleCheck_kept | apply State.wakeStart_kept | apply State.limitFall_kept | apply State.setCol_kept | apply State.mbrShow_kept | apply State.evAt_kept | apply State.modPower_kept | apply State.modMb_kept | apply ite_kept | dsimp only | split

theorem State.onSlot_kept {orig s : State} (h : Kept orig s) (n : Nat) {f : State → Nat → State}
    (hf : ∀ s c, Kept orig s → Kept orig (f s c)) : Kept orig (s.onSlot n f) := by
  unfold State.onSlot
  split
  · exact hf _ _ h
  · exact h

theorem State.awaitAbsent_kept {orig s : State} (h : Kept orig s) (n : Nat) (c : Nat) :
    Kept orig (State.awaitAbsent s n c) := by
  unfold State.awaitAbsent
  repeat' with_reducible first | assumption | intro _ | apply State.modPort_kept | apply ite_kept | dsimp only | split

theorem State.wakeFail_kept {orig s : State} (h : Kept orig s) (c : Nat) :
    Kept orig (State.wakeFail s c) := by
  unfold State.wakeFail
  repeat' with_reducible first | assumption | intro _ | apply State.failColumn_kept | apply State.powerDown_kept | apply State.evAt_kept

theorem State.tamperPend_kept {orig s : State} (h : Kept orig s)  :
    Kept orig (State.tamperPend s) := by
  unfold State.tamperPend
  repeat' with_reducible first | assumption | intro _ | apply State.setN_kept | dsimp only

theorem risingFrom_filter {α : Type} (p : Nat × α → Bool) {l : List (Nat × α)} {lo : Nat} (h : risingFrom lo l = true) :
    risingFrom lo (l.filter p) = true := by
  induction l generalizing lo with
  | nil => rfl
  | cons x l ih =>
    simp only [risingFrom, Bool.and_eq_true, decide_eq_true_eq] at h
    simp only [List.filter_cons]
    split
    · simp only [risingFrom, Bool.and_eq_true, decide_eq_true_eq]
      exact ⟨h.1, ih h.2⟩
    · exact ih (risingFrom_weaken h.2 (Nat.le_succ_of_le h.1))

theorem regResets_ok : canonTab regResets 0 = true := by decide +kernel

theorem regsAfterReset_ok (r : Tab Word) : canonTab (regsAfterReset r) 0 = true := by
  have base : RegsOk (regResets.filter fun x => !keptAcross x.1) := by
    have h := canonTab_ok.1 regResets_ok
    exact ⟨risingFrom_filter _ h.1, fun x hx => h.2 x (List.mem_filter.1 hx).1⟩
  refine canonTab_ok.2 ?_
  unfold regsAfterReset
  generalize r.filter (fun x => keptAcross x.1) = l
  generalize regResets.filter (fun x => !keptAcross x.1) = t at base
  induction l generalizing t with
  | nil => exact base
  | cons x l ih => exact ih _ (canon_tputD 0 base.1 base.2 x.1 x.2)

theorem State.coreResetRaw_kept {orig s : State} (h : Kept orig s) (cause : Nat) : Kept orig (s.coreResetRaw cause) := by
  unfold State.coreResetRaw State.tamperPend
  dsimp only
  with_reducible apply State.setN_kept
  with_reducible apply State.put_kept
  with_reducible apply State.off_kept
  with_reducible apply State.off_kept
  with_reducible apply State.off_kept
  with_reducible apply State.off_kept
  refine ⟨h.pending, h.fuse, h.now, fun _ => ?_⟩
  simp only [State.canon, Bool.and_eq_true]
  exact ⟨⟨regsAfterReset_ok _, by decide⟩, by decide⟩

theorem State.coreReset_kept {orig s : State} (h : Kept orig s) (cause : Nat) :
    Kept orig (State.coreReset s cause) := by
  unfold State.coreReset
  repeat' with_reducible first | assumption | intro _ | apply State.coreResetRaw_kept | apply State.carFlush_kept

theorem State.powerReset_kept {orig s : State} (h : Kept orig s) : Kept orig s.powerReset :=
  ⟨h.pending, h.fuse, h.now, fun _ => by
    simp only [State.canon, Bool.and_eq_true]
    exact ⟨⟨regResets_ok, rfl⟩, rfl⟩⟩

theorem State.settleFails_kept {orig s : State} (h : Kept orig s)  :
    Kept orig (State.settleFails s) := by
  unfold State.settleFails
  repeat' with_reducible first | assumption | intro _ | apply State.wakeFail_kept | apply State.onSlot_kept | apply State.failColumn_kept | apply State.modMb_kept | apply ite_kept | apply ite2_kept | apply foldl_kept | apply foldlP_kept | dsimp only | split

theorem State.settleReqs_kept {orig s : State} (h : Kept orig s)  :
    Kept orig (State.settleReqs s) := by
  unfold State.settleReqs
  repeat' with_reducible first | assumption | intro _ | apply State.reroute_kept | apply State.modMb_kept | apply foldl_kept | dsimp only

theorem State.presenceLost_kept {orig s : State} (h : Kept orig s) (n : Nat) :
    Kept orig (State.presenceLost s n) := by
  unfold State.presenceLost
  repeat' with_reducible first | assumption | intro _ | apply State.onSlot_kept | apply State.absentColumn_kept | apply State.setCol_kept | apply State.eventHeld_kept | apply State.event_kept | apply State.portDrop_kept | apply State.modPort_kept | apply State.putBit64_kept | apply State.off_kept | apply ite_kept | dsimp only | split

theorem State.settlePresence_kept {orig s : State} (h : Kept orig s)  :
    Kept orig (State.settlePresence s) := by
  unfold State.settlePresence
  repeat' with_reducible first | assumption | intro _ | apply State.presenceLost_kept | apply foldl_kept | dsimp only

theorem State.settle_kept {orig s : State} (h : Kept orig s)  :
    Kept orig (State.settle s) := by
  unfold State.settle
  repeat' with_reducible first | assumption | intro _ | apply State.settlePresence_kept | apply State.settleReqs_kept | apply State.settleFails_kept | apply State.gatesAct_kept | apply State.limitFall_kept | apply State.takeoverEnd_kept | apply ite_kept | dsimp only | split

end Sys2Proof.Machine
end

