-- ==== Sys2Proof/Laws/KeptData.lean ====
section
/-! SUPPORT. What every operation keeps (Kept), one lemma per operation and per meaning: the data path: I/O commands, connections, commits, keys, namespaces, replay, mirror. -/

namespace Sys2Proof.Machine
open Sys2Proof

theorem State.enter_kept {orig s : State} (h : Kept orig s) (t : Nat) (cap : Capsule) (cls : Nat) (host : Nat) (arrival : Nat) (marked : Bool) :
    Kept orig (State.enter s t cap cls host arrival marked) := by
  unfold State.enter
  repeat' with_reducible first | assumption | intro _ | apply State.cmdEnd_kept | apply State.nvqShow_kept | apply State.event_kept | apply State.count_kept | apply State.setCmd_kept | apply State.modFr_kept | apply ite_kept | dsimp only | split

theorem State.acceptFrom_kept {orig s : State} (h : Kept orig s) (q : Queue) (cls : Nat) :
    Kept orig (State.acceptFrom s q cls) := by
  unfold State.acceptFrom
  repeat' with_reducible first | assumption | intro _ | apply State.enter_kept | apply State.passOn_kept | apply State.respond_kept | apply State.modQueue_kept | apply ite_kept | dsimp only | split

theorem State.commandAccept_kept {orig s : State} (h : Kept orig s)  :
    Kept orig (State.commandAccept s) := by
  unfold State.commandAccept
  repeat' with_reducible first | assumption | intro _ | apply State.acceptFrom_kept | apply State.event_kept | apply State.modFr_kept | apply ite_kept | dsimp only | split

theorem execCommandAccept_kept {orig s : State} (h : Kept orig s) (fixed : List Nat) :
    OutKept orig (execCommandAccept fixed s) := by
  unfold execCommandAccept
  repeat' with_reducible first | assumption | intro _ | apply State.commandAccept_kept | apply State.linesRetire_kept | apply next_kept | apply ite_kept | apply outIte_kept | dsimp only | split

theorem State.forwardIn_kept {orig s : State} (h : Kept orig s) (cap : Capsule) (blks : List HostBlk) :
    Kept orig (State.forwardIn s cap blks) := by
  unfold State.forwardIn
  repeat' with_reducible first | assumption | intro _ | apply State.modQueue_kept | apply State.modFr_kept | apply ite_kept | dsimp only | split

theorem execForwardedCommandReceive_kept {orig s : State} (h : Kept orig s) (cap : Capsule) (blks : List HostBlk) :
    OutKept orig (execForwardedCommandReceive cap blks s) := by
  unfold execForwardedCommandReceive
  repeat' with_reducible first | assumption | intro _ | apply State.forwardIn_kept | apply next_kept | apply ite_kept | apply outIte_kept | dsimp only | split

theorem State.begin4_kept {orig s : State} (h : Kept orig s) (t : Nat) (ops : List IoOp) {f : State → Cmd → IoCmd → Ns → State}
    (hf : ∀ s c io n, Kept orig s → Kept orig (f s c io n)) : Kept orig (s.begin4 t ops f) := by
  unfold State.begin4
  repeat' (first | with_reducible assumption | intro _ | with_reducible apply ite_kept | with_reducible apply hf | with_reducible apply State.adminDone_kept | with_reducible apply State.cmdEnd_kept | with_reducible apply State.setCmd_kept | with_reducible apply State.cmdLeave_kept | with_reducible apply State.passOn_kept | with_reducible apply State.event_kept | dsimp only | split)

theorem State.laneUse_kept {orig s : State} (h : Kept orig s) (c : Cmd) (nsid : Nat) (k : Nat) :
    Kept orig (State.laneUse s c nsid k) := by
  unfold State.laneUse
  repeat' with_reducible first | assumption | intro _ | apply State.count_kept | apply State.modKeys_kept | apply State.add64_kept | apply ite_kept | dsimp only | split

theorem State.keyMissing_kept {orig s : State} (h : Kept orig s) (t : Nat) :
    Kept orig (State.keyMissing s t) := by
  unfold State.keyMissing
  repeat' with_reducible first | assumption | intro _ | apply State.cmdFail_kept | apply State.event_kept

theorem State.egress_kept {orig s : State} (h : Kept orig s) (t : Nat) (c : Cmd) (io : IoCmd) (n : Ns) :
    Kept orig (State.egress s t c io n) := by
  unfold State.egress
  repeat' with_reducible first | assumption | intro _ | apply State.keyMissing_kept | apply State.laneUse_kept | apply State.cmdFail_kept | apply State.addRecon_kept | apply State.cmdEnd_kept | apply State.connSend_kept | apply State.sendInter_kept | apply State.sealMismatch_kept | apply State.event_kept | apply State.count_kept | apply State.setCmd_kept | apply State.emit_kept | apply State.satInc_kept | apply ite_kept | apply ite2_kept | apply foldl_kept | apply foldlP_kept | dsimp only | split

theorem State.reserve_kept {orig s : State} (h : Kept orig s) (t : Nat) (c : Cmd) (io : IoCmd) (z : Nat) :
    Kept orig (State.reserve s t c io z) := by
  unfold State.reserve
  repeat' with_reducible first | assumption | intro _ | apply State.activate_kept | apply State.modZone_kept | apply State.setCmd_kept | apply State.modSlot_kept | apply ite_kept | dsimp only | split

theorem State.logPad_kept {orig s : State} (h : Kept orig s) (z : Nat) :
    Kept orig (State.logPad s z) := by
  unfold State.logPad
  repeat' with_reducible first | assumption | intro _ | apply State.pump_kept | apply State.modZone_kept | apply State.setCmd_kept | apply ite_kept | dsimp only | split

theorem State.moveGot_kept {orig s : State} (h : Kept orig s) (t : Nat) (c : Cmd) (b : Blk) :
    Kept orig (State.moveGot s t c b) := by
  unfold State.moveGot
  repeat' with_reducible first | assumption | intro _ | apply State.logPad_kept | apply State.reserve_kept | apply State.logFill_kept | apply State.pump_kept | apply State.modCmd_kept | apply State.modFr_kept | apply ite_kept | apply ite2_kept | apply foldl_kept | dsimp only | split

theorem State.readHeld_kept {orig s : State} (h : Kept orig s) (t : Nat) :
    Kept orig (State.readHeld s t) := by
  unfold State.readHeld
  repeat' with_reducible first | assumption | intro _ | apply State.egress_kept | apply State.cmdFail_kept | apply State.release_kept | apply ite_kept | dsimp only | split

theorem State.readGot_kept {orig s : State} (h : Kept orig s) (t : Nat) (i : Nat) (blks : List Blk) :
    Kept orig (State.readGot s t i blks) := by
  unfold State.readGot
  repeat' with_reducible first | assumption | intro _ | apply State.readHeld_kept | apply State.moveGot_kept | apply State.setCmd_kept | apply ite_kept | apply ite2_kept | apply foldl_kept | apply foldlP_kept | dsimp only | split

theorem State.readStart_kept {orig s : State} (h : Kept orig s) (t : Nat) (c : Cmd) (io : IoCmd) (n : Ns) :
    Kept orig (State.readStart s t c io n) := by
  unfold State.readStart
  repeat' with_reducible first | assumption | intro _ | apply State.readHeld_kept | apply State.routeRead_kept | apply State.cmdEnd_kept | apply State.setCmd_kept | apply ite_kept | apply ite2_kept | apply foldl_kept | apply foldlP_kept | dsimp only | split

theorem execRead_kept {orig s : State} (h : Kept orig s) (tag : Nat) :
    OutKept orig (execRead tag s) := by
  unfold execRead
  repeat' with_reducible first | assumption | intro _ | apply State.readStart_kept | apply State.begin4_kept | apply State.settle_kept | apply next_kept | apply ite_kept | apply outIte_kept | dsimp only | split

theorem execFlush_kept {orig s : State} (h : Kept orig s) (tag : Nat) :
    OutKept orig (execFlush tag s) := by
  unfold execFlush
  repeat' with_reducible first | assumption | intro _ | apply State.begin4_kept | apply State.cmdEnd_kept | apply next_kept | apply ite_kept | apply outIte_kept | dsimp only | split

theorem State.zonedWrite_kept {orig s : State} (h : Kept orig s) (t : Nat) (c : Cmd) (io : IoCmd) (n : Ns) :
    Kept orig (State.zonedWrite s t c io n) := by
  unfold State.zonedWrite
  repeat' with_reducible first | assumption | intro _ | apply State.reserve_kept | apply State.evAt_kept | apply State.cmdEnd_kept | apply ite_kept | dsimp only | split

theorem State.stage_kept {orig s : State} (h : Kept orig s) (t : Nat) (io : IoCmd) :
    Kept orig (State.stage s t io) := by
  unfold State.stage
  repeat' with_reducible first | assumption | intro _ | apply State.wearAdd_kept | apply State.modFr_kept | apply ite_kept | apply ite2_kept | apply foldl_kept | apply foldlP_kept | dsimp only | split

theorem State.convWrite_kept {orig s : State} (h : Kept orig s) (t : Nat) (c : Cmd) (io : IoCmd) :
    Kept orig (State.convWrite s t c io) := by
  unfold State.convWrite
  repeat' with_reducible first | assumption | intro _ | apply State.stage_kept | apply State.logPad_kept | apply State.reserve_kept | apply State.logFill_kept | apply State.evAt_kept | apply ite_kept | apply ite2_kept | apply foldl_kept | dsimp only | split

theorem State.writeStart_kept {orig s : State} (h : Kept orig s) (t : Nat) (c : Cmd) (io : IoCmd) (n : Ns) :
    Kept orig (State.writeStart s t c io n) := by
  unfold State.writeStart
  repeat' with_reducible first | assumption | intro _ | apply State.convWrite_kept | apply State.zonedWrite_kept | apply State.cmdEnd_kept | apply ite_kept | dsimp only | split

theorem execWrite_kept {orig s : State} (h : Kept orig s) (tag : Nat) :
    OutKept orig (execWrite tag s) := by
  unfold execWrite
  repeat' with_reducible first | assumption | intro _ | apply State.writeStart_kept | apply State.begin4_kept | apply State.settle_kept | apply next_kept | apply ite_kept | apply outIte_kept | dsimp only | split

theorem execZoneAppend_kept {orig s : State} (h : Kept orig s) (tag : Nat) :
    OutKept orig (execZoneAppend tag s) := by
  unfold execZoneAppend
  repeat' with_reducible first | assumption | intro _ | apply State.writeStart_kept | apply State.begin4_kept | apply State.settle_kept | apply next_kept | apply ite_kept | apply outIte_kept | dsimp only | split

theorem State.retryWrites_kept {orig s : State} (h : Kept orig s)  :
    Kept orig (State.retryWrites s) := by
  unfold State.retryWrites
  repeat' with_reducible first | assumption | intro _ | apply State.writeStart_kept | apply State.begin4_kept | apply foldl_kept | apply foldlP_kept | dsimp only | split

theorem State.dealloc_kept {orig s : State} (h : Kept orig s) (t : Nat) (c : Cmd) (io : IoCmd) (n : Ns) (rs : List (Nat × Nat)) :
    Kept orig (State.dealloc s t c io n rs) := by
  unfold State.dealloc
  repeat' with_reducible first | assumption | intro _ | apply State.recIssue_kept | apply State.cmdEnd_kept | apply State.setCmd_kept | apply ite_kept | apply ite2_kept | apply foldl_kept | apply foldlP_kept | dsimp only | split

theorem execWriteZeroes_kept {orig s : State} (h : Kept orig s) (tag : Nat) :
    OutKept orig (execWriteZeroes tag s) := by
  unfold execWriteZeroes
  repeat' with_reducible first | assumption | intro _ | apply State.dealloc_kept | apply State.begin4_kept | apply State.settle_kept | apply next_kept | apply ite_kept | apply outIte_kept | dsimp only | split

theorem execDatasetManagement_kept {orig s : State} (h : Kept orig s) (tag : Nat) :
    OutKept orig (execDatasetManagement tag s) := by
  unfold execDatasetManagement
  repeat' with_reducible first | assumption | intro _ | apply State.dealloc_kept | apply State.begin4_kept | apply State.settle_kept | apply State.cmdEnd_kept | apply next_kept | apply ite_kept | apply outIte_kept | dsimp only | split

theorem State.zoneRecords_kept {orig s : State} (h : Kept orig s) (t : Nat) (es : List (Nat × Nat)) :
    Kept orig (State.zoneRecords s t es) := by
  unfold State.zoneRecords
  repeat' with_reducible first | assumption | intro _ | apply State.recIssue_kept | apply State.cmdEnd_kept | apply State.modCmd_kept | apply ite_kept | apply ite2_kept | apply foldl_kept | apply foldlP_kept | dsimp only | split

theorem State.finishGo_kept {orig s : State} (h : Kept orig s) (t : Nat) :
    Kept orig (State.finishGo s t) := by
  unfold State.finishGo
  repeat' with_reducible first | assumption | intro _ | apply State.zoneRecords_kept | apply ite_kept | dsimp only | split

theorem State.finishAll_kept {orig s : State} (h : Kept orig s)  :
    Kept orig (State.finishAll s) := by
  unfold State.finishAll
  repeat' with_reducible first | assumption | intro _ | apply State.finishGo_kept | apply foldl_kept | dsimp only

theorem State.finishStart_kept {orig s : State} (h : Kept orig s) (t : Nat) (z : Nat) :
    Kept orig (State.finishStart s t z) := by
  unfold State.finishStart
  repeat' with_reducible first | assumption | intro _ | apply State.pump_kept | apply State.modCmd_kept | apply State.modSlot_kept | dsimp only | split

theorem State.zoneSend_kept {orig s : State} (h : Kept orig s) (t : Nat) (c : Cmd) (io : IoCmd) (n : Ns) :
    Kept orig (State.zoneSend s t c io n) := by
  unfold State.zoneSend
  repeat' with_reducible first | assumption | intro _ | apply State.finishStart_kept | apply State.finishGo_kept | apply State.zoneRecords_kept | apply State.activate_kept | apply State.evAt_kept | apply State.cmdEnd_kept | apply State.setCmd_kept | apply State.modSlot_kept | apply ite_kept | apply ite2_kept | apply foldl_kept | dsimp only | split

theorem State.zoneSendAct_kept {orig s : State} (h : Kept orig s) (t : Nat) (a : ZAct) :
    Kept orig (State.zoneSendAct s t a) := by
  unfold State.zoneSendAct
  repeat' with_reducible first | assumption | intro _ | apply State.zoneSend_kept | apply State.begin4_kept | apply ite_kept | dsimp only | split

theorem execZoneOpen_kept {orig s : State} (h : Kept orig s) (tag : Nat) :
    OutKept orig (execZoneOpen tag s) := by
  unfold execZoneOpen
  repeat' with_reducible first | assumption | intro _ | apply State.zoneSendAct_kept | apply State.settle_kept | apply next_kept | apply ite_kept | apply outIte_kept | dsimp only | split

theorem execZoneClose_kept {orig s : State} (h : Kept orig s) (tag : Nat) :
    OutKept orig (execZoneClose tag s) := by
  unfold execZoneClose
  repeat' with_reducible first | assumption | intro _ | apply State.zoneSendAct_kept | apply State.settle_kept | apply next_kept | apply ite_kept | apply outIte_kept | dsimp only | split

theorem execZoneFinish_kept {orig s : State} (h : Kept orig s) (tag : Nat) :
    OutKept orig (execZoneFinish tag s) := by
  unfold execZoneFinish
  repeat' with_reducible first | assumption | intro _ | apply State.zoneSendAct_kept | apply State.settle_kept | apply next_kept | apply ite_kept | apply outIte_kept | dsimp only | split

theorem execZoneReset_kept {orig s : State} (h : Kept orig s) (tag : Nat) :
    OutKept orig (execZoneReset tag s) := by
  unfold execZoneReset
  repeat' with_reducible first | assumption | intro _ | apply State.zoneSendAct_kept | apply State.settle_kept | apply next_kept | apply ite_kept | apply outIte_kept | dsimp only | split

theorem execZoneOffline_kept {orig s : State} (h : Kept orig s) (tag : Nat) :
    OutKept orig (execZoneOffline tag s) := by
  unfold execZoneOffline
  repeat' with_reducible first | assumption | intro _ | apply State.zoneSendAct_kept | apply State.settle_kept | apply next_kept | apply ite_kept | apply outIte_kept | dsimp only | split

theorem execZoneMgmtReceive_kept {orig s : State} (h : Kept orig s) (tag : Nat) :
    OutKept orig (execZoneMgmtReceive tag s) := by
  unfold execZoneMgmtReceive
  repeat' with_reducible first | assumption | intro _ | apply State.begin4_kept | apply State.cmdEnd_kept | apply State.emit_kept | apply next_kept | apply ite_kept | apply outIte_kept | dsimp only | split

theorem State.ingress_kept {orig s : State} (h : Kept orig s) (t : Nat) (c : Cmd) (io : IoCmd) (n : Ns) (off : Nat) (blks : List HostBlk) :
    Kept orig (State.ingress s t c io n off blks) := by
  unfold State.ingress
  repeat' with_reducible first | assumption | intro _ | apply State.keyMissing_kept | apply State.laneUse_kept | apply State.pump_kept | apply State.cmdFail_kept | apply State.sealMismatch_kept | apply State.event_kept | apply State.count_kept | apply State.setCmd_kept | apply State.satInc_kept | apply State.off_kept | apply State.put_kept | apply ite_kept | apply ite2_kept | apply foldl_kept | apply foldlP_kept | dsimp only | split

theorem State.carriedIn_kept {orig s : State} (h : Kept orig s) (t : Nat) (c : Cmd) (io : IoCmd) (n : Ns) :
    Kept orig (State.carriedIn s t c io n) := by
  unfold State.carriedIn
  repeat' with_reducible first | assumption | intro _ | apply State.ingress_kept | apply State.setCmd_kept | apply ite_kept | dsimp only | split

theorem State.rdmaRead_kept {orig s : State} (h : Kept orig s) (t : Nat) :
    Kept orig (State.rdmaRead s t) := by
  unfold State.rdmaRead
  repeat' with_reducible first | assumption | intro _ | apply State.carriedIn_kept | apply State.connSend_kept | apply State.fetch_kept | apply State.setCmd_kept | apply State.emit_kept | apply ite_kept | dsimp only | split

theorem execRdmaReadIssue_kept {orig s : State} (h : Kept orig s) (tag : Nat) :
    OutKept orig (execRdmaReadIssue tag s) := by
  unfold execRdmaReadIssue
  repeat' with_reducible first | assumption | intro _ | apply State.rdmaRead_kept | apply State.settle_kept | apply next_kept | apply ite_kept | apply outIte_kept | dsimp only | split

theorem State.drainCheck_kept {orig s : State} (h : Kept orig s) (t : Nat) :
    Kept orig (State.drainCheck s t) := by
  unfold State.drainCheck
  repeat' with_reducible first | assumption | intro _ | apply State.pump_kept | apply State.rollback_kept | apply State.tryPost_kept | apply State.modCmd_kept | apply ite_kept | dsimp only | split

theorem State.txCancel_kept {orig s : State} (h : Kept orig s) (t : Nat) (c : Cmd) :
    Kept orig (State.txCancel s t c) := by
  unfold State.txCancel
  repeat' with_reducible first | assumption | intro _ | apply State.setConn_kept | apply State.modCmd_kept | apply ite_kept | dsimp only | split

theorem State.stripsCancel_kept {orig s : State} (h : Kept orig s) (t : Nat) (k : Nat) (z : Nat) (c : Cmd) :
    Kept orig (State.stripsCancel s t k z c) := by
  unfold State.stripsCancel
  repeat' with_reducible first | assumption | intro _ | apply State.writeOver_kept | apply State.limitFall_kept | apply State.unqueue_kept | apply State.modMb_kept | apply ite_kept | apply ite2_kept | apply foldl_kept | dsimp only | split

theorem State.writesCancel_kept {orig s : State} (h : Kept orig s) (t : Nat) (c : Cmd) :
    Kept orig (State.writesCancel s t c) := by
  unfold State.writesCancel
  repeat' with_reducible first | assumption | intro _ | apply State.stripsCancel_kept | apply State.unqueue_kept | apply ite_kept | dsimp only | split

theorem State.abortClaim_kept {orig s : State} (h : Kept orig s) (t : Nat) :
    Kept orig (State.abortClaim s t) := by
  unfold State.abortClaim
  repeat' with_reducible first | assumption | intro _ | apply State.writesCancel_kept | apply State.txCancel_kept | apply State.drainCheck_kept | apply State.tryPost_kept | apply State.release_kept | apply State.waitNote_kept | apply State.setCmd_kept | apply ite_kept | dsimp only | split

theorem State.readResponse_kept {orig s : State} (h : Kept orig s) (k : Nat) (psn : Nat) (blks : List HostBlk) :
    Kept orig (State.readResponse s k psn blks) := by
  unfold State.readResponse
  repeat' with_reducible first | assumption | intro _ | apply State.drainCheck_kept | apply State.ingress_kept | apply State.cmdFail_kept | apply State.tryPost_kept | apply State.touch_kept | apply State.modConn_kept | apply State.modCmd_kept | apply State.off_kept | apply ite_kept | dsimp only | split

theorem State.cnpSend_kept {orig s : State} (h : Kept orig s) (k : Nat) :
    Kept orig (State.cnpSend s k) := by
  unfold State.cnpSend
  repeat' with_reducible first | assumption | intro _ | apply State.roce_kept | apply State.setConn_kept | apply ite_kept | dsimp only | split

theorem execReadResponseReceive_kept {orig s : State} (h : Kept orig s) (conn : Nat) (psn : Nat) (ce : Bool) (blks : List HostBlk) :
    OutKept orig (execReadResponseReceive conn psn ce blks s) := by
  unfold execReadResponseReceive
  repeat' with_reducible first | assumption | intro _ | apply State.cnpSend_kept | apply State.readResponse_kept | apply State.settle_kept | apply next_kept | apply ite_kept | apply outIte_kept | dsimp only | split

theorem State.cmdOrphan_kept {orig s : State} (h : Kept orig s) (t : Nat) :
    Kept orig (State.cmdOrphan s t) := by
  unfold State.cmdOrphan
  repeat' with_reducible first | assumption | intro _ | apply State.drainCheck_kept | apply State.pump_kept | apply State.cmdFail_kept | apply State.cmdEnd_kept | apply State.tryPost_kept | apply State.setCmd_kept | apply ite_kept | dsimp only | split

theorem State.capShow_kept {orig s : State} (h : Kept orig s)  :
    Kept orig (State.capShow s) := by
  unfold State.capShow
  repeat' with_reducible first | assumption | intro _ | apply State.put_kept | apply foldl_kept

theorem State.queuesDrop_kept {orig s : State} (h : Kept orig s) (p : Queue → Bool) :
    Kept orig (State.queuesDrop s p) := by
  unfold State.queuesDrop
  repeat' with_reducible first | assumption | intro _ | apply State.capShow_kept | apply State.cmdOrphan_kept | apply State.modFr_kept | apply foldl_kept | apply foldlP_kept | dsimp only

theorem State.connClose_kept {orig s : State} (h : Kept orig s) (k : Nat) :
    Kept orig (State.connClose s k) := by
  unfold State.connClose
  repeat' with_reducible first | assumption | intro _ | apply State.delConn_kept | apply State.emit_kept | dsimp only | split

theorem State.ctrlDelete_kept {orig s : State} (h : Kept orig s) (id : Nat) :
    Kept orig (State.ctrlDelete s id) := by
  unfold State.ctrlDelete
  repeat' with_reducible first | assumption | intro _ | apply State.connClose_kept | apply State.queuesDrop_kept | apply State.selftestEnd_kept | apply State.modFr_kept | apply ite_kept | apply ite2_kept | apply foldl_kept | apply foldlP_kept | dsimp only | split

theorem State.connError_kept {orig s : State} (h : Kept orig s) (k : Nat) :
    Kept orig (State.connError s k) := by
  unfold State.connError
  repeat' with_reducible first | assumption | intro _ | apply State.ctrlDelete_kept | apply State.delConn_kept | apply State.event_kept | apply State.satInc_kept | dsimp only | split

theorem State.nakEnd_kept {orig s : State} (h : Kept orig s) (k : Nat) (kind : Nat) (psn : Nat) :
    Kept orig (State.nakEnd s k kind psn) := by
  unfold State.nakEnd
  repeat' with_reducible first | assumption | intro _ | apply State.connError_kept | apply State.roce_kept | apply State.satInc_kept

theorem State.ackOwed_kept {orig s : State} (h : Kept orig s) (k : Nat) (p : RcPkt) (n : Nat) (answered : Bool) :
    Kept orig (State.ackOwed s k p n answered) := by
  unfold State.ackOwed
  repeat' with_reducible first | assumption | intro _ | apply State.roce_kept | apply State.setConn_kept | apply ite_kept | dsimp only | split

theorem State.winWrite_kept {orig s : State} (h : Kept orig s) (k : Nat) (c : Conn) (p : RcPkt) (at_ : Nat) (first : Bool) (last : Bool) (key : Nat) (addr : Nat) (len : Nat) (data : List Byte) :
    Kept orig (State.winWrite s k c p at_ first last key addr len data) := by
  unfold State.winWrite
  repeat' with_reducible first | assumption | intro _ | apply State.ackOwed_kept | apply State.nakEnd_kept | apply State.modConn_kept | apply State.dramWrite_kept | apply State.off_kept | apply ite_kept | dsimp only | split

theorem State.winRead_kept {orig s : State} (h : Kept orig s) (k : Nat) (c : Conn) (psn : Nat) (gen : Nat) (key : Nat) (addr : Nat) (len : Nat) :
    OptKept orig (State.winRead s k c psn gen key addr len) := by
  unfold State.winRead
  repeat' with_reducible first | assumption | intro _ | apply State.roce_kept | apply State.emit_kept | apply optSome_kept | exact optNone_kept | apply optMap_kept | apply optBind_kept | apply optFold_kept | dsimp only | split

theorem State.capsuleIn_kept {orig s : State} (h : Kept orig s) (c : Conn) (cap : Capsule) :
    OptKept orig (State.capsuleIn s c cap) := by
  unfold State.capsuleIn
  repeat' with_reducible first | assumption | intro _ | apply State.modQueue_kept | apply optSome_kept | exact optNone_kept | apply optMap_kept | apply optBind_kept | apply optFold_kept | apply ite_kept | apply optIte_kept | dsimp only | split

theorem State.sendIn_kept {orig s : State} (h : Kept orig s) (k : Nat) (c : Conn) (p : RcPkt) (last : Bool) (cap : Capsule) :
    Kept orig (State.sendIn s k c p last cap) := by
  unfold State.sendIn
  repeat' with_reducible first | assumption | intro _ | apply State.capsuleIn_kept | apply State.ackOwed_kept | apply State.nakEnd_kept | apply State.roce_kept | apply State.modConn_kept | apply State.setConn_kept | apply State.event_kept | apply State.satInc_kept | apply ite_kept | refine some_kept ?_ (by assumption) | dsimp only | split

theorem State.reqRun_kept {orig s : State} (h : Kept orig s) (k : Nat) (c : Conn) (p : RcPkt) (gen : Nat) :
    Kept orig (State.reqRun s k c p gen) := by
  unfold State.reqRun
  repeat' with_reducible first | assumption | intro _ | apply State.sendIn_kept | apply State.winRead_kept | apply State.winWrite_kept | apply State.ackOwed_kept | apply State.nakEnd_kept | apply State.modConn_kept | apply ite_kept | refine some_kept ?_ (by assumption) | dsimp only | split

theorem State.reqDup_kept {orig s : State} (h : Kept orig s) (k : Nat) (c : Conn) (p : RcPkt) :
    Kept orig (State.reqDup s k c p) := by
  unfold State.reqDup
  repeat' with_reducible first | assumption | intro _ | apply State.winRead_kept | apply State.nakEnd_kept | apply State.roce_kept | apply State.satInc_kept | refine some_kept ?_ (by assumption) | dsimp only | split

theorem State.reqIn_kept {orig s : State} (h : Kept orig s) (k : Nat) (p : RcPkt) (gen : Nat) :
    Kept orig (State.reqIn s k p gen) := by
  unfold State.reqIn
  repeat' with_reducible first | assumption | intro _ | apply State.reqDup_kept | apply State.reqRun_kept | apply State.nakEnd_kept | apply State.roce_kept | apply State.setConn_kept | apply State.satInc_kept | apply ite_kept | dsimp only | split

theorem State.dataAcked_kept {orig s : State} (h : Kept orig s) (x : TxKind) :
    Kept orig (State.dataAcked s x) := by
  unfold State.dataAcked
  repeat' with_reducible first | assumption | intro _ | apply State.drainCheck_kept | apply State.tryPost_kept | apply State.passedPost_kept | apply State.modPassed_kept | apply State.setCmd_kept | apply ite_kept | dsimp only | split

theorem State.ackIn_kept {orig s : State} (h : Kept orig s) (k : Nat) (p : Nat) :
    Kept orig (State.ackIn s k p) := by
  unfold State.ackIn
  repeat' with_reducible first | assumption | intro _ | apply State.dataAcked_kept | apply State.setConn_kept | apply ite_kept | apply ite2_kept | apply foldl_kept | dsimp only | split

theorem State.goBack_kept {orig s : State} (h : Kept orig s) (k : Nat) (p : Nat) :
    Kept orig (State.goBack s k p) := by
  unfold State.goBack
  repeat' with_reducible first | assumption | intro _ | apply State.connError_kept | apply State.retransmit_kept | apply State.setConn_kept | apply ite_kept | dsimp only | split

theorem State.nakSeqIn_kept {orig s : State} (h : Kept orig s) (k : Nat) (p : Nat) :
    Kept orig (State.nakSeqIn s k p) := by
  unfold State.nakSeqIn
  repeat' with_reducible first | assumption | intro _ | apply State.goBack_kept | apply State.ackIn_kept | apply State.satInc_kept | apply ite_kept | dsimp only | split

theorem State.rnrIn_kept {orig s : State} (h : Kept orig s) (k : Nat) (p : Nat) :
    Kept orig (State.rnrIn s k p) := by
  unfold State.rnrIn
  repeat' with_reducible first | assumption | intro _ | apply State.connError_kept | apply State.setConn_kept | apply State.satInc_kept | apply ite_kept | dsimp only | split

theorem State.cnpIn_kept {orig s : State} (h : Kept orig s) (k : Nat) :
    Kept orig (State.cnpIn s k) := by
  unfold State.cnpIn
  repeat' with_reducible first | assumption | intro _ | apply State.modConn_kept | apply ite_kept | dsimp only | split

theorem State.pktRun_kept {orig s : State} (h : Kept orig s) (k : Nat) (h : HeldPkt) :
    Kept orig (State.pktRun s k h) := by
  unfold State.pktRun
  repeat' with_reducible first | assumption | intro _ | apply State.cnpIn_kept | apply State.rnrIn_kept | apply State.nakSeqIn_kept | apply State.ackIn_kept | apply State.reqIn_kept | apply State.connError_kept | apply State.cnpSend_kept | apply State.touch_kept | apply State.satInc_kept | apply ite_kept | dsimp only | split

theorem State.pktIn_kept {orig s : State} (h : Kept orig s) (k : Nat) (port : Nat) (h : HeldPkt) :
    Kept orig (State.pktIn s k port h) := by
  unfold State.pktIn
  repeat' with_reducible first | assumption | intro _ | apply State.pktRun_kept | apply State.fetch_kept | apply State.setConn_kept | apply State.event_kept | apply State.count_kept | apply State.add64_kept | apply State.satInc_kept | apply State.put_kept | apply ite_kept | dsimp only | split

theorem execRcRequestReceive_kept {orig s : State} (h : Kept orig s) (conn : Nat) (port : Nat) (pkt : RcPkt) :
    OutKept orig (execRcRequestReceive conn port pkt s) := by
  unfold execRcRequestReceive
  repeat' with_reducible first | assumption | intro _ | apply State.pktIn_kept | apply State.settle_kept | apply State.satInc_kept | apply next_kept | apply ite_kept | apply outIte_kept | dsimp only | split

theorem execAckReceive_kept {orig s : State} (h : Kept orig s) (conn : Nat) (psn : Nat) (ce : Bool) :
    OutKept orig (execAckReceive conn psn ce s) := by
  unfold execAckReceive
  repeat' with_reducible first | assumption | intro _ | apply State.pktIn_kept | apply State.settle_kept | apply next_kept | apply ite_kept | apply outIte_kept | dsimp only | split

theorem execNakSequenceErrorReceive_kept {orig s : State} (h : Kept orig s) (conn : Nat) (psn : Nat) (ce : Bool) :
    OutKept orig (execNakSequenceErrorReceive conn psn ce s) := by
  unfold execNakSequenceErrorReceive
  repeat' with_reducible first | assumption | intro _ | apply State.pktIn_kept | apply State.settle_kept | apply next_kept | apply ite_kept | apply outIte_kept | dsimp only | split

theorem execNakErrorReceive_kept {orig s : State} (h : Kept orig s) (conn : Nat) (kind : Nat) (ce : Bool) :
    OutKept orig (execNakErrorReceive conn kind ce s) := by
  unfold execNakErrorReceive
  repeat' with_reducible first | assumption | intro _ | apply State.pktIn_kept | apply State.settle_kept | apply next_kept | apply ite_kept | apply outIte_kept | dsimp only | split

theorem execRnrNakReceive_kept {orig s : State} (h : Kept orig s) (conn : Nat) (psn : Nat) (ce : Bool) :
    OutKept orig (execRnrNakReceive conn psn ce s) := by
  unfold execRnrNakReceive
  repeat' with_reducible first | assumption | intro _ | apply State.pktIn_kept | apply State.settle_kept | apply next_kept | apply ite_kept | apply outIte_kept | dsimp only | split

theorem execRnrRetryTimerExpiry_kept {orig s : State} (h : Kept orig s) (conn : Nat) :
    OutKept orig (execRnrRetryTimerExpiry conn s) := by
  unfold execRnrRetryTimerExpiry
  repeat' with_reducible first | assumption | intro _ | apply State.sendOrWait_kept | apply State.setConn_kept | apply next_kept | apply ite_kept | apply outIte_kept | dsimp only | split

theorem execAckTimeout_kept {orig s : State} (h : Kept orig s) (conn : Nat) :
    OutKept orig (execAckTimeout conn s) := by
  unfold execAckTimeout
  repeat' with_reducible first | assumption | intro _ | apply State.goBack_kept | apply State.settle_kept | apply State.touch_kept | apply next_kept | apply ite_kept | apply outIte_kept | dsimp only | split

theorem execCnpReceive_kept {orig s : State} (h : Kept orig s) (conn : Nat) :
    OutKept orig (execCnpReceive conn s) := by
  unfold execCnpReceive
  repeat' with_reducible first | assumption | intro _ | apply State.pktIn_kept | apply next_kept | apply ite_kept | apply outIte_kept | dsimp only | split

theorem execWindowWriteReceive_kept {orig s : State} (h : Kept orig s) (conn : Nat) (psn : Nat) (first : Bool) (last : Bool) (ackReq : Bool) (ce : Bool) (key : Nat) (addr : Nat) (len : Nat) (data : List Byte) :
    OutKept orig (execWindowWriteReceive conn psn first last ackReq ce key addr len data s) := by
  unfold execWindowWriteReceive
  repeat' with_reducible first | assumption | intro _ | apply State.pktIn_kept | apply State.settle_kept | apply next_kept | apply ite_kept | apply outIte_kept | dsimp only | split

theorem execWindowReadRequest_kept {orig s : State} (h : Kept orig s) (conn : Nat) (psn : Nat) (ce : Bool) (key : Nat) (addr : Nat) (len : Nat) :
    OutKept orig (execWindowReadRequest conn psn ce key addr len s) := by
  unfold execWindowReadRequest
  repeat' with_reducible first | assumption | intro _ | apply State.pktIn_kept | apply State.settle_kept | apply next_kept | apply ite_kept | apply outIte_kept | dsimp only | split

theorem execContextFetchDone_kept {orig s : State} (h : Kept orig s) (conn : Nat) (ns : Nat) :
    OutKept orig (execContextFetchDone conn ns s) := by
  unfold execContextFetchDone
  repeat' with_reducible first | assumption | intro _ | apply State.pktRun_kept | apply State.settle_kept | apply State.sendWaiting_kept | apply State.fetchNext_kept | apply State.touch_kept | apply State.setConn_kept | apply State.put_kept | apply next_kept | apply ite_kept | apply outIte_kept | apply ite2_kept | apply foldl_kept | apply foldlP_kept | dsimp only | split

theorem execCmReq_kept {orig s : State} (h : Kept orig s) (port : Nat) (peer : Nat) (privLen : Nat) (recfmt : Nat) (hsqsize : Nat) (ird : Nat) (dscp : Nat) (pmtu : Nat) (psn : Nat) (host : Option Nat) :
    OutKept orig (execCmReq port peer privLen recfmt hsqsize ird dscp pmtu psn host s) := by
  unfold execCmReq
  repeat' with_reducible first | assumption | intro _ | apply State.settle_kept | apply State.evict_kept | apply State.setConn_kept | apply State.event_kept | apply State.fresh_kept | apply State.emit_kept | apply next_kept | apply ite_kept | apply outIte_kept | refine snd_kept ?_ (by assumption) | refine snd3_kept ?_ (by assumption) | dsimp only | split

theorem State.connGone_kept {orig s : State} (h : Kept orig s) (k : Nat) :
    Kept orig (State.connGone s k) := by
  unfold State.connGone
  repeat' with_reducible first | assumption | intro _ | apply State.ctrlDelete_kept | apply State.queuesDrop_kept | apply State.delConn_kept | apply ite_kept | dsimp only | split

theorem execCmDreqReceive_kept {orig s : State} (h : Kept orig s) (conn : Nat) :
    OutKept orig (execCmDreqReceive conn s) := by
  unfold execCmDreqReceive
  repeat' with_reducible first | assumption | intro _ | apply State.connGone_kept | apply State.settle_kept | apply next_kept | apply ite_kept | apply outIte_kept | dsimp only | split

theorem execSetupTimeout_kept {orig s : State} (h : Kept orig s) (conn : Nat) :
    OutKept orig (execSetupTimeout conn s) := by
  unfold execSetupTimeout
  repeat' with_reducible first | assumption | intro _ | apply State.connClose_kept | apply next_kept | apply ite_kept | apply outIte_kept | dsimp only | split

theorem State.relCheck_kept {orig s : State} (h : Kept orig s)  :
    Kept orig (State.relCheck s) := by
  unfold State.relCheck
  repeat' with_reducible first | assumption | intro _ | apply State.mirSend_kept | apply State.release_kept | apply State.modJn_kept | apply ite_kept | apply ite2_kept | apply foldl_kept | apply foldlP_kept | refine snd_kept ?_ (by assumption) | refine snd3_kept ?_ (by assumption) | dsimp only | split

theorem State.commitBody_kept {orig s : State} (h : Kept orig s) (b : RecBody) :
    Kept orig (State.commitBody s b) := by
  unfold State.commitBody
  repeat' with_reducible first | assumption | intro _ | apply State.applyRec_kept | apply ite_kept | split

theorem State.cmdAfter_kept {orig s : State} (h : Kept orig s) (r : RingRec) :
    Kept orig (State.cmdAfter s r) := by
  unfold State.cmdAfter
  repeat' with_reducible first | assumption | intro _ | apply State.tryPost_kept | apply State.release_kept | apply State.setCmd_kept | apply State.modFr_kept | apply ite_kept | dsimp only | split

theorem State.deleteWritten_kept {orig s : State} (h : Kept orig s) (b : RecBody) :
    Kept orig (State.deleteWritten s b) := by
  unfold State.deleteWritten
  repeat' with_reducible first | assumption | intro _ | apply State.modJn_kept | dsimp only | split

theorem State.commit1_kept {orig s0 : State} (h : Kept orig s0) (r : RingRec) :
    Kept orig (State.commit1 s0 r) := by
  unfold State.commit1
  repeat' with_reducible first | assumption | intro _ | apply State.deleteWritten_kept | apply State.cmdAfter_kept | apply State.commitBody_kept | apply State.zoneSettle_kept | apply State.pump_kept | apply State.markDirty_kept | apply State.headerUpdate_kept | apply State.evAt_kept | apply State.wr64_kept | apply State.off_kept | apply ite_kept | apply ite2_kept | apply foldl_kept | apply foldlP_kept | dsimp only | split

theorem State.commits_kept {orig s : State} (h : Kept orig s)  :
    ∀ fuel, Kept orig (State.commits s fuel) := by
  intro fuel
  induction fuel generalizing s with
  | zero => exact h
  | succ fuel ih =>
    unfold State.commits
    repeat' with_reducible first | assumption | intro _ | apply ih | apply State.commit1_kept | dsimp only | split

theorem State.commitAll_kept {orig s : State} (h : Kept orig s)  :
    Kept orig (State.commitAll s) := by
  unfold State.commitAll
  repeat' with_reducible first | assumption | intro _ | apply State.commits_kept | apply State.finishAll_kept | apply State.retryWrites_kept | apply State.mbrShow_kept | apply ite_kept | dsimp only | split

theorem State.recWritten_kept {orig s : State} (h : Kept orig s) (j : Nat) (bad : List Nat) (staged : List Nat) :
    Kept orig (State.recWritten s j bad staged) := by
  unfold State.recWritten
  repeat' with_reducible first | assumption | intro _ | apply State.commitAll_kept | apply State.badRetire_kept | apply State.modNv_kept | apply ite_kept | dsimp only | split

theorem execJournalRecordWritten_kept {orig s : State} (h : Kept orig s) (jseq : Nat) (bad : List Nat) (staged : List Nat) :
    OutKept orig (execJournalRecordWritten jseq bad staged s) := by
  unfold execJournalRecordWritten
  repeat' with_reducible first | assumption | intro _ | apply State.recWritten_kept | apply State.settle_kept | apply next_kept | apply ite_kept | apply outIte_kept | dsimp only | split

theorem State.tailWritten_kept {orig s : State} (h : Kept orig s) (k : Nat) (j : Nat) (t : Nat) (bad : List Nat) :
    Kept orig (State.tailWritten s k j t bad) := by
  unfold State.tailWritten
  repeat' with_reducible first | assumption | intro _ | apply State.pump_kept | apply State.badRetire_kept | apply State.setCmd_kept | apply ite_kept | dsimp only | split

theorem execTailWriteComplete_kept {orig s : State} (h : Kept orig s) (slot : Nat) (idx : Nat) (tag : Nat) (bad : List Nat) :
    OutKept orig (execTailWriteComplete slot idx tag bad s) := by
  unfold execTailWriteComplete
  repeat' with_reducible first | assumption | intro _ | apply State.tailWritten_kept | apply State.settle_kept | apply next_kept | apply ite_kept | apply outIte_kept | dsimp only | split

theorem execDarkTimeRecord_kept {orig s : State} (h : Kept orig s)  :
    OutKept orig (execDarkTimeRecord s) := by
  unfold execDarkTimeRecord
  repeat' with_reducible first | assumption | intro _ | apply State.darkRecord_kept | apply next_kept | apply ite_kept | apply outIte_kept | dsimp only | split

theorem State.outOfStep_kept {orig s : State} (h : Kept orig s)  :
    Kept orig (State.outOfStep s) := by
  unfold State.outOfStep
  repeat' with_reducible first | assumption | intro _ | apply State.evAt_kept | apply State.modJn_kept | apply State.off_kept | apply ite_kept | dsimp only | split

theorem State.keyWaitShow_kept {orig s : State} (h : Kept orig s)  :
    Kept orig (State.keyWaitShow s) := by
  unfold State.keyWaitShow
  repeat' with_reducible first | assumption | intro _ | apply State.outOfStep_kept | apply State.commitAll_kept | apply State.evAt_kept | apply State.putB_kept | apply State.on_kept | apply ite_kept | dsimp only | split

theorem State.nsWithdraw_kept {orig s : State} (h : Kept orig s) (nsid : Nat) :
    Kept orig (State.nsWithdraw s nsid) := by
  unfold State.nsWithdraw
  repeat' with_reducible first | assumption | intro _ | apply State.keyMissing_kept | apply State.nsChanged_kept | apply ite_kept | apply ite2_kept | apply foldl_kept | apply foldlP_kept | dsimp only | split

theorem State.zeroNow_kept {orig s : State} (h : Kept orig s) (n : Option Nat) :
    Kept orig (State.zeroNow s n) := by
  unfold State.zeroNow
  repeat' with_reducible first | assumption | intro _ | apply State.nsWithdraw_kept | apply State.keyWaitShow_kept | apply State.event_kept | apply State.modKeys_kept | apply State.on_kept | apply State.put_kept | apply ite_kept | apply ite2_kept | apply foldl_kept | dsimp only | split

theorem State.zeroise_kept {orig s : State} (h : Kept orig s) (n : Option Nat) :
    Kept orig (State.zeroise s n) := by
  unfold State.zeroise
  repeat' with_reducible first | assumption | intro _ | apply State.zeroNow_kept | apply State.event_kept | apply State.importEnd_kept | apply State.modKeys_kept | apply ite_kept | dsimp only | split

theorem execKeyZeroiseSlot_kept {orig s : State} (h : Kept orig s) (slot : Nat) :
    OutKept orig (execKeyZeroiseSlot slot s) := by
  unfold execKeyZeroiseSlot
  repeat' with_reducible first | assumption | intro _ | apply State.zeroise_kept | apply State.settle_kept | apply next_kept | apply ite_kept | apply outIte_kept | dsimp only | split

theorem execKeyZeroiseAll_kept {orig s : State} (h : Kept orig s)  :
    OutKept orig (execKeyZeroiseAll s) := by
  unfold execKeyZeroiseAll
  repeat' with_reducible first | assumption | intro _ | apply State.zeroise_kept | apply State.settle_kept | apply next_kept | apply ite_kept | apply outIte_kept | dsimp only | split

theorem execZeroiseDone_kept {orig s : State} (h : Kept orig s)  :
    OutKept orig (execZeroiseDone s) := by
  unfold execZeroiseDone
  repeat' with_reducible first | assumption | intro _ | apply State.settle_kept | apply State.event_kept | apply State.off_kept | apply next_kept | apply ite_kept | apply outIte_kept | dsimp only | split

theorem State.keyImport_kept {orig s : State} (h : Kept orig s)  :
    Kept orig (State.keyImport s) := by
  unfold State.keyImport
  repeat' with_reducible first | assumption | intro _ | apply State.modKeys_kept | apply State.on_kept | apply ite_kept | dsimp only | split

theorem execKeyImport_kept {orig s : State} (h : Kept orig s)  :
    OutKept orig (execKeyImport s) := by
  unfold execKeyImport
  repeat' with_reducible first | assumption | intro _ | apply State.keyImport_kept | apply next_kept | apply ite_kept | apply outIte_kept | dsimp only | split

theorem State.importDone_kept {orig s : State} (h : Kept orig s)  :
    Kept orig (State.importDone s) := by
  unfold State.importDone
  repeat' with_reducible first | assumption | intro _ | apply State.zeroNow_kept | apply State.keyWaitShow_kept | apply State.nsChanged_kept | apply State.event_kept | apply State.importEnd_kept | apply State.modKeys_kept | apply State.put_kept | apply ite_kept | apply ite2_kept | apply foldl_kept | dsimp only | split

theorem execKeyImportDone_kept {orig s : State} (h : Kept orig s)  :
    OutKept orig (execKeyImportDone s) := by
  unfold execKeyImportDone
  repeat' with_reducible first | assumption | intro _ | apply State.importDone_kept | apply State.settle_kept | apply next_kept | apply ite_kept | apply outIte_kept | dsimp only | split

theorem execTamperAlarm_kept {orig s : State} (h : Kept orig s) (detector : Nat) :
    OutKept orig (execTamperAlarm detector s) := by
  unfold execTamperAlarm
  repeat' with_reducible first | assumption | intro _ | apply State.settle_kept | apply State.event_kept | apply next_kept | apply ite_kept | apply outIte_kept | dsimp only | split

theorem execAesFloorWindowEnd_kept {orig s : State} (h : Kept orig s)  :
    OutKept orig (execAesFloorWindowEnd s) := by
  unfold execAesFloorWindowEnd
  repeat' with_reducible first | assumption | intro _ | apply State.modKeys_kept | apply next_kept | apply ite_kept | apply outIte_kept | dsimp only | split

theorem State.dramShow_kept {orig s : State} (h : Kept orig s)  :
    Kept orig (State.dramShow s) := by
  unfold State.dramShow
  repeat' with_reducible first | assumption | intro _ | apply State.anaSet_kept | apply State.event_kept | apply State.putB_kept | apply State.put_kept | apply ite_kept | dsimp only | split

theorem State.nsCreate_kept {orig s : State} (h : Kept orig s) (nsid : Nat) (cfg : Nat) (size : Nat) :
    Kept orig (State.nsCreate s nsid cfg size) := by
  unfold State.nsCreate
  repeat' with_reducible first | assumption | intro _ | apply State.dramShow_kept | apply State.logFill_kept | apply State.zmpShow_kept | apply State.recNow_kept | apply State.zoneShow_kept | apply State.nsChanged_kept | apply State.modTb_kept | apply State.modFr_kept | apply State.put_kept | apply ite_kept | apply ite2_kept | apply foldl_kept | apply foldlP_kept | dsimp only | split

theorem State.nsEndCmds_kept {orig s : State} (h : Kept orig s) (nsid : Nat) :
    Kept orig (State.nsEndCmds s nsid) := by
  unfold State.nsEndCmds
  repeat' with_reducible first | assumption | intro _ | apply State.cmdFail_kept | apply State.modMb_kept | apply ite_kept | apply ite2_kept | apply foldl_kept | apply foldlP_kept | dsimp only | split

theorem State.nsDeleteStart_kept {orig s : State} (h : Kept orig s) (nsid : Nat) :
    Kept orig (State.nsDeleteStart s nsid) := by
  unfold State.nsDeleteStart
  repeat' with_reducible first | assumption | intro _ | apply State.nsEndCmds_kept | apply State.nsChanged_kept | apply State.selftestEnd_kept | apply State.modTb_kept | apply State.modFr_kept | apply State.on_kept | apply State.put_kept | apply ite_kept | dsimp only | split

theorem State.nsDeleteEnd_kept {orig s : State} (h : Kept orig s) (nsid : Nat) :
    Kept orig (State.nsDeleteEnd s nsid) := by
  unfold State.nsDeleteEnd
  repeat' with_reducible first | assumption | intro _ | apply State.dramShow_kept | apply State.zeroise_kept | apply State.zoneSettle_kept | apply State.zmpShow_kept | apply State.recNow_kept | apply State.zoneShow_kept | apply State.headerUpdate_kept | apply State.modJn_kept | apply State.modFr_kept | apply State.off_kept | apply State.put_kept | apply ite_kept | apply ite2_kept | apply foldl_kept | dsimp only | split

theorem State.nsRun_kept {orig s : State} (h : Kept orig s)  :
    ∀ fuel, Kept orig (State.nsRun s fuel) := by
  intro fuel
  induction fuel generalizing s with
  | zero => exact h
  | succ fuel ih =>
    unfold State.nsRun
    repeat' with_reducible first | assumption | intro _ | apply ih | apply State.nsDeleteStart_kept | apply State.nsCreate_kept | apply State.modFr_kept | apply State.off_kept | apply ite_kept | dsimp only | split

theorem State.nsCommit_kept {orig s : State} (h : Kept orig s) (op : Nat) :
    Kept orig (State.nsCommit s op) := by
  unfold State.nsCommit
  generalize (2049 : Nat) = fuel2049
  repeat' with_reducible first | assumption | intro _ | apply State.nsRun_kept | apply State.modFr_kept | apply State.on_kept | apply ite_kept | dsimp only | split

theorem execNsCreate_kept {orig s : State} (h : Kept orig s)  :
    OutKept orig (execNsCreate s) := by
  unfold execNsCreate
  repeat' with_reducible first | assumption | intro _ | apply State.nsCommit_kept | apply State.settle_kept | apply next_kept | apply ite_kept | apply outIte_kept | dsimp only | split

theorem execNsDelete_kept {orig s : State} (h : Kept orig s)  :
    OutKept orig (execNsDelete s) := by
  unfold execNsDelete
  repeat' with_reducible first | assumption | intro _ | apply State.nsCommit_kept | apply State.settle_kept | apply next_kept | apply ite_kept | apply outIte_kept | dsimp only | split

theorem execNsDeleteComplete_kept {orig s : State} (h : Kept orig s)  :
    OutKept orig (execNsDeleteComplete s) := by
  unfold execNsDeleteComplete
  generalize (2049 : Nat) = fuel2049
  repeat' with_reducible first | assumption | intro _ | apply State.nsRun_kept | apply State.nsDeleteEnd_kept | apply State.settle_kept | apply next_kept | apply ite_kept | apply outIte_kept | dsimp only | split

theorem State.accessWrite_kept {orig s : State} (h : Kept orig s) (h : Nat) (m : Nat) (v : Nat) :
    Kept orig (State.accessWrite s h m v) := by
  unfold State.accessWrite
  repeat' with_reducible first | assumption | intro _ | apply State.notifyAll_kept | apply State.modHost_kept | apply State.modFr_kept | apply ite_kept | apply ite2_kept | apply foldl_kept | apply foldlP_kept | apply optGetD_kept | apply optOr_kept | dsimp only | split

theorem execHostAccessMapWrite_kept {orig s : State} (h : Kept orig s) (host : Nat) (m : Nat) (value : Nat) :
    OutKept orig (execHostAccessMapWrite host m value s) := by
  unfold execHostAccessMapWrite
  repeat' with_reducible first | assumption | intro _ | apply State.accessWrite_kept | apply State.settle_kept | apply next_kept | apply ite_kept | apply outIte_kept | dsimp only | split

theorem State.zoneSelect_kept {orig s : State} (h : Kept orig s) (z : Nat) :
    Kept orig (State.zoneSelect s z) := by
  unfold State.zoneSelect
  repeat' with_reducible first | assumption | intro _ | apply State.setN_kept | apply State.put_kept | apply foldl_kept | dsimp only

theorem execZoneSelectLoad_kept {orig s : State} (h : Kept orig s) (zone : Nat) :
    OutKept orig (execZoneSelectLoad zone s) := by
  unfold execZoneSelectLoad
  repeat' with_reducible first | assumption | intro _ | apply State.zoneSelect_kept | apply next_kept | apply ite_kept | apply outIte_kept | dsimp only | split

theorem State.replay1_kept {orig s : State} (h : Kept orig s) (j : Nat) (b : RecBody) :
    Kept orig (State.replay1 s j b) := by
  unfold State.replay1
  repeat' with_reducible first | assumption | intro _ | apply State.applyRec_kept | apply State.markDirty_kept | apply ite_kept | split

theorem State.replayRecs_kept {orig s : State} (h : Kept orig s) (last : Nat) (bad : List Nat) (n e : Nat) :
    Kept orig (s.replayRecs last bad n e).1 := by
  induction n generalizing s e with
  | zero => exact h
  | succ n ih =>
    unfold State.replayRecs
    repeat' (first | exact ih (State.replay1_kept (State.fresh_kept h _) _ _) _ | exact ih (State.replay1_kept h _ _) _ | exact State.fresh_kept h _ | exact h | dsimp only | split)

theorem State.replayCopies_kept {orig s : State} (h : Kept orig s) (e : Nat) (l : List (Nat × RecBody)) :
    Kept orig (s.replayCopies e l).1 := by
  induction l generalizing s e with
  | nil => exact h
  | cons r rest ih =>
    unfold State.replayCopies
    split
    · exact ih h _
    · split
      · exact ih (State.replay1_kept h _ _) _
      · exact h

theorem State.loadTables_kept {orig s : State} (h : Kept orig s) (t : Tables) :
    Kept orig (State.loadTables s t) := by
  unfold State.loadTables
  repeat' with_reducible first | assumption | intro _ | apply State.modTb_kept | dsimp only

theorem State.reapply_kept {orig s : State} (h : Kept orig s)  :
    Kept orig (State.reapply s) := by
  unfold State.reapply
  repeat' with_reducible first | assumption | intro _ | apply State.applyRec_kept | apply foldl_kept | dsimp only | split

theorem State.slotRestore_kept {orig s : State} (h : Kept orig s) (z : Nat) :
    Kept orig (State.slotRestore s z) := by
  unfold State.slotRestore
  repeat' with_reducible first | assumption | intro _ | apply State.modZone_kept | apply State.event_kept | apply State.setSlot_kept | apply State.fresh_kept | apply ite_kept | refine snd_kept ?_ (by assumption) | refine snd3_kept ?_ (by assumption) | dsimp only | split

theorem State.slotsRestore_kept {orig s : State} (h : Kept orig s)  :
    Kept orig (State.slotsRestore s) := by
  unfold State.slotsRestore
  repeat' with_reducible first | assumption | intro _ | apply State.slotRestore_kept | apply State.zmpShow_kept | apply State.setSlots_kept | apply State.modTb_kept | apply foldl_kept | apply foldlP_kept | dsimp only

theorem State.restore_kept {orig s : State} (h : Kept orig s) (t : Tables) (q : Nat) :
    Kept orig (State.restore s t q) := by
  unfold State.restore
  repeat' with_reducible first | assumption | intro _ | apply State.reapply_kept | apply State.loadTables_kept | apply State.replayCopies_kept | apply State.zmpShow_kept | apply State.lossAdd_kept | apply State.recNow_kept | apply State.evAt_kept | apply State.setSlots_kept | apply State.modTb_kept | apply State.modNv_kept | apply State.wr64_kept | apply State.on_kept | apply foldl_kept | apply foldlP_kept | dsimp only | split

theorem State.replayRing_kept {orig s : State} (h : Kept orig s) (t : Tables) (q : Nat) (bad : List Nat) :
    Kept orig (State.replayRing s t q bad) := by
  unfold State.replayRing
  repeat' with_reducible first | assumption | intro _ | apply State.restore_kept | apply State.slotsRestore_kept | apply State.reapply_kept | apply State.loadTables_kept | apply State.replayRecs_kept | apply State.modNv_kept | apply State.wr64_kept | apply State.on_kept | apply ite_kept | apply optGetD_kept | apply optOr_kept | dsimp only | split

theorem State.rejoin_kept {orig s : State} (h : Kept orig s) (t : Tables) (q : Nat) :
    Kept orig (State.rejoin s t q) := by
  unfold State.rejoin
  repeat' with_reducible first | assumption | intro _ | apply State.reapply_kept | apply State.loadTables_kept | apply State.zmpShow_kept | apply State.setSlots_kept | apply State.modNv_kept | apply State.wr64_kept | apply State.on_kept | dsimp only

theorem State.carStart_kept {orig s : State} (h : Kept orig s)  :
    Kept orig (State.carStart s) := by
  unfold State.carStart
  generalize (260 : Nat) = k
  repeat' with_reducible first | assumption | intro _ | apply State.carDrain_kept | apply State.carWrite_kept | apply State.carillon_kept | apply State.modEv_kept | apply State.setN_kept | apply State.on_kept | apply ite_kept | apply ite2_kept | apply foldl_kept | apply foldlP_kept | dsimp only | split

theorem State.aliveStart_kept {orig s : State} (h : Kept orig s)  :
    Kept orig (State.aliveStart s) := by
  unfold State.aliveStart
  repeat' with_reducible first | assumption | intro _ | apply State.tocsinFault_kept | apply State.on_kept | apply ite_kept | split

theorem State.roleSet_kept {orig s : State} (h : Kept orig s) (holds : Bool) :
    Kept orig (State.roleSet s holds) := by
  unfold State.roleSet
  repeat' with_reducible first | assumption | intro _ | apply State.putB_kept | apply State.put_kept | apply ite_kept | dsimp only | split

theorem State.reserveOn_kept {orig s : State} (h : Kept orig s) (c : Nat) :
    Kept orig (State.reserveOn s c) := by
  unfold State.reserveOn
  repeat' with_reducible first | assumption | intro _ | apply State.reserve_kept | apply State.emit_kept | apply ite_kept | dsimp only | split

theorem State.reserveAll_kept {orig s : State} (h : Kept orig s)  :
    Kept orig (State.reserveAll s) := by
  unfold State.reserveAll
  repeat' with_reducible first | assumption | intro _ | apply State.reserveOn_kept | apply State.recNow_kept | apply ite_kept | apply ite2_kept | apply foldl_kept | dsimp only | split

theorem State.journalShow_kept {orig s : State} (h : Kept orig s) (q : Nat) :
    Kept orig (State.journalShow s q) := by
  unfold State.journalShow
  repeat' with_reducible first | assumption | intro _ | apply State.keepersShow_kept | apply State.zmpShow_kept | apply State.mbrShow_kept | apply State.zoneShow_kept | apply State.headerUpdate_kept | apply State.modJn_kept | apply State.wr64_kept | apply State.setN_kept | apply State.put_kept | dsimp only | split

theorem State.ctxResume_kept {orig s : State} (h : Kept orig s)  :
    Kept orig (State.ctxResume s) := by
  unfold State.ctxResume
  repeat' with_reducible first | assumption | intro _ | apply State.ctxStart_kept | apply foldl_kept | dsimp only

theorem replayEnd3_kept {orig s3 : State} (h : Kept orig s3) : Kept orig (s3.anaTo s3.anaServe).aliveStart :=
  State.aliveStart_kept (State.anaTo_kept h _)

theorem replayEnd2_kept {orig s2 : State} (h : Kept orig s2) : Kept orig (
    let s3 := ((if s2.get Fld.GNT.STATUS.ROLE = 2 then s2 else s2.ctxResume.logFill 4).nsRun 2049).dramShow.reserveAll
    (s3.anaTo s3.anaServe).aliveStart) := by
  have h3 : Kept orig ((if s2.get Fld.GNT.STATUS.ROLE = 2 then s2 else s2.ctxResume.logFill 4).nsRun 2049).dramShow.reserveAll :=
    State.reserveAll_kept (State.dramShow_kept (State.nsRun_kept (ite_kept h (State.logFill_kept (State.ctxResume_kept h) 4)) 2049))
  generalize ((if s2.get Fld.GNT.STATUS.ROLE = 2 then s2 else s2.ctxResume.logFill 4).nsRun 2049).dramShow.reserveAll = s3 at h3 ⊢
  exact replayEnd3_kept h3

theorem replayEnd1_kept {orig s1 : State} (h : Kept orig s1) : Kept orig (
    let s2 := (s1.modBoot fun b => { b with phase := 8 }).recDrain.keyWaitShow
    let s3 := ((if s2.get Fld.GNT.STATUS.ROLE = 2 then s2 else s2.ctxResume.logFill 4).nsRun 2049).dramShow.reserveAll
    (s3.anaTo s3.anaServe).aliveStart) := by
  have h2 : Kept orig (s1.modBoot fun b => { b with phase := 8 }).recDrain.keyWaitShow :=
    State.keyWaitShow_kept (State.recDrain_kept (State.modBoot_kept h rfl))
  generalize (s1.modBoot fun b => { b with phase := 8 }).recDrain.keyWaitShow = s2 at h2 ⊢
  exact replayEnd2_kept h2

theorem State.replayEnd_kept {orig s : State} (h : Kept orig s) (q : Nat) (holds : Bool) : Kept orig (s.replayEnd q holds) := by
  have h1 : Kept orig ((((s.journalShow q).on Fld.GNT.STATUS.REPLAY_DONE).off Fld.GNT.STATUS.DUMP_PENDING).roleSet holds).carStart :=
    State.carStart_kept (State.roleSet_kept (State.off_kept (State.on_kept (State.journalShow_kept h q) _) _) _)
  unfold State.replayEnd
  generalize ((((s.journalShow q).on Fld.GNT.STATUS.REPLAY_DONE).off Fld.GNT.STATUS.DUMP_PENDING).roleSet holds).carStart = s1 at h1 ⊢
  exact replayEnd1_kept h1

theorem State.replay_kept {orig s0 : State} (h : Kept orig s0) (readable : Bool) (holds : Bool) (fixed : List Nat) (bad : List Nat) :
    Kept orig (State.replay s0 readable holds fixed bad) := by
  unfold State.replay
  repeat' with_reducible first | assumption | intro _ | apply State.replayEnd_kept | apply State.carStart_kept | apply State.rejoin_kept | apply State.replayRing_kept | apply State.restore_kept | apply State.linesRetire_kept | apply State.anaSet_kept | apply ite_kept | dsimp only | split

theorem execReplay_kept {orig s : State} (h : Kept orig s) (readable : Bool) (holds : Bool) (fixed : List Nat) (bad : List Nat) :
    OutKept orig (execReplay readable holds fixed bad s) := by
  unfold execReplay
  repeat' with_reducible first | assumption | intro _ | apply State.replay_kept | apply State.settle_kept | apply next_kept | apply ite_kept | apply outIte_kept | dsimp only | split

theorem State.pathUp_kept {orig s : State} (h : Kept orig s) (p : Nat) :
    Kept orig (State.pathUp s p) := by
  unfold State.pathUp
  repeat' with_reducible first | assumption | intro _ | apply State.on_kept | apply ite_kept | split

theorem State.mirAck_kept {orig s : State} (h : Kept orig s)  :
    Kept orig (State.mirAck s) := by
  unfold State.mirAck
  repeat' with_reducible first | assumption | intro _ | apply State.sendMirror_kept

theorem State.verifyCompare_kept {orig s : State} (h : Kept orig s) (m : Nat) (d : BitVec 64) :
    Kept orig (State.verifyCompare s m d) := by
  unfold State.verifyCompare
  repeat' with_reducible first | assumption | intro _ | apply State.outOfStep_kept | apply State.evAt_kept | apply State.detail_kept | apply State.satInc_kept | apply State.off_kept | apply State.on_kept | apply State.put_kept | apply ite_kept | dsimp only | split

theorem State.mirWrite_kept {orig s : State} (h : Kept orig s) (b : MirBody) (bad : List Nat) :
    Kept orig (State.mirWrite s b bad) := by
  unfold State.mirWrite
  repeat' with_reducible first | assumption | intro _ | apply State.outOfStep_kept | apply State.badRetire_kept | apply State.wearLines_kept | apply ite_kept | dsimp only | split

theorem State.mirApply_kept {orig s0 : State} (h : Kept orig s0) (m : Nat) (b : MirBody) (bad : List Nat) :
    Kept orig (State.mirApply s0 m b bad) := by
  unfold State.mirApply
  repeat' with_reducible first | assumption | intro _ | apply State.mirWrite_kept | apply State.verifyCompare_kept | apply State.release_kept | apply State.modNv_kept | apply State.modJn_kept | apply State.wr64_kept | apply ite_kept | dsimp only | split

theorem State.mirHeld_kept {orig s : State} (h : Kept orig s)  :
    ∀ fuel, Kept orig (State.mirHeld s fuel) := by
  intro fuel
  induction fuel generalizing s with
  | zero => exact h
  | succ fuel ih =>
    unfold State.mirHeld
    repeat' with_reducible first | assumption | intro _ | apply ih | apply State.mirApply_kept | apply State.modJn_kept | apply ite_kept | dsimp only | split

theorem State.mirReceive_kept {orig s0 : State} (h : Kept orig s0) (p : Nat) (m : Nat) (b : MirBody) (bad : List Nat) :
    Kept orig (State.mirReceive s0 p m b bad) := by
  unfold State.mirReceive
  repeat' with_reducible first | assumption | intro _ | apply State.mirHeld_kept | apply State.mirApply_kept | apply State.mirAck_kept | apply State.pathUp_kept | apply State.modJn_kept | apply State.satInc_kept | apply ite_kept | dsimp only | split

theorem execMirrorRecordReceive_kept {orig s : State} (h : Kept orig s) (path : Nat) (mseq : Nat) (body : MirBody) (bad : List Nat) :
    OutKept orig (execMirrorRecordReceive path mseq body bad s) := by
  unfold execMirrorRecordReceive
  repeat' with_reducible first | assumption | intro _ | apply State.mirReceive_kept | apply next_kept | apply ite_kept | apply outIte_kept | dsimp only | split

theorem State.resyncCheck_kept {orig s : State} (h : Kept orig s)  :
    Kept orig (State.resyncCheck s) := by
  unfold State.resyncCheck
  repeat' with_reducible first | assumption | intro _ | apply State.evAt_kept | apply State.modJn_kept | apply State.off_kept | apply State.on_kept | apply ite_kept | dsimp only | split

theorem State.mirAcked_kept {orig s0 : State} (h : Kept orig s0) (p : Nat) (x : Nat) (out : Bool) :
    Kept orig (State.mirAcked s0 p x out) := by
  unfold State.mirAcked
  repeat' with_reducible first | assumption | intro _ | apply State.resyncCheck_kept | apply State.pathUp_kept | apply State.outOfStep_kept | apply State.commitAll_kept | apply State.relCheck_kept | apply State.modJn_kept | apply State.wr64_kept | apply ite_kept | dsimp only | split

theorem execMirrorAckReceive_kept {orig s : State} (h : Kept orig s) (path : Nat) (upTo : Nat) (out : Bool) :
    OutKept orig (execMirrorAckReceive path upTo out s) := by
  unfold execMirrorAckReceive
  repeat' with_reducible first | assumption | intro _ | apply State.mirAcked_kept | apply State.settle_kept | apply next_kept | apply ite_kept | apply outIte_kept | dsimp only | split

theorem execMirrorRetxTimeout_kept {orig s : State} (h : Kept orig s) (mseq : Nat) :
    OutKept orig (execMirrorRetxTimeout mseq s) := by
  unfold execMirrorRetxTimeout
  repeat' with_reducible first | assumption | intro _ | apply State.sendMirror_kept | apply State.satInc_kept | apply next_kept | apply ite_kept | apply outIte_kept | dsimp only | split

theorem execMirrorPathDown_kept {orig s : State} (h : Kept orig s) (path : Nat) :
    OutKept orig (execMirrorPathDown path s) := by
  unfold execMirrorPathDown
  repeat' with_reducible first | assumption | intro _ | apply State.settle_kept | apply State.evAt_kept | apply State.off_kept | apply next_kept | apply ite_kept | apply outIte_kept | dsimp only | split

theorem execHeartbeatSend_kept {orig s : State} (h : Kept orig s)  :
    OutKept orig (execHeartbeatSend s) := by
  unfold execHeartbeatSend
  repeat' with_reducible first | assumption | intro _ | apply State.sendMirror_kept | apply State.modJn_kept | apply next_kept | apply ite_kept | apply outIte_kept | dsimp only | split

theorem State.resyncStart_kept {orig s : State} (h : Kept orig s)  :
    Kept orig (State.resyncStart s) := by
  unfold State.resyncStart
  repeat' with_reducible first | assumption | intro _ | apply State.resyncCheck_kept | apply State.mirSend_kept | apply State.modNv_kept | apply State.modJn_kept | apply State.on_kept | apply ite_kept | apply ite2_kept | apply foldl_kept | apply foldlP_kept | refine snd_kept ?_ (by assumption) | refine snd3_kept ?_ (by assumption) | dsimp only | split

theorem State.standbyBeat_kept {orig s : State} (h : Kept orig s) (sent : Nat) :
    Kept orig (State.standbyBeat s sent) := by
  unfold State.standbyBeat
  repeat' with_reducible first | assumption | intro _ | apply State.mirAck_kept | apply State.evAt_kept | apply State.anaTo_kept | apply State.modNv_kept | apply State.modJn_kept | apply State.wr64_kept | apply State.on_kept | apply ite_kept | dsimp only | split

theorem State.heartbeat_kept {orig s0 : State} (h : Kept orig s0) (p : Nat) (sent : Nat) (role : Nat) (wait : Bool) :
    Kept orig (State.heartbeat s0 p sent role wait) := by
  unfold State.heartbeat
  repeat' with_reducible first | assumption | intro _ | apply State.standbyBeat_kept | apply State.resyncStart_kept | apply State.pathUp_kept | apply State.keyWaitShow_kept | apply State.outOfStep_kept | apply State.commitAll_kept | apply State.evAt_kept | apply State.modJn_kept | apply ite_kept | dsimp only | split

theorem execHeartbeatReceive_kept {orig s : State} (h : Kept orig s) (path : Nat) (sent : Nat) (role : Nat) (keyWait : Bool) :
    OutKept orig (execHeartbeatReceive path sent role keyWait s) := by
  unfold execHeartbeatReceive
  repeat' with_reducible first | assumption | intro _ | apply State.heartbeat_kept | apply State.settle_kept | apply next_kept | apply ite_kept | apply outIte_kept | dsimp only | split

theorem execVerifyRecordSend_kept {orig s : State} (h : Kept orig s)  :
    OutKept orig (execVerifyRecordSend s) := by
  unfold execVerifyRecordSend
  repeat' with_reducible first | assumption | intro _ | apply State.mirSend_kept | apply next_kept | apply ite_kept | apply outIte_kept | refine snd_kept ?_ (by assumption) | refine snd3_kept ?_ (by assumption) | dsimp only | split

theorem State.partnerSilent_kept {orig s : State} (h : Kept orig s)  :
    Kept orig (State.partnerSilent s) := by
  unfold State.partnerSilent
  repeat' with_reducible first | assumption | intro _ | apply State.reserve_kept | apply State.evAt_kept | apply State.modJn_kept | apply State.emit_kept | apply ite_kept | dsimp only | split

theorem execPartnerSilent_kept {orig s : State} (h : Kept orig s)  :
    OutKept orig (execPartnerSilent s) := by
  unfold execPartnerSilent
  repeat' with_reducible first | assumption | intro _ | apply State.partnerSilent_kept | apply State.settle_kept | apply next_kept | apply ite_kept | apply outIte_kept | dsimp only | split

theorem State.standDown_kept {orig s : State} (h : Kept orig s)  :
    Kept orig (State.standDown s) := by
  unfold State.standDown
  repeat' with_reducible first | assumption | intro _ | apply State.outOfStep_kept | apply State.zmpShow_kept | apply State.evAt_kept | apply State.cmdEnd_kept | apply State.anaSet_kept | apply State.modCmd_kept | apply State.setSlots_kept | apply State.modNv_kept | apply State.modJn_kept | apply State.setN_kept | apply State.off_kept | apply State.put_kept | apply foldl_kept | apply foldlP_kept | dsimp only | split

theorem State.takeover_kept {orig s : State} (h : Kept orig s) (fixed : List Nat) (bad : List Nat) :
    Kept orig (State.takeover s fixed bad) := by
  unfold State.takeover
  repeat' with_reducible first | assumption | intro _ | apply State.ctxResume_kept | apply State.journalShow_kept | apply State.replayRing_kept | apply State.dramShow_kept | apply State.outOfStep_kept | apply State.reserve_kept | apply State.logFill_kept | apply State.recNow_kept | apply State.linesRetire_kept | apply State.takeoverEnd_kept | apply State.anaTo_kept | apply State.anaSet_kept | apply State.modNv_kept | apply State.modJn_kept | apply State.emit_kept | apply State.on_kept | apply State.put_kept | apply foldl_kept | apply foldlP_kept | dsimp only | split

theorem State.reservation_kept {orig s : State} (h : Kept orig s) (first : Bool) (fixed : List Nat) (bad : List Nat) :
    Kept orig (State.reservation s first fixed bad) := by
  unfold State.reservation
  repeat' with_reducible first | assumption | intro _ | apply State.takeover_kept | apply State.standDown_kept | apply State.outOfStep_kept | apply State.commitAll_kept | apply State.recNow_kept | apply State.evAt_kept | apply State.modJn_kept | apply ite_kept | dsimp only | split

theorem execReservationResult_kept {orig s : State} (h : Kept orig s) (first : Bool) (fixed : List Nat) (bad : List Nat) :
    OutKept orig (execReservationResult first fixed bad s) := by
  unfold execReservationResult
  repeat' with_reducible first | assumption | intro _ | apply State.reservation_kept | apply State.settle_kept | apply next_kept | apply ite_kept | apply outIte_kept | dsimp only | split

theorem State.failback_kept {orig s : State} (h : Kept orig s)  :
    Kept orig (State.failback s) := by
  unfold State.failback
  repeat' with_reducible first | assumption | intro _ | apply State.evAt_kept | apply State.anaTo_kept | apply ite_kept | split

theorem execFailbackRequest_kept {orig s : State} (h : Kept orig s)  :
    OutKept orig (execFailbackRequest s) := by
  unfold execFailbackRequest
  repeat' with_reducible first | assumption | intro _ | apply State.failback_kept | apply State.settle_kept | apply next_kept | apply ite_kept | apply outIte_kept | dsimp only | split

theorem State.ownershipPass_kept {orig s : State} (h : Kept orig s) (fixed : List Nat) (bad : List Nat) :
    Kept orig (State.ownershipPass s fixed bad) := by
  unfold State.ownershipPass
  repeat' with_reducible first | assumption | intro _ | apply State.takeover_kept | apply State.outOfStep_kept | apply State.anaTo_kept | apply State.off_kept | apply State.put_kept | apply ite_kept | dsimp only | split

theorem execFailbackOwnershipPass_kept {orig s : State} (h : Kept orig s) (fixed : List Nat) (bad : List Nat) :
    OutKept orig (execFailbackOwnershipPass fixed bad s) := by
  unfold execFailbackOwnershipPass
  repeat' with_reducible first | assumption | intro _ | apply State.ownershipPass_kept | apply State.settle_kept | apply next_kept | apply ite_kept | apply outIte_kept | dsimp only | split

end Sys2Proof.Machine
end

