-- ==== Sys2Proof/Laws/KeptMembers.lean ====
section
/-! SUPPORT. What every operation keeps (Kept), one lemma per operation and per meaning: the members, the admin commands, the switch's schedules, the configuration store, attestation and checkpoints. -/

namespace Sys2Proof.Machine
open Sys2Proof

theorem State.tagsShow_kept {orig s : State} (h : Kept orig s) (n : Nat) :
    Kept orig (State.tagsShow s n) := by
  unfold State.tagsShow
  repeat' with_reducible first | assumption | intro _ | apply State.put_kept

theorem State.mzoneWrite_kept {orig s : State} (h : Kept orig s) (d : Nat) (n : Nat) (lba : Nat) :
    Kept orig (State.mzoneWrite s d n lba) := by
  unfold State.mzoneWrite
  repeat' with_reducible first | assumption | intro _ | apply State.modPort_kept | apply State.emit_kept | apply State.off_kept | apply ite_kept | dsimp only | split

theorem State.mwriteBad_kept {orig s : State} (h : Kept orig s) (r : MReq) (bad : List (Nat × Nat)) :
    Kept orig (State.mwriteBad s r bad) := by
  unfold State.mwriteBad
  repeat' with_reducible first | assumption | intro _ | apply State.sealMismatch_kept | apply State.event_kept | apply State.count_kept | apply State.satInc_kept | apply foldl_kept | apply foldlP_kept | dsimp only

theorem State.cmdOut_kept {orig s : State} (h : Kept orig s) (n : Nat) (t : Nat) (r : MReq) (k : Nat) :
    Kept orig (State.cmdOut s n t r k) := by
  unfold State.cmdOut
  repeat' with_reducible first | assumption | intro _ | apply State.emit_kept | apply ite_kept | dsimp only | split

theorem State.reqIssue_kept {orig s : State} (h : Kept orig s) (n : Nat) :
    Kept orig (State.reqIssue s n) := by
  unfold State.reqIssue
  repeat' with_reducible first | assumption | intro _ | apply State.cmdOut_kept | apply State.mwriteBad_kept | apply State.mzoneWrite_kept | apply State.tagsShow_kept | apply State.usedNow_kept | apply State.modPort_kept | apply ite_kept | dsimp only | split

theorem execMemberRequestIssue_kept {orig s : State} (h : Kept orig s) (slot : Nat) :
    OutKept orig (execMemberRequestIssue slot s) := by
  unfold execMemberRequestIssue
  repeat' with_reducible first | assumption | intro _ | apply State.reqIssue_kept | apply State.settle_kept | apply next_kept | apply ite_kept | apply outIte_kept | dsimp only | split

theorem State.countMismatch_kept {orig s : State} (h : Kept orig s) (r : MReq) (bad : List (Nat × Nat)) :
    Kept orig (State.countMismatch s r bad) := by
  unfold State.countMismatch
  repeat' with_reducible first | assumption | intro _ | apply State.failMark_kept | apply State.sealMismatch_kept | apply State.event_kept | apply State.count_kept | apply State.modMb_kept | apply State.satInc_kept | apply ite_kept | apply ite2_kept | apply foldl_kept | apply foldlP_kept | dsimp only | split

theorem State.addUnread_kept {orig s : State} (h : Kept orig s) (stripe : Nat) (pos : Nat) (blks : List Nat) :
    Kept orig (State.addUnread s stripe pos blks) := by
  unfold State.addUnread
  repeat' with_reducible first | assumption | intro _ | apply State.limitFall_kept | apply State.modMb_kept | apply ite_kept | dsimp only | split

theorem State.reconBlks_kept {orig s : State} (h : Kept orig s) (r : MReq) (t : Nat) (idx : Nat) (blks : List Nat) :
    Kept orig (State.reconBlks s r t idx blks) := by
  unfold State.reconBlks
  repeat' with_reducible first | assumption | intro _ | apply State.addRecon_kept | apply foldl_kept | apply foldlP_kept | dsimp only

theorem State.readEnd_kept {orig s : State} (h : Kept orig s) (r : MReq) (ok : Bool) (blks : List Blk) :
    Kept orig (State.readEnd s r ok blks) := by
  unfold State.readEnd
  repeat' with_reducible first | assumption | intro _ | apply State.reconBlks_kept | apply State.addUnread_kept | apply State.countMismatch_kept | apply State.readGot_kept | apply State.reconRestart_kept | apply State.modMb_kept | apply ite_kept | apply ite2_kept | apply foldl_kept | apply foldlP_kept | dsimp only | split

theorem State.memberCount_kept {orig s : State} (h : Kept orig s) (n : Nat) (r : MReq) (ok : Bool) (us : Nat) :
    Kept orig (State.memberCount s n r ok us) := by
  unfold State.memberCount
  repeat' with_reducible first | assumption | intro _ | apply State.bwAdd_kept | apply State.count_kept | apply State.modPort_kept | apply ite_kept | dsimp only | split

theorem State.capFall_kept {orig s : State} (h : Kept orig s)  :
    ∀ fuel, Kept orig (State.capFall s fuel) := by
  intro fuel
  induction fuel generalizing s with
  | zero => exact h
  | succ fuel ih =>
    unfold State.capFall
    repeat' with_reducible first | assumption | intro _ | apply ih | apply State.toIdle_kept | apply ite_kept | dsimp only | split

theorem State.roomWanted_kept {orig s : State} (h : Kept orig s)  :
    Kept orig (State.roomWanted s) := by
  unfold State.roomWanted
  repeat' with_reducible first | assumption | intro _ | apply State.makeRoom_kept | apply ite_kept | dsimp only | split

theorem State.tagFreed_kept {orig s : State} (h : Kept orig s) (n : Nat) :
    Kept orig (State.tagFreed s n) := by
  unfold State.tagFreed
  repeat' with_reducible first | assumption | intro _ | apply State.roomWanted_kept | apply State.capFall_kept | apply State.tagsShow_kept | apply State.onSlot_kept | apply State.quiesce_kept | apply ite_kept | dsimp only | split

theorem State.memberDone_kept {orig s : State} (h : Kept orig s) (n : Nat) (t : Nat) (status : Nat) (blks : List Blk) :
    Kept orig (State.memberDone s n t status blks) := by
  unfold State.memberDone
  repeat' with_reducible first | assumption | intro _ | apply State.tagFreed_kept | apply State.memberCount_kept | apply State.readEnd_kept | apply State.cmdOut_kept | apply State.standDown_kept | apply State.relCheck_kept | apply State.finishAll_kept | apply State.writeOver_kept | apply State.failMark_kept | apply State.detail_kept | apply State.modPort_kept | apply State.modMb_kept | apply State.satInc_kept | apply ite_kept | dsimp only | split

theorem execMemberCompletion_kept {orig s : State} (h : Kept orig s) (slot : Nat) (tag : Nat) (status : Nat) (blks : List Blk) :
    OutKept orig (execMemberCompletion slot tag status blks s) := by
  unfold execMemberCompletion
  repeat' with_reducible first | assumption | intro _ | apply State.memberDone_kept | apply State.settle_kept | apply next_kept | apply ite_kept | apply outIte_kept | dsimp only | split

theorem State.cplTimeout_kept {orig s : State} (h : Kept orig s) (n : Nat) (t : Nat) :
    Kept orig (State.cplTimeout s n t) := by
  unfold State.cplTimeout
  repeat' with_reducible first | assumption | intro _ | apply State.tagFreed_kept | apply State.reconBlks_kept | apply State.reconRestart_kept | apply State.failMark_kept | apply State.eventHeld_kept | apply State.modPort_kept | apply State.modMb_kept | apply State.emit_kept | apply State.satInc_kept | apply ite_kept | dsimp only | split

theorem execCompletionTimeout_kept {orig s : State} (h : Kept orig s) (slot : Nat) (tag : Nat) :
    OutKept orig (execCompletionTimeout slot tag s) := by
  unfold execCompletionTimeout
  repeat' with_reducible first | assumption | intro _ | apply State.cplTimeout_kept | apply State.settle_kept | apply next_kept | apply ite_kept | apply outIte_kept | dsimp only | split

theorem execTagQuarantineEnd_kept {orig s : State} (h : Kept orig s) (slot : Nat) (tag : Nat) :
    OutKept orig (execTagQuarantineEnd slot tag s) := by
  unfold execTagQuarantineEnd
  repeat' with_reducible first | assumption | intro _ | apply State.tagsShow_kept | apply State.modPort_kept | apply next_kept | apply ite_kept | apply outIte_kept | dsimp only | split

theorem execMemberInboundWrite_kept {orig s : State} (h : Kept orig s) (slot : Nat) (addr : Nat) (bytes : List Byte) :
    OutKept orig (execMemberInboundWrite slot addr bytes s) := by
  unfold execMemberInboundWrite
  repeat' with_reducible first | assumption | intro _ | apply State.modPort_kept | apply State.satInc_kept | apply next_kept | apply ite_kept | apply outIte_kept | apply ite2_kept | apply foldl_kept | apply foldlP_kept | dsimp only | split

theorem execMemberInboundRead_kept {orig s : State} (h : Kept orig s) (slot : Nat) (addr : Nat) (len : Nat) :
    OutKept orig (execMemberInboundRead slot addr len s) := by
  unfold execMemberInboundRead
  repeat' with_reducible first | assumption | intro _ | apply State.emit_kept | apply next_kept | apply ite_kept | apply outIte_kept | apply optGetD_kept | apply optOr_kept | dsimp only | split

theorem State.reconShow_kept {orig s : State} (h : Kept orig s)  :
    Kept orig (State.reconShow s) := by
  unfold State.reconShow
  repeat' with_reducible first | assumption | intro _ | apply State.put_kept | dsimp only

theorem State.reconStart_kept {orig s : State} (h : Kept orig s) (id : Nat) :
    Kept orig (State.reconStart s id) := by
  unfold State.reconStart
  repeat' with_reducible first | assumption | intro _ | apply State.reconShow_kept | apply State.cmdFail_kept | apply State.routeRead_kept | apply State.addRecon_kept | apply State.deferReq_kept | apply State.makeRoom_kept | apply State.enqueueReq_kept | apply State.lossRange_kept | apply State.event_kept | apply State.modMb_kept | apply ite_kept | apply ite2_kept | apply foldl_kept | apply foldlP_kept | dsimp only | split

theorem execReconstructionStart_kept {orig s : State} (h : Kept orig s) (job : Nat) :
    OutKept orig (execReconstructionStart job s) := by
  unfold execReconstructionStart
  repeat' with_reducible first | assumption | intro _ | apply State.reconStart_kept | apply State.settle_kept | apply next_kept | apply ite_kept | apply outIte_kept | dsimp only | split

theorem State.reconDone_kept {orig s : State} (h : Kept orig s) (id : Nat) :
    Kept orig (State.reconDone s id) := by
  unfold State.reconDone
  repeat' with_reducible first | assumption | intro _ | apply State.reconShow_kept | apply State.readGot_kept | apply State.cmdFail_kept | apply State.reconAgain_kept | apply State.lossAdd_kept | apply State.sealMismatch_kept | apply State.event_kept | apply State.count_kept | apply State.modCmd_kept | apply State.modMb_kept | apply State.add64_kept | apply State.satInc_kept | apply ite_kept | apply ite2_kept | apply foldl_kept | apply foldlP_kept | dsimp only | split

theorem execReconstructionDone_kept {orig s : State} (h : Kept orig s) (job : Nat) :
    OutKept orig (execReconstructionDone job s) := by
  unfold execReconstructionDone
  repeat' with_reducible first | assumption | intro _ | apply State.reconDone_kept | apply State.settle_kept | apply next_kept | apply ite_kept | apply outIte_kept | dsimp only | split

theorem execBerylShareWindowEnd_kept {orig s : State} (h : Kept orig s)  :
    OutKept orig (execBerylShareWindowEnd s) := by
  unfold execBerylShareWindowEnd
  repeat' with_reducible first | assumption | intro _ | apply State.modMb_kept | apply next_kept | apply ite_kept | apply outIte_kept | dsimp only | split

theorem execBackgroundWindowEnd_kept {orig s : State} (h : Kept orig s) (slot : Nat) :
    OutKept orig (execBackgroundWindowEnd slot s) := by
  unfold execBackgroundWindowEnd
  repeat' with_reducible first | assumption | intro _ | apply State.modPort_kept | apply next_kept | apply ite_kept | apply outIte_kept | dsimp only | split

theorem State.deferExpire_kept {orig s : State} (h : Kept orig s) (req : Nat) :
    Kept orig (State.deferExpire s req) := by
  unfold State.deferExpire
  repeat' with_reducible first | assumption | intro _ | apply State.reconShow_kept | apply State.cmdFail_kept | apply State.mbrShow_kept | apply State.evAt_kept | apply State.detach_kept | apply ite_kept | dsimp only | split

theorem execDeferExpiry_kept {orig s : State} (h : Kept orig s) (req : Nat) :
    OutKept orig (execDeferExpiry req s) := by
  unfold execDeferExpiry
  repeat' with_reducible first | assumption | intro _ | apply State.deferExpire_kept | apply State.settle_kept | apply next_kept | apply ite_kept | apply outIte_kept | dsimp only | split

theorem State.bgLossAll_kept {orig s : State} (h : Kept orig s) (n : Nat) (io : BgIo) :
    Kept orig (State.bgLossAll s n io) := by
  unfold State.bgLossAll
  repeat' with_reducible first | assumption | intro _ | apply State.stripeGone_kept | apply State.lossRange_kept | apply ite_kept | apply ite2_kept | apply foldl_kept | dsimp only | split

theorem State.bgMismatch_kept {orig s : State} (h : Kept orig s) (n : Nat) (p : Nat) (b : Nat) :
    Kept orig (State.bgMismatch s n p b) := by
  unfold State.bgMismatch
  repeat' with_reducible first | assumption | intro _ | apply State.sealMismatch_kept | apply State.count_kept | apply State.satInc_kept | dsimp only

theorem State.bgFail_kept {orig s : State} (h : Kept orig s) (n : Nat) (io : BgIo) (p : Nat) (bs : List Nat) :
    Kept orig (State.bgFail s n io p bs) := by
  unfold State.bgFail
  repeat' with_reducible first | assumption | intro _ | apply State.bgMismatch_kept | apply State.lossAdd_kept | apply State.event_kept | apply ite_kept | apply ite2_kept | apply foldl_kept | dsimp only | split

theorem State.bgRecovers_kept {orig s : State} (h : Kept orig s) (n : Nat) (io : BgIo) (p : Nat) (bs : List Nat) :
    Kept orig (State.bgRecovers s n io p bs) := by
  unfold State.bgRecovers
  repeat' with_reducible first | assumption | intro _ | apply State.bgFail_kept | apply State.count_kept | apply State.modMb_kept | apply State.add64_kept | dsimp only

theorem State.bgRecover_kept {orig s : State} (h : Kept orig s) (n : Nat) (io : BgIo) (p : Nat) :
    Kept orig (State.bgRecover s n io p) := by
  unfold State.bgRecover
  repeat' with_reducible first | assumption | intro _ | apply State.bgRecovers_kept | dsimp only

theorem State.reach1_kept {orig s : State} (h : Kept orig s) (cols : List Nat) (c : Nat) :
    OptKept orig (State.reach1 s cols c) := by
  unfold State.reach1
  repeat' with_reducible first | assumption | intro _ | apply State.redispatch_kept | apply State.toActive_kept | apply State.toIdle_kept | apply optSome_kept | exact optNone_kept | apply optMap_kept | apply optBind_kept | apply optFold_kept | apply ite_kept | apply optIte_kept | dsimp only | split

theorem State.bgReach_kept {orig s : State} (h : Kept orig s) (cols : List Nat) :
    OptKept orig (State.bgReach s cols) := by
  unfold State.bgReach
  repeat' with_reducible first | assumption | intro _ | apply State.reach1_kept | apply optSome_kept | exact optNone_kept | apply optMap_kept | apply optBind_kept | apply optFold_kept | apply ite_kept | apply optIte_kept | apply ite2_kept | apply foldl_kept | refine some_kept ?_ (by assumption) | dsimp only | split

theorem State.bgAsk_kept {orig s : State} (h : Kept orig s) (cols : List Nat) :
    Kept orig (State.bgAsk s cols) := by
  unfold State.bgAsk
  repeat' with_reducible first | assumption | intro _ | apply State.modPort_kept | apply ite_kept | apply ite2_kept | apply foldl_kept | dsimp only | split

theorem State.bgReads_kept {orig s : State} (h : Kept orig s) (n : Nat) (io : BgIo) :
    Kept orig (State.bgReads s n io) := by
  unfold State.bgReads
  repeat' with_reducible first | assumption | intro _ | apply State.memberCount_kept | apply State.addUnread_kept | apply State.countMismatch_kept | apply State.usedNow_kept | apply State.emit_kept | apply ite_kept | apply ite2_kept | apply foldl_kept | apply foldlP_kept | apply optGetD_kept | apply optOr_kept | dsimp only | split

theorem State.bgBegin_kept {orig s : State} (h : Kept orig s) (n : Nat) (io : BgIo) :
    Kept orig (State.bgBegin s n io).2 := by
  unfold State.bgBegin
  repeat' with_reducible first | assumption | intro _ | apply State.bgReads_kept | apply State.bgAsk_kept | apply State.bgReach_kept | apply ite_kept | apply ite2_kept | refine some_kept ?_ (by assumption) | dsimp only | split

theorem State.bgWrite_kept {orig s : State} (h : Kept orig s) (d : Nat) (n : Nat) (p : Nat) (loc : Nat) (lba : Nat) (blks : List Blk) (io : BgIo) :
    Kept orig (State.bgWrite s d n p loc lba blks io).2 := by
  unfold State.bgWrite
  repeat' with_reducible first | assumption | intro _ | apply State.bgAsk_kept | apply State.bgReach_kept | apply State.memberCount_kept | apply State.mwriteBad_kept | apply State.mzoneWrite_kept | apply State.standDown_kept | apply State.failMark_kept | apply State.usedNow_kept | apply State.emit_kept | apply ite_kept | apply ite2_kept | refine some_kept ?_ (by assumption) | dsimp only | split

theorem State.unreadDone_kept {orig s : State} (h : Kept orig s) (n : Nat) (p : Nat) :
    Kept orig (State.unreadDone s n p) := by
  unfold State.unreadDone
  repeat' with_reducible first | assumption | intro _ | apply State.modMb_kept | dsimp only

theorem State.repairPlace_kept {orig s : State} (h : Kept orig s) (c : Nat) (n : Nat) :
    Kept orig (State.repairPlace s c n).2 := by
  unfold State.repairPlace
  repeat' with_reducible first | assumption | intro _ | apply State.stow_kept | apply State.evAt_kept | apply ite_kept | apply ite2_kept | dsimp only | split

theorem State.repaired_kept {orig s : State} (h : Kept orig s) (c : Nat) (n : Nat) (p : Nat) (d : Nat) (e : Nat) :
    Kept orig (State.repaired s c n p d e) := by
  unfold State.repaired
  repeat' with_reducible first | assumption | intro _ | apply State.unreadDone_kept | apply State.redispatch_kept | apply State.placed_kept | apply State.failMark_kept | apply State.mbrShow_kept | apply State.recNow_kept | apply State.evAt_kept | apply ite_kept | dsimp only | split

theorem State.repairFrom_kept {orig s0 : State} (h : Kept orig s0) (n : Nat) (p : Nat) (io : BgIo) :
    Kept orig (State.repairFrom s0 n p io).2 := by
  unfold State.repairFrom
  repeat' with_reducible first | assumption | intro _ | apply State.repaired_kept | apply State.repairPlace_kept | apply State.unreadDone_kept | apply State.bgWrite_kept | apply State.bgRecover_kept | apply State.bgLossAll_kept | apply ite_kept | apply ite2_kept | refine snd_kept ?_ (by assumption) | refine snd3_kept ?_ (by assumption) | dsimp only | split

theorem State.repair_kept {orig s : State} (h : Kept orig s) (c : Nat) (n : Nat) (io : BgIo) :
    Kept orig (State.repair s c n io) := by
  unfold State.repair
  repeat' with_reducible first | assumption | intro _ | apply State.repairFrom_kept | apply State.unreadDone_kept | apply State.bgBegin_kept | apply ite_kept | apply optGetD_kept | apply optOr_kept | refine snd_kept ?_ (by assumption) | refine snd3_kept ?_ (by assumption) | dsimp only | split

theorem execRepairDone_kept {orig s : State} (h : Kept orig s) (col : Nat) (stripe : Nat) (io : BgIo) :
    OutKept orig (execRepairDone col stripe io s) := by
  unfold execRepairDone
  repeat' with_reducible first | assumption | intro _ | apply State.repair_kept | apply State.settle_kept | apply next_kept | apply ite_kept | apply outIte_kept | dsimp only | split

theorem State.recBlock_kept {orig s : State} (h : Kept orig s) (k : Nat) (io : BgIo) (i : Nat) :
    Kept orig (State.recBlock s k io i).2 := by
  unfold State.recBlock
  repeat' with_reducible first | assumption | intro _ | apply State.bgRecovers_kept | apply State.tailLost_kept | apply State.tailBad_kept | apply State.lossRange_kept | apply State.modNv_kept | apply ite_kept | apply ite2_kept | apply optGetD_kept | apply optOr_kept | refine snd_kept ?_ (by assumption) | refine snd3_kept ?_ (by assumption) | dsimp only | split

theorem State.recReach_kept {orig s : State} (h : Kept orig s) (cols : List Nat) :
    OptKept orig (State.recReach s cols) := by
  unfold State.recReach
  repeat' with_reducible first | assumption | intro _ | apply State.reach1_kept | apply optSome_kept | exact optNone_kept | apply optMap_kept | apply optBind_kept | apply optFold_kept | apply foldl_kept | refine some_kept ?_ (by assumption) | dsimp only

theorem State.recomputeDone_kept {orig s0 : State} (h : Kept orig s0) (k : Nat) (io : BgIo) :
    Kept orig (State.recomputeDone s0 k io) := by
  unfold State.recomputeDone
  repeat' with_reducible first | assumption | intro _ | apply State.recReach_kept | apply State.recBlock_kept | apply State.bgReads_kept | apply State.pump_kept | apply State.linesRetire_kept | apply State.setSlot_kept | apply ite_kept | apply ite2_kept | apply foldl_kept | apply foldlP_kept | refine snd_kept ?_ (by assumption) | refine snd3_kept ?_ (by assumption) | refine some_kept ?_ (by assumption) | dsimp only | split

theorem execSlotRecomputeDone_kept {orig s : State} (h : Kept orig s) (slot : Nat) (io : BgIo) :
    OutKept orig (execSlotRecomputeDone slot io s) := by
  unfold execSlotRecomputeDone
  repeat' with_reducible first | assumption | intro _ | apply State.recomputeDone_kept | apply next_kept | apply ite_kept | apply outIte_kept | dsimp only | split

theorem execDarkEpochBoundary_kept {orig s : State} (h : Kept orig s)  :
    OutKept orig (execDarkEpochBoundary s) := by
  unfold execDarkEpochBoundary
  repeat' with_reducible first | assumption | intro _ | apply State.settle_kept | apply State.darkChange_kept | apply next_kept | apply ite_kept | apply outIte_kept | dsimp only | split

theorem State.idleTimeout_kept {orig s : State} (h : Kept orig s) (c : Nat) :
    Kept orig (State.idleTimeout s c) := by
  unfold State.idleTimeout
  repeat' with_reducible first | assumption | intro _ | apply State.toIdle_kept | apply ite_kept | split

theorem execIdleTimeout_kept {orig s : State} (h : Kept orig s) (slot : Nat) :
    OutKept orig (execIdleTimeout slot s) := by
  unfold execIdleTimeout
  repeat' with_reducible first | assumption | intro _ | apply State.idleTimeout_kept | apply State.onSlot_kept | apply next_kept | apply ite_kept | apply outIte_kept | dsimp only | split

theorem State.activationDone_kept {orig s : State} (h : Kept orig s) (c : Nat) :
    Kept orig (State.activationDone s c) := by
  unfold State.activationDone
  repeat' with_reducible first | assumption | intro _ | apply State.redispatch_kept | apply State.toActive_kept | apply ite_kept | dsimp only | split

theorem execActivationDone_kept {orig s : State} (h : Kept orig s) (slot : Nat) :
    OutKept orig (execActivationDone slot s) := by
  unfold execActivationDone
  repeat' with_reducible first | assumption | intro _ | apply State.activationDone_kept | apply State.settle_kept | apply State.onSlot_kept | apply next_kept | apply ite_kept | apply outIte_kept | dsimp only | split

theorem State.shutdownOver_kept {orig s : State} (h : Kept orig s) (n : Nat) :
    Kept orig (State.shutdownOver s n) := by
  unfold State.shutdownOver
  repeat' with_reducible first | assumption | intro _ | apply State.onSlot_kept | apply State.darkPhase_kept | apply State.takeUp_kept | apply State.setPs_kept | apply State.perst_kept | apply ite_kept | dsimp only | split

theorem execMemberShutdownComplete_kept {orig s : State} (h : Kept orig s) (slot : Nat) :
    OutKept orig (execMemberShutdownComplete slot s) := by
  unfold execMemberShutdownComplete
  repeat' with_reducible first | assumption | intro _ | apply State.shutdownOver_kept | apply State.settle_kept | apply next_kept | apply ite_kept | apply outIte_kept | dsimp only | split

theorem execShutdownWaitTimeout_kept {orig s : State} (h : Kept orig s) (slot : Nat) (waitMs : Nat) :
    OutKept orig (execShutdownWaitTimeout slot waitMs s) := by
  unfold execShutdownWaitTimeout
  repeat' with_reducible first | assumption | intro _ | apply State.shutdownOver_kept | apply State.settle_kept | apply State.onSlot_kept | apply State.evAt_kept | apply State.detail_kept | apply next_kept | apply ite_kept | apply outIte_kept | dsimp only | split

theorem State.memberIdle_kept {orig s : State} (h : Kept orig s) (c : Nat) (d : DriveId) :
    Kept orig (State.memberIdle s c d) := by
  unfold State.memberIdle
  repeat' with_reducible first | assumption | intro _ | apply State.reserveOn_kept | apply State.keepersRetry_kept | apply State.darkPhase_kept | apply State.darken_kept | apply State.redispatch_kept | apply State.toIdle_kept | apply State.modPower_kept | apply State.modPort_kept | apply State.modMb_kept | apply State.emit_kept | apply ite_kept | dsimp only | split

theorem execWakeTimeout_kept {orig s : State} (h : Kept orig s) (slot : Nat) :
    OutKept orig (execWakeTimeout slot s) := by
  unfold execWakeTimeout
  repeat' with_reducible first | assumption | intro _ | apply State.settle_kept | apply State.wakeFail_kept | apply State.onSlot_kept | apply next_kept | apply ite_kept | apply outIte_kept | dsimp only | split

theorem State.pwrWrite_kept {orig s : State} (h : Kept orig s) (which : Nat) (v : Nat) :
    Kept orig (State.pwrWrite s which v) := by
  unfold State.pwrWrite
  repeat' with_reducible first | assumption | intro _ | apply State.capFall_kept | apply State.limitFall_kept | apply State.setN_kept | apply ite_kept | dsimp only | split

theorem execPwrConfigWrite_kept {orig s : State} (h : Kept orig s) (which : Nat) (value : Nat) :
    OutKept orig (execPwrConfigWrite which value s) := by
  unfold execPwrConfigWrite
  repeat' with_reducible first | assumption | intro _ | apply State.pwrWrite_kept | apply State.settle_kept | apply next_kept | apply ite_kept | apply outIte_kept | dsimp only | split

theorem execLinkDownAbsent_kept {orig s : State} (h : Kept orig s) (slot : Nat) :
    OutKept orig (execLinkDownAbsent slot s) := by
  unfold execLinkDownAbsent
  repeat' with_reducible first | assumption | intro _ | apply State.settle_kept | apply State.awaitAbsent_kept | apply State.onSlot_kept | apply State.absentColumn_kept | apply State.modPort_kept | apply next_kept | apply ite_kept | apply outIte_kept | dsimp only | split

theorem execAbsentHoldExpiry_kept {orig s : State} (h : Kept orig s) (col : Nat) :
    OutKept orig (execAbsentHoldExpiry col s) := by
  unfold execAbsentHoldExpiry
  repeat' with_reducible first | assumption | intro _ | apply State.settle_kept | apply State.failColumn_kept | apply next_kept | apply ite_kept | apply outIte_kept | dsimp only | split

theorem State.refuse_kept {orig s : State} (h : Kept orig s) (n : Nat) (code : Nat) :
    Kept orig (State.refuse s n code) := by
  unfold State.refuse
  repeat' with_reducible first | assumption | intro _ | apply State.powerDown_kept | apply State.setCol_kept | apply State.evAt_kept | apply State.modPort_kept | apply State.satInc_kept | dsimp only | split

theorem State.adopt_kept {orig s : State} (h : Kept orig s) (c : Nat) (d : DriveId) :
    Kept orig (State.adopt s c d) := by
  unfold State.adopt
  repeat' with_reducible first | assumption | intro _ | apply State.memberIdle_kept | apply State.ctxEnd_kept | apply State.setCol_kept | apply State.setPs_kept | apply State.modPort_kept | apply State.modMb_kept | apply State.emit_kept | apply State.inc_kept | apply ite_kept | dsimp only | split

theorem State.admission_kept {orig s0 : State} (h : Kept orig s0) (n : Nat) (d : DriveId) :
    Kept orig (State.admission s0 n d) := by
  unfold State.admission
  repeat' with_reducible first | assumption | intro _ | apply State.adopt_kept | apply State.refuse_kept | apply State.memberIdle_kept | apply State.onSlot_kept | apply State.failColumn_kept | apply State.powerDown_kept | apply State.setCol_kept | apply State.evAt_kept | apply State.modPort_kept | apply State.emit_kept | apply ite_kept | dsimp only | split

theorem execDriveAdmissionCheck_kept {orig s : State} (h : Kept orig s) (slot : Nat) (drive : DriveId) :
    OutKept orig (execDriveAdmissionCheck slot drive s) := by
  unfold execDriveAdmissionCheck
  repeat' with_reducible first | assumption | intro _ | apply State.admission_kept | apply State.settle_kept | apply next_kept | apply ite_kept | apply outIte_kept | dsimp only | split

theorem State.wakeComplete_kept {orig s : State} (h : Kept orig s) (c : Nat) (d : DriveId) (sealOk : Bool) (ms : Nat) :
    Kept orig (State.wakeComplete s c d sealOk ms) := by
  unfold State.wakeComplete
  repeat' with_reducible first | assumption | intro _ | apply State.refuse_kept | apply State.memberIdle_kept | apply State.wakeFail_kept | apply State.failColumn_kept | apply State.powerDown_kept | apply State.setCol_kept | apply State.emit_kept | apply State.setN_kept | apply ite_kept | dsimp only | split

theorem execWakeComplete_kept {orig s : State} (h : Kept orig s) (slot : Nat) (drive : DriveId) (sealOk : Bool) (ms : Nat) :
    OutKept orig (execWakeComplete slot drive sealOk ms s) := by
  unfold execWakeComplete
  repeat' with_reducible first | assumption | intro _ | apply State.wakeComplete_kept | apply State.settle_kept | apply State.onSlot_kept | apply next_kept | apply ite_kept | apply outIte_kept | dsimp only | split

theorem State.mcmdCode_kept {orig s : State} (h : Kept orig s) (c : Nat) :
    Kept orig (State.mcmdCode s c) := by
  unfold State.mcmdCode
  repeat' with_reducible first | assumption | intro _ | apply State.put_kept

theorem State.memberFailCmd_kept {orig s : State} (h : Kept orig s) (n : Nat) :
    Kept orig (State.memberFailCmd s n) := by
  unfold State.memberFailCmd
  repeat' with_reducible first | assumption | intro _ | apply State.mcmdCode_kept | apply State.failColumn_kept | apply ite_kept | dsimp only | split

theorem execMemberFailCmd_kept {orig s : State} (h : Kept orig s) (slot : Nat) :
    OutKept orig (execMemberFailCmd slot s) := by
  unfold execMemberFailCmd
  repeat' with_reducible first | assumption | intro _ | apply State.memberFailCmd_kept | apply State.settle_kept | apply next_kept | apply ite_kept | apply outIte_kept | dsimp only | split

theorem State.memberAdopt_kept {orig s : State} (h : Kept orig s) (n : Nat) :
    Kept orig (State.memberAdopt s n) := by
  unfold State.memberAdopt
  repeat' with_reducible first | assumption | intro _ | apply State.mcmdCode_kept | apply State.adopt_kept | apply ite_kept | dsimp only | split

theorem execMemberAdopt_kept {orig s : State} (h : Kept orig s) (slot : Nat) :
    OutKept orig (execMemberAdopt slot s) := by
  unfold execMemberAdopt
  repeat' with_reducible first | assumption | intro _ | apply State.memberAdopt_kept | apply State.settle_kept | apply next_kept | apply ite_kept | apply outIte_kept | dsimp only | split

theorem State.clearRefused_kept {orig s : State} (h : Kept orig s) (n : Nat) :
    Kept orig (State.clearRefused s n) := by
  unfold State.clearRefused
  repeat' with_reducible first | assumption | intro _ | apply State.mcmdCode_kept | apply State.setCol_kept | apply State.modPort_kept | apply ite_kept | dsimp only | split

theorem execMemberClearRefused_kept {orig s : State} (h : Kept orig s) (slot : Nat) :
    OutKept orig (execMemberClearRefused slot s) := by
  unfold execMemberClearRefused
  repeat' with_reducible first | assumption | intro _ | apply State.clearRefused_kept | apply State.settle_kept | apply next_kept | apply ite_kept | apply outIte_kept | dsimp only | split

theorem State.rebuildPos_kept {orig s : State} (h : Kept orig s) (n : Nat) (io : BgIo) (target : Option Nat) (p : Nat) :
    Kept orig (State.rebuildPos s n io target p).2 := by
  unfold State.rebuildPos
  repeat' with_reducible first | assumption | intro _ | apply State.repairFrom_kept | apply State.unreadDone_kept | apply State.bgWrite_kept | apply State.bgRecover_kept | apply State.redispatch_kept | apply State.placeKey_kept | apply ite_kept | apply ite2_kept | refine snd_kept ?_ (by assumption) | refine snd3_kept ?_ (by assumption) | dsimp only | split

theorem State.rebuildOne_kept {orig s0 : State} (h : Kept orig s0) (n : Nat) (io : BgIo) (target : Option Nat) :
    Kept orig (State.rebuildOne s0 n io target).2 := by
  unfold State.rebuildOne
  repeat' with_reducible first | assumption | intro _ | apply State.rebuildPos_kept | apply State.bgLossAll_kept | apply ite_kept | apply ite2_kept | apply foldl_kept | apply foldlP_kept | refine snd_kept ?_ (by assumption) | refine snd3_kept ?_ (by assumption) | dsimp only | split

theorem State.sweepStripe_kept {orig s : State} (h : Kept orig s) (n : Nat) (es : List Nat) (io : BgIo) :
    Kept orig (State.sweepStripe s n es io).2 := by
  unfold State.sweepStripe
  repeat' with_reducible first | assumption | intro _ | apply State.rebuildOne_kept | apply State.bgBegin_kept | apply ite_kept | apply ite2_kept | refine snd_kept ?_ (by assumption) | refine snd3_kept ?_ (by assumption) | dsimp only | split

theorem State.cursorMove_kept {orig s : State} (h : Kept orig s) (c : Nat) (old : Nat) (new : Nat) (f : Column → Column) :
    Kept orig (State.cursorMove s c old new f) := by
  unfold State.cursorMove
  repeat' with_reducible first | assumption | intro _ | apply State.setCol_kept | apply State.modCol_kept | apply ite_kept | split

theorem State.rebuildEnd_kept {orig s : State} (h : Kept orig s) (c : Nat) :
    Kept orig (State.rebuildEnd s c) := by
  unfold State.rebuildEnd
  repeat' with_reducible first | assumption | intro _ | apply State.ctxEnd_kept | apply State.setCol_kept | apply State.evAt_kept | apply ite_kept | dsimp only | split

theorem State.critStripe_kept {orig s : State} (h : Kept orig s) (c : Nat) (io : BgIo) :
    Kept orig (State.critStripe s c io) := by
  unfold State.critStripe
  repeat' with_reducible first | assumption | intro _ | apply State.rebuildEnd_kept | apply State.cursorMove_kept | apply State.sweepStripe_kept | apply State.critShow_kept | apply ite_kept | apply optGetD_kept | apply optOr_kept | refine snd_kept ?_ (by assumption) | refine snd3_kept ?_ (by assumption) | dsimp only | split

theorem State.normalStripe_kept {orig s : State} (h : Kept orig s) (c : Nat) (io : BgIo) :
    Kept orig (State.normalStripe s c io) := by
  unfold State.normalStripe
  repeat' with_reducible first | assumption | intro _ | apply State.rebuildEnd_kept | apply State.cursorMove_kept | apply State.sweepStripe_kept | apply ite_kept | refine snd_kept ?_ (by assumption) | refine snd3_kept ?_ (by assumption) | dsimp only | split

theorem State.rebuildStripe_kept {orig s : State} (h : Kept orig s) (col : Nat) (io : BgIo) :
    Kept orig (State.rebuildStripe s col io) := by
  unfold State.rebuildStripe
  repeat' with_reducible first | assumption | intro _ | apply State.normalStripe_kept | apply State.critStripe_kept | apply State.modMb_kept | apply ite_kept | dsimp only | split

theorem execRebuildStripe_kept {orig s : State} (h : Kept orig s) (col : Nat) (io : BgIo) :
    OutKept orig (execRebuildStripe col io s) := by
  unfold execRebuildStripe
  repeat' with_reducible first | assumption | intro _ | apply State.rebuildStripe_kept | apply State.settle_kept | apply next_kept | apply ite_kept | apply outIte_kept | dsimp only | split

theorem State.groupDone_kept {orig s : State} (h : Kept orig s) (c : Nat) (grp : Nat) :
    Kept orig (State.groupDone s c grp) := by
  unfold State.groupDone
  repeat' with_reducible first | assumption | intro _ | apply State.mbrShow_kept | apply State.recNow_kept | apply State.evAt_kept | apply State.modPower_kept | apply State.modMb_kept | apply ite_kept | apply ite2_kept | apply foldl_kept | apply foldlP_kept | dsimp only | split

theorem State.resyncOne_kept {orig s : State} (h : Kept orig s) (c : Nat) (n : Nat) (io : BgIo) :
    Kept orig (State.resyncOne s c n io).2 := by
  unfold State.resyncOne
  repeat' with_reducible first | assumption | intro _ | apply State.bgWrite_kept | apply State.bgBegin_kept | apply State.bgRecover_kept | apply State.bgLossAll_kept | apply State.put_kept | apply ite_kept | apply ite2_kept | apply optGetD_kept | apply optOr_kept | refine snd_kept ?_ (by assumption) | refine snd3_kept ?_ (by assumption) | dsimp only | split

theorem State.resyncStrip_kept {orig s : State} (h : Kept orig s) (c : Nat) (io : BgIo) :
    Kept orig (State.resyncStrip s c io) := by
  unfold State.resyncStrip
  repeat' with_reducible first | assumption | intro _ | apply State.resyncOne_kept | apply State.groupDone_kept | apply State.redispatch_kept | apply State.modMb_kept | apply ite_kept | refine snd_kept ?_ (by assumption) | refine snd3_kept ?_ (by assumption) | dsimp only | split

theorem execResyncStrip_kept {orig s : State} (h : Kept orig s) (col : Nat) (io : BgIo) :
    OutKept orig (execResyncStrip col io s) := by
  unfold execResyncStrip
  repeat' with_reducible first | assumption | intro _ | apply State.resyncStrip_kept | apply State.settle_kept | apply next_kept | apply ite_kept | apply outIte_kept | dsimp only | split

theorem State.copybackEnd_kept {orig s : State} (h : Kept orig s) (c : Nat) :
    Kept orig (State.copybackEnd s c) := by
  unfold State.copybackEnd
  repeat' with_reducible first | assumption | intro _ | apply State.freeExtents_kept | apply State.redispatch_kept | apply State.setCol_kept | apply State.mbrShow_kept | apply State.evAt_kept | apply State.modMb_kept | dsimp only

theorem State.copybackOne_kept {orig s : State} (h : Kept orig s) (c : Nat) (n : Nat) (io : BgIo) :
    Kept orig (State.copybackOne s c n io).2 := by
  unfold State.copybackOne
  repeat' with_reducible first | assumption | intro _ | apply State.rebuildOne_kept | apply State.bgWrite_kept | apply State.bgBegin_kept | apply State.put_kept | apply ite_kept | apply ite2_kept | apply optGetD_kept | apply optOr_kept | refine snd_kept ?_ (by assumption) | refine snd3_kept ?_ (by assumption) | dsimp only | split

theorem State.copybackStripe_kept {orig s : State} (h : Kept orig s) (c : Nat) (io : BgIo) :
    Kept orig (State.copybackStripe s c io) := by
  unfold State.copybackStripe
  repeat' with_reducible first | assumption | intro _ | apply State.copybackOne_kept | apply State.copybackEnd_kept | apply State.cursorMove_kept | apply State.unreadDone_kept | apply ite_kept | apply optGetD_kept | apply optOr_kept | refine snd_kept ?_ (by assumption) | refine snd3_kept ?_ (by assumption) | dsimp only | split

theorem execCopybackStripe_kept {orig s : State} (h : Kept orig s) (col : Nat) (io : BgIo) :
    OutKept orig (execCopybackStripe col io s) := by
  unfold execCopybackStripe
  repeat' with_reducible first | assumption | intro _ | apply State.copybackStripe_kept | apply State.settle_kept | apply next_kept | apply ite_kept | apply outIte_kept | dsimp only | split

theorem State.scrubShow_kept {orig s : State} (h : Kept orig s)  :
    Kept orig (State.scrubShow s) := by
  unfold State.scrubShow
  repeat' with_reducible first | assumption | intro _ | apply State.wr64_kept | apply State.setN_kept | apply State.put_kept | apply ite_kept | dsimp only | split

theorem State.scrubBegin_kept {orig s : State} (h : Kept orig s)  :
    Kept orig (State.scrubBegin s) := by
  unfold State.scrubBegin
  repeat' with_reducible first | assumption | intro _ | apply State.scrubShow_kept | apply State.modTb_kept | apply State.modMb_kept | dsimp only

theorem State.scrubStop_kept {orig s : State} (h : Kept orig s)  :
    Kept orig (State.scrubStop s) := by
  unfold State.scrubStop
  repeat' with_reducible first | assumption | intro _ | apply State.scrubShow_kept | apply State.modMb_kept | dsimp only

theorem execScrubStart_kept {orig s : State} (h : Kept orig s)  :
    OutKept orig (execScrubStart s) := by
  unfold execScrubStart
  repeat' with_reducible first | assumption | intro _ | apply State.scrubBegin_kept | apply State.mcmdCode_kept | apply next_kept | apply ite_kept | apply outIte_kept | dsimp only | split

theorem execScrubStop_kept {orig s : State} (h : Kept orig s)  :
    OutKept orig (execScrubStop s) := by
  unfold execScrubStop
  repeat' with_reducible first | assumption | intro _ | apply State.scrubStop_kept | apply State.mcmdCode_kept | apply next_kept | apply ite_kept | apply outIte_kept | dsimp only | split

theorem State.scrubMark_kept {orig s : State} (h : Kept orig s) (n : Nat) :
    Kept orig (State.scrubMark s n) := by
  unfold State.scrubMark
  repeat' with_reducible first | assumption | intro _ | apply State.recNow_kept | apply State.modMb_kept | dsimp only

theorem State.scrubRepair_kept {orig s : State} (h : Kept orig s) (n : Nat) (io : BgIo) (p : Nat) :
    Kept orig (State.scrubRepair s n io p) := by
  unfold State.scrubRepair
  repeat' with_reducible first | assumption | intro _ | apply State.repairFrom_kept | apply State.satInc_kept | apply ite_kept | refine snd_kept ?_ (by assumption) | refine snd3_kept ?_ (by assumption) | dsimp only | split

theorem State.scrubFin_kept {orig s : State} (h : Kept orig s)  :
    Kept orig (State.scrubFin s) := by
  unfold State.scrubFin
  repeat' with_reducible first | assumption | intro _ | apply State.scrubStop_kept | apply State.scrubShow_kept | apply State.evAt_kept | apply State.selftestEnd_kept | apply ite_kept | dsimp only | split

theorem State.scrubCheck_kept {orig s : State} (h : Kept orig s) (n : Nat) (io : BgIo) :
    Kept orig (State.scrubCheck s n io) := by
  unfold State.scrubCheck
  repeat' with_reducible first | assumption | intro _ | apply State.scrubRepair_kept | apply State.scrubMark_kept | apply State.addUnread_kept | apply ite_kept | apply ite2_kept | apply foldl_kept | dsimp only | split

theorem State.scrubStripe_kept {orig s0 : State} (h : Kept orig s0) (io : BgIo) :
    Kept orig (State.scrubStripe s0 io) := by
  unfold State.scrubStripe
  repeat' with_reducible first | assumption | intro _ | apply State.scrubCheck_kept | apply State.scrubFin_kept | apply State.scrubMark_kept | apply State.scrubBegin_kept | apply State.bgBegin_kept | apply State.lossAll_kept | apply State.modTb_kept | apply State.modMb_kept | apply ite_kept | refine snd_kept ?_ (by assumption) | refine snd3_kept ?_ (by assumption) | dsimp only | split

theorem execScrubStripe_kept {orig s : State} (h : Kept orig s) (io : BgIo) :
    OutKept orig (execScrubStripe io s) := by
  unfold execScrubStripe
  repeat' with_reducible first | assumption | intro _ | apply State.scrubStripe_kept | apply State.settle_kept | apply next_kept | apply ite_kept | apply outIte_kept | dsimp only | split

theorem execFabricsConnect_kept {orig s : State} (h : Kept orig s) (conn : Nat) (port : Nat) (qid : Nat) (cntlid : Nat) (sqsize : Nat) (hsqsize : Nat) (kato : Nat) (cid : Nat) (nqn : List Nat) :
    OutKept orig (execFabricsConnect conn port qid cntlid sqsize hsqsize kato cid nqn s) := by
  unfold execFabricsConnect
  repeat' with_reducible first | assumption | intro _ | apply State.connClose_kept | apply State.capShow_kept | apply State.settle_kept | apply State.respond_kept | apply State.setConn_kept | apply State.event_kept | apply State.modFr_kept | apply State.emit_kept | apply next_kept | apply ite_kept | apply outIte_kept | apply optGetD_kept | apply optOr_kept | dsimp only | split

theorem execFabricsDisconnect_kept {orig s : State} (h : Kept orig s) (cntlid : Nat) (qid : Nat) (cid : Nat) :
    OutKept orig (execFabricsDisconnect cntlid qid cid s) := by
  unfold execFabricsDisconnect
  repeat' with_reducible first | assumption | intro _ | apply State.ctrlDelete_kept | apply State.queuesDrop_kept | apply State.settle_kept | apply State.respond_kept | apply State.modConn_kept | apply next_kept | apply ite_kept | apply outIte_kept | dsimp only | split

theorem execKeepAliveExpiry_kept {orig s : State} (h : Kept orig s) (cntlid : Nat) :
    OutKept orig (execKeepAliveExpiry cntlid s) := by
  unfold execKeepAliveExpiry
  repeat' with_reducible first | assumption | intro _ | apply State.ctrlDelete_kept | apply State.settle_kept | apply next_kept | apply ite_kept | apply outIte_kept | dsimp only | split

theorem State.hostDelete_kept {orig s : State} (h : Kept orig s) (h : Nat) :
    Kept orig (State.hostDelete s h) := by
  unfold State.hostDelete
  repeat' with_reducible first | assumption | intro _ | apply State.ctrlDelete_kept | apply foldl_kept | apply foldlP_kept | dsimp only

theorem execHostInvalidate_kept {orig s : State} (h : Kept orig s) (host : Nat) :
    OutKept orig (execHostInvalidate host s) := by
  unfold execHostInvalidate
  repeat' with_reducible first | assumption | intro _ | apply State.hostDelete_kept | apply State.settle_kept | apply State.modHost_kept | apply next_kept | apply ite_kept | apply outIte_kept | dsimp only | split

theorem execPropertyGet_kept {orig s : State} (h : Kept orig s) (cntlid : Nat) (cid : Nat) (off : Nat) :
    OutKept orig (execPropertyGet cntlid cid off s) := by
  unfold execPropertyGet
  repeat' with_reducible first | assumption | intro _ | apply State.adminDone_kept | apply State.fresh_kept | apply State.off_kept | apply next_kept | apply ite_kept | apply outIte_kept | refine snd_kept ?_ (by assumption) | refine snd3_kept ?_ (by assumption) | dsimp only | split

theorem State.ctrlReset_kept {orig s : State} (h : Kept orig s) (id : Nat) :
    Kept orig (State.ctrlReset s id) := by
  unfold State.ctrlReset
  repeat' with_reducible first | assumption | intro _ | apply State.connClose_kept | apply State.queuesDrop_kept | apply State.selftestEnd_kept | apply State.modCtrl_kept | apply ite_kept | apply ite2_kept | apply foldl_kept | apply foldlP_kept | dsimp only | split

theorem execPropertySet_kept {orig s : State} (h : Kept orig s) (cntlid : Nat) (cid : Nat) (off : Nat) (value : Nat) :
    OutKept orig (execPropertySet cntlid cid off value s) := by
  unfold execPropertySet
  repeat' with_reducible first | assumption | intro _ | apply State.ctrlReset_kept | apply State.settle_kept | apply State.adminDone_kept | apply State.modCtrl_kept | apply State.off_kept | apply next_kept | apply ite_kept | apply outIte_kept | dsimp only | split

theorem State.admin_kept {orig s : State} (h : Kept orig s) (cntlid cid : Nat) {f : Ctrl → State}
    (hf : ∀ c, Kept orig (f c)) : Kept orig (s.admin cntlid cid f) := by
  unfold State.admin
  repeat' (first | with_reducible assumption | intro _ | with_reducible apply ite_kept | with_reducible apply hf | with_reducible apply State.adminDone_kept | with_reducible apply State.cmdEnd_kept | with_reducible apply State.setCmd_kept | with_reducible apply State.event_kept | dsimp only | split)

theorem State.adminData_kept {orig s : State} (h : Kept orig s) (cntlid cid : Nat) (sgl : Sgl) {f : Ctrl → State}
    (hf : ∀ c, Kept orig (f c)) : Kept orig (s.adminData cntlid cid sgl f) := by
  unfold State.adminData
  refine State.admin_kept h cntlid cid fun c => ?_
  repeat' (first | with_reducible assumption | intro _ | with_reducible apply ite_kept | with_reducible apply hf | with_reducible apply State.adminDone_kept | with_reducible apply State.cmdEnd_kept | with_reducible apply State.setCmd_kept | with_reducible apply State.event_kept | dsimp only | split)

theorem State.sendAdmin_kept {orig s : State} (h : Kept orig s) (cntlid : Nat) (cid : Nat) (sgl : Sgl) (bytes : List Byte) :
    Kept orig (State.sendAdmin s cntlid cid sgl bytes) := by
  unfold State.sendAdmin
  repeat' with_reducible first | assumption | intro _ | apply State.adminData_kept | apply State.adminDone_kept | apply State.emit_kept | apply ite_kept | split

theorem execKeepAlive_kept {orig s : State} (h : Kept orig s) (cntlid : Nat) (cid : Nat) :
    OutKept orig (execKeepAlive cntlid cid s) := by
  unfold execKeepAlive
  repeat' with_reducible first | assumption | intro _ | apply State.admin_kept | apply State.adminDone_kept | apply next_kept | apply ite_kept | apply outIte_kept | dsimp only | split

theorem execAsyncEventRequest_kept {orig s : State} (h : Kept orig s) (cntlid : Nat) (cid : Nat) :
    OutKept orig (execAsyncEventRequest cntlid cid s) := by
  unfold execAsyncEventRequest
  repeat' with_reducible first | assumption | intro _ | apply State.admin_kept | apply State.adminDone_kept | apply State.modCtrl_kept | apply State.emit_kept | apply next_kept | apply ite_kept | apply outIte_kept | dsimp only | split

theorem State.page_kept {orig s : State} (h : Kept orig s) (cntlid : Nat) (cid : Nat) (sgl : Sgl) (size : Nat) (fields : List (Nat × List Byte)) (off : Nat) (len : Nat) :
    Kept orig (State.page s cntlid cid sgl size fields off len) := by
  unfold State.page
  repeat' with_reducible first | assumption | intro _ | apply State.sendAdmin_kept | apply State.freshBytes_kept | apply State.off_kept | refine snd_kept ?_ (by assumption) | refine snd3_kept ?_ (by assumption) | dsimp only | split

theorem execIdentify_kept {orig s : State} (h : Kept orig s) (cntlid : Nat) (cid : Nat) (cns : Nat) (csi : Nat) (nsid : Nat) (sgl : Sgl) :
    OutKept orig (execIdentify cntlid cid cns csi nsid sgl s) := by
  unfold execIdentify
  repeat' with_reducible first | assumption | intro _ | apply State.page_kept | apply State.adminData_kept | apply State.adminDone_kept | apply next_kept | apply ite_kept | apply outIte_kept | dsimp only | split

theorem execGetLogPage_kept {orig s : State} (h : Kept orig s) (cntlid : Nat) (cid : Nat) (lid : Nat) (nsid : Nat) (off : Nat) (len : Nat) (sgl : Sgl) :
    OutKept orig (execGetLogPage cntlid cid lid nsid off len sgl s) := by
  unfold execGetLogPage
  repeat' with_reducible first | assumption | intro _ | apply State.page_kept | apply State.sendAdmin_kept | apply State.adminData_kept | apply State.adminDone_kept | apply State.modCtrl_kept | apply State.freshBytes_kept | apply State.fresh_kept | apply State.off_kept | apply next_kept | apply ite_kept | apply outIte_kept | refine snd_kept ?_ (by assumption) | refine snd3_kept ?_ (by assumption) | dsimp only | split

theorem execSetFeatures_kept {orig s : State} (h : Kept orig s) (cntlid : Nat) (cid : Nat) (fid : Nat) (value : Nat) :
    OutKept orig (execSetFeatures cntlid cid fid value s) := by
  unfold execSetFeatures
  repeat' with_reducible first | assumption | intro _ | apply State.admin_kept | apply State.settle_kept | apply State.adminDone_kept | apply State.event_kept | apply State.modCtrl_kept | apply State.put_kept | apply next_kept | apply ite_kept | apply outIte_kept | dsimp only | split

theorem execGetFeatures_kept {orig s : State} (h : Kept orig s) (cntlid : Nat) (cid : Nat) (fid : Nat) :
    OutKept orig (execGetFeatures cntlid cid fid s) := by
  unfold execGetFeatures
  repeat' with_reducible first | assumption | intro _ | apply State.admin_kept | apply State.adminDone_kept | apply next_kept | apply ite_kept | apply outIte_kept | dsimp only | split

theorem State.abortMark_kept {orig s : State} (h : Kept orig s) (cntlid : Nat) (qid : Nat) (cid : Nat) :
    OptKept orig (State.abortMark s cntlid qid cid) := by
  unfold State.abortMark
  repeat' with_reducible first | assumption | intro _ | apply State.modQueue_kept | apply optSome_kept | exact optNone_kept | apply optMap_kept | apply optBind_kept | apply optFold_kept | apply ite_kept | apply optIte_kept | dsimp only | split

theorem execAbort_kept {orig s : State} (h : Kept orig s) (cntlid : Nat) (cid : Nat) (sqid : Nat) (target : Nat) :
    OutKept orig (execAbort cntlid cid sqid target s) := by
  unfold execAbort
  repeat' with_reducible first | assumption | intro _ | apply State.abortMark_kept | apply State.admin_kept | apply State.abortClaim_kept | apply State.settle_kept | apply State.adminDone_kept | apply State.respond_kept | apply State.modCtrl_kept | apply State.satInc_kept | apply next_kept | apply ite_kept | apply outIte_kept | refine some_kept ?_ (by assumption) | dsimp only | split

theorem State.selftestStart_kept {orig s : State} (h : Kept orig s) (cntlid : Nat) (cid : Nat) (nsid : Nat) (op : Nat) (busy : Bool) :
    Kept orig (State.selftestStart s cntlid cid nsid op busy) := by
  unfold State.selftestStart
  repeat' with_reducible first | assumption | intro _ | apply State.admin_kept | apply State.scrubBegin_kept | apply State.adminDone_kept | apply State.modFr_kept | apply State.modMb_kept | apply State.setN_kept | apply ite_kept | dsimp only | split

theorem execSelftestShort_kept {orig s : State} (h : Kept orig s) (cntlid : Nat) (cid : Nat) (nsid : Nat) (partnerBusy : Bool) :
    OutKept orig (execSelftestShort cntlid cid nsid partnerBusy s) := by
  unfold execSelftestShort
  repeat' with_reducible first | assumption | intro _ | apply State.selftestStart_kept | apply next_kept | apply ite_kept | apply outIte_kept | dsimp only | split

theorem execSelftestExtended_kept {orig s : State} (h : Kept orig s) (cntlid : Nat) (cid : Nat) (nsid : Nat) (partnerBusy : Bool) :
    OutKept orig (execSelftestExtended cntlid cid nsid partnerBusy s) := by
  unfold execSelftestExtended
  repeat' with_reducible first | assumption | intro _ | apply State.selftestStart_kept | apply next_kept | apply ite_kept | apply outIte_kept | dsimp only | split

theorem execSelftestAbort_kept {orig s : State} (h : Kept orig s) (cntlid : Nat) (cid : Nat) (stc : Nat) :
    OutKept orig (execSelftestAbort cntlid cid stc s) := by
  unfold execSelftestAbort
  repeat' with_reducible first | assumption | intro _ | apply State.admin_kept | apply State.scrubShow_kept | apply State.settle_kept | apply State.adminDone_kept | apply State.selftestEnd_kept | apply next_kept | apply ite_kept | apply outIte_kept | dsimp only | split

theorem execSelftestSegmentDone_kept {orig s : State} (h : Kept orig s) (failed : Bool) :
    OutKept orig (execSelftestSegmentDone failed s) := by
  unfold execSelftestSegmentDone
  repeat' with_reducible first | assumption | intro _ | apply State.settle_kept | apply State.selftestEnd_kept | apply State.fresh_kept | apply State.inc_kept | apply State.put_kept | apply next_kept | apply ite_kept | apply outIte_kept | refine snd_kept ?_ (by assumption) | refine snd3_kept ?_ (by assumption) | dsimp only | split

theorem State.modList_kept {b0 s : State} (h : Kept b0 s) (l : Nat) (f : GList → GList) : Kept b0 (State.modList s l f) :=
  Kept.same h rfl rfl rfl rfl rfl rfl

theorem State.modTg_kept {b0 s : State} (h : Kept b0 s) (f : Tabor → Tabor) : Kept b0 (State.modTg s f) :=
  Kept.same h rfl rfl rfl rfl rfl rfl

theorem State.advTo_kept {b0 s : State} (h : Kept b0 s) (t : Nat) : Kept b0 (s.advTo t) := by
  unfold State.advTo
  split
  · have g := State.wr64_kept h Reg.PTP.TIME_LO t
    exact ⟨g.pending, g.fuse, Nat.le_trans g.now (Nat.le_add_right _ _), g.canon⟩
  · exact h

theorem State.applyGates_kept {orig s : State} (h : Kept orig s) (l : Nat) :
    Kept orig (State.applyGates s l) := by
  unfold State.applyGates
  repeat' with_reducible first | assumption | intro _ | apply State.putB_kept | apply State.put_kept | apply ite_kept | dsimp only | split

theorem State.tgsStatus_kept {orig s : State} (h : Kept orig s)  :
    Kept orig (State.tgsStatus s) := by
  unfold State.tgsStatus
  repeat' with_reducible first | assumption | intro _ | apply State.put_kept | dsimp only

theorem State.schedule_kept {orig s : State} (h : Kept orig s) (l : Nat) :
    Kept orig (State.schedule s l) := by
  unfold State.schedule
  repeat' with_reducible first | assumption | intro _ | apply State.modList_kept | apply State.event_kept | apply ite_kept | dsimp only | split

theorem State.listCommit_kept {orig s : State} (h : Kept orig s)  :
    Kept orig (State.listCommit s) := by
  unfold State.listCommit
  repeat' with_reducible first | assumption | intro _ | apply State.schedule_kept | apply State.tgsStatus_kept | apply State.modTg_kept | apply State.modList_kept | apply State.event_kept | apply ite_kept | dsimp only | split

theorem execListCommit_kept {orig s : State} (h : Kept orig s)  :
    OutKept orig (execListCommit s) := by
  unfold execListCommit
  repeat' with_reducible first | assumption | intro _ | apply State.listCommit_kept | apply State.settle_kept | apply next_kept | apply ite_kept | apply outIte_kept | dsimp only | split

theorem State.ovlRefuse_kept {orig s : State} (h : Kept orig s)  :
    Kept orig (State.ovlRefuse s) := by
  unfold State.ovlRefuse
  repeat' with_reducible first | assumption | intro _ | apply State.event_kept

theorem State.ovlShow_kept {orig s : State} (h : Kept orig s)  :
    Kept orig (State.ovlShow s) := by
  unfold State.ovlShow
  repeat' with_reducible first | assumption | intro _ | apply State.putB_kept

theorem State.boundary_kept {orig s : State} (h : Kept orig s)  :
    Kept orig (State.boundary s) := by
  unfold State.boundary
  repeat' with_reducible first | assumption | intro _ | apply State.ovlRefuse_kept | apply State.modTg_kept | apply State.modBoot_kept | apply ite_kept | dsimp only | split | rfl

theorem State.listStart_kept {orig s : State} (h : Kept orig s) (l : Nat) :
    Kept orig (State.listStart s l) := by
  unfold State.listStart
  repeat' with_reducible first | assumption | intro _ | apply State.boundary_kept | apply State.tgsStatus_kept | apply State.applyGates_kept | apply State.advTo_kept | apply State.modTg_kept | apply State.modList_kept | apply State.event_kept | apply ite_kept | dsimp only | split

theorem execListStart_kept {orig s : State} (h : Kept orig s) (list : Nat) :
    OutKept orig (execListStart list s) := by
  unfold execListStart
  repeat' with_reducible first | assumption | intro _ | apply State.listStart_kept | apply State.settle_kept | apply next_kept | apply ite_kept | apply outIte_kept | dsimp only | split

theorem State.gateEntry_kept {orig s : State} (h : Kept orig s) (l : Nat) :
    Kept orig (State.gateEntry s l) := by
  unfold State.gateEntry
  repeat' with_reducible first | assumption | intro _ | apply State.boundary_kept | apply State.applyGates_kept | apply State.advTo_kept | apply State.modList_kept | apply ite_kept | dsimp only | split

theorem execGateEntryStart_kept {orig s : State} (h : Kept orig s) (list : Nat) :
    OutKept orig (execGateEntryStart list s) := by
  unfold execGateEntryStart
  repeat' with_reducible first | assumption | intro _ | apply State.gateEntry_kept | apply State.settle_kept | apply next_kept | apply ite_kept | apply outIte_kept | dsimp only | split

theorem State.realign_kept {orig s : State} (h : Kept orig s) (l : Nat) :
    Kept orig (State.realign s l) := by
  unfold State.realign
  repeat' with_reducible first | assumption | intro _ | apply State.listStart_kept | apply State.applyGates_kept | apply State.modList_kept | apply ite_kept | dsimp only | split

theorem State.timeStep_kept {orig s : State} (h : Kept orig s) (t : Nat) :
    Kept orig (State.timeStep s t) := by
  unfold State.timeStep
  repeat' with_reducible first | assumption | intro _ | apply State.realign_kept | apply State.event_kept | apply State.wr64_kept | apply foldl_kept | dsimp only

theorem State.lockRise_kept {orig s : State} (h : Kept orig s)  :
    Kept orig (State.lockRise s) := by
  unfold State.lockRise
  repeat' with_reducible first | assumption | intro _ | apply State.schedule_kept | apply State.tgsStatus_kept | apply State.event_kept | apply State.on_kept | apply ite_kept | apply ite2_kept | apply foldl_kept | dsimp only | split

theorem State.servoAcquire_kept {orig s : State} (h : Kept orig s)  :
    Kept orig (State.servoAcquire s) := by
  unfold State.servoAcquire
  repeat' with_reducible first | assumption | intro _ | apply State.modTg_kept | apply State.put_kept | apply ite_kept | dsimp only | split

theorem State.servoHold_kept {orig s : State} (h : Kept orig s)  :
    Kept orig (State.servoHold s) := by
  unfold State.servoHold
  repeat' with_reducible first | assumption | intro _ | apply State.modTg_kept | apply State.event_kept | apply State.off_kept | apply State.put_kept | dsimp only

theorem State.servoSample_kept {orig s : State} (h : Kept orig s) (off : Int) :
    Kept orig (State.servoSample s off) := by
  unfold State.servoSample
  repeat' with_reducible first | assumption | intro _ | apply State.servoHold_kept | apply State.lockRise_kept | apply State.timeStep_kept | apply State.modTg_kept | apply State.fresh_kept | apply State.wr64_kept | apply State.setN_kept | apply State.off_kept | apply State.put_kept | apply ite_kept | refine snd_kept ?_ (by assumption) | refine snd3_kept ?_ (by assumption) | dsimp only | split

theorem State.slaveOnly_kept {orig s : State} (h : Kept orig s) (n : Nat) :
    Kept orig (State.slaveOnly s n) := by
  unfold State.slaveOnly
  repeat' with_reducible first | assumption | intro _ | apply State.fresh_kept | apply State.put_kept | apply ite_kept | refine snd_kept ?_ (by assumption) | refine snd3_kept ?_ (by assumption) | dsimp only | split

theorem State.ptpPort_kept {orig s : State} (h : Kept orig s) (n : Nat) (st : Nat) :
    Kept orig (State.ptpPort s n st) := by
  unfold State.ptpPort
  repeat' with_reducible first | assumption | intro _ | apply State.slaveOnly_kept | apply State.servoAcquire_kept | apply State.event_kept | apply State.put_kept | apply ite_kept | dsimp only | split

theorem State.ptpCfg_kept {orig s : State} (h : Kept orig s)  :
    Kept orig (State.ptpCfg s) := by
  unfold State.ptpCfg
  repeat' with_reducible first | assumption | intro _ | apply State.ptpPort_kept | apply State.put_kept | apply ite_kept | apply ite2_kept | apply foldl_kept | dsimp only | split

theorem State.ptpSend_kept {orig s : State} (h : Kept orig s) (n : Nat) (kind : Nat) (arg : Nat) :
    Kept orig (State.ptpSend s n kind arg) := by
  unfold State.ptpSend
  repeat' with_reducible first | assumption | intro _ | apply State.emit_kept | apply ite_kept | split

theorem State.ptpAnswer_kept {orig s : State} (h : Kept orig s) (n : Nat) (kind : Nat) :
    Kept orig (State.ptpAnswer s n kind) := by
  unfold State.ptpAnswer
  repeat' with_reducible first | assumption | intro _ | apply State.ptpSend_kept | apply ite_kept | dsimp only | split

theorem State.ptpParent_kept {orig s : State} (h : Kept orig s) (n : Nat) (parent : Nat) :
    Kept orig (State.ptpParent s n parent) := by
  unfold State.ptpParent
  repeat' with_reducible first | assumption | intro _ | apply State.modTg_kept | apply State.event_kept | apply ite_kept | dsimp only | split

theorem State.ptpMessage_kept {orig s0 : State} (h : Kept orig s0) (n : Nat) (kind : Nat) (mine : Bool) (offset : Option Int) (st : Option Nat) (parent : Nat) :
    Kept orig (State.ptpMessage s0 n kind mine offset st parent) := by
  unfold State.ptpMessage
  repeat' with_reducible first | assumption | intro _ | apply State.ptpParent_kept | apply State.ptpAnswer_kept | apply State.ptpPort_kept | apply State.servoSample_kept | apply State.modTg_kept | apply State.satInc_kept | apply ite_kept | dsimp only | split

theorem execPtpMessageReceive_kept {orig s : State} (h : Kept orig s) (port : Nat) (kind : Nat) (mine : Bool) (offset : Option Int) (state : Option Nat) (parent : Nat) :
    OutKept orig (execPtpMessageReceive port kind mine offset state parent s) := by
  unfold execPtpMessageReceive
  repeat' with_reducible first | assumption | intro _ | apply State.ptpMessage_kept | apply State.settle_kept | apply next_kept | apply ite_kept | apply outIte_kept | dsimp only | split

theorem execSyncLossTimeout_kept {orig s : State} (h : Kept orig s)  :
    OutKept orig (execSyncLossTimeout s) := by
  unfold execSyncLossTimeout
  repeat' with_reducible first | assumption | intro _ | apply State.servoHold_kept | apply State.settle_kept | apply next_kept | apply ite_kept | apply outIte_kept | dsimp only | split

theorem execPtpSyncSend_kept {orig s : State} (h : Kept orig s) (port : Nat) :
    OutKept orig (execPtpSyncSend port s) := by
  unfold execPtpSyncSend
  repeat' with_reducible first | assumption | intro _ | apply State.ptpSend_kept | apply next_kept | apply ite_kept | apply outIte_kept | dsimp only | split

theorem execPpsInEdge_kept {orig s : State} (h : Kept orig s)  :
    OutKept orig (execPpsInEdge s) := by
  unfold execPpsInEdge
  repeat' with_reducible first | assumption | intro _ | apply State.servoSample_kept | apply State.servoAcquire_kept | apply State.settle_kept | apply State.event_kept | apply State.wr64_kept | apply State.off_kept | apply next_kept | apply ite_kept | apply outIte_kept | dsimp only | split

theorem execPpsInLost_kept {orig s : State} (h : Kept orig s)  :
    OutKept orig (execPpsInLost s) := by
  unfold execPpsInLost
  repeat' with_reducible first | assumption | intro _ | apply State.settle_kept | apply State.event_kept | apply next_kept | apply ite_kept | apply outIte_kept | dsimp only | split

theorem execPpsOutRise_kept {orig s : State} (h : Kept orig s)  :
    OutKept orig (execPpsOutRise s) := by
  unfold execPpsOutRise
  repeat' with_reducible first | assumption | intro _ | apply State.advTo_kept | apply State.modAon_kept | apply next_kept | apply ite_kept | apply outIte_kept | dsimp only | split

theorem execPpsOutFall_kept {orig s : State} (h : Kept orig s)  :
    OutKept orig (execPpsOutFall s) := by
  unfold execPpsOutFall
  repeat' with_reducible first | assumption | intro _ | apply State.modAon_kept | apply next_kept | apply ite_kept | apply outIte_kept | dsimp only | split

theorem State.setGo_kept {orig s : State} (h : Kept orig s)  :
    Kept orig (State.setGo s) := by
  unfold State.setGo
  repeat' with_reducible first | assumption | intro _ | apply State.modTg_kept | apply ite_kept | dsimp only | split

theorem execPtpSetGo_kept {orig s : State} (h : Kept orig s)  :
    OutKept orig (execPtpSetGo s) := by
  unfold execPtpSetGo
  repeat' with_reducible first | assumption | intro _ | apply State.setGo_kept | apply next_kept | apply ite_kept | apply outIte_kept | dsimp only | split

theorem execPtpTimeSet_kept {orig s : State} (h : Kept orig s)  :
    OutKept orig (execPtpTimeSet s) := by
  unfold execPtpTimeSet
  repeat' with_reducible first | assumption | intro _ | apply State.setGo_kept | apply State.timeStep_kept | apply State.advTo_kept | apply State.modTg_kept | apply State.settle_kept | apply next_kept | apply ite_kept | apply outIte_kept | dsimp only | split

theorem execAnnounceReceiptTimeout_kept {orig s : State} (h : Kept orig s) (port : Nat) (newState : Nat) :
    OutKept orig (execAnnounceReceiptTimeout port newState s) := by
  unfold execAnnounceReceiptTimeout
  repeat' with_reducible first | assumption | intro _ | apply State.ptpPort_kept | apply State.settle_kept | apply next_kept | apply ite_kept | apply outIte_kept | dsimp only | split

theorem State.setCredit_kept {orig s : State} (h : Kept orig s) (p : Nat) (t : Nat) (c : Int) :
    Kept orig (State.setCredit s p t c) := by
  unfold State.setCredit
  repeat' with_reducible first | assumption | intro _ | apply State.modTg_kept | apply State.setN_kept | dsimp only

theorem State.shapeTick_kept {orig s : State} (h : Kept orig s) (p : Nat) (t : Nat) :
    Kept orig (State.shapeTick s p t) := by
  unfold State.shapeTick
  repeat' with_reducible first | assumption | intro _ | apply State.setCredit_kept | apply ite_kept | dsimp only | split

theorem execShaperRefill_kept {orig s : State} (h : Kept orig s)  :
    OutKept orig (execShaperRefill s) := by
  unfold execShaperRefill
  repeat' with_reducible first | assumption | intro _ | apply State.shapeTick_kept | apply next_kept | apply ite_kept | apply outIte_kept | apply ite2_kept | apply foldl_kept | apply foldlP_kept | dsimp only | split

theorem State.policeTick_kept {orig s : State} (h : Kept orig s) (p : Nat) (t : Nat) :
    Kept orig (State.policeTick s p t) := by
  unfold State.policeTick
  repeat' with_reducible first | assumption | intro _ | apply State.modTg_kept | apply ite_kept | dsimp only | split

theorem execPolicerRefill_kept {orig s : State} (h : Kept orig s)  :
    OutKept orig (execPolicerRefill s) := by
  unfold execPolicerRefill
  repeat' with_reducible first | assumption | intro _ | apply State.policeTick_kept | apply next_kept | apply ite_kept | apply outIte_kept | apply ite2_kept | apply foldl_kept | apply foldlP_kept | dsimp only | split

theorem State.policeFrame_kept {orig s : State} (h : Kept orig s) (p : Nat) (t : Nat) (len : Nat) (ecn : Bool) (lossless : Bool) :
    Kept orig (State.policeFrame s p t len ecn lossless).2 := by
  unfold State.policeFrame
  repeat' with_reducible first | assumption | intro _ | apply State.modTg_kept | apply State.satInc_kept | apply ite_kept | apply ite2_kept | dsimp only | split

theorem State.mslExtend_kept {orig s : State} (h : Kept orig s) (n : Nat) (d : Digest) :
    Kept orig (State.mslExtend s n d) := by
  unfold State.mslExtend
  repeat' with_reducible first | assumption | intro _ | apply State.modBoot_kept | dsimp only | rfl

theorem State.sealSet_kept {orig s : State} (h : Kept orig s)  :
    Kept orig (State.sealSet s) := by
  unfold State.sealSet
  repeat' with_reducible first | assumption | intro _ | apply State.mslExtend_kept | apply State.event_kept | apply State.off_kept | apply State.on_kept

theorem State.sealGo_kept {orig s : State} (h : Kept orig s)  :
    Kept orig (State.sealGo s) := by
  unfold State.sealGo
  repeat' with_reducible first | assumption | intro _ | apply State.sealSet_kept | apply State.modBoot_kept | apply State.put_kept | apply ite_kept | dsimp only | split | rfl

theorem execSealGo_kept {orig s : State} (h : Kept orig s)  :
    OutKept orig (execSealGo s) := by
  unfold execSealGo
  repeat' with_reducible first | assumption | intro _ | apply State.sealGo_kept | apply State.settle_kept | apply next_kept | apply ite_kept | apply outIte_kept | dsimp only | split

theorem State.ovlRequest_kept {orig s : State} (h : Kept orig s) (v : Nat) :
    Kept orig (State.ovlRequest s v) := by
  unfold State.ovlRequest
  repeat' with_reducible first | assumption | intro _ | apply State.ovlRefuse_kept | apply State.modBoot_kept | apply State.on_kept | apply State.put_kept | apply ite_kept | dsimp only | split | rfl

theorem execOvlRequest_kept {orig s : State} (h : Kept orig s) (ovl : Nat) :
    OutKept orig (execOvlRequest ovl s) := by
  unfold execOvlRequest
  repeat' with_reducible first | assumption | intro _ | apply State.ovlRequest_kept | apply State.settle_kept | apply next_kept | apply ite_kept | apply outIte_kept | dsimp only | split

theorem State.cfgCode_kept {orig s : State} (h : Kept orig s) (c : Nat) :
    Kept orig (State.cfgCode s c) := by
  unfold State.cfgCode
  repeat' with_reducible first | assumption | intro _ | apply State.put_kept

theorem State.cfgExtend_kept {orig s : State} (h : Kept orig s) (arg : Nat) :
    Kept orig (State.cfgExtend s arg) := by
  unfold State.cfgExtend
  repeat' with_reducible first | assumption | intro _ | apply State.cfgCode_kept | apply State.mslExtend_kept | apply ite_kept | split

theorem State.cfgRaise_kept {orig s : State} (h : Kept orig s) : Kept orig s.cfgRaise := by
  unfold State.cfgRaise
  split
  · exact State.cfgCode_kept h _
  · split
    · exact State.cfgCode_kept h _
    · refine State.cfgCode_kept (State.put_kept (State.setFuse_kept h ?_) _ _) _
      simp only [*, fusesKept]
      exact ⟨Nat.le_max_left _ _, fun _ => trivial, trivial⟩

theorem State.cfgOwner_kept {orig s : State} (h : Kept orig s) : Kept orig s.cfgOwner := by
  unfold State.cfgOwner
  split
  · exact State.cfgCode_kept h _
  · rename_i f e
    split
    · exact State.cfgCode_kept h _
    · rename_i g
      refine State.cfgCode_kept (State.on_kept (State.setFuse_kept h ?_) _) _
      simp only [e, fusesKept]
      exact ⟨Nat.le_refl _, fun x => absurd x g, trivial⟩

theorem State.cfgStage_kept {orig s : State} (h : Kept orig s)  :
    Kept orig (State.cfgStage s) := by
  unfold State.cfgStage
  repeat' with_reducible first | assumption | intro _ | apply bufWrite_kept | apply State.cfgCode_kept | apply State.stage_kept | apply State.modBoot_kept | apply State.on_kept | apply ite_kept | dsimp only | split | rfl

theorem State.cfgCommand_kept {orig s : State} (h : Kept orig s) (v : Nat) :
    Kept orig (State.cfgCommand s v) := by
  unfold State.cfgCommand
  repeat' with_reducible first | assumption | intro _ | apply State.cfgStage_kept | apply State.cfgOwner_kept | apply State.cfgRaise_kept | apply State.cfgExtend_kept | apply State.cfgCode_kept | apply State.coreReset_kept | apply State.setN_kept | apply ite_kept | dsimp only | split

theorem execCfgExtend_kept {orig s : State} (h : Kept orig s) (arg : Nat) :
    OutKept orig (execCfgExtend arg s) := by
  unfold execCfgExtend
  repeat' with_reducible first | assumption | intro _ | apply State.cfgCommand_kept | apply next_kept | apply ite_kept | apply outIte_kept | dsimp only | split

theorem execCfgStage_kept {orig s : State} (h : Kept orig s)  :
    OutKept orig (execCfgStage s) := by
  unfold execCfgStage
  repeat' with_reducible first | assumption | intro _ | apply State.cfgCommand_kept | apply next_kept | apply ite_kept | apply outIte_kept | dsimp only | split

theorem execCfgActivate_kept {orig s : State} (h : Kept orig s)  :
    OutKept orig (execCfgActivate s) := by
  unfold execCfgActivate
  repeat' with_reducible first | assumption | intro _ | apply State.cfgCommand_kept | apply next_kept | apply ite_kept | apply outIte_kept | dsimp only | split

theorem execCfgRaiseSvn_kept {orig s : State} (h : Kept orig s)  :
    OutKept orig (execCfgRaiseSvn s) := by
  unfold execCfgRaiseSvn
  repeat' with_reducible first | assumption | intro _ | apply State.cfgCommand_kept | apply next_kept | apply ite_kept | apply outIte_kept | dsimp only | split

theorem execCfgOwnerFuse_kept {orig s : State} (h : Kept orig s)  :
    OutKept orig (execCfgOwnerFuse s) := by
  unfold execCfgOwnerFuse
  repeat' with_reducible first | assumption | intro _ | apply State.cfgCommand_kept | apply next_kept | apply ite_kept | apply outIte_kept | dsimp only | split

theorem State.stageDone_kept {orig s : State} (h : Kept orig s) (ok : Bool) :
    Kept orig (State.stageDone s ok) := by
  unfold State.stageDone
  repeat' with_reducible first | assumption | intro _ | apply State.cfgCode_kept | apply State.stage_kept | apply State.event_kept | apply State.setFlash_kept | apply State.modBoot_kept | apply State.emit_kept | apply State.satInc_kept | apply State.off_kept | apply State.put_kept | apply ite_kept | dsimp only | split | rfl

theorem execStageComplete_kept {orig s : State} (h : Kept orig s) (ok : Bool) :
    OutKept orig (execStageComplete ok s) := by
  unfold execStageComplete
  repeat' with_reducible first | assumption | intro _ | apply State.stageDone_kept | apply next_kept | apply ite_kept | apply outIte_kept | dsimp only | split

theorem State.spdmShow_kept {orig s : State} (h : Kept orig s)  :
    Kept orig (State.spdmShow s) := by
  unfold State.spdmShow
  repeat' with_reducible first | assumption | intro _ | apply State.put_kept | dsimp only | split

theorem State.setSpdm_kept {orig s : State} (h : Kept orig s) (k : Nat) (x : Spdm) :
    Kept orig (State.setSpdm s k x) := by
  unfold State.setSpdm
  repeat' with_reducible first | assumption | intro _ | apply State.spdmShow_kept | apply State.modBoot_kept | dsimp only | rfl

theorem State.spdmSign_kept {orig s : State} (h : Kept orig s) (msg : List Byte) :
    Kept orig (State.spdmSign s msg).2 := by
  unfold State.spdmSign
  repeat' with_reducible first | assumption | intro _ | apply State.satInc_kept | dsimp only | split

theorem State.spdmNonce_kept {orig s : State} (h : Kept orig s)  :
    Kept orig (State.spdmNonce s).2 := by
  unfold State.spdmNonce
  repeat' with_reducible first | assumption | intro _ | apply State.freshBytes_kept | refine snd_kept ?_ (by assumption) | refine snd3_kept ?_ (by assumption) | dsimp only | split

theorem State.spdmBody_kept {orig s : State} (h : Kept orig s) (r : SpdmReq) :
    Kept orig (State.spdmBody s r).2 := by
  unfold State.spdmBody
  repeat' with_reducible first | assumption | intro _ | apply State.spdmNonce_kept | apply State.spdmSign_kept | apply State.off_kept | apply ite_kept | apply ite2_kept | apply optGetD_kept | apply optOr_kept | refine snd_kept ?_ (by assumption) | refine snd3_kept ?_ (by assumption) | dsimp only | split

theorem State.spdmRequest_kept {orig s : State} (h : Kept orig s) (carrier : Nat) (sender : Nat) (r : SpdmReq) :
    Kept orig (State.spdmRequest s carrier sender r) := by
  unfold State.spdmRequest
  repeat' with_reducible first | assumption | intro _ | apply State.spdmBody_kept | apply State.setSpdm_kept | apply State.modBoot_kept | apply State.emit_kept | apply ite_kept | refine snd_kept ?_ (by assumption) | refine snd3_kept ?_ (by assumption) | dsimp only | split | rfl

theorem State.spdmArrive_kept {orig s : State} (h : Kept orig s) (carrier : Nat) (sender : Nat) (r : SpdmReq) :
    Kept orig (State.spdmArrive s carrier sender r) := by
  unfold State.spdmArrive
  repeat' with_reducible first | assumption | intro _ | apply State.spdmRequest_kept | apply State.adminDone_kept | apply ite_kept | dsimp only | split

theorem execGetVersion_kept {orig s : State} (h : Kept orig s) (carrier : Nat) (sender : Nat) :
    OutKept orig (execGetVersion carrier sender s) := by
  unfold execGetVersion
  repeat' with_reducible first | assumption | intro _ | apply State.spdmArrive_kept | apply next_kept | apply ite_kept | apply outIte_kept | dsimp only | split

theorem execGetCapabilities_kept {orig s : State} (h : Kept orig s) (carrier : Nat) (sender : Nat) :
    OutKept orig (execGetCapabilities carrier sender s) := by
  unfold execGetCapabilities
  repeat' with_reducible first | assumption | intro _ | apply State.spdmArrive_kept | apply next_kept | apply ite_kept | apply outIte_kept | dsimp only | split

theorem execNegotiateAlgorithms_kept {orig s : State} (h : Kept orig s) (carrier : Nat) (sender : Nat) (p384 : Bool) (sha384 : Bool) :
    OutKept orig (execNegotiateAlgorithms carrier sender p384 sha384 s) := by
  unfold execNegotiateAlgorithms
  repeat' with_reducible first | assumption | intro _ | apply State.spdmArrive_kept | apply next_kept | apply ite_kept | apply outIte_kept | dsimp only | split

theorem execGetDigests_kept {orig s : State} (h : Kept orig s) (carrier : Nat) (sender : Nat) :
    OutKept orig (execGetDigests carrier sender s) := by
  unfold execGetDigests
  repeat' with_reducible first | assumption | intro _ | apply State.spdmArrive_kept | apply next_kept | apply ite_kept | apply outIte_kept | apply optGetD_kept | apply optOr_kept | dsimp only | split

theorem execGetCertificate_kept {orig s : State} (h : Kept orig s) (carrier : Nat) (sender : Nat) (slot : Nat) (off : Nat) (len : Nat) :
    OutKept orig (execGetCertificate carrier sender slot off len s) := by
  unfold execGetCertificate
  repeat' with_reducible first | assumption | intro _ | apply State.spdmArrive_kept | apply State.off_kept | apply next_kept | apply ite_kept | apply outIte_kept | dsimp only | split

theorem execChallenge_kept {orig s : State} (h : Kept orig s) (carrier : Nat) (sender : Nat) (slot : Nat) (nonce : List Byte) :
    OutKept orig (execChallenge carrier sender slot nonce s) := by
  unfold execChallenge
  repeat' with_reducible first | assumption | intro _ | apply State.spdmArrive_kept | apply next_kept | apply ite_kept | apply outIte_kept | dsimp only | split

theorem execGetMeasurements_kept {orig s : State} (h : Kept orig s) (carrier : Nat) (sender : Nat) (index : Nat) (sign : Bool) (nonce : List Byte) :
    OutKept orig (execGetMeasurements carrier sender index sign nonce s) := by
  unfold execGetMeasurements
  repeat' with_reducible first | assumption | intro _ | apply State.spdmArrive_kept | apply next_kept | apply ite_kept | apply outIte_kept | dsimp only | split

theorem execSecuritySend_kept {orig s : State} (h : Kept orig s) (cntlid : Nat) (cid : Nat) (sgl : Sgl) (req : SpdmReq) :
    OutKept orig (execSecuritySend cntlid cid sgl req s) := by
  unfold execSecuritySend
  repeat' with_reducible first | assumption | intro _ | apply State.spdmRequest_kept | apply State.adminData_kept | apply State.adminDone_kept | apply next_kept | apply ite_kept | apply outIte_kept | dsimp only | split

theorem execSecurityReceive_kept {orig s : State} (h : Kept orig s) (cntlid : Nat) (cid : Nat) (alloc : Nat) (sgl : Sgl) :
    OutKept orig (execSecurityReceive cntlid cid alloc sgl s) := by
  unfold execSecurityReceive
  repeat' with_reducible first | assumption | intro _ | apply State.sendAdmin_kept | apply State.adminData_kept | apply State.modBoot_kept | apply next_kept | apply ite_kept | apply outIte_kept | apply optGetD_kept | apply optOr_kept | dsimp only | split | rfl

theorem State.mctp_kept {orig s : State} (h : Kept orig s) (carrier : Nat) (cmd : Nat) (code : Nat) (l : List Byte) :
    Kept orig (State.mctp s carrier cmd code l) := by
  unfold State.mctp
  repeat' with_reducible first | assumption | intro _ | apply State.emit_kept | apply ite_kept | split

theorem execSetEndpointId_kept {orig s : State} (h : Kept orig s) (carrier : Nat) (eid : Nat) :
    OutKept orig (execSetEndpointId carrier eid s) := by
  unfold execSetEndpointId
  repeat' with_reducible first | assumption | intro _ | apply State.mctp_kept | apply State.modBoot_kept | apply next_kept | apply ite_kept | apply outIte_kept | dsimp only | split | rfl

theorem execGetEndpointId_kept {orig s : State} (h : Kept orig s) (carrier : Nat) :
    OutKept orig (execGetEndpointId carrier s) := by
  unfold execGetEndpointId
  repeat' with_reducible first | assumption | intro _ | apply State.mctp_kept | apply next_kept | apply ite_kept | apply outIte_kept | apply optGetD_kept | apply optOr_kept | dsimp only | split

theorem execGetEndpointUuid_kept {orig s : State} (h : Kept orig s) (carrier : Nat) :
    OutKept orig (execGetEndpointUuid carrier s) := by
  unfold execGetEndpointUuid
  repeat' with_reducible first | assumption | intro _ | apply State.mctp_kept | apply next_kept | apply ite_kept | apply outIte_kept | dsimp only | split

theorem execGetMctpVersionSupport_kept {orig s : State} (h : Kept orig s) (carrier : Nat) (msgType : Nat) :
    OutKept orig (execGetMctpVersionSupport carrier msgType s) := by
  unfold execGetMctpVersionSupport
  repeat' with_reducible first | assumption | intro _ | apply State.mctp_kept | apply next_kept | apply ite_kept | apply outIte_kept | dsimp only | split

theorem execGetMessageTypeSupport_kept {orig s : State} (h : Kept orig s) (carrier : Nat) :
    OutKept orig (execGetMessageTypeSupport carrier s) := by
  unfold execGetMessageTypeSupport
  repeat' with_reducible first | assumption | intro _ | apply State.mctp_kept | apply next_kept | apply ite_kept | apply outIte_kept | dsimp only | split

theorem State.ckptStart_kept {orig s : State} (h : Kept orig s)  :
    Kept orig (State.ckptStart s) := by
  unfold State.ckptStart
  repeat' with_reducible first | assumption | intro _ | apply State.modJn_kept | apply State.on_kept | apply ite_kept | dsimp only | split

theorem execCheckpointStart_kept {orig s : State} (h : Kept orig s)  :
    OutKept orig (execCheckpointStart s) := by
  unfold execCheckpointStart
  repeat' with_reducible first | assumption | intro _ | apply State.ckptStart_kept | apply next_kept | apply ite_kept | apply outIte_kept | dsimp only | split

theorem State.logDone_kept {orig s : State} (h : Kept orig s) (c : Nat) (cls : Nat) (k0 : KeepLog) (io : BgIo) :
    Kept orig (State.logDone s c cls k0 io) := by
  unfold State.logDone
  repeat' with_reducible first | assumption | intro _ | apply State.memberCount_kept | apply State.standDown_kept | apply State.failMark_kept | apply State.usedNow_kept | apply State.linesRetire_kept | apply ite_kept | apply ite2_kept | apply foldl_kept | apply foldlP_kept | dsimp only | split

theorem State.ckptCommit_kept {orig s : State} (h : Kept orig s) (io : BgIo) :
    Kept orig (State.ckptCommit s io) := by
  unfold State.ckptCommit
  repeat' with_reducible first | assumption | intro _ | apply State.logDone_kept | apply State.bgAsk_kept | apply State.bgReach_kept | apply State.relCheck_kept | apply State.logCommit_kept | apply State.recDrain_kept | apply State.recIssue_kept | apply State.evAt_kept | apply State.modNv_kept | apply State.modJn_kept | apply State.wr64_kept | apply State.setN_kept | apply State.off_kept | apply ite_kept | apply ite2_kept | apply foldl_kept | refine some_kept ?_ (by assumption) | dsimp only | split

theorem execCheckpointCommit_kept {orig s : State} (h : Kept orig s) (io : BgIo) :
    OutKept orig (execCheckpointCommit io s) := by
  unfold execCheckpointCommit
  repeat' with_reducible first | assumption | intro _ | apply State.ckptCommit_kept | apply State.settle_kept | apply next_kept | apply ite_kept | apply outIte_kept | dsimp only | split

theorem State.ringCopy_kept {orig s : State} (h : Kept orig s) (io : BgIo) :
    Kept orig (State.ringCopy s io) := by
  unfold State.ringCopy
  repeat' with_reducible first | assumption | intro _ | apply State.logDone_kept | apply State.logCopies_kept | apply ite_kept | apply ite2_kept | apply foldl_kept | dsimp only | split

theorem execRingCopyStream_kept {orig s : State} (h : Kept orig s) (io : BgIo) :
    OutKept orig (execRingCopyStream io s) := by
  unfold execRingCopyStream
  repeat' with_reducible first | assumption | intro _ | apply State.ringCopy_kept | apply State.settle_kept | apply next_kept | apply ite_kept | apply outIte_kept | dsimp only | split

theorem State.keeperDone_kept {orig s : State} (h : Kept orig s) (io : BgIo) :
    Kept orig (State.keeperDone s io) := by
  unfold State.keeperDone
  repeat' with_reducible first | assumption | intro _ | apply State.logDone_kept | apply State.bgAsk_kept | apply State.bgReach_kept | apply State.logFull_kept | apply State.evAt_kept | apply State.modJn_kept | apply State.put_kept | apply ite_kept | refine some_kept ?_ (by assumption) | dsimp only | split

theorem execKeeperCopyDone_kept {orig s : State} (h : Kept orig s) (io : BgIo) :
    OutKept orig (execKeeperCopyDone io s) := by
  unfold execKeeperCopyDone
  repeat' with_reducible first | assumption | intro _ | apply State.keeperDone_kept | apply State.settle_kept | apply next_kept | apply ite_kept | apply outIte_kept | dsimp only | split

end Sys2Proof.Machine
end

