-- ==== Sys2Proof/Laws/KeptShelf.lean ====
section
/-! SUPPORT. What every operation keeps (Kept), one lemma per operation and per meaning: the DMA channels, the faults and counters, the slots, the drive ports and the endpoint. -/

namespace Sys2Proof.Machine
open Sys2Proof

theorem State.dmaError_kept {orig s : State} (h : Kept orig s) (n : Nat) (a : Nat) (code : Nat) :
    Kept orig (State.dmaError s n a code) := by
  unfold State.dmaError
  repeat' with_reducible first | assumption | intro _ | apply State.fetch_kept | apply State.event_kept | apply State.setDma_kept | apply State.modDma_kept | apply State.wr64_kept | apply State.put_kept | dsimp only

theorem State.dmaFetch_kept {orig s : State} (h : Kept orig s) (n : Nat) (a : Nat) :
    Kept orig (State.dmaFetch s n a) := by
  unfold State.dmaFetch
  repeat' with_reducible first | assumption | intro _ | apply State.fetch_kept | apply State.setDma_kept | apply State.modDma_kept | apply State.wr64_kept | dsimp only

theorem State.dmaRefetch_kept {orig s : State} (h : Kept orig s) (n : Nat) :
    Kept orig (State.dmaRefetch s n) := by
  unfold State.dmaRefetch
  repeat' with_reducible first | assumption | intro _ | apply State.setDma_kept | apply State.modDma_kept | dsimp only

theorem State.dmaAtEnd_kept {orig s : State} (h : Kept orig s) (n : Nat) :
    Kept orig (State.dmaAtEnd s n) := by
  unfold State.dmaAtEnd
  repeat' with_reducible first | assumption | intro _ | apply State.dmaRefetch_kept | apply State.setDma_kept | apply ite_kept | split

theorem State.dmaReadDone_kept {orig s : State} (h : Kept orig s) (n : Nat) (d : Desc) :
    Kept orig (State.dmaReadDone s n d) := by
  unfold State.dmaReadDone
  repeat' with_reducible first | assumption | intro _ | apply State.dmaAtEnd_kept | apply State.dmaFetch_kept | apply ite_kept | split

theorem State.doorbell_kept {orig s : State} (h : Kept orig s) (n : Nat) :
    Kept orig (State.doorbell s n) := by
  unfold State.doorbell
  repeat' with_reducible first | assumption | intro _ | apply State.dmaRefetch_kept | apply State.dmaFetch_kept | apply State.put_kept | apply ite_kept | dsimp only | split

theorem State.dmaGuard_kept {orig s : State} (h : Kept orig s) (p : Path) (n : Nat) {f : State → State}
    (hf : ∀ s, Kept orig s → Kept orig (f s)) : Kept orig (s.dmaGuard p n f) := by
  unfold State.dmaGuard
  repeat' (first | with_reducible assumption | intro _ | with_reducible apply ite_kept | with_reducible apply hf | with_reducible apply State.adminDone_kept | with_reducible apply State.cmdEnd_kept | with_reducible apply State.setCmd_kept | with_reducible apply State.event_kept | dsimp only | split)

theorem execDmaDoorbell_kept {orig s : State} (h : Kept orig s) (path : Path) (ch : Nat) :
    OutKept orig (execDmaDoorbell path ch s) := by
  unfold execDmaDoorbell
  repeat' with_reducible first | assumption | intro _ | apply State.dmaGuard_kept | apply State.doorbell_kept | apply State.settle_kept | apply next_kept | apply ite_kept | apply outIte_kept | dsimp only | split

theorem State.dmaClaim_kept {orig s : State} (h : Kept orig s) (n : Nat) (line : Nat) :
    Kept orig (State.dmaClaim s n line) := by
  unfold State.dmaClaim
  repeat' with_reducible first | assumption | intro _ | apply State.modDmac_kept | apply State.setN_kept | apply State.on_kept | apply State.put_kept | apply ite_kept | dsimp only | split

theorem State.lineTake_kept {orig s : State} (h : Kept orig s) (n : Nat) (d : Desc) :
    Kept orig (State.lineTake s n d) := by
  unfold State.lineTake
  repeat' with_reducible first | assumption | intro _ | apply State.dmaClaim_kept | apply ite_kept | split

theorem State.dmaGo_kept {orig s : State} (h : Kept orig s) (n : Nat) (d : Desc) :
    Kept orig (State.dmaGo s n d) := by
  unfold State.dmaGo
  repeat' with_reducible first | assumption | intro _ | apply State.lineTake_kept | apply State.setDma_kept | apply ite_kept | dsimp only | split

theorem State.lineArb_kept {orig s : State} (h : Kept orig s)  :
    Kept orig (State.lineArb s) := by
  unfold State.lineArb
  repeat' with_reducible first | assumption | intro _ | apply State.dmaGo_kept | apply ite_kept | apply ite2_kept | apply foldl_kept | dsimp only | split

theorem State.dmaAccept_kept {orig s : State} (h : Kept orig s) (n : Nat) (a : Nat) (d : Desc) :
    Kept orig (State.dmaAccept s n a d) := by
  unfold State.dmaAccept
  repeat' with_reducible first | assumption | intro _ | apply State.dmaGo_kept | apply State.lineTake_kept | apply State.fetch_kept | apply State.setDma_kept | apply State.modDma_kept | apply ite_kept | dsimp only | split

theorem State.dmaRefuse_kept {orig s : State} (h : Kept orig s) (n : Nat) (a : Nat) (code : Nat) (d : Desc) :
    Kept orig (State.dmaRefuse s n a code d) := by
  unfold State.dmaRefuse
  repeat' with_reducible first | assumption | intro _ | apply State.dmaError_kept | apply State.fetch_kept | apply State.dmaBack_kept | apply State.modDma_kept | apply ite_kept | dsimp only | split

theorem State.descFetched_kept {orig s : State} (h : Kept orig s) (n : Nat) (ecc : Bool) :
    Kept orig (State.descFetched s n ecc) := by
  unfold State.descFetched
  repeat' with_reducible first | assumption | intro _ | apply State.dmaRefuse_kept | apply State.dmaAccept_kept | apply State.fetch_kept | apply ite_kept | dsimp only | split

theorem execDescFetchDone_kept {orig s : State} (h : Kept orig s) (ch : Nat) (ecc : Bool) :
    OutKept orig (execDescFetchDone ch ecc s) := by
  unfold execDescFetchDone
  repeat' with_reducible first | assumption | intro _ | apply State.descFetched_kept | apply State.settle_kept | apply next_kept | apply ite_kept | apply outIte_kept | dsimp only | split

theorem State.modLast_kept {orig s : State} (h : Kept orig s) (n : Nat) (f : Job → Job) :
    Kept orig (State.modLast s n f) := by
  unfold State.modLast
  repeat' with_reducible first | assumption | intro _ | apply State.modDma_kept | dsimp only

theorem State.readBurst_kept {orig s : State} (h : Kept orig s) (n : Nat) (j : Job) (data : List Byte) (err : Nat) :
    Kept orig (State.readBurst s n j data err) := by
  unfold State.readBurst
  repeat' with_reducible first | assumption | intro _ | apply State.modLast_kept | apply State.dmaReadDone_kept | apply State.event_kept | apply State.modDma_kept | apply State.bwAdd_kept | apply State.count_kept | apply State.modDmac_kept | apply State.modKeys_kept | apply State.fresh_kept | apply State.add64_kept | apply State.satInc_kept | apply State.put_kept | apply ite_kept | apply optGetD_kept | apply optOr_kept | refine snd_kept ?_ (by assumption) | refine snd3_kept ?_ (by assumption) | dsimp only | split

theorem execDmaReadBurst_kept {orig s : State} (h : Kept orig s) (data : List Byte) (err : Nat) :
    OutKept orig (execDmaReadBurst data err s) := by
  have ha := State.lineArb_kept h
  unfold execDmaReadBurst
  generalize s.lineArb = t at ha ⊢
  repeat' with_reducible first | assumption | intro _ | apply State.readBurst_kept | apply State.lineArb_kept | apply State.settle_kept | apply State.modDmac_kept | apply next_kept | apply ite_kept | apply outIte_kept | dsimp only | split

theorem State.writeFail_kept {orig s : State} (h : Kept orig s) (n : Nat) (p : Job → Bool) (code : Nat) :
    Kept orig (State.writeFail s n p code) := by
  unfold State.writeFail
  repeat' with_reducible first | assumption | intro _ | apply State.modDma_kept | apply State.put_kept | dsimp only | split

theorem State.writeGrant_kept {orig s : State} (h : Kept orig s) (n : Nat) (err : Nat) :
    Kept orig (State.writeGrant s n err) := by
  unfold State.writeGrant
  repeat' with_reducible first | assumption | intro _ | apply State.writeFail_kept | apply State.dmaWrite1_kept | apply ite_kept | dsimp only | split

theorem execDmaWriteBurst_kept {orig s : State} (h : Kept orig s) (err : Nat) :
    OutKept orig (execDmaWriteBurst err s) := by
  have ha := State.lineArb_kept h
  unfold execDmaWriteBurst
  generalize s.lineArb = t at ha ⊢
  repeat' with_reducible first | assumption | intro _ | apply State.writeGrant_kept | apply State.lineArb_kept | apply State.modDmac_kept | apply next_kept | apply ite_kept | apply outIte_kept | dsimp only | split

theorem State.lineHandOver_kept {orig s : State} (h : Kept orig s) (line : Nat) :
    Kept orig (State.lineHandOver s line) := by
  unfold State.lineHandOver
  repeat' with_reducible first | assumption | intro _ | apply State.dmaGo_kept | apply State.dmaClaim_kept | dsimp only | split

theorem State.lineFree_kept {orig s : State} (h : Kept orig s) (n : Nat) (line : Nat) :
    Kept orig (State.lineFree s n line) := by
  unfold State.lineFree
  repeat' with_reducible first | assumption | intro _ | apply State.lineHandOver_kept | apply State.dmaUnclaim_kept | apply ite_kept | split

theorem State.lineRelease_kept {orig s : State} (h : Kept orig s) (n : Nat) :
    Kept orig (State.lineRelease s n) := by
  unfold State.lineRelease
  repeat' with_reducible first | assumption | intro _ | apply State.lineFree_kept | apply foldl_kept | apply foldlP_kept | dsimp only

theorem State.dmaStopped_kept {orig s : State} (h : Kept orig s) (n : Nat) :
    Kept orig (State.dmaStopped s n) := by
  unfold State.dmaStopped
  repeat' with_reducible first | assumption | intro _ | apply State.fetch_kept | apply State.event_kept | apply State.setDma_kept | apply State.modDma_kept | apply ite_kept | dsimp only | split

theorem State.dmaRefused_kept {orig s : State} (h : Kept orig s) (n : Nat) (j : Job) (code : Nat) :
    Kept orig (State.dmaRefused s n j code) := by
  unfold State.dmaRefused
  repeat' with_reducible first | assumption | intro _ | apply State.dmaError_kept | apply State.dmaBack_kept | apply State.modDma_kept | apply ite_kept | dsimp only | split

theorem State.descComplete_kept {orig s : State} (h : Kept orig s) (n : Nat) (j : Job) (rest : List Job) (err : Nat) :
    Kept orig (State.descComplete s n j rest err) := by
  unfold State.descComplete
  repeat' with_reducible first | assumption | intro _ | apply State.dmaRefused_kept | apply State.dmaStopped_kept | apply State.lineFree_kept | apply State.lineTake_kept | apply State.dmaError_kept | apply State.event_kept | apply State.dmaBack_kept | apply State.setDma_kept | apply State.modDma_kept | apply State.satInc_kept | apply State.put_kept | apply ite_kept | dsimp only | split

theorem execDmaWriteComplete_kept {orig s : State} (h : Kept orig s) (ch : Nat) (err : Nat) :
    OutKept orig (execDmaWriteComplete ch err s) := by
  unfold execDmaWriteComplete
  repeat' with_reducible first | assumption | intro _ | apply State.descComplete_kept | apply State.settle_kept | apply next_kept | apply ite_kept | apply outIte_kept | dsimp only | split

theorem State.tailRefetched_kept {orig s : State} (h : Kept orig s) (n : Nat) (ecc : Bool) :
    Kept orig (State.tailRefetched s n ecc) := by
  unfold State.tailRefetched
  repeat' with_reducible first | assumption | intro _ | apply State.dmaRefuse_kept | apply State.dmaAtEnd_kept | apply State.dmaFetch_kept | apply ite_kept | dsimp only | split

theorem execTailRefetch_kept {orig s : State} (h : Kept orig s) (ch : Nat) (ecc : Bool) :
    OutKept orig (execTailRefetch ch ecc s) := by
  unfold execTailRefetch
  repeat' with_reducible first | assumption | intro _ | apply State.tailRefetched_kept | apply State.settle_kept | apply next_kept | apply ite_kept | apply outIte_kept | dsimp only | split

theorem State.dmaStop_kept {orig s : State} (h : Kept orig s) (n : Nat) :
    Kept orig (State.dmaStop s n) := by
  unfold State.dmaStop
  repeat' with_reducible first | assumption | intro _ | apply State.dmaStopped_kept | apply State.modLast_kept | apply State.fetch_kept | apply State.event_kept | apply State.setDma_kept | apply State.modDma_kept | apply ite_kept | dsimp only | split

theorem execDmaStop_kept {orig s : State} (h : Kept orig s) (path : Path) (ch : Nat) :
    OutKept orig (execDmaStop path ch s) := by
  unfold execDmaStop
  repeat' with_reducible first | assumption | intro _ | apply State.dmaStop_kept | apply State.dmaGuard_kept | apply State.settle_kept | apply next_kept | apply ite_kept | apply outIte_kept | dsimp only | split

theorem State.dmaReset_kept {orig s : State} (h : Kept orig s) (n : Nat) :
    Kept orig (State.dmaReset s n) := by
  unfold State.dmaReset
  repeat' with_reducible first | assumption | intro _ | apply State.lineRelease_kept | apply State.fetch_kept | apply State.setDma_kept | apply State.modDma_kept | apply State.put_kept | apply ite_kept | dsimp only | split

theorem execDmaReset_kept {orig s : State} (h : Kept orig s) (path : Path) (ch : Nat) :
    OutKept orig (execDmaReset path ch s) := by
  unfold execDmaReset
  repeat' with_reducible first | assumption | intro _ | apply State.dmaReset_kept | apply State.dmaGuard_kept | apply State.settle_kept | apply next_kept | apply ite_kept | apply outIte_kept | dsimp only | split

theorem State.lineChange_kept {orig s : State} (h : Kept orig s) (line : Nat) (asserted : Bool) :
    Kept orig (State.lineChange s line asserted) := by
  unfold State.lineChange
  repeat' with_reducible first | assumption | intro _ | apply State.setDma_kept | apply State.setN_kept | apply ite_kept | dsimp only | split

theorem execPeriphRequestChange_kept {orig s : State} (h : Kept orig s) (line : Nat) (asserted : Bool) :
    OutKept orig (execPeriphRequestChange line asserted s) := by
  unfold execPeriphRequestChange
  repeat' with_reducible first | assumption | intro _ | apply State.lineChange_kept | apply next_kept | apply ite_kept | apply outIte_kept | dsimp only | split

theorem State.finalRequest_kept {orig s : State} (h : Kept orig s) (n : Nat) (line : Nat) (count : Nat) (data : List Byte) :
    Kept orig (State.finalRequest s n line count data) := by
  unfold State.finalRequest
  repeat' with_reducible first | assumption | intro _ | apply State.dmaGo_kept | apply State.count_kept | apply State.modDmac_kept | apply ite_kept | dsimp only | split

theorem execPeriphFinalRequest_kept {orig s : State} (h : Kept orig s) (line : Nat) (count : Nat) (data : List Byte) :
    OutKept orig (execPeriphFinalRequest line count data s) := by
  unfold execPeriphFinalRequest
  repeat' with_reducible first | assumption | intro _ | apply State.finalRequest_kept | apply State.count_kept | apply next_kept | apply ite_kept | apply outIte_kept | dsimp only | split

theorem State.pendClear_kept {orig s : State} (h : Kept orig s) (m : Nat) (value : Nat) :
    Kept orig (State.pendClear s m value) := by
  unfold State.pendClear
  repeat' with_reducible first | assumption | intro _ | apply State.raiseAll_kept | apply State.pruneHeld_kept | apply State.setReg_kept | dsimp only

theorem execPendClear_kept {orig s : State} (h : Kept orig s) (m : Nat) (value : Nat) :
    OutKept orig (execPendClear m value s) := by
  unfold execPendClear
  repeat' with_reducible first | assumption | intro _ | apply State.pendClear_kept | apply State.settle_kept | apply next_kept | apply ite_kept | apply outIte_kept | dsimp only | split

theorem State.clearFirst_kept {orig s : State} (h : Kept orig s)  :
    Kept orig (State.clearFirst s) := by
  unfold State.clearFirst
  repeat' with_reducible first | assumption | intro _ | apply State.wr64_kept | apply State.setN_kept

theorem execFltClearFirst_kept {orig s : State} (h : Kept orig s)  :
    OutKept orig (execFltClearFirst s) := by
  unfold execFltClearFirst
  repeat' with_reducible first | assumption | intro _ | apply State.clearFirst_kept | apply next_kept | apply ite_kept | apply outIte_kept | dsimp only | split

theorem execCoreResetCmd_kept {orig s : State} (h : Kept orig s)  :
    OutKept orig (execCoreResetCmd s) := by
  unfold execCoreResetCmd
  repeat' with_reducible first | assumption | intro _ | apply State.coreReset_kept | apply next_kept | apply ite_kept | apply outIte_kept | dsimp only | split

theorem execHaltHoldExpiry_kept {orig s : State} (h : Kept orig s)  :
    OutKept orig (execHaltHoldExpiry s) := by
  unfold execHaltHoldExpiry
  repeat' with_reducible first | assumption | intro _ | apply State.coreReset_kept | apply next_kept | apply ite_kept | apply outIte_kept | dsimp only | split

theorem execCoreWatchdogMiss_kept {orig s : State} (h : Kept orig s)  :
    OutKept orig (execCoreWatchdogMiss s) := by
  unfold execCoreWatchdogMiss
  repeat' with_reducible first | assumption | intro _ | apply State.settle_kept | apply State.raise_kept | apply next_kept | apply ite_kept | apply outIte_kept | dsimp only | split

theorem execCarillonRecordWrite_kept {orig s : State} (h : Kept orig s) (lineBad : Bool) :
    OutKept orig (execCarillonRecordWrite lineBad s) := by
  unfold execCarillonRecordWrite
  repeat' with_reducible first | assumption | intro _ | apply State.lineRetire_kept | apply State.carNext_kept | apply next_kept | apply ite_kept | apply outIte_kept | dsimp only | split

theorem State.freezeWrite_kept {orig s : State} (h : Kept orig s) (value : Nat) :
    Kept orig (State.freezeWrite s value) := by
  unfold State.freezeWrite
  repeat' with_reducible first | assumption | intro _ | apply State.unfreeze_kept | apply State.on_kept | apply State.put_kept | apply ite_kept | dsimp only | split

theorem execEvrFreezeWrite_kept {orig s : State} (h : Kept orig s) (value : Nat) :
    OutKept orig (execEvrFreezeWrite value s) := by
  unfold execEvrFreezeWrite
  repeat' with_reducible first | assumption | intro _ | apply State.freezeWrite_kept | apply next_kept | apply ite_kept | apply outIte_kept | dsimp only | split

theorem execFreezeExpiry_kept {orig s : State} (h : Kept orig s)  :
    OutKept orig (execFreezeExpiry s) := by
  unfold execFreezeExpiry
  repeat' with_reducible first | assumption | intro _ | apply State.unfreeze_kept | apply next_kept | apply ite_kept | apply outIte_kept | dsimp only | split

theorem execCarillonClear_kept {orig s : State} (h : Kept orig s) (path : Path) :
    OutKept orig (execCarillonClear path s) := by
  unfold execCarillonClear
  repeat' with_reducible first | assumption | intro _ | apply State.carClear_kept | apply next_kept | apply ite_kept | apply outIte_kept | dsimp only | split

theorem State.userRecord_kept {orig s : State} (h : Kept orig s) (tag : Nat) :
    Kept orig (State.userRecord s tag) := by
  unfold State.userRecord
  repeat' with_reducible first | assumption | intro _ | apply State.carillon_kept

theorem execUserRecord_kept {orig s : State} (h : Kept orig s) (tag : Nat) :
    OutKept orig (execUserRecord tag s) := by
  unfold execUserRecord
  repeat' with_reducible first | assumption | intro _ | apply State.userRecord_kept | apply next_kept | apply ite_kept | apply outIte_kept | dsimp only | split

theorem State.putRdata_kept {orig s : State} (h : Kept orig s) (l : List Byte) :
    Kept orig (State.putRdata s l) := by
  unfold State.putRdata
  repeat' with_reducible first | assumption | intro _ | apply State.setN_kept | apply foldl_kept | dsimp only

theorem State.torn_kept {orig s : State} (h : Kept orig s)  :
    Kept orig (State.torn s).2 := by
  unfold State.torn
  repeat' with_reducible first | assumption | intro _ | apply State.freshBytes_kept | apply State.fresh_kept | refine snd_kept ?_ (by assumption) | refine snd3_kept ?_ (by assumption) | dsimp only | split

theorem State.recordLatch_kept {orig s : State} (h : Kept orig s) (slot : Nat) :
    Kept orig (State.recordLatch s slot) := by
  unfold State.recordLatch
  repeat' with_reducible first | assumption | intro _ | apply State.torn_kept | apply State.putRdata_kept | apply State.carillon_kept | apply State.setN_kept | refine snd_kept ?_ (by assumption) | refine snd3_kept ?_ (by assumption) | dsimp only | split

theorem execRecordLatch_kept {orig s : State} (h : Kept orig s) (slot : Nat) :
    OutKept orig (execRecordLatch slot s) := by
  unfold execRecordLatch
  repeat' with_reducible first | assumption | intro _ | apply State.recordLatch_kept | apply next_kept | apply ite_kept | apply outIte_kept | dsimp only | split

theorem State.pulseEnd_kept {orig s : State} (h : Kept orig s)  :
    Kept orig (State.pulseEnd s) := by
  unfold State.pulseEnd
  repeat' with_reducible first | assumption | intro _ | apply State.off_kept | apply State.put_kept | apply ite_kept | dsimp only | split

theorem execTocsinPulseEnd_kept {orig s : State} (h : Kept orig s)  :
    OutKept orig (execTocsinPulseEnd s) := by
  unfold execTocsinPulseEnd
  repeat' with_reducible first | assumption | intro _ | apply State.pulseEnd_kept | apply next_kept | apply ite_kept | apply outIte_kept | dsimp only | split

theorem State.tocsinRestart_kept {orig s : State} (h : Kept orig s)  :
    Kept orig (State.tocsinRestart s) := by
  unfold State.tocsinRestart
  repeat' with_reducible first | assumption | intro _ | apply State.modAon_kept | apply State.on_kept | apply ite_kept | dsimp only | split

theorem execTocsinRestart_kept {orig s : State} (h : Kept orig s)  :
    OutKept orig (execTocsinRestart s) := by
  unfold execTocsinRestart
  repeat' with_reducible first | assumption | intro _ | apply State.tocsinRestart_kept | apply next_kept | apply ite_kept | apply outIte_kept | dsimp only | split

theorem execTocsinAliveEdge_kept {orig s : State} (h : Kept orig s)  :
    OutKept orig (execTocsinAliveEdge s) := by
  unfold execTocsinAliveEdge
  repeat' with_reducible first | assumption | intro _ | apply State.modAon_kept | apply State.off_kept | apply State.on_kept | apply next_kept | apply ite_kept | apply outIte_kept | dsimp only | split

theorem execFirmwareSourceRaise_kept {orig s : State} (h : Kept orig s) (source : Nat) :
    OutKept orig (execFirmwareSourceRaise source s) := by
  unfold execFirmwareSourceRaise
  repeat' with_reducible first | assumption | intro _ | apply State.settle_kept | apply State.raise_kept | apply next_kept | apply ite_kept | apply outIte_kept | dsimp only | split

theorem State.latchCh_kept {orig s : State} (h : Kept orig s) (n : Nat) :
    Kept orig (State.latchCh s n) := by
  unfold State.latchCh
  repeat' with_reducible first | assumption | intro _ | apply State.event_kept | apply State.pgLost_kept | apply State.portDrop_kept | apply State.setCh_kept | apply State.modChan_kept | apply State.modPort_kept | apply State.modMb_kept | apply State.off_kept | dsimp only

theorem State.slotFault_kept {orig s : State} (h : Kept orig s) (n : Nat) (cause : Nat) (ev : FieldAt) :
    Kept orig (State.slotFault s n cause ev) := by
  unfold State.slotFault
  repeat' with_reducible first | assumption | intro _ | apply State.latchCh_kept | apply State.raiseAll_kept | apply State.pgLost_kept | apply State.setCh_kept | apply State.modChan_kept | apply State.off_kept | apply State.on_kept | apply State.put_kept | apply ite_kept | dsimp only | split

theorem State.portPg_kept {orig s : State} (h : Kept orig s) (n : Nat) :
    Kept orig (State.portPg s n) := by
  unfold State.portPg
  repeat' with_reducible first | assumption | intro _ | apply State.put_kept | apply ite_kept | split

theorem State.slotDemand_kept {orig s : State} (h : Kept orig s) (n : Nat) :
    Kept orig (State.slotDemand s n) := by
  unfold State.slotDemand
  repeat' with_reducible first | assumption | intro _ | apply State.portPg_kept | apply State.enqueueCh_kept | apply State.modChan_kept | apply State.off_kept | apply State.on_kept | apply State.put_kept | apply ite_kept | dsimp only | split

theorem execSlotDemand_kept {orig s : State} (h : Kept orig s) (slot : Nat) :
    OutKept orig (execSlotDemand slot s) := by
  unfold execSlotDemand
  repeat' with_reducible first | assumption | intro _ | apply State.slotDemand_kept | apply next_kept | apply ite_kept | apply outIte_kept | dsimp only | split

theorem State.openSense_kept {orig s : State} (h : Kept orig s) (n : Nat) :
    Kept orig (State.openSense s n) := by
  unfold State.openSense
  repeat' with_reducible first | assumption | intro _ | apply State.latchCh_kept | apply State.event_kept | apply State.put_kept | apply ite_kept | split

theorem State.rampGrant_kept {orig s : State} (h : Kept orig s) (n : Nat) (senseMv : Nat) :
    Kept orig (State.rampGrant s n senseMv) := by
  unfold State.rampGrant
  repeat' with_reducible first | assumption | intro _ | apply State.openSense_kept | apply State.setCh_kept | apply State.modChan_kept | apply State.setN_kept | apply ite_kept | dsimp only | split

theorem execRampGrant_kept {orig s : State} (h : Kept orig s) (slot : Nat) (senseMv : Nat) :
    OutKept orig (execRampGrant slot senseMv s) := by
  unfold execRampGrant
  repeat' with_reducible first | assumption | intro _ | apply State.rampGrant_kept | apply State.settle_kept | apply next_kept | apply ite_kept | apply outIte_kept | dsimp only | split

theorem State.rampComplete_kept {orig s : State} (h : Kept orig s) (n : Nat) (us : Nat) (bad : Bool) :
    Kept orig (State.rampComplete s n us bad) := by
  unfold State.rampComplete
  repeat' with_reducible first | assumption | intro _ | apply State.portPg_kept | apply State.pgGive_kept | apply State.setCh_kept | apply State.modChan_kept | apply State.put_kept | apply ite_kept | dsimp only | split

theorem execRampComplete_kept {orig s : State} (h : Kept orig s) (slot : Nat) (us : Nat) (bad : Bool) :
    OutKept orig (execRampComplete slot us bad s) := by
  unfold execRampComplete
  repeat' with_reducible first | assumption | intro _ | apply State.rampComplete_kept | apply next_kept | apply ite_kept | apply outIte_kept | dsimp only | split

theorem execInrushTimerExpiry_kept {orig s : State} (h : Kept orig s) (slot : Nat) :
    OutKept orig (execInrushTimerExpiry slot s) := by
  unfold execInrushTimerExpiry
  repeat' with_reducible first | assumption | intro _ | apply State.slotFault_kept | apply State.settle_kept | apply next_kept | apply ite_kept | apply outIte_kept | dsimp only | split

theorem State.fastTrip_kept {orig s : State} (h : Kept orig s) (n : Nat) :
    Kept orig (State.fastTrip s n) := by
  unfold State.fastTrip
  repeat' with_reducible first | assumption | intro _ | apply State.slotFault_kept | apply State.raiseAll_kept | apply State.satInc_kept | apply State.on_kept | apply State.put_kept | apply ite_kept | dsimp only | split

theorem execFastTrip_kept {orig s : State} (h : Kept orig s) (slot : Nat) :
    OutKept orig (execFastTrip slot s) := by
  unfold execFastTrip
  repeat' with_reducible first | assumption | intro _ | apply State.fastTrip_kept | apply State.settle_kept | apply next_kept | apply ite_kept | apply outIte_kept | dsimp only | split

theorem State.newTemp_kept {orig s : State} (h : Kept orig s) (n : Nat) (t : Int) :
    Kept orig (State.newTemp s n t) := by
  unfold State.newTemp
  repeat' with_reducible first | assumption | intro _ | apply State.slotFault_kept | apply State.put_kept | apply ite_kept | dsimp only | split

theorem execDiodeMeasure_kept {orig s : State} (h : Kept orig s) (slot : Nat) (temp16 : Int) :
    OutKept orig (execDiodeMeasure slot temp16 s) := by
  unfold execDiodeMeasure
  repeat' with_reducible first | assumption | intro _ | apply State.newTemp_kept | apply State.settle_kept | apply State.event_kept | apply State.modChan_kept | apply State.off_kept | apply State.on_kept | apply next_kept | apply ite_kept | apply outIte_kept | dsimp only | split

theorem State.pole_kept {orig s : State} (h : Kept orig s) (d : Rat) (pw : Nat) (r : Nat) (tau : Nat) :
    Kept orig (State.pole s d pw r tau).2 := by
  unfold State.pole
  repeat' with_reducible first | assumption | intro _ | apply State.fresh_kept | apply ite_kept | apply ite2_kept | refine snd_kept ?_ (by assumption) | refine snd3_kept ?_ (by assumption) | dsimp only | split

theorem execThermalModelUpdate_kept {orig s : State} (h : Kept orig s) (slot : Nat) (powerMw : Nat) :
    OutKept orig (execThermalModelUpdate slot powerMw s) := by
  unfold execThermalModelUpdate
  repeat' with_reducible first | assumption | intro _ | apply State.pole_kept | apply State.newTemp_kept | apply State.settle_kept | apply State.modChan_kept | apply State.fresh_kept | apply next_kept | apply ite_kept | apply outIte_kept | refine snd_kept ?_ (by assumption) | refine snd3_kept ?_ (by assumption) | dsimp only | split

theorem execOverloadEntry_kept {orig s : State} (h : Kept orig s) (slot : Nat) (curMa : Nat) (voutMv : Nat) (limiting : Bool) :
    OutKept orig (execOverloadEntry slot curMa voutMv limiting s) := by
  unfold execOverloadEntry
  repeat' with_reducible first | assumption | intro _ | apply State.settle_kept | apply State.pgLost_kept | apply State.setCh_kept | apply State.modChan_kept | apply State.putB_kept | apply State.put_kept | apply next_kept | apply ite_kept | apply outIte_kept | dsimp only | split

theorem execPgReturn_kept {orig s : State} (h : Kept orig s) (slot : Nat) :
    OutKept orig (execPgReturn slot s) := by
  unfold execPgReturn
  repeat' with_reducible first | assumption | intro _ | apply State.portPg_kept | apply State.pgGive_kept | apply State.setCh_kept | apply State.modChan_kept | apply State.off_kept | apply next_kept | apply ite_kept | apply outIte_kept | dsimp only | split

theorem execFaultTimerExpiry_kept {orig s : State} (h : Kept orig s) (slot : Nat) :
    OutKept orig (execFaultTimerExpiry slot s) := by
  unfold execFaultTimerExpiry
  repeat' with_reducible first | assumption | intro _ | apply State.slotFault_kept | apply State.settle_kept | apply next_kept | apply ite_kept | apply outIte_kept | dsimp only | split

theorem execBackoffExpiry_kept {orig s : State} (h : Kept orig s) (slot : Nat) :
    OutKept orig (execBackoffExpiry slot s) := by
  unfold execBackoffExpiry
  repeat' with_reducible first | assumption | intro _ | apply State.enqueueCh_kept | apply State.inc_kept | apply next_kept | apply ite_kept | apply outIte_kept | dsimp only | split

theorem execAttemptReset_kept {orig s : State} (h : Kept orig s) (slot : Nat) :
    OutKept orig (execAttemptReset slot s) := by
  unfold execAttemptReset
  repeat' with_reducible first | assumption | intro _ | apply State.put_kept | apply next_kept | apply ite_kept | apply outIte_kept | dsimp only | split

theorem State.demandGone_kept {orig s : State} (h : Kept orig s) (n : Nat) :
    Kept orig (State.demandGone s n) := by
  unfold State.demandGone
  repeat' with_reducible first | assumption | intro _ | apply State.pgLost_kept | apply State.portDrop_kept | apply State.setCh_kept | apply State.modChan_kept | apply State.off_kept | apply ite_kept | dsimp only | split

theorem State.demandOver_kept {orig s : State} (h : Kept orig s) (n : Nat) :
    Kept orig (State.demandOver s n) := by
  unfold State.demandOver
  repeat' with_reducible first | assumption | intro _ | apply State.demandGone_kept | apply State.slotDemand_kept | apply State.modChan_kept | apply ite_kept | dsimp only | split

theorem execSlotDemandWithdrawn_kept {orig s : State} (h : Kept orig s) (slot : Nat) :
    OutKept orig (execSlotDemandWithdrawn slot s) := by
  unfold execSlotDemandWithdrawn
  repeat' with_reducible first | assumption | intro _ | apply State.demandOver_kept | apply State.settle_kept | apply next_kept | apply ite_kept | apply outIte_kept | dsimp only | split

theorem execShutdownComplete_kept {orig s : State} (h : Kept orig s) (slot : Nat) :
    OutKept orig (execShutdownComplete slot s) := by
  unfold execShutdownComplete
  repeat' with_reducible first | assumption | intro _ | apply State.setCh_kept | apply next_kept | apply ite_kept | apply outIte_kept | dsimp only | split

theorem State.minOffEnd_kept {orig s : State} (h : Kept orig s) (n : Nat) :
    Kept orig (State.minOffEnd s n) := by
  unfold State.minOffEnd
  repeat' with_reducible first | assumption | intro _ | apply State.enqueueCh_kept | apply State.setCh_kept | apply State.off_kept | apply State.put_kept | apply ite_kept | dsimp only | split

theorem execMinOffExpiry_kept {orig s : State} (h : Kept orig s) (slot : Nat) :
    OutKept orig (execMinOffExpiry slot s) := by
  unfold execMinOffExpiry
  repeat' with_reducible first | assumption | intro _ | apply State.minOffEnd_kept | apply next_kept | apply ite_kept | apply outIte_kept | dsimp only | split

theorem State.slotClear_kept {orig s : State} (h : Kept orig s) (n : Nat) :
    Kept orig (State.slotClear s n) := by
  unfold State.slotClear
  repeat' with_reducible first | assumption | intro _ | apply State.setCh_kept | apply State.put_kept | apply ite_kept | split

theorem execSlotClear_kept {orig s : State} (h : Kept orig s) (slot : Nat) :
    OutKept orig (execSlotClear slot s) := by
  unfold execSlotClear
  repeat' with_reducible first | assumption | intro _ | apply State.slotClear_kept | apply next_kept | apply ite_kept | apply outIte_kept | dsimp only | split

theorem State.stopEnds_kept {orig s : State} (h : Kept orig s) (bits : List Nat) :
    Kept orig (State.stopEnds s bits) := by
  unfold State.stopEnds
  repeat' with_reducible first | assumption | intro _ | apply State.queueDemands_kept | apply State.modAon_kept | apply State.modMb_kept | apply State.off_kept | apply ite_kept | apply ite2_kept | apply foldl_kept | dsimp only | split

theorem State.selectFeed_kept {orig s : State} (h : Kept orig s)  :
    Kept orig (State.selectFeed s) := by
  unfold State.selectFeed
  repeat' with_reducible first | assumption | intro _ | apply State.stopEnds_kept | apply State.modAon_kept | apply State.put_kept | apply ite_kept | dsimp only | split

theorem State.feedSwitch_kept {orig s : State} (h : Kept orig s) (f : Nat) :
    Kept orig (State.feedSwitch s f) := by
  unfold State.feedSwitch
  repeat' with_reducible first | assumption | intro _ | apply State.modAon_kept | apply State.modMb_kept | apply State.on_kept | dsimp only

theorem State.noFeed_kept {orig s : State} (h : Kept orig s)  :
    Kept orig (State.noFeed s) := by
  unfold State.noFeed
  repeat' with_reducible first | assumption | intro _ | apply State.event_kept | apply State.shelfStop_kept | apply State.modMb_kept | apply State.off_kept | apply State.put_kept | dsimp only

theorem State.feedLost_kept {orig s : State} (h : Kept orig s) (f : Nat) :
    Kept orig (State.feedLost s f) := by
  unfold State.feedLost
  repeat' with_reducible first | assumption | intro _ | apply State.noFeed_kept | apply State.feedSwitch_kept | apply State.off_kept | apply ite_kept | dsimp only | split

theorem execFeedUnusable_kept {orig s : State} (h : Kept orig s) (feed : Nat) (mv : Int) :
    OutKept orig (execFeedUnusable feed mv s) := by
  unfold execFeedUnusable
  repeat' with_reducible first | assumption | intro _ | apply State.feedLost_kept | apply State.settle_kept | apply State.put_kept | apply next_kept | apply ite_kept | apply outIte_kept | dsimp only | split

theorem execFeedQualified_kept {orig s : State} (h : Kept orig s) (feed : Nat) (mv : Int) :
    OutKept orig (execFeedQualified feed mv s) := by
  unfold execFeedQualified
  repeat' with_reducible first | assumption | intro _ | apply State.selectFeed_kept | apply State.on_kept | apply State.put_kept | apply next_kept | apply ite_kept | apply outIte_kept | dsimp only | split

theorem execFeedDeadTimeExpiry_kept {orig s : State} (h : Kept orig s)  :
    OutKept orig (execFeedDeadTimeExpiry s) := by
  unfold execFeedDeadTimeExpiry
  repeat' with_reducible first | assumption | intro _ | apply State.modAon_kept | apply next_kept | apply ite_kept | apply outIte_kept | dsimp only | split

theorem execFeedSwitchComplete_kept {orig s : State} (h : Kept orig s)  :
    OutKept orig (execFeedSwitchComplete s) := by
  unfold execFeedSwitchComplete
  repeat' with_reducible first | assumption | intro _ | apply State.settle_kept | apply State.event_kept | apply State.modMb_kept | apply State.satInc_kept | apply State.off_kept | apply State.put_kept | apply next_kept | apply ite_kept | apply outIte_kept | dsimp only | split

theorem execFeedUvMaskEnd_kept {orig s : State} (h : Kept orig s)  :
    OutKept orig (execFeedUvMaskEnd s) := by
  unfold execFeedUvMaskEnd
  repeat' with_reducible first | assumption | intro _ | apply State.modMb_kept | apply next_kept | apply ite_kept | apply outIte_kept | dsimp only | split

theorem execFeedRevert_kept {orig s : State} (h : Kept orig s)  :
    OutKept orig (execFeedRevert s) := by
  unfold execFeedRevert
  repeat' with_reducible first | assumption | intro _ | apply State.feedSwitch_kept | apply next_kept | apply ite_kept | apply outIte_kept | dsimp only | split

theorem execFeedReversed_kept {orig s : State} (h : Kept orig s) (feed : Nat) (mv : Int) :
    OutKept orig (execFeedReversed feed mv s) := by
  unfold execFeedReversed
  repeat' with_reducible first | assumption | intro _ | apply State.feedLost_kept | apply State.settle_kept | apply State.event_kept | apply State.on_kept | apply State.put_kept | apply next_kept | apply ite_kept | apply outIte_kept | dsimp only | split

theorem execFeedReverseClear_kept {orig s : State} (h : Kept orig s) (feed : Nat) :
    OutKept orig (execFeedReverseClear feed s) := by
  unfold execFeedReverseClear
  repeat' with_reducible first | assumption | intro _ | apply State.off_kept | apply next_kept | apply ite_kept | apply outIte_kept | dsimp only | split

theorem State.feedSense_kept {orig s : State} (h : Kept orig s) (x : Nat × Nat) :
    Kept orig (State.feedSense s x) := by
  unfold State.feedSense
  repeat' with_reducible first | assumption | intro _ | apply State.feedLost_kept | apply State.event_kept | apply State.off_kept | apply State.on_kept | apply ite_kept | dsimp only | split

theorem execOpenSenseInjection_kept {orig s : State} (h : Kept orig s) (slotMv : List (Nat × Nat)) (feedMv : List (Nat × Nat)) :
    OutKept orig (execOpenSenseInjection slotMv feedMv s) := by
  unfold execOpenSenseInjection
  repeat' with_reducible first | assumption | intro _ | apply State.feedSense_kept | apply State.openSense_kept | apply State.settle_kept | apply next_kept | apply ite_kept | apply outIte_kept | apply ite2_kept | apply foldl_kept | apply foldlP_kept | dsimp only | split

theorem execShelfStopCmd_kept {orig s : State} (h : Kept orig s)  :
    OutKept orig (execShelfStopCmd s) := by
  unfold execShelfStopCmd
  repeat' with_reducible first | assumption | intro _ | apply State.settle_kept | apply State.shelfStop_kept | apply next_kept | apply ite_kept | apply outIte_kept | dsimp only | split

theorem execShelfResume_kept {orig s : State} (h : Kept orig s)  :
    OutKept orig (execShelfResume s) := by
  unfold execShelfResume
  repeat' with_reducible first | assumption | intro _ | apply State.stopEnds_kept | apply next_kept | apply ite_kept | apply outIte_kept | dsimp only | split

theorem execGateChargePumpUv_kept {orig s : State} (h : Kept orig s) (ana : Bool) :
    OutKept orig (execGateChargePumpUv ana s) := by
  unfold execGateChargePumpUv
  repeat' with_reducible first | assumption | intro _ | apply State.settle_kept | apply State.raise_kept | apply next_kept | apply ite_kept | apply outIte_kept | dsimp only | split

theorem execPerstRelease_kept {orig s : State} (h : Kept orig s) (slot : Nat) :
    OutKept orig (execPerstRelease slot s) := by
  unfold execPerstRelease
  repeat' with_reducible first | assumption | intro _ | apply State.perst_kept | apply State.put_kept | apply next_kept | apply ite_kept | apply outIte_kept | dsimp only | split

theorem execLinkL0Reached_kept {orig s : State} (h : Kept orig s) (slot : Nat) (speed : Nat) (width : Nat) :
    OutKept orig (execLinkL0Reached slot speed width s) := by
  unfold execLinkL0Reached
  repeat' with_reducible first | assumption | intro _ | apply State.settle_kept | apply State.event_kept | apply State.put_kept | apply next_kept | apply ite_kept | apply outIte_kept | dsimp only | split

theorem State.trainFail_kept {orig s : State} (h : Kept orig s) (n : Nat) :
    Kept orig (State.trainFail s n) := by
  unfold State.trainFail
  repeat' with_reducible first | assumption | intro _ | apply State.wakeFail_kept | apply State.onSlot_kept | apply State.eventHeld_kept | apply State.portOff_kept | apply State.modPort_kept | apply ite_kept | dsimp only | split

theorem execTrainingTimeout_kept {orig s : State} (h : Kept orig s) (slot : Nat) :
    OutKept orig (execTrainingTimeout slot s) := by
  unfold execTrainingTimeout
  repeat' with_reducible first | assumption | intro _ | apply State.trainFail_kept | apply State.settle_kept | apply State.perst_kept | apply State.modPort_kept | apply State.put_kept | apply next_kept | apply ite_kept | apply outIte_kept | dsimp only | split

theorem State.critWarn_kept {orig s : State} (h : Kept orig s) (n : Nat) (w : Nat) :
    Kept orig (State.critWarn s n w) := by
  unfold State.critWarn
  repeat' with_reducible first | assumption | intro _ | apply State.onSlot_kept | apply State.failMark_kept | apply ite_kept | dsimp only | split

theorem State.healthRead_kept {orig s : State} (h : Kept orig s) (n : Nat) :
    Kept orig (State.healthRead s n) := by
  unfold State.healthRead
  repeat' with_reducible first | assumption | intro _ | apply State.emit_kept

theorem State.memberSetup_kept {orig s : State} (h : Kept orig s) (n : Nat) :
    Kept orig (State.memberSetup s n) := by
  unfold State.memberSetup
  repeat' with_reducible first | assumption | intro _ | apply State.healthRead_kept | apply State.emit_kept | apply foldl_kept | dsimp only

theorem execPortConfigured_kept {orig s : State} (h : Kept orig s) (slot : Nat) (critWarn : Nat) :
    OutKept orig (execPortConfigured slot critWarn s) := by
  unfold execPortConfigured
  repeat' with_reducible first | assumption | intro _ | apply State.memberSetup_kept | apply State.critWarn_kept | apply State.settle_kept | apply State.modPort_kept | apply State.putBit64_kept | apply State.put_kept | apply next_kept | apply ite_kept | apply outIte_kept | dsimp only | split

theorem execLinkLeavesL0_kept {orig s : State} (h : Kept orig s) (slot : Nat) :
    OutKept orig (execLinkLeavesL0 slot s) := by
  unfold execLinkLeavesL0
  repeat' with_reducible first | assumption | intro _ | apply State.settle_kept | apply State.portLeave_kept | apply State.satInc_kept | apply next_kept | apply ite_kept | apply outIte_kept | dsimp only | split

theorem execRecoveryTimeout_kept {orig s : State} (h : Kept orig s) (slot : Nat) :
    OutKept orig (execRecoveryTimeout slot s) := by
  unfold execRecoveryTimeout
  repeat' with_reducible first | assumption | intro _ | apply State.settle_kept | apply State.wakeFail_kept | apply State.awaitAbsent_kept | apply State.onSlot_kept | apply State.absentColumn_kept | apply State.portOff_kept | apply State.modPort_kept | apply next_kept | apply ite_kept | apply outIte_kept | dsimp only | split

theorem State.removalDone_kept {orig s : State} (h : Kept orig s) (n : Nat) :
    Kept orig (State.removalDone s n) := by
  unfold State.removalDone
  repeat' with_reducible first | assumption | intro _ | apply State.event_kept

theorem execPortQuiesced_kept {orig s : State} (h : Kept orig s) (slot : Nat) :
    OutKept orig (execPortQuiesced slot s) := by
  unfold execPortQuiesced
  repeat' with_reducible first | assumption | intro _ | apply State.removalDone_kept | apply State.settle_kept | apply State.portOff_kept | apply next_kept | apply ite_kept | apply outIte_kept | dsimp only | split

theorem State.awaitProbe_kept {orig s : State} (h : Kept orig s) (n : Nat) :
    Kept orig (State.awaitProbe s n) := by
  unfold State.awaitProbe
  repeat' with_reducible first | assumption | intro _ | apply State.onSlot_kept | apply State.modPort_kept | apply ite_kept | dsimp only | split

theorem State.presenceChange_kept {orig s : State} (h : Kept orig s) (n : Nat) (present : Bool) :
    Kept orig (State.presenceChange s n present) := by
  unfold State.presenceChange
  repeat' with_reducible first | assumption | intro _ | apply State.awaitProbe_kept | apply State.presenceLost_kept | apply State.eventHeld_kept | apply State.event_kept | apply State.modPort_kept | apply State.putBit64_kept | apply State.on_kept | apply ite_kept | dsimp only | split

theorem execPresenceChange_kept {orig s : State} (h : Kept orig s) (slot : Nat) (present : Bool) :
    OutKept orig (execPresenceChange slot present s) := by
  unfold execPresenceChange
  repeat' with_reducible first | assumption | intro _ | apply State.presenceChange_kept | apply State.settle_kept | apply next_kept | apply ite_kept | apply outIte_kept | dsimp only | split

theorem State.removal_kept {orig s : State} (h : Kept orig s) (n : Nat) :
    Kept orig (State.removal s n) := by
  unfold State.removal
  repeat' with_reducible first | assumption | intro _ | apply State.removalDone_kept | apply State.onSlot_kept | apply State.absentColumn_kept | apply State.darken_kept | apply State.powerDown_kept | apply State.event_kept | apply State.modPort_kept | apply ite_kept | dsimp only | split

theorem execSlotRemoveRequest_kept {orig s : State} (h : Kept orig s) (slot : Nat) :
    OutKept orig (execSlotRemoveRequest slot s) := by
  unfold execSlotRemoveRequest
  repeat' with_reducible first | assumption | intro _ | apply State.removal_kept | apply State.settle_kept | apply next_kept | apply ite_kept | apply outIte_kept | dsimp only | split

theorem execButtonPress_kept {orig s : State} (h : Kept orig s) (slot : Nat) :
    OutKept orig (execButtonPress slot s) := by
  unfold execButtonPress
  repeat' with_reducible first | assumption | intro _ | apply State.event_kept | apply State.putB_kept | apply next_kept | apply ite_kept | apply outIte_kept | dsimp only | split

theorem execButtonWindowExpiry_kept {orig s : State} (h : Kept orig s) (slot : Nat) :
    OutKept orig (execButtonWindowExpiry slot s) := by
  unfold execButtonWindowExpiry
  repeat' with_reducible first | assumption | intro _ | apply State.removal_kept | apply State.settle_kept | apply State.off_kept | apply next_kept | apply ite_kept | apply outIte_kept | dsimp only | split

theorem execMiPoll_kept {orig s : State} (h : Kept orig s) (slot : Nat) (sample : Option (Nat × Nat × Nat)) :
    OutKept orig (execMiPoll slot sample s) := by
  unfold execMiPoll
  repeat' with_reducible first | assumption | intro _ | apply State.critWarn_kept | apply State.settle_kept | apply State.sample_kept | apply State.modPort_kept | apply State.emit_kept | apply State.setN_kept | apply State.on_kept | apply next_kept | apply ite_kept | apply outIte_kept | dsimp only | split

theorem execMiBusStuck_kept {orig s : State} (h : Kept orig s) (chain : Nat) (stillHeld : Bool) :
    OutKept orig (execMiBusStuck chain stillHeld s) := by
  unfold execMiBusStuck
  repeat' with_reducible first | assumption | intro _ | apply State.settle_kept | apply State.eventHeld_kept | apply State.modMb_kept | apply State.emit_kept | apply next_kept | apply ite_kept | apply outIte_kept | dsimp only | split

theorem execMiSuspendEnd_kept {orig s : State} (h : Kept orig s) (chain : Nat) :
    OutKept orig (execMiSuspendEnd chain s) := by
  unfold execMiSuspendEnd
  repeat' with_reducible first | assumption | intro _ | apply State.modMb_kept | apply next_kept | apply ite_kept | apply outIte_kept | dsimp only | split

theorem execMemberAsyncEvent_kept {orig s : State} (h : Kept orig s) (slot : Nat) (critWarn : Nat) :
    OutKept orig (execMemberAsyncEvent slot critWarn s) := by
  unfold execMemberAsyncEvent
  repeat' with_reducible first | assumption | intro _ | apply State.healthRead_kept | apply State.critWarn_kept | apply State.settle_kept | apply next_kept | apply ite_kept | apply outIte_kept | dsimp only | split

theorem execControllerFatalStatus_kept {orig s : State} (h : Kept orig s) (slot : Nat) :
    OutKept orig (execControllerFatalStatus slot s) := by
  unfold execControllerFatalStatus
  repeat' with_reducible first | assumption | intro _ | apply State.modPort_kept | apply State.emit_kept | apply next_kept | apply ite_kept | apply outIte_kept | dsimp only | split

theorem execControllerReadyTimeout_kept {orig s : State} (h : Kept orig s) (slot : Nat) :
    OutKept orig (execControllerReadyTimeout slot s) := by
  unfold execControllerReadyTimeout
  repeat' with_reducible first | assumption | intro _ | apply State.settle_kept | apply State.onSlot_kept | apply State.failMark_kept | apply State.modPort_kept | apply next_kept | apply ite_kept | apply outIte_kept | dsimp only | split

theorem State.portEnable_kept {orig s : State} (h : Kept orig s) (n : Nat) (v : Bool) :
    Kept orig (State.portEnable s n v) := by
  unfold State.portEnable
  repeat' with_reducible first | assumption | intro _ | apply State.onSlot_kept | apply State.darken_kept | apply State.portLeave_kept | apply State.putB_kept | apply State.off_kept | apply State.on_kept | apply ite_kept | dsimp only | split

theorem execPortEnableWrite_kept {orig s : State} (h : Kept orig s) (slot : Nat) (enable : Bool) :
    OutKept orig (execPortEnableWrite slot enable s) := by
  unfold execPortEnableWrite
  repeat' with_reducible first | assumption | intro _ | apply State.portEnable_kept | apply State.settle_kept | apply next_kept | apply ite_kept | apply outIte_kept | dsimp only | split

theorem State.cfgStart_kept {orig s : State} (h : Kept orig s) (n : Nat) (op : Nat) :
    Kept orig (State.cfgStart s n op) := by
  unfold State.cfgStart
  repeat' with_reducible first | assumption | intro _ | apply State.modPort_kept | apply State.emit_kept | apply State.on_kept | apply State.put_kept | apply ite_kept | dsimp only | split

theorem execMemberCfgRead_kept {orig s : State} (h : Kept orig s) (slot : Nat) :
    OutKept orig (execMemberCfgRead slot s) := by
  unfold execMemberCfgRead
  repeat' with_reducible first | assumption | intro _ | apply State.cfgStart_kept | apply next_kept | apply ite_kept | apply outIte_kept | dsimp only | split

theorem execMemberCfgWrite_kept {orig s : State} (h : Kept orig s) (slot : Nat) :
    OutKept orig (execMemberCfgWrite slot s) := by
  unfold execMemberCfgWrite
  repeat' with_reducible first | assumption | intro _ | apply State.cfgStart_kept | apply next_kept | apply ite_kept | apply outIte_kept | dsimp only | split

theorem execMemberCfgDone_kept {orig s : State} (h : Kept orig s) (slot : Nat) (result : Nat) (data : Nat) :
    OutKept orig (execMemberCfgDone slot result data s) := by
  unfold execMemberCfgDone
  repeat' with_reducible first | assumption | intro _ | apply State.modPort_kept | apply State.off_kept | apply State.put_kept | apply next_kept | apply ite_kept | apply outIte_kept | dsimp only | split

theorem execDclkStop_kept {orig s : State} (h : Kept orig s) (k : Nat) :
    OutKept orig (execDclkStop k s) := by
  unfold execDclkStop
  repeat' with_reducible first | assumption | intro _ | apply State.setN_kept | apply next_kept | apply ite_kept | apply outIte_kept | dsimp only | split

theorem State.memberTable_kept {orig s : State} (h : Kept orig s)  :
    Kept orig (State.memberTable s) := by
  unfold State.memberTable
  repeat' with_reducible first | assumption | intro _ | apply State.applyRec_kept | apply State.modTb_kept | apply ite_kept | apply ite2_kept | apply foldl_kept | dsimp only | split

theorem State.discovery_kept {orig s : State} (h : Kept orig s) (present : List Nat) :
    Kept orig (State.discovery s present) := by
  unfold State.discovery
  repeat' with_reducible first | assumption | intro _ | apply State.memberTable_kept | apply State.awaitProbe_kept | apply State.absentColumn_kept | apply State.keepersShow_kept | apply State.critShow_kept | apply State.wakeStart_kept | apply State.setPs_kept | apply State.mbrShow_kept | apply State.modPort_kept | apply State.modBoot_kept | apply State.putBit64_kept | apply State.on_kept | apply ite_kept | apply ite2_kept | apply foldl_kept | dsimp only | split | rfl

theorem execSlotDiscovery_kept {orig s : State} (h : Kept orig s) (present : List Nat) :
    OutKept orig (execSlotDiscovery present s) := by
  unfold execSlotDiscovery
  repeat' with_reducible first | assumption | intro _ | apply State.discovery_kept | apply State.settle_kept | apply next_kept | apply ite_kept | apply outIte_kept | dsimp only | split

theorem State.setEp_kept {orig s : State} (h : Kept orig s) (st : Nat) :
    Kept orig (State.setEp s st) := by
  unfold State.setEp
  repeat' with_reducible first | assumption | intro _ | apply State.put_kept

theorem State.epShow_kept {orig s : State} (h : Kept orig s)  :
    Kept orig (State.epShow s) := by
  unfold State.epShow
  repeat' with_reducible first | assumption | intro _ | apply State.putB_kept | apply State.put_kept | apply ite_kept | split

theorem State.epLinkLost_kept {orig s : State} (h : Kept orig s)  :
    Kept orig (State.epLinkLost s) := by
  unfold State.epLinkLost
  repeat' with_reducible first | assumption | intro _ | apply State.modEp_kept | apply State.off_kept | apply State.put_kept | dsimp only

theorem State.dmaEpFail_kept {orig s : State} (h : Kept orig s) (n : Nat) :
    Kept orig (State.dmaEpFail s n) := by
  unfold State.dmaEpFail
  repeat' with_reducible first | assumption | intro _ | apply State.writeFail_kept | apply State.modLast_kept | apply ite_kept | dsimp only | split

theorem execEpCompletionTimeout_kept {orig s : State} (h : Kept orig s) (ch : Nat) :
    OutKept orig (execEpCompletionTimeout ch s) := by
  unfold execEpCompletionTimeout
  repeat' with_reducible first | assumption | intro _ | apply State.dmaEpFail_kept | apply State.settle_kept | apply next_kept | apply ite_kept | apply outIte_kept | dsimp only | split

theorem State.funcClear_kept {orig s : State} (h : Kept orig s)  :
    Kept orig (State.funcClear s) := by
  unfold State.funcClear
  repeat' with_reducible first | assumption | intro _ | apply State.dmaEpFail_kept | apply State.epShow_kept | apply State.modAcc_kept | apply State.modEp_kept | apply State.put_kept | apply ite_kept | apply ite2_kept | apply foldl_kept | dsimp only | split

theorem State.epResetLost_kept {orig s : State} (h : Kept orig s)  :
    Kept orig (State.epResetLost s) := by
  unfold State.epResetLost
  repeat' with_reducible first | assumption | intro _ | apply State.funcClear_kept | apply State.epLinkLost_kept | apply State.setEp_kept | apply ite_kept | dsimp only | split

theorem State.epEnable_kept {orig s : State} (h : Kept orig s) (v : Bool) :
    Kept orig (State.epEnable s v) := by
  unfold State.epEnable
  repeat' with_reducible first | assumption | intro _ | apply State.epResetLost_kept | apply State.setEp_kept | apply State.putB_kept | apply State.off_kept | apply State.on_kept | apply ite_kept | dsimp only | split

theorem execEpEnableWrite_kept {orig s : State} (h : Kept orig s) (enable : Bool) :
    OutKept orig (execEpEnableWrite enable s) := by
  unfold execEpEnableWrite
  repeat' with_reducible first | assumption | intro _ | apply State.epEnable_kept | apply State.settle_kept | apply next_kept | apply ite_kept | apply outIte_kept | dsimp only | split

theorem State.epPerst_kept {orig s : State} (h : Kept orig s) (high : Bool) :
    Kept orig (State.epPerst s high) := by
  unfold State.epPerst
  repeat' with_reducible first | assumption | intro _ | apply State.epResetLost_kept | apply State.funcClear_kept | apply State.epLinkLost_kept | apply State.setEp_kept | apply State.modAon_kept | apply ite_kept | dsimp only | split

theorem execEpPerstChange_kept {orig s : State} (h : Kept orig s) (high : Bool) :
    OutKept orig (execEpPerstChange high s) := by
  unfold execEpPerstChange
  repeat' with_reducible first | assumption | intro _ | apply State.epPerst_kept | apply State.settle_kept | apply State.modAon_kept | apply next_kept | apply ite_kept | apply outIte_kept | dsimp only | split

theorem execEpLinkUp_kept {orig s : State} (h : Kept orig s) (speed : Nat) (width : Nat) :
    OutKept orig (execEpLinkUp speed width s) := by
  unfold execEpLinkUp
  repeat' with_reducible first | assumption | intro _ | apply State.setEp_kept | apply State.on_kept | apply State.put_kept | apply next_kept | apply ite_kept | apply outIte_kept | dsimp only | split

theorem execEpLinkDown_kept {orig s : State} (h : Kept orig s)  :
    OutKept orig (execEpLinkDown s) := by
  unfold execEpLinkDown
  repeat' with_reducible first | assumption | intro _ | apply State.epResetLost_kept | apply State.epLinkLost_kept | apply State.settle_kept | apply next_kept | apply ite_kept | apply outIte_kept | dsimp only | split

theorem State.flr_kept {orig s : State} (h : Kept orig s)  :
    Kept orig (State.flr s) := by
  unfold State.flr
  repeat' with_reducible first | assumption | intro _ | apply State.funcClear_kept | apply State.setEp_kept | apply State.modEp_kept | apply ite_kept | dsimp only | split

theorem execFunctionLevelReset_kept {orig s : State} (h : Kept orig s)  :
    OutKept orig (execFunctionLevelReset s) := by
  unfold execFunctionLevelReset
  repeat' with_reducible first | assumption | intro _ | apply State.flr_kept | apply State.settle_kept | apply next_kept | apply ite_kept | apply outIte_kept | dsimp only | split

theorem State.funcResetDone_kept {orig s : State} (h : Kept orig s)  :
    Kept orig (State.funcResetDone s) := by
  unfold State.funcResetDone
  repeat' with_reducible first | assumption | intro _ | apply State.epPerst_kept | apply State.setEp_kept | apply State.event_kept | apply State.modEp_kept | apply State.off_kept | apply ite_kept | dsimp only | split

theorem execFuncResetDone_kept {orig s : State} (h : Kept orig s)  :
    OutKept orig (execFuncResetDone s) := by
  unfold execFuncResetDone
  repeat' with_reducible first | assumption | intro _ | apply State.funcResetDone_kept | apply State.settle_kept | apply next_kept | apply ite_kept | apply outIte_kept | dsimp only | split

theorem State.msixFlush_kept {orig s : State} (h : Kept orig s)  :
    Kept orig (State.msixFlush s) := by
  unfold State.msixFlush
  repeat' with_reducible first | assumption | intro _ | apply State.modEp_kept | apply State.emit_kept | apply ite_kept | apply ite2_kept | apply foldl_kept | dsimp only | split

theorem State.msixWrite_kept {orig s : State} (h : Kept orig s) (off : Nat) (v : Nat) :
    Kept orig (State.msixWrite s off v) := by
  unfold State.msixWrite
  repeat' with_reducible first | assumption | intro _ | apply State.msixFlush_kept | apply State.modEp_kept | apply State.off_kept | dsimp only | split

theorem execMsixTableWrite_kept {orig s : State} (h : Kept orig s) (off : Nat) (value : Nat) :
    OutKept orig (execMsixTableWrite off value s) := by
  unfold execMsixTableWrite
  repeat' with_reducible first | assumption | intro _ | apply State.msixWrite_kept | apply State.off_kept | apply next_kept | apply ite_kept | apply outIte_kept | dsimp only | split

theorem State.cfgRead_kept {orig s : State} (h : Kept orig s) (a : Nat) :
    Kept orig (State.cfgRead s a).2 := by
  unfold State.cfgRead
  repeat' with_reducible first | assumption | intro _ | apply State.fresh_kept | apply ite_kept | apply ite2_kept | apply optGetD_kept | apply optOr_kept | refine snd_kept ?_ (by assumption) | refine snd3_kept ?_ (by assumption) | dsimp only | split

theorem State.cfgWrite_kept {orig s : State} (h : Kept orig s) (a : Nat) (v : Nat) :
    Kept orig (State.cfgWrite s a v) := by
  unfold State.cfgWrite
  repeat' with_reducible first | assumption | intro _ | apply State.msixFlush_kept | apply State.flr_kept | apply State.epShow_kept | apply State.modEp_kept | apply State.modAon_kept | apply ite_kept | apply optGetD_kept | apply optOr_kept | dsimp only | split

theorem execEpConfigRequest_kept {orig s : State} (h : Kept orig s) (write : Bool) (off : Nat) (value : Nat) :
    OutKept orig (execEpConfigRequest write off value s) := by
  unfold execEpConfigRequest
  repeat' with_reducible first | assumption | intro _ | apply State.cfgWrite_kept | apply State.cfgRead_kept | apply State.settle_kept | apply State.emit_kept | apply State.off_kept | apply next_kept | apply ite_kept | apply outIte_kept | refine snd_kept ?_ (by assumption) | refine snd3_kept ?_ (by assumption) | dsimp only | split

theorem execBar2Read_kept {orig s : State} (h : Kept orig s) (off : Nat) (len : Nat) (uncorrectable : Bool) :
    OutKept orig (execBar2Read off len uncorrectable s) := by
  unfold execBar2Read
  repeat' with_reducible first | assumption | intro _ | apply bufWrite_kept | apply State.settle_kept | apply State.event_kept | apply State.bwAdd_kept | apply State.emit_kept | apply State.off_kept | apply next_kept | apply ite_kept | apply outIte_kept | dsimp only | split

theorem execBar2Write_kept {orig s : State} (h : Kept orig s) (off : Nat) (bytes : List Byte) (poisoned : Bool) :
    OutKept orig (execBar2Write off bytes poisoned s) := by
  unfold execBar2Write
  repeat' with_reducible first | assumption | intro _ | apply bufWrite_kept | apply State.settle_kept | apply State.event_kept | apply State.bwAdd_kept | apply State.modEp_kept | apply State.modBoot_kept | apply State.dramWrite_kept | apply State.satInc_kept | apply State.off_kept | apply next_kept | apply ite_kept | apply outIte_kept | dsimp only | split | rfl

theorem State.lockWrite_kept {orig s : State} (h : Kept orig s) (path : Path) (v : Nat) :
    Kept orig (State.lockWrite s path v) := by
  unfold State.lockWrite
  repeat' with_reducible first | assumption | intro _ | apply State.put_kept | apply ite_kept | dsimp only | split

theorem execLockWrite_kept {orig s : State} (h : Kept orig s) (path : Path) (value : Nat) :
    OutKept orig (execLockWrite path value s) := by
  unfold execLockWrite
  repeat' with_reducible first | assumption | intro _ | apply State.lockWrite_kept | apply next_kept | apply ite_kept | apply outIte_kept | dsimp only | split

theorem execLockTimeout_kept {orig s : State} (h : Kept orig s)  :
    OutKept orig (execLockTimeout s) := by
  unfold execLockTimeout
  repeat' with_reducible first | assumption | intro _ | apply State.put_kept | apply next_kept | apply ite_kept | apply outIte_kept | dsimp only | split

end Sys2Proof.Machine
end

