-- ==== Sys2Proof/Laws/KeptAccess.lean ====
section
/-! SUPPORT. What every operation keeps (Kept), one lemma per operation and per meaning: register accesses, frames, DRAM, power, layouts, the start sequence, compaction, the idle tick. -/

namespace Sys2Proof.Machine
open Sys2Proof

theorem State.rcClear_kept {orig s : State} (h : Kept orig s) (a : Nat) :
    Kept orig (State.rcClear s a) := by
  unfold State.rcClear
  repeat' with_reducible first | assumption | intro _ | apply State.modMb_kept | apply State.setReg_kept | apply ite_kept | dsimp only | split

theorem State.readFree_kept {orig s : State} (h : Kept orig s) (a : Nat) :
    Kept orig (State.readFree s a) := by
  unfold State.readFree
  repeat' with_reducible first | assumption | intro _ | apply State.fresh_kept | apply ite_kept | refine snd_kept ?_ (by assumption) | refine snd3_kept ?_ (by assumption) | dsimp only | split

theorem State.cvalRead_kept {orig s : State} (h : Kept orig s) (p : Path) (a : Nat) :
    Kept orig (State.cvalRead s p a) := by
  unfold State.cvalRead
  repeat' with_reducible first | assumption | intro _ | apply State.modPmc_kept | apply ite_kept | dsimp only | split

theorem State.badAccess_kept {orig s : State} (h : Kept orig s) (p : Path) (kind : Nat) (a : Nat) :
    Kept orig (State.badAccess s p kind a) := by
  unfold State.badAccess
  repeat' with_reducible first | assumption | intro _ | apply State.event_kept | apply State.satInc_kept | apply State.put_kept | apply ite_kept | dsimp only | split

theorem State.setLatch_kept {orig s : State} (h : Kept orig s) (p : Path) (x : Option (Nat × Nat)) :
    Kept orig (State.setLatch s p x) := by
  unfold State.setLatch
  repeat' with_reducible first | assumption | intro _ | apply State.modAcc_kept | dsimp only | split

theorem State.setHeld_kept {orig s : State} (h : Kept orig s) (p : Path) (x : Option (Nat × Nat)) :
    Kept orig (State.setHeld s p x) := by
  unfold State.setHeld
  repeat' with_reducible first | assumption | intro _ | apply State.modAcc_kept | dsimp only | split

theorem State.readDword_kept {orig s : State} (h : Kept orig s) (p : Path) (a : Nat) :
    Kept orig (State.readDword s p a).2 := by
  unfold State.readDword
  repeat' with_reducible first | assumption | intro _ | apply State.setLatch_kept | apply State.badAccess_kept | apply State.cvalRead_kept | apply State.readFree_kept | apply State.rcClear_kept | apply ite_kept | apply ite2_kept | dsimp only | split

theorem State.readPair_kept {orig s : State} (h : Kept orig s) (p : Path) (a : Nat) :
    Kept orig (State.readPair s p a).2.2 := by
  unfold State.readPair
  repeat' with_reducible first | assumption | intro _ | apply State.badAccess_kept | apply State.readFree_kept | apply State.rcClear_kept | apply ite_kept | apply ite2_kept | dsimp only | split

theorem State.modSw_kept {b0 s : State} (h : Kept b0 s) (f : Switch → Switch) : Kept b0 (State.modSw s f) :=
  Kept.same h rfl rfl rfl rfl rfl rfl

theorem State.drainUpdate_kept {orig s : State} (h : Kept orig s)  :
    Kept orig (State.drainUpdate s) := by
  unfold State.drainUpdate
  repeat' with_reducible first | assumption | intro _ | apply State.putB_kept | apply State.on_kept | apply State.put_kept | dsimp only | split

theorem State.genInc_kept {orig s : State} (h : Kept orig s)  :
    Kept orig (State.genInc s) := by
  unfold State.genInc
  repeat' with_reducible first | assumption | intro _ | apply State.drainUpdate_kept | apply State.setN_kept

theorem State.pfcCheck_kept {orig s : State} (h : Kept orig s) (p : Nat) (t : Nat) :
    Kept orig (State.pfcCheck s p t) := by
  unfold State.pfcCheck
  repeat' with_reducible first | assumption | intro _ | apply State.modSw_kept | apply State.sendOwn_kept | apply ite_kept | dsimp only | split

theorem State.bufUpdate_kept {orig s : State} (h : Kept orig s) (inp : Nat) (tc : Nat) :
    Kept orig (State.bufUpdate s inp tc) := by
  unfold State.bufUpdate
  repeat' with_reducible first | assumption | intro _ | apply State.pfcCheck_kept | apply State.drainUpdate_kept | apply State.setN_kept | dsimp only

theorem State.dropCount_kept {orig s : State} (h : Kept orig s) (p : Nat) (t : Nat) :
    Kept orig (State.dropCount s p t) := by
  unfold State.dropCount
  repeat' with_reducible first | assumption | intro _ | apply State.count_kept

theorem State.routeUpdate_kept {orig s : State} (h : Kept orig s) (before : State) : Kept orig (s.routeUpdate before) := by
  unfold State.routeUpdate
  repeat' (first | with_reducible assumption | intro _ | with_reducible (first | apply State.event_kept | apply State.genInc_kept | apply State.putB_kept) | with_reducible apply ite_kept | with_reducible apply foldl_kept | dsimp only)

theorem State.unpartner_kept {orig s : State} (h : Kept orig s)  :
    Kept orig (State.unpartner s) := by
  unfold State.unpartner
  repeat' with_reducible first | assumption | intro _ | apply State.outOfStep_kept | apply State.commitAll_kept | apply State.anaTo_kept | apply State.modJn_kept | apply State.off_kept | apply State.on_kept | apply State.put_kept | apply ite_kept | dsimp only | split

theorem State.setTopo_kept {orig s : State} (h : Kept orig s) (n : Nat) (code : Nat) (ident : Nat × Nat × Nat × Nat) :
    Kept orig (State.setTopo s n code ident) := by
  unfold State.setTopo
  repeat' with_reducible first | assumption | intro _ | apply State.unpartner_kept | apply State.routeUpdate_kept | apply State.detail_kept | apply State.event_kept | apply State.put_kept | apply ite_kept | dsimp only | split

theorem State.identity_kept {orig s : State} (h : Kept orig s) (p : Nat) (board : Nat) (dev : Nat) (port : Nat) (devs : Nat) (smac : Nat) :
    Kept orig (State.identity s p board dev port devs smac) := by
  unfold State.identity
  repeat' with_reducible first | assumption | intro _ | apply State.setTopo_kept | apply State.modSw_kept | apply ite_kept | dsimp only | split

theorem execIdentityFrameReceive_kept {orig s : State} (h : Kept orig s) (port : Nat) (board : Nat) (dev : Nat) (peerPort : Nat) (devices : Nat) (smac : Nat) :
    OutKept orig (execIdentityFrameReceive port board dev peerPort devices smac s) := by
  unfold execIdentityFrameReceive
  repeat' with_reducible first | assumption | intro _ | apply State.identity_kept | apply State.settle_kept | apply next_kept | apply ite_kept | apply outIte_kept | dsimp only | split

theorem execIdentityFrameSend_kept {orig s : State} (h : Kept orig s) (port : Nat) :
    OutKept orig (execIdentityFrameSend port s) := by
  unfold execIdentityFrameSend
  repeat' with_reducible first | assumption | intro _ | apply State.emit_kept | apply next_kept | apply ite_kept | apply outIte_kept | dsimp only | split

theorem execTopoNoPeerTimeout_kept {orig s : State} (h : Kept orig s) (port : Nat) :
    OutKept orig (execTopoNoPeerTimeout port s) := by
  unfold execTopoNoPeerTimeout
  repeat' with_reducible first | assumption | intro _ | apply State.setTopo_kept | apply State.settle_kept | apply next_kept | apply ite_kept | apply outIte_kept | dsimp only | split

theorem State.mgtLink_kept {orig s : State} (h : Kept orig s) (port : Nat) (up : Bool) :
    Kept orig (State.mgtLink s port up) := by
  unfold State.mgtLink
  repeat' with_reducible first | assumption | intro _ | apply State.event_kept | apply State.setN_kept | apply State.putB_kept | apply ite_kept | split

theorem execPortLinkUp_kept {orig s : State} (h : Kept orig s) (port : Nat) :
    OutKept orig (execPortLinkUp port s) := by
  unfold execPortLinkUp
  repeat' with_reducible first | assumption | intro _ | apply State.mgtLink_kept | apply State.modSw_kept | apply State.putB_kept | apply State.on_kept | apply next_kept | apply ite_kept | apply outIte_kept | dsimp only | split

theorem State.deficitEnd_kept {orig s : State} (h : Kept orig s) (p : Nat) (t : Nat) :
    Kept orig (State.deficitEnd s p t) := by
  unfold State.deficitEnd
  repeat' with_reducible first | assumption | intro _ | apply State.modTg_kept | apply ite_kept | dsimp only | split

theorem State.dropCopy_kept {orig s : State} (h : Kept orig s) (x : SwFrame) (p : Nat) :
    Kept orig (State.dropCopy s x p) := by
  unfold State.dropCopy
  repeat' with_reducible first | assumption | intro _ | apply State.deficitEnd_kept | apply State.bufUpdate_kept | apply State.modSw_kept | apply ite_kept | dsimp only | split

theorem State.dropQueued_kept {orig s : State} (h : Kept orig s) (p : Nat) :
    Kept orig (State.dropQueued s p) := by
  unfold State.dropQueued
  repeat' with_reducible first | assumption | intro _ | apply State.dropCopy_kept | apply State.dropCount_kept | apply State.satInc_kept | apply foldl_kept | dsimp only

theorem execPortLinkDown_kept {orig s : State} (h : Kept orig s) (port : Nat) :
    OutKept orig (execPortLinkDown port s) := by
  unfold execPortLinkDown
  repeat' with_reducible first | assumption | intro _ | apply State.dropQueued_kept | apply State.mgtLink_kept | apply State.setTopo_kept | apply State.modSw_kept | apply State.settle_kept | apply State.setN_kept | apply next_kept | apply ite_kept | apply outIte_kept | dsimp only | split

theorem State.drr_kept {orig s : State} (h : Kept orig s) (p : Nat) (elig : List Nat) (t n : Nat) :
    OptPKept orig (s.drr p elig t n) := by
  induction n generalizing s t with
  | zero => exact trivial
  | succ n ih =>
    unfold State.drr
    split
    · dsimp only
      split
      · exact optP_kept (State.modTg_kept h _)
      · exact ih (State.modTg_kept h _) _
    · exact ih h _

theorem State.pick_kept {orig s : State} (h : Kept orig s) (p : Nat) : OptPKept orig (s.pick p) := by
  unfold State.pick
  generalize 400 = n
  dsimp only
  repeat' (first | exact trivial | exact h | exact State.drr_kept h _ _ _ _ | split)

theorem State.chargeDeficit_kept {orig s : State} (h : Kept orig s) (p : Nat) (t : Nat) (len : Nat) :
    Kept orig (State.chargeDeficit s p t len) := by
  unfold State.chargeDeficit
  repeat' with_reducible first | assumption | intro _ | apply State.modTg_kept | apply ite_kept | dsimp only | split

theorem State.sendFrame_kept {orig s : State} (h : Kept orig s) (x : SwFrame) (p : Nat) :
    Kept orig (State.sendFrame s x p) := by
  unfold State.sendFrame
  repeat' with_reducible first | assumption | intro _ | apply State.chargeDeficit_kept | apply State.dropCopy_kept | apply State.setCredit_kept | apply State.passedGot_kept | apply State.bwAdd_kept | apply State.count_kept | apply State.emit_kept | apply State.satInc_kept | apply ite_kept | apply optGetD_kept | apply optOr_kept | dsimp only | split

theorem execEgressFrameStart_kept {orig s : State} (h : Kept orig s) (port : Nat) :
    OutKept orig (execEgressFrameStart port s) := by
  unfold execEgressFrameStart
  repeat' with_reducible first | assumption | intro _ | apply State.sendFrame_kept | apply State.pick_kept | apply next_kept | apply ite_kept | apply outIte_kept | refine someP_kept ?_ (by assumption) | dsimp only | split

theorem execFrameAgeDrop_kept {orig s : State} (h : Kept orig s) (port : Nat) (tc : Nat) :
    OutKept orig (execFrameAgeDrop port tc s) := by
  unfold execFrameAgeDrop
  repeat' with_reducible first | assumption | intro _ | apply State.dropCopy_kept | apply State.dropCount_kept | apply State.settle_kept | apply State.event_kept | apply State.satInc_kept | apply next_kept | apply ite_kept | apply outIte_kept | dsimp only | split

theorem execPfcFrameReceive_kept {orig s : State} (h : Kept orig s) (port : Nat) (enable : Nat) (quanta : List Nat) :
    OutKept orig (execPfcFrameReceive port enable quanta s) := by
  unfold execPfcFrameReceive
  repeat' with_reducible first | assumption | intro _ | apply State.modSw_kept | apply next_kept | apply ite_kept | apply outIte_kept | apply ite2_kept | apply foldl_kept | apply optGetD_kept | apply optOr_kept | dsimp only | split

theorem execPfcPauseExpiry_kept {orig s : State} (h : Kept orig s) (port : Nat) (prio : Nat) :
    OutKept orig (execPfcPauseExpiry port prio s) := by
  unfold execPfcPauseExpiry
  repeat' with_reducible first | assumption | intro _ | apply State.modSw_kept | apply next_kept | apply ite_kept | apply outIte_kept | dsimp only | split

theorem execPfcWatchdogExpiry_kept {orig s : State} (h : Kept orig s) (port : Nat) (prio : Nat) :
    OutKept orig (execPfcWatchdogExpiry port prio s) := by
  unfold execPfcWatchdogExpiry
  repeat' with_reducible first | assumption | intro _ | apply State.modSw_kept | apply State.settle_kept | apply State.event_kept | apply next_kept | apply ite_kept | apply outIte_kept | dsimp only | split

theorem execPfcStormEnd_kept {orig s : State} (h : Kept orig s) (port : Nat) (prio : Nat) :
    OutKept orig (execPfcStormEnd port prio s) := by
  unfold execPfcStormEnd
  repeat' with_reducible first | assumption | intro _ | apply State.modSw_kept | apply next_kept | apply ite_kept | apply outIte_kept | dsimp only | split

theorem execPfcXoffRefresh_kept {orig s : State} (h : Kept orig s) (port : Nat) (prio : Nat) :
    OutKept orig (execPfcXoffRefresh port prio s) := by
  unfold execPfcXoffRefresh
  repeat' with_reducible first | assumption | intro _ | apply State.sendOwn_kept | apply next_kept | apply ite_kept | apply outIte_kept | dsimp only | split

theorem State.setNeigh_kept {orig s : State} (h : Kept orig s) (i : Nat) (e : Neigh) :
    Kept orig (State.setNeigh s i e) := by
  unfold State.setNeigh
  repeat' with_reducible first | assumption | intro _ | apply State.modSw_kept | apply State.put_kept | apply ite_kept | dsimp only | split

theorem State.learn_kept {orig s : State} (h : Kept orig s) (p : Nat) (vid : Nat) (smac : Nat) (ip : Nat) (v6 : Bool) :
    Kept orig (State.learn s p vid smac ip v6) := by
  unfold State.learn
  repeat' with_reducible first | assumption | intro _ | apply State.setNeigh_kept | apply State.event_kept | apply ite_kept | dsimp only | split

theorem execNeighAgeOut_kept {orig s : State} (h : Kept orig s) (index : Nat) :
    OutKept orig (execNeighAgeOut index s) := by
  unfold execNeighAgeOut
  repeat' with_reducible first | assumption | intro _ | apply State.setNeigh_kept | apply next_kept | apply ite_kept | apply outIte_kept | dsimp only | split

theorem State.showAddr_kept {orig s : State} (h : Kept orig s) (a : Nat) :
    Kept orig (State.showAddr s a) := by
  unfold State.showAddr
  repeat' with_reducible first | assumption | intro _ | apply State.setN_kept | apply foldl_kept | dsimp only

theorem State.setTblData_kept {orig s : State} (h : Kept orig s) (a : Nat) (b : Nat) (c : Nat) (d : Nat) :
    Kept orig (State.setTblData s a b c d) := by
  unfold State.setTblData
  repeat' with_reducible first | assumption | intro _ | apply State.setN_kept

theorem State.tblLoad_kept {orig s : State} (h : Kept orig s) (v : Nat) :
    Kept orig (State.tblLoad s v) := by
  unfold State.tblLoad
  repeat' with_reducible first | assumption | intro _ | apply State.setTblData_kept | apply State.showAddr_kept | apply State.setN_kept | apply State.put_kept | apply ite_kept | dsimp only | split

theorem execTblSelectLoad_kept {orig s : State} (h : Kept orig s) (value : Nat) :
    OutKept orig (execTblSelectLoad value s) := by
  unfold execTblSelectLoad
  repeat' with_reducible first | assumption | intro _ | apply State.tblLoad_kept | apply next_kept | apply ite_kept | apply outIte_kept | dsimp only | split

theorem State.tblStage_kept {orig s : State} (h : Kept orig s) (t : Nat) (i : Nat) :
    Kept orig (State.tblStage s t i) := by
  unfold State.tblStage
  repeat' with_reducible first | assumption | intro _ | apply State.modSw_kept | apply State.put_kept | dsimp only

theorem State.tblInstall_kept {orig s : State} (h : Kept orig s) (t : Nat) (i : Nat) :
    Kept orig (State.tblInstall s t i) := by
  unfold State.tblInstall
  repeat' with_reducible first | assumption | intro _ | apply State.setNeigh_kept | apply State.modSw_kept | apply optGetD_kept | apply optOr_kept | dsimp only | split

theorem State.tblCommit_kept {orig s : State} (h : Kept orig s)  :
    Kept orig (State.tblCommit s) := by
  unfold State.tblCommit
  repeat' with_reducible first | assumption | intro _ | apply State.tblInstall_kept | apply State.tblStage_kept | apply State.genInc_kept | apply State.put_kept | apply ite_kept | dsimp only | split

theorem execTblCommitEntry_kept {orig s : State} (h : Kept orig s)  :
    OutKept orig (execTblCommitEntry s) := by
  unfold execTblCommitEntry
  repeat' with_reducible first | assumption | intro _ | apply State.tblCommit_kept | apply next_kept | apply ite_kept | apply outIte_kept | dsimp only | split

theorem execTblCommitAddress_kept {orig s : State} (h : Kept orig s)  :
    OutKept orig (execTblCommitAddress s) := by
  unfold execTblCommitAddress
  repeat' with_reducible first | assumption | intro _ | apply State.tblCommit_kept | apply next_kept | apply ite_kept | apply outIte_kept | dsimp only | split

theorem State.trafficClass_kept {orig s : State} (h : Kept orig s) (p : Nat) (dscp : Option Nat) :
    Kept orig (State.trafficClass s p dscp).2 := by
  unfold State.trafficClass
  repeat' with_reducible first | assumption | intro _ | apply State.fresh_kept | refine snd_kept ?_ (by assumption) | refine snd3_kept ?_ (by assumption) | dsimp only | split

theorem State.store_kept {orig s : State} (h : Kept orig s) (p : Nat) (t : Nat) (pool : Nat) (f : EthFrame) (ds : List (Nat × Nat)) (bad : Bool) :
    Kept orig (State.store s p t pool f ds bad) := by
  unfold State.store
  repeat' with_reducible first | assumption | intro _ | apply State.dropCount_kept | apply State.bufUpdate_kept | apply State.modSw_kept | apply State.satInc_kept | apply ite_kept | apply ite2_kept | apply foldl_kept | apply foldlP_kept | apply optGetD_kept | apply optOr_kept | dsimp only | split

theorem State.answer_kept {orig s : State} (h : Kept orig s) (p : Nat) (f : EthFrame) :
    Kept orig (State.answer s p f) := by
  unfold State.answer
  repeat' with_reducible first | assumption | intro _ | apply State.sendOwn_kept | apply ite_kept | dsimp only | split

theorem State.forwardFrame_kept {orig s : State} (h : Kept orig s) (p : Nat) (t : Nat) (f : EthFrame) (bad : Bool) :
    Kept orig (State.forwardFrame s p t f bad) := by
  unfold State.forwardFrame
  repeat' with_reducible first | assumption | intro _ | apply State.store_kept | apply State.dropCount_kept | apply State.roce_kept | apply State.event_kept | apply State.satInc_kept | apply ite_kept | dsimp only | split

theorem State.receiveFrame_kept {orig s : State} (h : Kept orig s) (p : Nat) (f : EthFrame) :
    Kept orig (State.receiveFrame s p f) := by
  unfold State.receiveFrame
  repeat' with_reducible first | assumption | intro _ | apply State.forwardFrame_kept | apply State.answer_kept | apply State.trafficClass_kept | apply State.learn_kept | apply State.dropCount_kept | apply State.policeFrame_kept | apply State.bwAdd_kept | apply State.satInc_kept | apply ite_kept | apply optGetD_kept | apply optOr_kept | refine snd_kept ?_ (by assumption) | refine snd3_kept ?_ (by assumption) | dsimp only | split

theorem State.offerFrame_kept {orig s : State} (h : Kept orig s) (f : EthFrame) :
    Kept orig (State.offerFrame s f) := by
  unfold State.offerFrame
  repeat' with_reducible first | assumption | intro _ | apply State.forwardFrame_kept | apply State.trafficClass_kept | apply ite_kept | refine snd_kept ?_ (by assumption) | refine snd3_kept ?_ (by assumption) | dsimp only | split

theorem execFrameArrival_kept {orig s : State} (h : Kept orig s) (port : Nat) (f : EthFrame) :
    OutKept orig (execFrameArrival port f s) := by
  unfold execFrameArrival
  repeat' with_reducible first | assumption | intro _ | apply State.offerFrame_kept | apply State.receiveFrame_kept | apply State.settle_kept | apply next_kept | apply ite_kept | apply outIte_kept | dsimp only | split

theorem State.placeHost_kept {orig s : State} (h : Kept orig s) (a : Nat) (v : Nat) :
    OptKept orig (State.placeHost s a v) := by
  unfold State.placeHost
  repeat' with_reducible first | assumption | intro _ | apply State.hostDelete_kept | apply State.accessWrite_kept | apply State.modHost_kept | apply optSome_kept | exact optNone_kept | apply optMap_kept | apply optBind_kept | apply optFold_kept | apply ite_kept | apply optIte_kept | dsimp only | split

theorem State.placeWin_kept {orig s : State} (h : Kept orig s) (a : Nat) (v : Nat) :
    OptKept orig (State.placeWin s a v) := by
  unfold State.placeWin
  repeat' with_reducible first | assumption | intro _ | apply State.modFab_kept | apply optSome_kept | exact optNone_kept | apply optMap_kept | apply optBind_kept | apply optFold_kept | apply ite_kept | apply optIte_kept | dsimp only | split

theorem State.placeTgs_kept {orig s : State} (h : Kept orig s) (a : Nat) (v : Nat) :
    OptKept orig (State.placeTgs s a v) := by
  unfold State.placeTgs
  repeat' with_reducible first | assumption | intro _ | apply State.modTg_kept | apply State.modList_kept | apply optSome_kept | exact optNone_kept | apply optMap_kept | apply optBind_kept | apply optFold_kept | apply ite_kept | apply optIte_kept | dsimp only | split

theorem State.placePmc_kept {orig s : State} (h : Kept orig s) (a : Nat) (v : Nat) :
    OptKept orig (State.placePmc s a v) := by
  unfold State.placePmc
  repeat' with_reducible first | assumption | intro _ | apply State.setCtr_kept | apply optSome_kept | exact optNone_kept | apply optMap_kept | apply optBind_kept | apply optFold_kept | apply ite_kept | apply optIte_kept | dsimp only | split

theorem State.placeSrc_kept {orig s : State} (h : Kept orig s) (a : Nat) (v : Nat) :
    OptKept orig (State.placeSrc s a v) := by
  unfold State.placeSrc
  repeat' with_reducible first | assumption | intro _ | apply State.sendVector_kept | apply State.modEv_kept | apply optSome_kept | exact optNone_kept | apply optMap_kept | apply optBind_kept | apply optFold_kept | apply ite_kept | apply optIte_kept | dsimp only | split

theorem State.placeReg_kept {orig s : State} (h : Kept orig s) (a : Nat) (v : Nat) :
    Kept orig (State.placeReg s a v) := by
  unfold State.placeReg
  repeat' with_reducible first | assumption | intro _ | apply State.placeSrc_kept | apply State.placePmc_kept | apply State.placeTgs_kept | apply State.placeWin_kept | apply State.placeHost_kept | apply State.modBoot_kept | apply State.setN_kept | apply optGetD_kept | apply optOr_kept | refine some_kept ?_ (by assumption) | dsimp only | split | rfl

theorem State.storeRws_kept {orig s : State} (h : Kept orig s) (p : Path) (r : RegRow) (a : Nat) (old : Nat) (v : Nat) :
    Kept orig (State.storeRws s p r a old v) := by
  unfold State.storeRws
  repeat' with_reducible first | assumption | intro _ | apply State.badAccess_kept | apply State.mslExtend_kept | apply ite_kept | split

theorem State.storeReg_kept {orig s : State} (h : Kept orig s) (p : Path) (a : Nat) (v : Nat) :
    Kept orig (State.storeReg s p a v) := by
  unfold State.storeReg
  repeat' with_reducible first | assumption | intro _ | apply State.storeRws_kept | apply State.placeReg_kept | apply State.pruneHeld_kept | apply ite_kept | dsimp only | split

theorem State.memberCmd_kept {orig s : State} (h : Kept orig s) (v : Nat) :
    Kept orig (State.memberCmd s v) := by
  unfold State.memberCmd
  repeat' with_reducible first | assumption | intro _ | apply State.scrubStop_kept | apply State.scrubBegin_kept | apply State.clearRefused_kept | apply State.memberAdopt_kept | apply State.memberFailCmd_kept | apply State.mcmdCode_kept | apply ite_kept | dsimp only | split

theorem State.shelfCmd_kept {orig s : State} (h : Kept orig s) (v : Nat) :
    Kept orig (State.shelfCmd s v) := by
  unfold State.shelfCmd
  repeat' with_reducible first | assumption | intro _ | apply State.stopEnds_kept | apply State.shelfStop_kept | apply ite_kept | dsimp only | split

theorem State.chanCtrl_kept {orig s : State} (h : Kept orig s) (n : Nat) (v : Nat) (was : Bool) :
    Kept orig (State.chanCtrl s n v was) := by
  unfold State.chanCtrl
  repeat' with_reducible first | assumption | intro _ | apply State.slotClear_kept | apply State.demandGone_kept | apply State.enqueueCh_kept | apply ite_kept | dsimp only | split

theorem State.chanLimits_kept {orig s : State} (h : Kept orig s) (n : Nat) (a : Nat) (old : Nat) :
    Kept orig (State.chanLimits s n a old) := by
  unfold State.chanLimits
  repeat' with_reducible first | assumption | intro _ | apply State.setN_kept | apply ite_kept | split

theorem State.tsrcOff_kept {orig s : State} (h : Kept orig s) (n : Nat) :
    Kept orig (State.tsrcOff s n) := by
  unfold State.tsrcOff
  repeat' with_reducible first | assumption | intro _ | apply State.off_kept | apply ite_kept | split

theorem State.tocsinWrite_kept {orig s : State} (h : Kept orig s) (v : Nat) :
    Kept orig (State.tocsinWrite s v) := by
  unfold State.tocsinWrite
  repeat' with_reducible first | assumption | intro _ | apply State.tocsinRestart_kept | apply State.modAon_kept | apply State.put_kept | apply ite_kept | dsimp only | split

theorem State.xferEnd_kept {orig s : State} (h : Kept orig s) (k : Nat) (result : Nat) (moved : Nat) :
    Kept orig (State.xferEnd s k result moved) := by
  unfold State.xferEnd
  repeat' with_reducible first | assumption | intro _ | apply State.eventHeld_kept | apply State.event_kept | apply State.setN_kept | apply ite_kept | dsimp only | split

theorem State.xferStart_kept {orig s : State} (h : Kept orig s) (k : Nat) :
    Kept orig (State.xferStart s k) := by
  unfold State.xferStart
  repeat' with_reducible first | assumption | intro _ | apply State.xferEnd_kept | apply State.modAcc_kept | apply State.emit_kept | apply State.setN_kept | apply ite_kept | dsimp only | split

theorem State.actControl_kept {orig s : State} (h : Kept orig s) (p : Path) (a : Nat) (v : Nat) :
    Kept orig (State.actControl s p a v) := by
  unfold State.actControl
  repeat' with_reducible first | assumption | intro _ | apply State.tocsinWrite_kept | apply State.lockWrite_kept | apply State.epEnable_kept | apply State.recordLatch_kept | apply State.userRecord_kept | apply State.freezeWrite_kept | apply State.clearFirst_kept | apply State.pendClear_kept | apply State.cfgCommand_kept | apply State.ovlRequest_kept | apply State.sealGo_kept | apply State.coreReset_kept | apply State.carClear_kept | apply State.setN_kept | apply ite_kept | dsimp only | split

theorem State.actStorage_kept {orig s : State} (h : Kept orig s) (a : Nat) (v : Nat) :
    Kept orig (State.actStorage s a v) := by
  unfold State.actStorage
  repeat' with_reducible first | assumption | intro _ | apply State.memberCmd_kept | apply State.tblCommit_kept | apply State.tblLoad_kept | apply State.pwrWrite_kept | apply State.failback_kept | apply State.zoneSelect_kept | apply State.nsCommit_kept | apply State.keyImport_kept | apply State.zeroise_kept | apply State.winCommit_kept | apply State.strProbe_kept | apply ite_kept | split

theorem State.actUnits_kept {orig s : State} (h : Kept orig s) (a : Nat) (old : Nat) (v : Nat) :
    Kept orig (State.actUnits s a old v) := by
  unfold State.actUnits
  repeat' with_reducible first | assumption | intro _ | apply State.shelfCmd_kept | apply State.setGo_kept | apply State.ptpCfg_kept | apply State.listCommit_kept | apply State.ctrClearAll_kept | apply State.ctrClear_kept | apply State.modPmc_kept | apply State.modAon_kept | apply State.setN_kept | apply ite_kept | dsimp only | split

theorem State.actEach_kept {orig s : State} (h : Kept orig s) (a : Nat) (old : Nat) (v : Nat) :
    Kept orig (State.actEach s a old v) := by
  unfold State.actEach
  repeat' with_reducible first | assumption | intro _ | apply State.xferStart_kept | apply State.tsrcOff_kept | apply State.chanLimits_kept | apply State.chanCtrl_kept | apply State.cfgStart_kept | apply State.portEnable_kept | apply State.removal_kept | apply State.dmaReset_kept | apply State.dmaStop_kept | apply State.doorbell_kept | apply State.setCredit_kept | apply State.setN_kept | apply ite_kept | dsimp only | split

theorem State.act_kept {orig s : State} (h : Kept orig s) (p : Path) (a : Nat) (old : Nat) (v : Nat) :
    Kept orig (State.act s p a old v) := by
  unfold State.act
  repeat' with_reducible first | assumption | intro _ | apply State.actEach_kept | apply State.actUnits_kept | apply State.actStorage_kept | apply State.actControl_kept | apply ite_kept | dsimp only | split

theorem State.writeReg_kept {orig s : State} (h : Kept orig s) (p : Path) (a : Nat) (v : Nat) :
    Kept orig (State.writeReg s p a v) := by
  unfold State.writeReg
  repeat' with_reducible first | assumption | intro _ | apply State.act_kept | apply State.storeReg_kept

theorem State.writePair_kept {orig s : State} (h : Kept orig s) (p : Path) (lo : Nat) (vl : Nat) (vh : Nat) :
    Kept orig (State.writePair s p lo vl vh) := by
  unfold State.writePair
  repeat' with_reducible first | assumption | intro _ | apply State.act_kept | apply State.storeReg_kept | dsimp only

theorem State.flushHeld_kept {orig s : State} (h : Kept orig s) (p : Path) :
    Kept orig (State.flushHeld s p) := by
  unfold State.flushHeld
  repeat' with_reducible first | assumption | intro _ | apply State.writeReg_kept | apply State.setHeld_kept | dsimp only | split

theorem State.flushFor_kept {orig s : State} (h : Kept orig s) (p : Path) (w : Bool) (a : Nat) :
    Kept orig (State.flushFor s p w a) := by
  unfold State.flushFor
  repeat' with_reducible first | assumption | intro _ | apply State.flushHeld_kept | apply ite_kept | dsimp only | split

theorem State.writeDword_kept {orig s : State} (h : Kept orig s) (p : Path) (a : Nat) (v : Nat) :
    Kept orig (State.writeDword s p a v).2 := by
  unfold State.writeDword
  repeat' with_reducible first | assumption | intro _ | apply State.flushFor_kept | apply State.writePair_kept | apply State.writeReg_kept | apply State.setHeld_kept | apply State.badAccess_kept | apply State.event_kept | apply State.satInc_kept | apply ite_kept | apply ite2_kept | dsimp only | split

theorem State.readAccess_kept {orig s : State} (h : Kept orig s) (p : Path) (a : Nat) :
    Kept orig (State.readAccess s p a).2 := by
  unfold State.readAccess
  repeat' with_reducible first | assumption | intro _ | apply State.flushFor_kept | apply State.readDword_kept | refine snd_kept ?_ (by assumption) | refine snd3_kept ?_ (by assumption) | dsimp only

theorem State.barWrite_kept {orig s : State} (h : Kept orig s) (off : Nat) (v : Nat) (len : Nat) :
    Kept orig (State.barWrite s off v len) := by
  unfold State.barWrite
  repeat' with_reducible first | assumption | intro _ | apply State.writeDword_kept | apply State.flushHeld_kept | apply State.event_kept | apply State.off_kept | apply ite_kept | refine snd_kept ?_ (by assumption) | refine snd3_kept ?_ (by assumption) | dsimp only | split

theorem execRegisterWrite_kept {orig s : State} (h : Kept orig s) (path : Path) (off : Nat) (value : Nat) (len : Nat) :
    OutKept orig (execRegisterWrite path off value len s) := by
  unfold execRegisterWrite
  repeat' with_reducible first | assumption | intro _ | apply State.barWrite_kept | apply State.writeDword_kept | apply State.settle_kept | apply State.off_kept | apply next_kept | apply ite_kept | apply outIte_kept | refine snd_kept ?_ (by assumption) | refine snd3_kept ?_ (by assumption) | dsimp only | split

theorem State.readWord_kept {orig s : State} (h : Kept orig s) (p : Path) (a : Nat) :
    Kept orig (State.readWord s p a) := by
  unfold State.readWord
  repeat' with_reducible first | assumption | intro _ | apply State.readAccess_kept | apply State.emit_kept | refine snd_kept ?_ (by assumption) | refine snd3_kept ?_ (by assumption) | dsimp only | split

theorem State.barRead_kept {orig s : State} (h : Kept orig s) (off : Nat) (len : Nat) :
    Kept orig (State.barRead s off len) := by
  unfold State.barRead
  repeat' with_reducible first | assumption | intro _ | apply State.readWord_kept | apply State.readAccess_kept | apply State.flushHeld_kept | apply State.readPair_kept | apply State.emit_kept | apply State.off_kept | apply ite_kept | refine snd_kept ?_ (by assumption) | refine snd3_kept ?_ (by assumption) | dsimp only | split

theorem State.readOut_kept {orig s : State} (h : Kept orig s) (p : Path) (off : Nat) (len : Nat) :
    Kept orig (State.readOut s p off len) := by
  unfold State.readOut
  repeat' with_reducible first | assumption | intro _ | apply State.barRead_kept | apply State.readWord_kept | apply State.settle_kept | apply State.emit_kept | apply State.off_kept | apply ite_kept | split

theorem execRcRegisterRead_kept {orig s : State} (h : Kept orig s) (path : Path) (off : Nat) (len : Nat) :
    OutKept orig (execRcRegisterRead path off len s) := by
  unfold execRcRegisterRead
  repeat' with_reducible first | assumption | intro _ | apply State.readOut_kept | apply State.off_kept | apply next_kept | apply ite_kept | apply outIte_kept | dsimp only | split

theorem execPairLowRead_kept {orig s : State} (h : Kept orig s) (path : Path) (off : Nat) :
    OutKept orig (execPairLowRead path off s) := by
  unfold execPairLowRead
  repeat' with_reducible first | assumption | intro _ | apply State.readOut_kept | apply State.off_kept | apply next_kept | apply ite_kept | apply outIte_kept | dsimp only | split

theorem execPairLowWriteTimeout_kept {orig s : State} (h : Kept orig s) (path : Path) :
    OutKept orig (execPairLowWriteTimeout path s) := by
  unfold execPairLowWriteTimeout
  repeat' with_reducible first | assumption | intro _ | apply State.flushHeld_kept | apply State.settle_kept | apply next_kept | apply ite_kept | apply outIte_kept | dsimp only | split

theorem State.sbDone_kept {orig s : State} (h : Kept orig s) (st : Nat) :
    Kept orig (State.sbDone s st) := by
  unfold State.sbDone
  repeat' with_reducible first | assumption | intro _ | apply State.modAcc_kept | dsimp only

theorem execSbRegisterRead_kept {orig s : State} (h : Kept orig s) (off : Nat) (pecOk : Bool) :
    OutKept orig (execSbRegisterRead off pecOk s) := by
  unfold execSbRegisterRead
  repeat' with_reducible first | assumption | intro _ | apply State.readAccess_kept | apply State.settle_kept | apply State.emit_kept | apply State.off_kept | apply next_kept | apply ite_kept | apply outIte_kept | refine snd_kept ?_ (by assumption) | refine snd3_kept ?_ (by assumption) | dsimp only | split

theorem execSbRegisterWrite_kept {orig s : State} (h : Kept orig s) (off : Nat) (value : Nat) (pecOk : Bool) :
    OutKept orig (execSbRegisterWrite off value pecOk s) := by
  unfold execSbRegisterWrite
  repeat' with_reducible first | assumption | intro _ | apply State.sbDone_kept | apply State.writeDword_kept | apply State.settle_kept | apply State.off_kept | apply next_kept | apply ite_kept | apply outIte_kept | refine snd_kept ?_ (by assumption) | refine snd3_kept ?_ (by assumption) | dsimp only | split

theorem execSbStatusRead_kept {orig s : State} (h : Kept orig s)  :
    OutKept orig (execSbStatusRead s) := by
  unfold execSbStatusRead
  repeat' with_reducible first | assumption | intro _ | apply State.emit_kept | apply next_kept | apply ite_kept | apply outIte_kept | dsimp only | split

theorem execVendorRegisterRead_kept {orig s : State} (h : Kept orig s) (cntlid : Nat) (cid : Nat) (off : Nat) (pair : Bool) :
    OutKept orig (execVendorRegisterRead cntlid cid off pair s) := by
  unfold execVendorRegisterRead
  repeat' with_reducible first | assumption | intro _ | apply State.readAccess_kept | apply State.flushHeld_kept | apply State.readPair_kept | apply State.settle_kept | apply State.adminDone_kept | apply State.off_kept | apply next_kept | apply ite_kept | apply outIte_kept | refine snd_kept ?_ (by assumption) | refine snd3_kept ?_ (by assumption) | dsimp only | split

theorem execVendorRegisterWrite_kept {orig s : State} (h : Kept orig s) (cntlid : Nat) (cid : Nat) (off : Nat) (value : Nat) :
    OutKept orig (execVendorRegisterWrite cntlid cid off value s) := by
  unfold execVendorRegisterWrite
  repeat' with_reducible first | assumption | intro _ | apply State.writeDword_kept | apply State.settle_kept | apply State.adminDone_kept | apply State.off_kept | apply next_kept | apply ite_kept | apply outIte_kept | refine snd_kept ?_ (by assumption) | refine snd3_kept ?_ (by assumption) | dsimp only | split

theorem State.eccShow_kept {orig s : State} (h : Kept orig s) (ch : Nat) (addr : Nat) (devs : Nat) (ue : Bool) :
    Kept orig (State.eccShow s ch addr devs ue) := by
  unfold State.eccShow
  repeat' with_reducible first | assumption | intro _ | apply State.wr64_kept | apply State.setN_kept

theorem State.ddcEvent_kept {orig s : State} (h : Kept orig s) (g : FieldAt) (c : FieldAt) (n : Nat) :
    Kept orig (State.ddcEvent s g c n) := by
  unfold State.ddcEvent
  repeat' with_reducible first | assumption | intro _ | apply State.event_kept

theorem execDramEccCorrected_kept {orig s : State} (h : Kept orig s) (ch : Nat) (addr : Nat) (devs : Nat) :
    OutKept orig (execDramEccCorrected ch addr devs s) := by
  unfold execDramEccCorrected
  repeat' with_reducible first | assumption | intro _ | apply State.ddcEvent_kept | apply State.eccShow_kept | apply State.settle_kept | apply State.satInc_kept | apply next_kept | apply ite_kept | apply outIte_kept | dsimp only | split

theorem State.pageNeeded_kept {orig s : State} (h : Kept orig s) (t : Nat) (page : Option Nat) :
    Kept orig (State.pageNeeded s t page) := by
  unfold State.pageNeeded
  repeat' with_reducible first | assumption | intro _ | apply State.page_kept | apply State.modAcc_kept | dsimp only | split

theorem execDramEccUncorrectable_kept {orig s : State} (h : Kept orig s) (ch : Nat) (addr : Nat) (devs : Nat) (requester : Nat) :
    OutKept orig (execDramEccUncorrectable ch addr devs requester s) := by
  unfold execDramEccUncorrectable
  repeat' with_reducible first | assumption | intro _ | apply State.pageNeeded_kept | apply State.ddcEvent_kept | apply State.eccShow_kept | apply State.settle_kept | apply State.modAcc_kept | apply State.satInc_kept | apply next_kept | apply ite_kept | apply outIte_kept | dsimp only | split

theorem execTablePageReloadDone_kept {orig s : State} (h : Kept orig s) (page : Nat) :
    OutKept orig (execTablePageReloadDone page s) := by
  unfold execTablePageReloadDone
  repeat' with_reducible first | assumption | intro _ | apply State.page_kept | apply State.settle_kept | apply State.modAcc_kept | apply next_kept | apply ite_kept | apply outIte_kept | dsimp only | split

theorem execPatrolPassDone_kept {orig s : State} (h : Kept orig s) (ch : Nat) :
    OutKept orig (execPatrolPassDone ch s) := by
  unfold execPatrolPassDone
  repeat' with_reducible first | assumption | intro _ | apply State.ddcEvent_kept | apply State.settle_kept | apply State.wr64_kept | apply next_kept | apply ite_kept | apply outIte_kept | dsimp only | split

theorem State.refresh_kept {orig s : State} (h : Kept orig s) (ch : Nat) (temp : Nat) (twice : Bool) :
    Kept orig (State.refresh s ch temp twice) := by
  unfold State.refresh
  repeat' with_reducible first | assumption | intro _ | apply State.setN_kept

theorem execDramHot_kept {orig s : State} (h : Kept orig s) (ch : Nat) (temp : Nat) :
    OutKept orig (execDramHot ch temp s) := by
  unfold execDramHot
  repeat' with_reducible first | assumption | intro _ | apply State.refresh_kept | apply next_kept | apply ite_kept | apply outIte_kept | dsimp only | split

theorem execDramCool_kept {orig s : State} (h : Kept orig s) (ch : Nat) (temp : Nat) :
    OutKept orig (execDramCool ch temp s) := by
  unfold execDramCool
  repeat' with_reducible first | assumption | intro _ | apply State.refresh_kept | apply next_kept | apply ite_kept | apply outIte_kept | dsimp only | split

theorem execSidebandXferStart_kept {orig s : State} (h : Kept orig s) (k : Nat) :
    OutKept orig (execSidebandXferStart k s) := by
  unfold execSidebandXferStart
  repeat' with_reducible first | assumption | intro _ | apply State.xferStart_kept | apply State.settle_kept | apply next_kept | apply ite_kept | apply outIte_kept | dsimp only | split

theorem State.putRx_kept {orig s : State} (h : Kept orig s) (k : Nat) (bytes : List Byte) :
    Kept orig (State.putRx s k bytes) := by
  unfold State.putRx
  repeat' with_reducible first | assumption | intro _ | apply State.setN_kept | apply foldl_kept | dsimp only

theorem State.xferDone_kept {orig s : State} (h : Kept orig s) (k : Nat) (x : Nat) (result : Nat) (bytes : List Byte) :
    Kept orig (State.xferDone s k x result bytes) := by
  unfold State.xferDone
  repeat' with_reducible first | assumption | intro _ | apply State.putRx_kept | apply State.xferEnd_kept | apply State.modAcc_kept | apply State.fresh_kept | apply State.emit_kept | apply State.satInc_kept | apply ite_kept | refine snd_kept ?_ (by assumption) | refine snd3_kept ?_ (by assumption) | dsimp only | split

theorem execSidebandXferDone_kept {orig s : State} (h : Kept orig s) (k : Nat) (result : Nat) (bytes : List Byte) :
    OutKept orig (execSidebandXferDone k result bytes s) := by
  unfold execSidebandXferDone
  repeat' with_reducible first | assumption | intro _ | apply State.xferDone_kept | apply State.settle_kept | apply next_kept | apply ite_kept | apply outIte_kept | dsimp only | split

theorem State.refMeasured_kept {orig s : State} (h : Kept orig s) (off : Int) :
    Kept orig (State.refMeasured s off) := by
  unfold State.refMeasured
  repeat' with_reducible first | assumption | intro _ | apply State.event_kept | apply State.fresh_kept | apply State.off_kept | apply State.on_kept | apply State.put_kept | apply ite_kept | refine snd_kept ?_ (by assumption) | refine snd3_kept ?_ (by assumption) | dsimp only | split

theorem execRefMeasure_kept {orig s : State} (h : Kept orig s) (off : Int) :
    OutKept orig (execRefMeasure off s) := by
  unfold execRefMeasure
  repeat' with_reducible first | assumption | intro _ | apply State.refMeasured_kept | apply State.settle_kept | apply State.off_kept | apply next_kept | apply ite_kept | apply outIte_kept | dsimp only | split

theorem execRefLost_kept {orig s : State} (h : Kept orig s)  :
    OutKept orig (execRefLost s) := by
  unfold execRefLost
  repeat' with_reducible first | assumption | intro _ | apply State.settle_kept | apply State.event_kept | apply State.off_kept | apply next_kept | apply ite_kept | apply outIte_kept | dsimp only | split

theorem execRefReturn_kept {orig s : State} (h : Kept orig s)  :
    OutKept orig (execRefReturn s) := by
  unfold execRefReturn
  repeat' with_reducible first | assumption | intro _ | apply State.on_kept | apply next_kept | apply ite_kept | apply outIte_kept | dsimp only | split

theorem execClkLockLost_kept {orig s : State} (h : Kept orig s)  :
    OutKept orig (execClkLockLost s) := by
  unfold execClkLockLost
  repeat' with_reducible first | assumption | intro _ | apply State.settle_kept | apply State.event_kept | apply State.modAon_kept | apply State.satInc_kept | apply State.off_kept | apply State.on_kept | apply next_kept | apply ite_kept | apply outIte_kept | dsimp only | split

theorem execRootPllRelock_kept {orig s : State} (h : Kept orig s)  :
    OutKept orig (execRootPllRelock s) := by
  unfold execRootPllRelock
  repeat' with_reducible first | assumption | intro _ | apply State.dumpStart_kept | apply State.on_kept | apply next_kept | apply ite_kept | apply outIte_kept | dsimp only | split

theorem execAlwaysOnRelease_kept {orig s : State} (h : Kept orig s)  :
    OutKept orig (execAlwaysOnRelease s) := by
  unfold execAlwaysOnRelease
  repeat' with_reducible first | assumption | intro _ | apply State.modAon_kept | apply State.setN_kept | apply next_kept | apply ite_kept | apply outIte_kept | dsimp only | split

theorem execPorstAssert_kept {orig s : State} (h : Kept orig s)  :
    OutKept orig (execPorstAssert s) := by
  unfold execPorstAssert
  repeat' with_reducible first | assumption | intro _ | apply State.powerReset_kept | apply next_kept | dsimp only

theorem State.supplyBad_kept {orig s : State} (h : Kept orig s) (n : Nat) :
    Kept orig (State.supplyBad s n) := by
  unfold State.supplyBad
  repeat' with_reducible first | assumption | intro _ | apply State.setN_kept

theorem State.supplyOut_kept {orig s : State} (h : Kept orig s) (n : Nat) :
    Kept orig (State.supplyOut s n) := by
  unfold State.supplyOut
  repeat' with_reducible first | assumption | intro _ | apply State.supplyBad_kept | apply State.powerReset_kept | apply State.coreReset_kept | apply State.modAon_kept | apply State.setN_kept | apply ite_kept | dsimp only | split

theorem execSupplyOutOfRange_kept {orig s : State} (h : Kept orig s) (supply : Nat) :
    OutKept orig (execSupplyOutOfRange supply s) := by
  unfold execSupplyOutOfRange
  repeat' with_reducible first | assumption | intro _ | apply State.supplyOut_kept | apply next_kept | apply ite_kept | apply outIte_kept | dsimp only | split

theorem State.coreStart_kept {orig s : State} (h : Kept orig s)  :
    Kept orig (State.coreStart s) := by
  unfold State.coreStart
  repeat' with_reducible first | assumption | intro _ | apply State.event_kept | apply State.modBoot_kept | apply State.modAon_kept | apply State.setN_kept | apply State.on_kept | apply State.put_kept | apply ite_kept | dsimp only | split | rfl

theorem execCoreResetRelease_kept {orig s : State} (h : Kept orig s)  :
    OutKept orig (execCoreResetRelease s) := by
  unfold execCoreResetRelease
  repeat' with_reducible first | assumption | intro _ | apply State.coreStart_kept | apply next_kept | apply ite_kept | apply outIte_kept | dsimp only | split

theorem State.powerHold_kept {orig s : State} (h : Kept orig s)  :
    Kept orig (State.powerHold s) := by
  unfold State.powerHold
  repeat' with_reducible first | assumption | intro _ | apply State.shelfStop_kept | apply State.modAon_kept | apply State.off_kept | dsimp only

theorem State.pfailFell_kept {orig s : State} (h : Kept orig s)  :
    Kept orig (State.pfailFell s) := by
  unfold State.pfailFell
  repeat' with_reducible first | assumption | intro _ | apply State.powerHold_kept | apply State.condOn_kept | apply State.modAon_kept | apply ite_kept | dsimp only | split

theorem execPfailFall_kept {orig s : State} (h : Kept orig s)  :
    OutKept orig (execPfailFall s) := by
  unfold execPfailFall
  repeat' with_reducible first | assumption | intro _ | apply State.pfailFell_kept | apply State.settle_kept | apply next_kept | apply ite_kept | apply outIte_kept | dsimp only | split

theorem execPfailRise_kept {orig s : State} (h : Kept orig s)  :
    OutKept orig (execPfailRise s) := by
  unfold execPfailRise
  repeat' with_reducible first | assumption | intro _ | apply State.coreReset_kept | apply State.condOff_kept | apply State.modAon_kept | apply next_kept | apply ite_kept | apply outIte_kept | dsimp only | split

theorem State.dumpDone_kept {orig s0 : State} (h : Kept orig s0) (us : Nat) (bad : List Nat) :
    Kept orig (State.dumpDone s0 us bad) := by
  unfold State.dumpDone
  repeat' with_reducible first | assumption | intro _ | apply State.powerHold_kept | apply State.coreReset_kept | apply State.linesRetire_kept | apply State.wearAdd_kept | apply State.modNv_kept | apply ite_kept | apply ite2_kept | apply foldl_kept | apply foldlP_kept | dsimp only | split

theorem execDumpComplete_kept {orig s : State} (h : Kept orig s) (us : Nat) (bad : List Nat) :
    OutKept orig (execDumpComplete us bad s) := by
  unfold execDumpComplete
  repeat' with_reducible first | assumption | intro _ | apply State.dumpDone_kept | apply next_kept | apply ite_kept | apply outIte_kept | dsimp only | split

theorem State.layoutCreate_kept {orig s : State} (h : Kept orig s) (l : Layout) (d : Digest) :
    Kept orig (State.layoutCreate s l d) := by
  unfold State.layoutCreate
  repeat' with_reducible first | assumption | intro _ | apply State.store_kept | apply State.modNv_kept | apply foldl_kept | apply foldlP_kept | apply optGetD_kept | apply optOr_kept | dsimp only

theorem State.layoutShow_kept {orig s : State} (h : Kept orig s) (l : Layout) :
    Kept orig (State.layoutShow s l) := by
  unfold State.layoutShow
  repeat' with_reducible first | assumption | intro _ | apply State.setLay_kept | apply State.modBoot_kept | apply State.wr64_kept | apply State.on_kept | apply State.put_kept | apply ite_kept | dsimp only | split | rfl

theorem State.layoutCheck_kept {orig s : State} (h : Kept orig s) (strips : Nat) :
    Kept orig (State.layoutCheck s strips) := by
  unfold State.layoutCheck
  repeat' with_reducible first | assumption | intro _ | apply State.layoutShow_kept | apply State.layoutCreate_kept | apply State.put_kept | apply ite_kept | dsimp only | split

theorem State.partnerCheck_kept {orig s : State} (h : Kept orig s)  :
    Kept orig (State.partnerCheck s) := by
  unfold State.partnerCheck
  repeat' with_reducible first | assumption | intro _ | apply State.on_kept | apply ite_kept | split

theorem State.routesDerive_kept {orig s : State} (h : Kept orig s)  :
    Kept orig (State.routesDerive s) := by
  unfold State.routesDerive
  repeat' with_reducible first | assumption | intro _ | apply State.put_kept | apply ite_kept | apply ite2_kept | apply foldl_kept | dsimp only | split

theorem State.edsttShow_kept {orig s : State} (h : Kept orig s)  :
    Kept orig (State.edsttShow s) := by
  unfold State.edsttShow
  repeat' with_reducible first | assumption | intro _ | apply State.fresh_kept | apply State.put_kept | apply ite_kept | refine snd_kept ?_ (by assumption) | refine snd3_kept ?_ (by assumption) | dsimp only | split

theorem State.failsafe_kept {orig s : State} (h : Kept orig s)  :
    Kept orig (State.failsafe s) := by
  unfold State.failsafe
  repeat' with_reducible first | assumption | intro _ | apply State.epEnable_kept | apply State.setEp_kept | apply State.sealSet_kept | apply State.mslExtend_kept | apply State.condOn_kept | apply State.modBoot_kept | apply State.wr64_kept | apply State.setN_kept | apply State.put_kept | apply ite_kept | dsimp only | split | rfl

theorem State.copyRefused_kept {orig s : State} (h : Kept orig s) (code : Nat) :
    Kept orig (State.copyRefused s code) := by
  unfold State.copyRefused
  repeat' with_reducible first | assumption | intro _ | apply State.raise_kept | apply State.put_kept

theorem State.copyNext_kept {orig s : State} (h : Kept orig s)  :
    Kept orig (State.copyNext s) := by
  unfold State.copyNext
  repeat' with_reducible first | assumption | intro _ | apply State.failsafe_kept | apply State.modBoot_kept | dsimp only | split | rfl

theorem State.fuseShow_kept {orig s : State} (h : Kept orig s) (f : Fuses) :
    Kept orig (State.fuseShow s f) := by
  unfold State.fuseShow
  repeat' with_reducible first | assumption | intro _ | apply State.mslExtend_kept | apply State.wr64_kept | apply State.setN_kept | apply State.putB_kept | apply State.on_kept | apply State.put_kept | apply foldl_kept | dsimp only

theorem State.flashShow_kept {orig s : State} (h : Kept orig s) (f : FlashImage) :
    Kept orig (State.flashShow s f) := by
  unfold State.flashShow
  repeat' with_reducible first | assumption | intro _ | apply State.fresh_kept | apply State.setN_kept | apply State.putB_kept | apply State.on_kept | refine snd_kept ?_ (by assumption) | refine snd3_kept ?_ (by assumption) | dsimp only | split

theorem State.fuseLoaded_kept {orig s : State} (h : Kept orig s) (fuses : Fuses) (flash : FlashImage) :
    Kept orig (State.fuseLoaded s fuses flash) := by
  have f : fusesKept s.fuse (some (s.fuse.getD fuses)) := by
    cases s.fuse <;> simp [fusesKept]
  unfold State.fuseLoaded
  exact State.copyNext_kept (State.flashShow_kept (State.fuseShow_kept (State.on_kept (State.setFlash_kept (State.setFuse_kept h f) _) _) _) _)

theorem execFuseLoadDone_kept {orig s : State} (h : Kept orig s) (fuses : Fuses) (flash : FlashImage) :
    OutKept orig (execFuseLoadDone fuses flash s) := by
  unfold execFuseLoadDone
  repeat' with_reducible first | assumption | intro _ | apply State.fuseLoaded_kept | apply next_kept | apply ite_kept | apply outIte_kept | dsimp only | split

theorem State.measure_kept {orig s : State} (h : Kept orig s) (b : List Byte) :
    Kept orig (State.measure s b) := by
  unfold State.measure
  repeat' with_reducible first | assumption | intro _ | apply State.mslExtend_kept | apply foldl_kept | dsimp only

theorem State.imageVerified_kept {orig s : State} (h : Kept orig s)  :
    Kept orig (State.imageVerified s) := by
  unfold State.imageVerified
  repeat' with_reducible first | assumption | intro _ | apply State.measure_kept | apply State.copyNext_kept | apply State.copyRefused_kept | apply State.modBoot_kept | apply State.on_kept | apply State.put_kept | apply ite_kept | dsimp only | split | rfl

theorem execImageVerified_kept {orig s : State} (h : Kept orig s)  :
    OutKept orig (execImageVerified s) := by
  unfold execImageVerified
  repeat' with_reducible first | assumption | intro _ | apply State.imageVerified_kept | apply State.settle_kept | apply next_kept | apply ite_kept | apply outIte_kept | dsimp only | split

theorem State.ddrTrained_kept {orig s : State} (h : Kept orig s) (mib : Nat) (us : Nat) :
    Kept orig (State.ddrTrained s mib us) := by
  unfold State.ddrTrained
  repeat' with_reducible first | assumption | intro _ | apply State.modBoot_kept | apply State.setN_kept | apply State.on_kept | apply State.put_kept | apply ite_kept | apply ite2_kept | apply foldl_kept | dsimp only | split | rfl

theorem State.ddrFailed_kept {orig s : State} (h : Kept orig s)  :
    Kept orig (State.ddrFailed s) := by
  unfold State.ddrFailed
  repeat' with_reducible first | assumption | intro _ | apply State.failsafe_kept | apply State.event_kept | apply State.modBoot_kept | apply State.fresh_kept | apply State.setN_kept | apply ite_kept | apply ite2_kept | apply foldl_kept | apply foldlP_kept | refine snd_kept ?_ (by assumption) | refine snd3_kept ?_ (by assumption) | dsimp only | split | rfl

theorem execDdrTrainingDone_kept {orig s : State} (h : Kept orig s) (ok : Bool) (mib : Nat) (us : Nat) :
    OutKept orig (execDdrTrainingDone ok mib us s) := by
  unfold execDdrTrainingDone
  repeat' with_reducible first | assumption | intro _ | apply State.ddrFailed_kept | apply State.ddrTrained_kept | apply State.settle_kept | apply next_kept | apply ite_kept | apply outIte_kept | dsimp only | split

theorem State.recWrite_kept {orig s : State} (h : Kept orig s) (w : Nat × Nat × Nat) :
    Kept orig (State.recWrite s w) := by
  unfold State.recWrite
  repeat' with_reducible first | assumption | intro _ | apply State.writeDword_kept | apply ite_kept | refine snd_kept ?_ (by assumption) | refine snd3_kept ?_ (by assumption) | dsimp only | split

theorem State.recWait_kept {orig s : State} (h : Kept orig s) (met : Bool) (r : PRec) :
    Kept orig (State.recWait s met r).2 := by
  unfold State.recWait
  repeat' with_reducible first | assumption | intro _ | apply State.importDone_kept | apply State.off_kept | apply ite_kept | apply ite2_kept | apply optGetD_kept | apply optOr_kept | dsimp only | split

theorem State.records_kept {orig s : State} (h : Kept orig s) (met : Bool) (l : List PRec) :
    Kept orig (s.records met l).2 := by
  induction l generalizing s with
  | nil => exact State.flushHeld_kept h _
  | cons r rest ih =>
    unfold State.records
    have g := State.recWait_kept (State.flushHeld_kept h .fw) met r
    split
    · dsimp only
      split
      · exact ih g
      · exact g
    · exact ih (foldl_kept h fun _ _ k => State.recWrite_kept k _)

theorem State.refuseApplied_kept {orig s : State} (h : Kept orig s) (code : Nat) :
    Kept orig (State.refuseApplied s code) := by
  unfold State.refuseApplied
  repeat' with_reducible first | assumption | intro _ | apply State.copyRefused_kept | apply State.coreReset_kept

theorem State.keepBase_kept {orig s : State} (h : Kept orig s)  :
    Kept orig (State.keepBase s) := by
  unfold State.keepBase
  repeat' with_reducible first | assumption | intro _ | apply State.modBoot_kept | apply foldl_kept | dsimp only | rfl

theorem State.imageShow_kept {orig s : State} (h : Kept orig s)  :
    Kept orig (State.imageShow s) := by
  unfold State.imageShow
  repeat' with_reducible first | assumption | intro _ | apply State.keepBase_kept | apply State.records_kept | apply State.modBoot_kept | apply State.wr64_kept | apply State.setN_kept | apply State.on_kept | apply State.put_kept | dsimp only | rfl

theorem State.imageDerive_kept {orig s : State} (h : Kept orig s)  :
    Kept orig (State.imageDerive s) := by
  unfold State.imageDerive
  repeat' with_reducible first | assumption | intro _ | apply State.edsttShow_kept | apply State.routesDerive_kept | apply State.partnerCheck_kept | apply State.dramShow_kept | apply State.fresh_kept | apply State.wr64_kept | apply State.setN_kept | apply State.on_kept | refine snd_kept ?_ (by assumption) | refine snd3_kept ?_ (by assumption) | dsimp only | split

theorem imageRest2_kept {orig s7 : State} (h : Kept orig s7) (c : Prop) [Decidable c] : Kept orig (
    let s8 := if s7.epState = epNotReady then s7.setEp epReady else s7
    if c then (s8.on Fld.TOP.STATUS.HOLD_SEAL).modBoot fun x => { x with phase := 5 }
    else (s8.sealSet.put Fld.TOP.STATUS.MODE 1).modBoot fun x => { x with phase := 6 }) := by
  have h8 : Kept orig (if s7.epState = epNotReady then s7.setEp epReady else s7) := ite_kept (State.setEp_kept h _) h
  generalize (if s7.epState = epNotReady then s7.setEp epReady else s7) = s8 at h8 ⊢
  exact ite_kept (State.modBoot_kept (State.on_kept h8 _) rfl)
    (State.modBoot_kept (State.put_kept (State.sealSet_kept h8) _ _) rfl)

theorem imageRest1_kept {orig s0 : State} (h : Kept orig s0) (c : Prop) [Decidable c] : Kept orig (
    let s7 := (List.range 8).foldl State.applyGates s0.imageShow.imageDerive
    let s8 := if s7.epState = epNotReady then s7.setEp epReady else s7
    if c then (s8.on Fld.TOP.STATUS.HOLD_SEAL).modBoot fun x => { x with phase := 5 }
    else (s8.sealSet.put Fld.TOP.STATUS.MODE 1).modBoot fun x => { x with phase := 6 }) := by
  have h7 : Kept orig ((List.range 8).foldl State.applyGates s0.imageShow.imageDerive) :=
    foldl_kept (State.imageDerive_kept (State.imageShow_kept h)) fun _ x k => State.applyGates_kept k x
  generalize (List.range 8).foldl State.applyGates s0.imageShow.imageDerive = s7 at h7 ⊢
  exact imageRest2_kept h7 _

theorem State.imageRest_kept {orig s : State} (h : Kept orig s) : Kept orig s.imageRest := by
  have h0 : Kept orig (s.modBoot fun b => { b with nqn := Config.imageNqn b.image }) := State.modBoot_kept h rfl
  unfold State.imageRest
  generalize (s.modBoot fun b => { b with nqn := Config.imageNqn b.image }) = s0 at h0 ⊢
  exact imageRest1_kept h0 _

theorem State.imageApply_kept {orig s : State} (h : Kept orig s) (strips : Nat) (met : Bool) :
    Kept orig (State.imageApply s strips met) := by
  unfold State.imageApply
  repeat' with_reducible first | assumption | intro _ | apply State.imageRest_kept | apply State.refuseApplied_kept | apply State.records_kept | apply State.copyNext_kept | apply State.copyRefused_kept | apply State.layoutCheck_kept | apply ite_kept | apply optGetD_kept | apply optOr_kept | dsimp only | split

theorem execImageApply_kept {orig s : State} (h : Kept orig s) (strips : Nat) (waitsMet : Bool) :
    OutKept orig (execImageApply strips waitsMet s) := by
  unfold execImageApply
  repeat' with_reducible first | assumption | intro _ | apply State.imageApply_kept | apply State.settle_kept | apply next_kept | apply ite_kept | apply outIte_kept | dsimp only | split

theorem State.overlayPass_kept {orig s : State} (h : Kept orig s) (m : Nat) :
    Kept orig (State.overlayPass s m) := by
  unfold State.overlayPass
  repeat' with_reducible first | assumption | intro _ | apply State.records_kept | apply State.edsttShow_kept | apply State.writeDword_kept | apply State.flushHeld_kept | apply State.darkChange_kept | apply State.event_kept | apply State.modBoot_kept | apply State.put_kept | apply ite_kept | apply ite2_kept | apply foldl_kept | apply foldlP_kept | refine snd_kept ?_ (by assumption) | refine snd3_kept ?_ (by assumption) | dsimp only | split | rfl

theorem execOverlayApply_kept {orig s : State} (h : Kept orig s)  :
    OutKept orig (execOverlayApply s) := by
  unfold execOverlayApply
  repeat' with_reducible first | assumption | intro _ | apply State.overlayPass_kept | apply State.ovlShow_kept | apply State.advTo_kept | apply State.modTg_kept | apply State.settle_kept | apply State.modBoot_kept | apply next_kept | apply ite_kept | apply outIte_kept | dsimp only | split | rfl

theorem State.moveStart_kept {orig s : State} (h : Kept orig s) (e : Nat × Nat) :
    Kept orig (State.moveStart s e) := by
  unfold State.moveStart
  repeat' with_reducible first | assumption | intro _ | apply State.routeRead_kept | apply State.setCmd_kept | dsimp only | split

theorem State.compact_kept {orig s : State} (h : Kept orig s)  :
    Kept orig (State.compact s) := by
  unfold State.compact
  repeat' with_reducible first | assumption | intro _ | apply State.moveStart_kept | apply State.recIssue_kept | apply ite_kept | dsimp only | split

theorem State.darkMicro_kept {orig s : State} (h : Kept orig s) (n : Nat) :
    Kept orig (State.darkMicro s n) := by
  unfold State.darkMicro
  repeat' with_reducible first | assumption | intro _ | apply State.modTb_kept | apply State.modMb_kept | apply ite_kept | dsimp only | split

theorem State.darkTick_kept {orig s : State} (h : Kept orig s)  :
    Kept orig (State.darkTick s) := by
  unfold State.darkTick
  repeat' with_reducible first | assumption | intro _ | apply State.darkMicro_kept | apply foldl_kept | dsimp only

theorem State.ptpTick_kept {orig s : State} (h : Kept orig s)  :
    Kept orig (State.ptpTick s) := by
  unfold State.ptpTick
  repeat' with_reducible first | assumption | intro _ | apply State.modTg_kept | apply State.wr64_kept | dsimp only

theorem idleTick_kept {orig s : State} (h : Kept orig s) : Kept orig (idleTick s) := by
  have g : Kept orig { s with now := s.now + 1000 } := ⟨h.pending, h.fuse, Nat.le_add_right_of_le h.now, h.canon⟩
  unfold idleTick
  exact ite_kept (State.compact_kept (State.darkTick_kept (State.count_kept (State.ptpTick_kept g) _))) g

end Sys2Proof.Machine
end

