-- ==== Sys2Proof/WellFormed.lean ====
section
/-! DEFINITION. Which commands are well formed: every operand lies in the range that the register, the field or the
interface it stands for has.  The meanings are total; what one does with an operand outside its range is not the part's. -/

namespace Sys2Proof

/-- A number fits its range. -/
def below (n b : Nat) : Bool := decide (n < b)

/-- A stored block carries 4,096 bytes of data and 16 bytes of host protection information (R78). -/
def Blk.wf (b : Blk) : Bool := b.data.length == 4096 && b.pi.length == 16

/-- Lines of Garnet: those of the ring, the tails, staging, mirror receive, the dump and Carillon, in this order (R16, R116). -/
def linesWf (l : List Nat) : Bool := l.all fun n => below n 2260992

/-- Blocks that members return are blocks (R78). -/
def BgIo.wf (x : BgIo) : Bool := (x.strips.all fun e => e.2.all Blk.wf) && linesWf x.fixed

/-- A block of host data carries 4,096 bytes (R28). -/
def HostBlk.wf (b : HostBlk) : Bool := b.data.length == 4096

/-- A frame's fields fit their places on the wire. -/
def EthFrame.wf (f : EthFrame) : Bool := below f.dmac (2 ^ 48) && below f.smac (2 ^ 48) && below f.ecn 4

/-- An access on a path: of some bytes on path E (R311), of an aligned dword on the others (R321, R322). -/
def accessOk (p : Path) (off len : Nat) : Bool := if p = .e then len != 0 else len == 4 && off % 4 == 0

/-- The command is well formed. (DESIGN CHOICE, log entry 138.) -/
def Instr.wf : Instr → Bool
  | .refMeasure _ => true
  | .refLost => true
  | .clkLockLost => true
  | .alwaysOnRelease => true
  | .porstAssert => true
  | .supplyOutOfRange supply => below supply 8
  | .coreResetRelease => true
  | .fuseLoadDone _ _ => true
  | .imageVerified => true
  | .ddrTrainingDone _ mib us => below mib (2 ^ 17) && below us (2 ^ 32)
  | .imageApply _ _ => true
  | .sealGo => true
  | .slotDiscovery present => present.all fun n => below n 48
  | .replay _ _ _ _ => true
  | .pfailFall => true
  | .pfailRise => true
  | .dumpComplete us bad => below us 65536 && linesWf bad
  | .cfgStage => true
  | .stageComplete _ => true
  | .cfgActivate => true
  | .cfgRaiseSvn => true
  | .cfgOwnerFuse => true
  | .cfgExtend arg => below arg 16
  | .ovlRequest ovl => below ovl 16
  | .overlayApply => true
  | .getVersion carrier _ => below carrier 3
  | .getCapabilities carrier _ => below carrier 3
  | .negotiateAlgorithms carrier _ _ _ => below carrier 3
  | .getDigests carrier _ => below carrier 3
  | .getCertificate carrier _ slot off len => below carrier 3 && below slot 8 && below off 65536 && below len (2 ^ 32)
  | .challenge carrier _ slot nonce => below carrier 3 && below slot 8 && nonce.length == 32
  | .getMeasurements carrier _ index _ nonce => below carrier 3 && below index 256 && nonce.length == 32
  | .setEndpointId carrier eid => below carrier 3 && below eid 256
  | .getEndpointId carrier => below carrier 3
  | .getEndpointUuid carrier => below carrier 3
  | .getMctpVersionSupport carrier msgType => below carrier 3 && below msgType 256
  | .getMessageTypeSupport carrier => below carrier 3
  | .securitySend cntlid cid _ _ => below cntlid 65536 && below cid 65536
  | .securityReceive cntlid cid alloc _ => below cntlid 65536 && below cid 65536 && below alloc (2 ^ 32)
  | .fabricsConnect conn port qid cntlid _ _ _ cid nqn =>
    below conn 16384 && below port 8 && below qid 65536 && below cntlid 65536 && below cid 65536
      && decide (nqn.length ≤ 223)
  | .propertyGet cntlid cid off => below cntlid 65536 && below cid 65536 && below off 65536
  | .propertySet cntlid cid off value =>
    below cntlid 65536 && below cid 65536 && below off 65536 && below value (2 ^ 64)
  | .fabricsDisconnect cntlid qid cid => below cntlid 65536 && below qid 65536 && below cid 65536
  | .identify cntlid cid cns csi nsid _ =>
    below cntlid 65536 && below cid 65536 && below cns 256 && below csi 256 && below nsid (2 ^ 32)
  | .getLogPage cntlid cid lid nsid off len _ =>
    below cntlid 65536 && below cid 65536 && below lid 256 && below nsid (2 ^ 32) && below off (2 ^ 64)
      && below len (2 ^ 32)
  | .setFeatures cntlid cid fid value => below cntlid 65536 && below cid 65536 && below fid 256 && below value (2 ^ 32)
  | .getFeatures cntlid cid fid => below cntlid 65536 && below cid 65536 && below fid 256
  | .asyncEventRequest cntlid cid => below cntlid 65536 && below cid 65536
  | .keepAlive cntlid cid => below cntlid 65536 && below cid 65536
  | .keepAliveExpiry cntlid => below cntlid 65536
  | .abort cntlid cid sqid target => below cntlid 65536 && below cid 65536 && below sqid 65536 && below target 65536
  | .selftestShort cntlid cid nsid _ => below cntlid 65536 && below cid 65536 && below nsid (2 ^ 32)
  | .selftestExtended cntlid cid nsid _ => below cntlid 65536 && below cid 65536 && below nsid (2 ^ 32)
  | .selftestAbort cntlid cid stc => below cntlid 65536 && below cid 65536 && below stc 16 && stc != 1 && stc != 2
  | .selftestSegmentDone _ => true
  | .vendorRegisterRead cntlid cid off _ => below cntlid 65536 && below cid 65536 && below off (2 ^ 25)
  | .vendorRegisterWrite cntlid cid off value =>
    below cntlid 65536 && below cid 65536 && below off (2 ^ 25) && below value (2 ^ 32)
  | .read tag => below tag 65536
  | .flush tag => below tag 65536
  | .write tag => below tag 65536
  | .writeZeroes tag => below tag 65536
  | .datasetManagement tag => below tag 65536
  | .zoneAppend tag => below tag 65536
  | .zoneOpen tag => below tag 65536
  | .zoneClose tag => below tag 65536
  | .zoneFinish tag => below tag 65536
  | .zoneReset tag => below tag 65536
  | .zoneOffline tag => below tag 65536
  | .zoneMgmtReceive tag => below tag 65536
  | .commandAccept fixed => linesWf fixed
  | .backgroundWindowEnd slot => below slot 48
  | .nsCreate => true
  | .nsDelete => true
  | .nsDeleteComplete => true
  | .failbackRequest => true
  | .failbackOwnershipPass fixed _ => linesWf fixed
  | .zoneSelectLoad zone => below zone (2 ^ 24)
  | .hostInvalidate host => below host 1024
  | .hostAccessMapWrite host m value => below host 1024 && below m 32 && below value (2 ^ 32)
  | .strProbe pos => below pos 32
  | .slotRecomputeDone slot io => below slot 256 && io.wf
  | .reconstructionStart _ => true
  | .reconstructionDone _ => true
  | .berylShareWindowEnd => true
  | .darkEpochBoundary => true
  | .idleTimeout slot => below slot 48
  | .activationDone slot => below slot 48
  | .memberShutdownComplete slot => below slot 48
  | .shutdownWaitTimeout slot waitMs => below slot 48 && below waitMs 65536
  | .wakeComplete slot _ _ ms => below slot 48 && below ms 65536
  | .wakeTimeout slot => below slot 48
  | .deferExpiry _ => true
  | .pwrConfigWrite which value => below which 4 && below value (2 ^ 32)
  | .darkTimeRecord => true
  | .journalRecordWritten _ bad staged => bad.all (below · 16) && staged.all (below · 131072)
  | .tailWriteComplete slot idx tag bad => below slot 256 && below idx 16 && below tag 65537 && bad.all (below · 65)
  | .chunkWearCopy chunk _ fixed => below chunk (2 ^ 20) && linesWf fixed
  | .checkpointStart => true
  | .checkpointCommit io => io.wf
  | .ringCopyStream io => io.wf
  | .keeperCopyDone io => io.wf
  | .mirrorRecordReceive path mseq _ bad => below path 2 && below mseq (2 ^ 48) && bad.all (below · 65)
  | .mirrorAckReceive path upTo _ => below path 2 && below upTo (2 ^ 48)
  | .mirrorRetxTimeout mseq => below mseq (2 ^ 48)
  | .mirrorPathDown path => below path 2
  | .heartbeatSend => true
  | .heartbeatReceive path _ _ _ => below path 2
  | .partnerSilent => true
  | .reservationResult _ fixed _ => linesWf fixed
  | .verifyRecordSend => true
  | .linkDownAbsent slot => below slot 48
  | .absentHoldExpiry col => below col 48
  | .driveAdmissionCheck slot _ => below slot 48
  | .memberFailCmd slot => below slot 48
  | .memberAdopt slot => below slot 48
  | .memberClearRefused slot => below slot 48
  | .scrubStart => true
  | .scrubStop => true
  | .rebuildStripe col io => below col 48 && io.wf
  | .resyncStrip col io => below col 48 && io.wf
  | .copybackStripe col io => below col 48 && io.wf
  | .scrubStripe io => io.wf
  | .repairDone col _ io => below col 48 && io.wf
  | .frameArrival port f => below port 8 && f.wf
  | .rcRequestReceive conn port pkt => below conn 16384 && below port 8 && below pkt.psn (2 ^ 24)
  | .ackReceive conn psn _ => below conn 16384 && below psn (2 ^ 24)
  | .nakSequenceErrorReceive conn psn _ => below conn 16384 && below psn (2 ^ 24)
  | .nakErrorReceive conn kind _ => below conn 16384 && below kind 8
  | .rnrNakReceive conn psn _ => below conn 16384 && below psn (2 ^ 24)
  | .rnrRetryTimerExpiry conn => below conn 16384
  | .ackTimeout conn => below conn 16384
  | .ackCoalesceExpiry conn => below conn 16384
  | .readResponseReceive conn psn _ blks => below conn 16384 && below psn (2 ^ 24) && blks.all HostBlk.wf
  | .rdmaReadIssue tag => below tag 65536
  | .windowWriteReceive conn psn _ _ _ _ key addr len _ =>
    below conn 16384 && below psn (2 ^ 24) && below key (2 ^ 32) && below addr (2 ^ 64) && below len (2 ^ 32)
  | .windowReadRequest conn psn _ key addr len =>
    below conn 16384 && below psn (2 ^ 24) && below key (2 ^ 32) && below addr (2 ^ 64) && below len (2 ^ 32)
  | .cnpReceive conn => below conn 16384
  | .ccRateIncrease conn => below conn 16384
  | .cmReq port _ _ _ _ _ _ _ psn _ => below port 8 && below psn (2 ^ 24)
  | .cmDreqReceive conn => below conn 16384
  | .setupTimeout conn => below conn 16384
  | .contextFetchDone conn ns => below conn 16384 && below ns (2 ^ 32)
  | .deadlineScan => true
  | .winCommit => true
  | .winOldRelease => true
  | .responderResourceTimeout conn psn => below conn 16384 && below psn (2 ^ 24)
  | .pfcFrameReceive port enable _ => below port 8 && below enable 256
  | .pfcWatchdogExpiry port prio => below port 8 && below prio 8
  | .pfcStormEnd port prio => below port 8 && below prio 8
  | .portLinkUp port => below port 8
  | .portLinkDown port => below port 8
  | .forwardedCommandReceive _ blks => below blks.length 1025
  | .egressFrameStart port => below port 8
  | .frameAgeDrop port tc => below port 8 && below tc 8
  | .pfcXoffRefresh port prio => below port 8 && below prio 8
  | .neighAgeOut index => below index 4096
  | .tblCommitEntry => true
  | .tblCommitAddress => true
  | .tblSelectLoad value => below value (2 ^ 32)
  | .identityFrameSend port => below port 8
  | .identityFrameReceive port board dev _ _ smac =>
    below port 8 && below board (2 ^ 32) && below dev 256 && below smac (2 ^ 48)
  | .topoNoPeerTimeout port => below port 8
  | .ptpMessageReceive port _ _ _ _ _ => below port 8
  | .syncLossTimeout => true
  | .ptpSyncSend port => below port 8
  | .ppsInEdge => true
  | .ppsInLost => true
  | .ppsOutRise => true
  | .ppsOutFall => true
  | .ptpSetGo => true
  | .ptpTimeSet => true
  | .gateEntryStart list => below list 8
  | .listCommit => true
  | .listStart list => below list 8
  | .shaperRefill => true
  | .policerRefill => true
  | .dmaDoorbell _ ch => below ch 32
  | .dmaStop _ ch => below ch 32
  | .dmaReset _ ch => below ch 32
  | .descFetchDone ch _ => below ch 32
  | .dmaReadBurst _ err => below err 16
  | .dmaWriteBurst err => below err 16
  | .dmaWriteComplete ch err => below ch 32 && below err 16
  | .tailRefetch ch _ => below ch 32
  | .periphRequestChange line _ => below line 16
  | .periphFinalRequest line _ _ => below line 16
  | .keyImport => true
  | .keyImportDone => true
  | .keyZeroiseSlot slot => below slot 4096
  | .keyZeroiseAll => true
  | .zeroiseDone => true
  | .tamperAlarm detector => below detector 4
  | .aesFloorWindowEnd => true
  | .perstRelease slot => below slot 48
  | .linkL0Reached slot speed width => below slot 48 && below speed 16 && below width 64
  | .trainingTimeout slot => below slot 48
  | .portConfigured slot critWarn => below slot 48 && below critWarn 256
  | .linkLeavesL0 slot => below slot 48
  | .recoveryTimeout slot => below slot 48
  | .portQuiesced slot => below slot 48
  | .memberRequestIssue slot => below slot 48
  | .memberCompletion slot tag status blks => below slot 48 && below tag 2048 && below status 2048 && blks.all Blk.wf
  | .completionTimeout slot tag => below slot 48 && below tag 2048
  | .tagQuarantineEnd slot tag => below slot 48 && below tag 2048
  | .memberInboundWrite slot addr _ => below slot 48 && below addr (2 ^ 64)
  | .memberInboundRead slot addr len => below slot 48 && below addr (2 ^ 64) && below len (2 ^ 32)
  | .memberAsyncEvent slot critWarn => below slot 48 && below critWarn 256
  | .presenceChange slot _ => below slot 48
  | .buttonPress slot => below slot 48
  | .buttonWindowExpiry slot => below slot 48
  | .slotRemoveRequest slot => below slot 48
  | .miPoll slot _ => below slot 48
  | .miBusStuck chain _ => below chain 4
  | .miSuspendEnd chain => below chain 4
  | .portEnableWrite slot _ => below slot 48
  | .memberCfgRead slot => below slot 48
  | .memberCfgWrite slot => below slot 48
  | .memberCfgDone slot result _ => below slot 48 && below result 8
  | .dclkStop k => below k 12
  | .slotDemand slot => below slot 48
  | .rampGrant slot senseMv => below slot 48 && below senseMv 65536
  | .rampComplete slot us _ => below slot 48 && below us 65536
  | .inrushTimerExpiry slot => below slot 48
  | .fastTrip slot => below slot 48
  | .diodeMeasure slot _ => below slot 48
  | .thermalModelUpdate slot powerMw => below slot 48 && below powerMw (2 ^ 20)
  | .overloadEntry slot curMa voutMv _ => below slot 48 && below curMa 65536 && below voutMv 65536
  | .pgReturn slot => below slot 48
  | .faultTimerExpiry slot => below slot 48
  | .backoffExpiry slot => below slot 48
  | .attemptReset slot => below slot 48
  | .slotDemandWithdrawn slot => below slot 48
  | .shutdownComplete slot => below slot 48
  | .minOffExpiry slot => below slot 48
  | .slotClear slot => below slot 48
  | .openSenseInjection _ _ => true
  | .feedUnusable feed _ => below feed 2
  | .feedQualified feed _ => below feed 2
  | .feedDeadTimeExpiry => true
  | .feedSwitchComplete => true
  | .feedUvMaskEnd => true
  | .feedRevert => true
  | .feedReversed feed _ => below feed 2
  | .feedReverseClear feed => below feed 2
  | .shelfStopCmd => true
  | .shelfResume => true
  | .epPerstChange _ => true
  | .epLinkUp speed width => below speed 16 && below width 64
  | .epLinkDown => true
  | .functionLevelReset => true
  | .epEnableWrite _ => true
  | .funcResetDone => true
  | .epConfigRequest _ off value => below off 4096 && below value (2 ^ 32)
  | .bar2Read off len _ => below off (2 ^ 64) && below len (2 ^ 32)
  | .bar2Write off _ _ => below off (2 ^ 64)
  | .msixTableWrite off value => below off 65536 && below value (2 ^ 32)
  | .epCompletionTimeout ch => below ch 32
  | .sbRegisterRead off _ => below off (2 ^ 25)
  | .sbRegisterWrite off value _ => below off (2 ^ 25) && below value (2 ^ 32)
  | .sbStatusRead => true
  | .lockWrite _ value => below value (2 ^ 32)
  | .lockTimeout => true
  | .tocsinPulseEnd => true
  | .tocsinRestart => true
  | .pendClear m value => below m 48 && below value (2 ^ 32)
  | .fltClearFirst => true
  | .coreResetCmd => true
  | .haltHoldExpiry => true
  | .coreWatchdogMiss => true
  | .carillonRecordWrite _ => true
  | .evrFreezeWrite value => below value (2 ^ 32)
  | .freezeExpiry => true
  | .carillonClear _ => true
  | .userRecord tag => below tag (2 ^ 32)
  | .recordLatch slot => below slot 65536
  | .counterClearSel => true
  | .counterClearAll => true
  | .bwWindowEnd => true
  | .registerWrite p off value len => below off (2 ^ 25) && below value (2 ^ (8 * len)) && below len 513 && accessOk p off len
  | .rcRegisterRead p off len => below off (2 ^ 25) && below len 4097 && accessOk p off len
  | .pairLowRead _ off => below off (2 ^ 25)
  | .pairLowWriteTimeout _ => true
  | .dramEccCorrected ch addr devs => below ch 2 && below addr (2 ^ 64) && below devs (2 ^ 18)
  | .dramEccUncorrectable ch addr devs _ => below ch 2 && below addr (2 ^ 64) && below devs (2 ^ 18)
  | .tablePageReloadDone page => below page (2 ^ 24)
  | .patrolPassDone ch => below ch 2
  | .dramHot ch temp => below ch 2 && below temp 256
  | .dramCool ch temp => below ch 2 && below temp 256
  | .sidebandXferStart k => below k 4
  | .sidebandXferDone k result _ => below k 4 && below result 8
  | .refReturn => true
  | .rootPllRelock => true
  | .controllerFatalStatus slot => below slot 48
  | .controllerReadyTimeout slot => below slot 48
  | .gateChargePumpUv _ => true
  | .announceReceiptTimeout port _ => below port 8
  | .tocsinAliveEdge => true
  | .pfcPauseExpiry port prio => below port 8 && below prio 8
  | .firmwareSourceRaise source => below source 1536

end Sys2Proof
end

