-- ==== Sys2Proof/Tests/Slice0.lean ====
section
/-! SUPPORT. Tests: ill-formed commands are refused by WellFormed, the manual's worked examples, single steps, and for every
obligation states and operands that meet the hypotheses of each of its clauses. -/

namespace Sys2Proof.Machine
open Sys2Proof
set_option Elab.async false

/-! ### Example values and a running part -/

def aFuses : Fuses := ⟨0, 1, 0, [], [], [], 0, none, 0, 0⟩

def bFuses : Fuses := { aFuses with ownerHash := some 0 }

def aFlash : FlashImage := ⟨[], [], [], []⟩

def aLay : Layout := ⟨4, 4, 0, 1, 64, 64, 0, 64, [[0, 1, 2, 3]], [0, 1, 2, 3]⟩

def aCtrl : Ctrl := ⟨5, 1, 0, 1, 10000, 0, 0, [], [], [], []⟩

def aQueue : Queue := ⟨5, 0, 32, 3, 0, []⟩

def aConn : Conn := ⟨1, 0, some 5, none, 0, 31, 1, 0, 4, 3, 0, 0, false, 1, 0, [], 0, 0, some 1, none, [], [], 0, none, none, 0, none, 0, []⟩

def aWin : Win := ⟨2 ^ 31 + 2 ^ 30 + 2 ^ 29 + 5, 7, 4096, 4096⟩

def anIo (o : IoOp) (z : ZAct) : IoCmd := ⟨o, 1, 0, 1, [], false, 0, 0, 0, 0, z, false, 0x40, 0, 0, 4096⟩

def aCmd (io : Option IoCmd) : Cmd :=
  ⟨5, 1, 7, 3, io, 2, 0, .running, false, false, 0, false, 0, false, none, 0, 0, 0, 0, 0, 1, 0, 0, false, [], 0, 0, 5, 0, 0, 0, 0, false, false, none⟩

def aNs : Ns := ⟨0, 100, [0], true, false⟩

def aHost : HostEnt := ⟨List.replicate 224 0, 5, [1], [0, 0, 0, 0]⟩

def aReq : MReq := ⟨2, 3, false, 0, 0, 0, 1, 0, 0, 3, .host 4 2, [], 0⟩

def aTag : PTag := ⟨aReq, false, 0, [], 0⟩

def oldTag : PTag := ⟨aReq, true, 0, [], 0⟩

def aDrive : DriveId := ⟨9, 9, true, 4096, true, false, 0, 0, 0, [], 0, 0⟩

def noDrive : DriveId := ⟨0, 0, true, 4096, true, false, 0, 0, 0, [], 0, 0⟩

def aBlk : Blk := ⟨[], [], ⟨0, 0, 0, 0, 0, 0, 0, false, 0, 0, 0⟩, 0, 0⟩

def aRec : CarRec := ⟨1, 0, false, false, false, false, 0, 0, 0, 0, 0⟩

def aDesc : Desc := ⟨0, 0, 64, 1, 0, 0, 0, 0, 0, 0, 0⟩

def lineDesc : Desc := ⟨0, 0, 64, 1, 2, 0, 0, 0, 0, 0, 0⟩

def aJob : Job := ⟨64, aDesc, 0, 0, none, false, []⟩

def aFrame : SwFrame := ⟨0, ⟨64, 14, true, none, false, 0, 0, none, none, false, none, 0, .other, none⟩, 0, 4, 3, 2, 1, 1, 0, 0, [(1, 0)], false, false⟩

def aSet : GSet := ⟨0, 1000, [(255, 1000)], 0, 0⟩

def aRecon : Recon := ⟨5, 0, 0, 0, 1, 4, 2, 3, false, [], 0, false, 0, none, []⟩

def aSgl : Sgl := ⟨0x40, 0, 0⟩

def noIo : BgIo := ⟨[], [], [], 0, []⟩

def aRing : RingRec := ⟨3, 0, 1, .pad, 0, false, none, 0, none⟩

def someDrive : Column := { Column.vacant with st := 2, serial := 9, nguidCrc := 9 }

def live : State :=
  { State.reset with
    regs := [], aon := { Aon.reset with coreUp := true, released := true, porst := true, pfail := true, squelched := false },
    fuse := some aFuses, flash := some aFlash, lay := some aLay,
    boot := { Boot.reset with phase := 6 },
    tb := { Tables.reset with
      cols := [someDrive, { someDrive with serial := 8 }, { someDrive with serial := 7 }, { someDrive with serial := 6 }],
      nss := [(1, aNs)], keepers := [0, 1, 2] },
    keys := ⟨[(0, ⟨1, 0, 0, false, []⟩)], none, [], 0, 0⟩,
    fr := { Front.reset with ctrls := [(5, aCtrl)], queues := [aQueue], cmds := [(4, aCmd (some (anIo .read .zopen)))], hosts := [(5, aHost)] },
    fab := { Fabric.reset with conns := [(3, aConn)] },
    mb := { Members.reset with power := List.replicate 4 { Power.reset with ps := 1 } } }

def State.withIo (s : State) (o : IoOp) (z : ZAct) : State :=
  s.modFr fun f => { f with cmds := [(4, aCmd (some (anIo o z)))] }

def State.withConn (s : State) (st : Nat) : State := s.modFab fun f => { f with conns := [(3, { aConn with st := st })] }

def State.withCol (s : State) (c : Column) : State :=
  { s with tb := { s.tb with cols := [someDrive, { someDrive with serial := 8 }, { someDrive with serial := 7 }, c] } }

def State.withPs (s : State) (p : Power) : State := s.modMb fun m => { m with power := [p, p, p, p] }

def State.withPort (s : State) (p : Port) : State := s.modMb fun m => { m with ports := List.replicate 48 p }

def State.withChan (s : State) (c : Chan) : State := s.modMb fun m => { m with chans := List.replicate 48 c }

def State.withDma (s : State) (c : DmaCh) : State := s.modDmac fun d => { d with chans := List.replicate 32 c }

def State.mirrored (s : State) : State := (s.on Fld.GNT.MIRROR_CFG.ENABLE).on Fld.SWC.TOPO_CFG.PARTNERED

/-- The state an outcome answers. -/
def nextOf (s : State) : Host.Outcome State Fault Refusal → State
  | .next t => t
  | _ => s

/-- The outcome is a next state. -/
def isNext : Host.Outcome State Fault Refusal → Bool
  | .next _ => true
  | _ => false

theorem eq_nextOf (s : State) (o : Host.Outcome State Fault Refusal) (h : isNext o = true) : o = .next (nextOf s o) := by
  cases o <;> first | rfl | cases h

/-- What the last step of a command sent. -/
def lastSent (c : Instr) (s : State) : Option Emit := (nextOf s (exec c s)).emitted.head?

/-! ### Ill-formed commands are refused -/

theorem test_ill_formed_1 : [(Instr.supplyOutOfRange 8).wf,
    (Instr.ddrTrainingDone false (2 ^ 17) 0).wf,
    (Instr.ddrTrainingDone false 0 (2 ^ 32)).wf,
    (Instr.slotDiscovery [48]).wf,
    (Instr.dumpComplete 65536 []).wf,
    (Instr.dumpComplete 0 [2260992]).wf,
    (Instr.cfgExtend 16).wf,
    (Instr.ovlRequest 16).wf,
    (Instr.getVersion 3 0).wf,
    (Instr.getCapabilities 3 0).wf,
    (Instr.negotiateAlgorithms 3 0 false false).wf,
    (Instr.getDigests 3 0).wf,
    (Instr.getCertificate 3 0 0 0 0).wf,
    (Instr.getCertificate 0 0 8 0 0).wf].all (· == false) = true := by decide +kernel

theorem test_ill_formed_2 : [(Instr.getCertificate 0 0 0 65536 0).wf,
    (Instr.getCertificate 0 0 0 0 (2 ^ 32)).wf,
    (Instr.challenge 3 0 0 (List.replicate 32 0)).wf,
    (Instr.challenge 0 0 8 (List.replicate 32 0)).wf,
    (Instr.challenge 0 0 0 []).wf,
    (Instr.getMeasurements 3 0 0 false (List.replicate 32 0)).wf,
    (Instr.getMeasurements 0 0 256 false (List.replicate 32 0)).wf,
    (Instr.getMeasurements 0 0 0 false []).wf,
    (Instr.setEndpointId 3 0).wf,
    (Instr.setEndpointId 0 256).wf,
    (Instr.getEndpointId 3).wf,
    (Instr.getEndpointUuid 3).wf,
    (Instr.getMctpVersionSupport 3 0).wf,
    (Instr.getMctpVersionSupport 0 256).wf].all (· == false) = true := by decide +kernel

theorem test_ill_formed_3 : [(Instr.getMessageTypeSupport 3).wf,
    (Instr.securitySend 65536 0 aSgl .getVersion).wf,
    (Instr.securitySend 0 65536 aSgl .getVersion).wf,
    (Instr.securityReceive 65536 0 0 aSgl).wf,
    (Instr.securityReceive 0 65536 0 aSgl).wf,
    (Instr.securityReceive 0 0 (2 ^ 32) aSgl).wf,
    (Instr.fabricsConnect 16384 0 0 0 0 0 0 0 []).wf,
    (Instr.fabricsConnect 0 8 0 0 0 0 0 0 []).wf,
    (Instr.fabricsConnect 0 0 65536 0 0 0 0 0 []).wf,
    (Instr.fabricsConnect 0 0 0 65536 0 0 0 0 []).wf,
    (Instr.fabricsConnect 0 0 0 0 0 0 0 65536 []).wf,
    (Instr.fabricsConnect 0 0 0 0 0 0 0 0 (List.replicate 224 0)).wf,
    (Instr.propertyGet 65536 0 0).wf,
    (Instr.propertyGet 0 65536 0).wf].all (· == false) = true := by decide +kernel

theorem test_ill_formed_4 : [(Instr.propertyGet 0 0 65536).wf,
    (Instr.propertySet 65536 0 0 0).wf,
    (Instr.propertySet 0 65536 0 0).wf,
    (Instr.propertySet 0 0 65536 0).wf,
    (Instr.propertySet 0 0 0 (2 ^ 64)).wf,
    (Instr.fabricsDisconnect 65536 0 0).wf,
    (Instr.fabricsDisconnect 0 65536 0).wf,
    (Instr.fabricsDisconnect 0 0 65536).wf,
    (Instr.identify 65536 0 0 0 0 aSgl).wf,
    (Instr.identify 0 65536 0 0 0 aSgl).wf,
    (Instr.identify 0 0 256 0 0 aSgl).wf,
    (Instr.identify 0 0 0 256 0 aSgl).wf,
    (Instr.identify 0 0 0 0 (2 ^ 32) aSgl).wf,
    (Instr.getLogPage 65536 0 0 0 0 0 aSgl).wf].all (· == false) = true := by decide +kernel

theorem test_ill_formed_5 : [(Instr.getLogPage 0 65536 0 0 0 0 aSgl).wf,
    (Instr.getLogPage 0 0 256 0 0 0 aSgl).wf,
    (Instr.getLogPage 0 0 0 (2 ^ 32) 0 0 aSgl).wf,
    (Instr.getLogPage 0 0 0 0 (2 ^ 64) 0 aSgl).wf,
    (Instr.getLogPage 0 0 0 0 0 (2 ^ 32) aSgl).wf,
    (Instr.setFeatures 65536 0 0 0).wf,
    (Instr.setFeatures 0 65536 0 0).wf,
    (Instr.setFeatures 0 0 256 0).wf,
    (Instr.setFeatures 0 0 0 (2 ^ 32)).wf,
    (Instr.getFeatures 65536 0 0).wf,
    (Instr.getFeatures 0 65536 0).wf,
    (Instr.getFeatures 0 0 256).wf,
    (Instr.asyncEventRequest 65536 0).wf,
    (Instr.asyncEventRequest 0 65536).wf].all (· == false) = true := by decide +kernel

theorem test_ill_formed_6 : [(Instr.keepAlive 65536 0).wf,
    (Instr.keepAlive 0 65536).wf,
    (Instr.keepAliveExpiry 65536).wf,
    (Instr.abort 65536 0 0 0).wf,
    (Instr.abort 0 65536 0 0).wf,
    (Instr.abort 0 0 65536 0).wf,
    (Instr.abort 0 0 0 65536).wf,
    (Instr.selftestShort 65536 0 0 false).wf,
    (Instr.selftestShort 0 65536 0 false).wf,
    (Instr.selftestShort 0 0 (2 ^ 32) false).wf,
    (Instr.selftestExtended 65536 0 0 false).wf,
    (Instr.selftestExtended 0 65536 0 false).wf,
    (Instr.selftestExtended 0 0 (2 ^ 32) false).wf,
    (Instr.selftestAbort 65536 0 0).wf].all (· == false) = true := by decide +kernel

theorem test_ill_formed_7 : [(Instr.selftestAbort 0 65536 0).wf,
    (Instr.selftestAbort 0 0 16).wf,
    (Instr.selftestAbort 0 0 1).wf,
    (Instr.selftestAbort 0 0 2).wf,
    (Instr.vendorRegisterRead 65536 0 0 false).wf,
    (Instr.vendorRegisterRead 0 65536 0 false).wf,
    (Instr.vendorRegisterRead 0 0 (2 ^ 25) false).wf,
    (Instr.vendorRegisterWrite 65536 0 0 0).wf,
    (Instr.vendorRegisterWrite 0 65536 0 0).wf,
    (Instr.vendorRegisterWrite 0 0 (2 ^ 25) 0).wf,
    (Instr.vendorRegisterWrite 0 0 0 (2 ^ 32)).wf,
    (Instr.read 65536).wf,
    (Instr.flush 65536).wf,
    (Instr.write 65536).wf].all (· == false) = true := by decide +kernel

theorem test_ill_formed_8 : [(Instr.writeZeroes 65536).wf,
    (Instr.datasetManagement 65536).wf,
    (Instr.zoneAppend 65536).wf,
    (Instr.zoneOpen 65536).wf,
    (Instr.zoneClose 65536).wf,
    (Instr.zoneFinish 65536).wf,
    (Instr.zoneReset 65536).wf,
    (Instr.zoneOffline 65536).wf,
    (Instr.zoneMgmtReceive 65536).wf,
    (Instr.commandAccept [2260992]).wf,
    (Instr.backgroundWindowEnd 48).wf,
    (Instr.failbackOwnershipPass [2260992] []).wf,
    (Instr.zoneSelectLoad (2 ^ 24)).wf,
    (Instr.hostInvalidate 1024).wf].all (· == false) = true := by decide +kernel

theorem test_ill_formed_9 : [(Instr.hostAccessMapWrite 1024 0 0).wf,
    (Instr.hostAccessMapWrite 0 32 0).wf,
    (Instr.hostAccessMapWrite 0 0 (2 ^ 32)).wf,
    (Instr.strProbe 32).wf,
    (Instr.slotRecomputeDone 256 noIo).wf,
    (Instr.slotRecomputeDone 0 { noIo with strips := [(0, [aBlk])] }).wf,
    (Instr.idleTimeout 48).wf,
    (Instr.activationDone 48).wf,
    (Instr.memberShutdownComplete 48).wf,
    (Instr.shutdownWaitTimeout 48 0).wf,
    (Instr.shutdownWaitTimeout 0 65536).wf,
    (Instr.wakeComplete 48 aDrive false 0).wf,
    (Instr.wakeComplete 0 aDrive false 65536).wf,
    (Instr.wakeTimeout 48).wf].all (· == false) = true := by decide +kernel

theorem test_ill_formed_10 : [(Instr.pwrConfigWrite 4 0).wf,
    (Instr.pwrConfigWrite 0 (2 ^ 32)).wf,
    (Instr.journalRecordWritten 0 [16] []).wf,
    (Instr.journalRecordWritten 0 [] [131072]).wf,
    (Instr.tailWriteComplete 256 0 0 []).wf,
    (Instr.tailWriteComplete 0 16 0 []).wf,
    (Instr.tailWriteComplete 0 0 65537 []).wf,
    (Instr.tailWriteComplete 0 0 0 [65]).wf,
    (Instr.chunkWearCopy (2 ^ 20) 0 []).wf,
    (Instr.chunkWearCopy 0 0 [2260992]).wf,
    (Instr.checkpointCommit { noIo with strips := [(0, [aBlk])] }).wf,
    (Instr.ringCopyStream { noIo with strips := [(0, [aBlk])] }).wf,
    (Instr.keeperCopyDone { noIo with strips := [(0, [aBlk])] }).wf,
    (Instr.mirrorRecordReceive 2 0 (.tail 0 0 aBlk) []).wf].all (· == false) = true := by decide +kernel

theorem test_ill_formed_11 : [(Instr.mirrorRecordReceive 0 (2 ^ 48) (.tail 0 0 aBlk) []).wf,
    (Instr.mirrorRecordReceive 0 0 (.tail 0 0 aBlk) [65]).wf,
    (Instr.mirrorAckReceive 2 0 false).wf,
    (Instr.mirrorAckReceive 0 (2 ^ 48) false).wf,
    (Instr.mirrorRetxTimeout (2 ^ 48)).wf,
    (Instr.mirrorPathDown 2).wf,
    (Instr.heartbeatReceive 2 0 0 false).wf,
    (Instr.reservationResult false [2260992] []).wf,
    (Instr.linkDownAbsent 48).wf,
    (Instr.absentHoldExpiry 48).wf,
    (Instr.driveAdmissionCheck 48 aDrive).wf,
    (Instr.memberFailCmd 48).wf,
    (Instr.memberAdopt 48).wf,
    (Instr.memberClearRefused 48).wf].all (· == false) = true := by decide +kernel

theorem test_ill_formed_12 : [(Instr.rebuildStripe 48 noIo).wf,
    (Instr.rebuildStripe 0 { noIo with strips := [(0, [aBlk])] }).wf,
    (Instr.resyncStrip 48 noIo).wf,
    (Instr.resyncStrip 0 { noIo with strips := [(0, [aBlk])] }).wf,
    (Instr.copybackStripe 48 noIo).wf,
    (Instr.copybackStripe 0 { noIo with strips := [(0, [aBlk])] }).wf,
    (Instr.scrubStripe { noIo with strips := [(0, [aBlk])] }).wf,
    (Instr.repairDone 48 0 noIo).wf,
    (Instr.repairDone 0 0 { noIo with strips := [(0, [aBlk])] }).wf,
    (Instr.frameArrival 8 aFrame.f).wf,
    (Instr.frameArrival 0 { aFrame.f with dmac := 2 ^ 48 }).wf,
    (Instr.rcRequestReceive 16384 0 ⟨0, false, false, 0, .unsupported⟩).wf,
    (Instr.rcRequestReceive 0 8 ⟨0, false, false, 0, .unsupported⟩).wf,
    (Instr.rcRequestReceive 0 0 ⟨2 ^ 24, false, false, 0, .unsupported⟩).wf].all (· == false) = true := by decide +kernel

theorem test_ill_formed_13 : [(Instr.ackReceive 16384 0 false).wf,
    (Instr.ackReceive 0 (2 ^ 24) false).wf,
    (Instr.nakSequenceErrorReceive 16384 0 false).wf,
    (Instr.nakSequenceErrorReceive 0 (2 ^ 24) false).wf,
    (Instr.nakErrorReceive 16384 0 false).wf,
    (Instr.nakErrorReceive 0 8 false).wf,
    (Instr.rnrNakReceive 16384 0 false).wf,
    (Instr.rnrNakReceive 0 (2 ^ 24) false).wf,
    (Instr.rnrRetryTimerExpiry 16384).wf,
    (Instr.ackTimeout 16384).wf,
    (Instr.ackCoalesceExpiry 16384).wf,
    (Instr.readResponseReceive 16384 0 false []).wf,
    (Instr.readResponseReceive 0 (2 ^ 24) false []).wf,
    (Instr.readResponseReceive 0 0 false [⟨[], []⟩]).wf].all (· == false) = true := by decide +kernel

theorem test_ill_formed_14 : [(Instr.rdmaReadIssue 65536).wf,
    (Instr.windowWriteReceive 16384 0 false false false false 0 0 0 []).wf,
    (Instr.windowWriteReceive 0 (2 ^ 24) false false false false 0 0 0 []).wf,
    (Instr.windowWriteReceive 0 0 false false false false (2 ^ 32) 0 0 []).wf,
    (Instr.windowWriteReceive 0 0 false false false false 0 (2 ^ 64) 0 []).wf,
    (Instr.windowWriteReceive 0 0 false false false false 0 0 (2 ^ 32) []).wf,
    (Instr.windowReadRequest 16384 0 false 0 0 0).wf,
    (Instr.windowReadRequest 0 (2 ^ 24) false 0 0 0).wf,
    (Instr.windowReadRequest 0 0 false (2 ^ 32) 0 0).wf,
    (Instr.windowReadRequest 0 0 false 0 (2 ^ 64) 0).wf,
    (Instr.windowReadRequest 0 0 false 0 0 (2 ^ 32)).wf,
    (Instr.cnpReceive 16384).wf,
    (Instr.ccRateIncrease 16384).wf,
    (Instr.cmReq 8 0 0 0 0 0 0 0 0 none).wf].all (· == false) = true := by decide +kernel

theorem test_ill_formed_15 : [(Instr.cmReq 0 0 0 0 0 0 0 0 (2 ^ 24) none).wf,
    (Instr.cmDreqReceive 16384).wf,
    (Instr.setupTimeout 16384).wf,
    (Instr.contextFetchDone 16384 0).wf,
    (Instr.contextFetchDone 0 (2 ^ 32)).wf,
    (Instr.responderResourceTimeout 16384 0).wf,
    (Instr.responderResourceTimeout 0 (2 ^ 24)).wf,
    (Instr.pfcFrameReceive 8 0 []).wf,
    (Instr.pfcFrameReceive 0 256 []).wf,
    (Instr.pfcWatchdogExpiry 8 0).wf,
    (Instr.pfcWatchdogExpiry 0 8).wf,
    (Instr.pfcStormEnd 8 0).wf,
    (Instr.pfcStormEnd 0 8).wf,
    (Instr.portLinkUp 8).wf].all (· == false) = true := by decide +kernel

theorem test_ill_formed_16 : [(Instr.portLinkDown 8).wf,
    (Instr.forwardedCommandReceive ⟨5, 1, 9, none, 2⟩ (List.replicate 1025 ⟨[], []⟩)).wf,
    (Instr.egressFrameStart 8).wf,
    (Instr.frameAgeDrop 8 0).wf,
    (Instr.frameAgeDrop 0 8).wf,
    (Instr.pfcXoffRefresh 8 0).wf,
    (Instr.pfcXoffRefresh 0 8).wf,
    (Instr.neighAgeOut 4096).wf,
    (Instr.tblSelectLoad (2 ^ 32)).wf,
    (Instr.identityFrameSend 8).wf,
    (Instr.identityFrameReceive 8 0 0 0 0 0).wf,
    (Instr.identityFrameReceive 0 (2 ^ 32) 0 0 0 0).wf,
    (Instr.identityFrameReceive 0 0 256 0 0 0).wf,
    (Instr.identityFrameReceive 0 0 0 0 0 (2 ^ 48)).wf].all (· == false) = true := by decide +kernel

theorem test_ill_formed_17 : [(Instr.topoNoPeerTimeout 8).wf,
    (Instr.ptpMessageReceive 8 0 false none none 0).wf,
    (Instr.ptpSyncSend 8).wf,
    (Instr.gateEntryStart 8).wf,
    (Instr.listStart 8).wf,
    (Instr.dmaDoorbell .v 32).wf,
    (Instr.dmaStop .v 32).wf,
    (Instr.dmaReset .v 32).wf,
    (Instr.descFetchDone 32 false).wf,
    (Instr.dmaReadBurst [] 16).wf,
    (Instr.dmaWriteBurst 16).wf,
    (Instr.dmaWriteComplete 32 0).wf,
    (Instr.dmaWriteComplete 0 16).wf,
    (Instr.tailRefetch 32 false).wf].all (· == false) = true := by decide +kernel

theorem test_ill_formed_18 : [(Instr.periphRequestChange 16 false).wf,
    (Instr.periphFinalRequest 16 0 []).wf,
    (Instr.keyZeroiseSlot 4096).wf,
    (Instr.tamperAlarm 4).wf,
    (Instr.perstRelease 48).wf,
    (Instr.linkL0Reached 48 0 0).wf,
    (Instr.linkL0Reached 0 16 0).wf,
    (Instr.linkL0Reached 0 0 64).wf,
    (Instr.trainingTimeout 48).wf,
    (Instr.portConfigured 48 0).wf,
    (Instr.portConfigured 0 256).wf,
    (Instr.linkLeavesL0 48).wf,
    (Instr.recoveryTimeout 48).wf,
    (Instr.portQuiesced 48).wf].all (· == false) = true := by decide +kernel

theorem test_ill_formed_19 : [(Instr.memberRequestIssue 48).wf,
    (Instr.memberCompletion 48 0 0 []).wf,
    (Instr.memberCompletion 0 2048 0 []).wf,
    (Instr.memberCompletion 0 0 2048 []).wf,
    (Instr.memberCompletion 0 0 0 [aBlk]).wf,
    (Instr.completionTimeout 48 0).wf,
    (Instr.completionTimeout 0 2048).wf,
    (Instr.tagQuarantineEnd 48 0).wf,
    (Instr.tagQuarantineEnd 0 2048).wf,
    (Instr.memberInboundWrite 48 0 []).wf,
    (Instr.memberInboundWrite 0 (2 ^ 64) []).wf,
    (Instr.memberInboundRead 48 0 0).wf,
    (Instr.memberInboundRead 0 (2 ^ 64) 0).wf,
    (Instr.memberInboundRead 0 0 (2 ^ 32)).wf].all (· == false) = true := by decide +kernel

theorem test_ill_formed_20 : [(Instr.memberAsyncEvent 48 0).wf,
    (Instr.memberAsyncEvent 0 256).wf,
    (Instr.presenceChange 48 false).wf,
    (Instr.buttonPress 48).wf,
    (Instr.buttonWindowExpiry 48).wf,
    (Instr.slotRemoveRequest 48).wf,
    (Instr.miPoll 48 none).wf,
    (Instr.miBusStuck 4 false).wf,
    (Instr.miSuspendEnd 4).wf,
    (Instr.portEnableWrite 48 false).wf,
    (Instr.memberCfgRead 48).wf,
    (Instr.memberCfgWrite 48).wf,
    (Instr.memberCfgDone 48 0 0).wf,
    (Instr.memberCfgDone 0 8 0).wf].all (· == false) = true := by decide +kernel

theorem test_ill_formed_21 : [(Instr.dclkStop 12).wf,
    (Instr.slotDemand 48).wf,
    (Instr.rampGrant 48 0).wf,
    (Instr.rampGrant 0 65536).wf,
    (Instr.rampComplete 48 0 false).wf,
    (Instr.rampComplete 0 65536 false).wf,
    (Instr.inrushTimerExpiry 48).wf,
    (Instr.fastTrip 48).wf,
    (Instr.diodeMeasure 48 0).wf,
    (Instr.thermalModelUpdate 48 0).wf,
    (Instr.thermalModelUpdate 0 (2 ^ 20)).wf,
    (Instr.overloadEntry 48 0 0 false).wf,
    (Instr.overloadEntry 0 65536 0 false).wf,
    (Instr.overloadEntry 0 0 65536 false).wf].all (· == false) = true := by decide +kernel

theorem test_ill_formed_22 : [(Instr.pgReturn 48).wf,
    (Instr.faultTimerExpiry 48).wf,
    (Instr.backoffExpiry 48).wf,
    (Instr.attemptReset 48).wf,
    (Instr.slotDemandWithdrawn 48).wf,
    (Instr.shutdownComplete 48).wf,
    (Instr.minOffExpiry 48).wf,
    (Instr.slotClear 48).wf,
    (Instr.feedUnusable 2 0).wf,
    (Instr.feedQualified 2 0).wf,
    (Instr.feedReversed 2 0).wf,
    (Instr.feedReverseClear 2).wf,
    (Instr.epLinkUp 16 0).wf,
    (Instr.epLinkUp 0 64).wf].all (· == false) = true := by decide +kernel

theorem test_ill_formed_23 : [(Instr.epConfigRequest false 4096 0).wf,
    (Instr.epConfigRequest false 0 (2 ^ 32)).wf,
    (Instr.bar2Read (2 ^ 64) 0 false).wf,
    (Instr.bar2Read 0 (2 ^ 32) false).wf,
    (Instr.bar2Write (2 ^ 64) [] false).wf,
    (Instr.msixTableWrite 65536 0).wf,
    (Instr.msixTableWrite 0 (2 ^ 32)).wf,
    (Instr.epCompletionTimeout 32).wf,
    (Instr.sbRegisterRead (2 ^ 25) false).wf,
    (Instr.sbRegisterWrite (2 ^ 25) 0 false).wf,
    (Instr.sbRegisterWrite 0 (2 ^ 32) false).wf,
    (Instr.lockWrite .v (2 ^ 32)).wf,
    (Instr.pendClear 48 0).wf,
    (Instr.pendClear 0 (2 ^ 32)).wf].all (· == false) = true := by decide +kernel

theorem test_ill_formed_24 : [(Instr.evrFreezeWrite (2 ^ 32)).wf,
    (Instr.userRecord (2 ^ 32)).wf,
    (Instr.recordLatch 65536).wf,
    (Instr.registerWrite .v (2 ^ 25) 0 4).wf,
    (Instr.registerWrite .v 0 (2 ^ (32)) 4).wf,
    (Instr.registerWrite .v 0 0 513).wf,
    (Instr.registerWrite .v 0 0 8).wf,
    (Instr.rcRegisterRead .v (2 ^ 25) 4).wf,
    (Instr.rcRegisterRead .v 0 4097).wf,
    (Instr.rcRegisterRead .v 0 8).wf,
    (Instr.pairLowRead .v (2 ^ 25)).wf,
    (Instr.dramEccCorrected 2 0 0).wf,
    (Instr.dramEccCorrected 0 (2 ^ 64) 0).wf,
    (Instr.dramEccCorrected 0 0 (2 ^ 18)).wf].all (· == false) = true := by decide +kernel

theorem test_ill_formed_25 : [(Instr.dramEccUncorrectable 2 0 0 0).wf,
    (Instr.dramEccUncorrectable 0 (2 ^ 64) 0 0).wf,
    (Instr.dramEccUncorrectable 0 0 (2 ^ 18) 0).wf,
    (Instr.tablePageReloadDone (2 ^ 24)).wf,
    (Instr.patrolPassDone 2).wf,
    (Instr.dramHot 2 0).wf,
    (Instr.dramHot 0 256).wf,
    (Instr.dramCool 2 0).wf,
    (Instr.dramCool 0 256).wf,
    (Instr.sidebandXferStart 4).wf,
    (Instr.sidebandXferDone 4 0 []).wf,
    (Instr.sidebandXferDone 0 8 []).wf,
    (Instr.controllerFatalStatus 48).wf,
    (Instr.controllerReadyTimeout 48).wf].all (· == false) = true := by decide +kernel

theorem test_ill_formed_26 : [(Instr.announceReceiptTimeout 8 0).wf,
    (Instr.pfcPauseExpiry 8 0).wf,
    (Instr.pfcPauseExpiry 0 8).wf,
    (Instr.firmwareSourceRaise 1536).wf].all (· == false) = true := by decide +kernel

theorem test_well_formed_1 : [(Instr.supplyOutOfRange 0).wf,
    (Instr.ddrTrainingDone false 0 0).wf,
    (Instr.slotDiscovery []).wf,
    (Instr.dumpComplete 0 []).wf,
    (Instr.cfgExtend 0).wf,
    (Instr.ovlRequest 0).wf,
    (Instr.getVersion 0 0).wf,
    (Instr.getCapabilities 0 0).wf,
    (Instr.negotiateAlgorithms 0 0 false false).wf,
    (Instr.getDigests 0 0).wf,
    (Instr.getCertificate 0 0 0 0 0).wf,
    (Instr.challenge 0 0 0 (List.replicate 32 0)).wf,
    (Instr.getMeasurements 0 0 0 false (List.replicate 32 0)).wf,
    (Instr.setEndpointId 0 0).wf,
    (Instr.getEndpointId 0).wf,
    (Instr.getEndpointUuid 0).wf,
    (Instr.getMctpVersionSupport 0 0).wf,
    (Instr.getMessageTypeSupport 0).wf,
    (Instr.securitySend 0 0 aSgl .getVersion).wf,
    (Instr.securityReceive 0 0 0 aSgl).wf,
    (Instr.fabricsConnect 0 0 0 0 0 0 0 0 []).wf,
    (Instr.propertyGet 0 0 0).wf,
    (Instr.propertySet 0 0 0 0).wf,
    (Instr.fabricsDisconnect 0 0 0).wf].all (· == true) = true := by decide +kernel

theorem test_well_formed_2 : [(Instr.identify 0 0 0 0 0 aSgl).wf,
    (Instr.getLogPage 0 0 0 0 0 0 aSgl).wf,
    (Instr.setFeatures 0 0 0 0).wf,
    (Instr.getFeatures 0 0 0).wf,
    (Instr.asyncEventRequest 0 0).wf,
    (Instr.keepAlive 0 0).wf,
    (Instr.keepAliveExpiry 0).wf,
    (Instr.abort 0 0 0 0).wf,
    (Instr.selftestShort 0 0 0 false).wf,
    (Instr.selftestExtended 0 0 0 false).wf,
    (Instr.selftestAbort 0 0 0).wf,
    (Instr.vendorRegisterRead 0 0 0 false).wf,
    (Instr.vendorRegisterWrite 0 0 0 0).wf,
    (Instr.read 0).wf,
    (Instr.flush 0).wf,
    (Instr.write 0).wf,
    (Instr.writeZeroes 0).wf,
    (Instr.datasetManagement 0).wf,
    (Instr.zoneAppend 0).wf,
    (Instr.zoneOpen 0).wf,
    (Instr.zoneClose 0).wf,
    (Instr.zoneFinish 0).wf,
    (Instr.zoneReset 0).wf,
    (Instr.zoneOffline 0).wf].all (· == true) = true := by decide +kernel

theorem test_well_formed_3 : [(Instr.zoneMgmtReceive 0).wf,
    (Instr.commandAccept []).wf,
    (Instr.backgroundWindowEnd 0).wf,
    (Instr.failbackOwnershipPass [] []).wf,
    (Instr.zoneSelectLoad 0).wf,
    (Instr.hostInvalidate 0).wf,
    (Instr.hostAccessMapWrite 0 0 0).wf,
    (Instr.strProbe 0).wf,
    (Instr.slotRecomputeDone 0 noIo).wf,
    (Instr.idleTimeout 0).wf,
    (Instr.activationDone 0).wf,
    (Instr.memberShutdownComplete 0).wf,
    (Instr.shutdownWaitTimeout 0 0).wf,
    (Instr.wakeComplete 0 aDrive false 0).wf,
    (Instr.wakeTimeout 0).wf,
    (Instr.pwrConfigWrite 0 0).wf,
    (Instr.journalRecordWritten 0 [] []).wf,
    (Instr.tailWriteComplete 0 0 0 []).wf,
    (Instr.chunkWearCopy 0 0 []).wf,
    (Instr.checkpointCommit noIo).wf,
    (Instr.ringCopyStream noIo).wf,
    (Instr.keeperCopyDone noIo).wf,
    (Instr.mirrorRecordReceive 0 0 (.tail 0 0 aBlk) []).wf,
    (Instr.mirrorAckReceive 0 0 false).wf].all (· == true) = true := by decide +kernel

theorem test_well_formed_4 : [(Instr.mirrorRetxTimeout 0).wf,
    (Instr.mirrorPathDown 0).wf,
    (Instr.heartbeatReceive 0 0 0 false).wf,
    (Instr.reservationResult false [] []).wf,
    (Instr.linkDownAbsent 0).wf,
    (Instr.absentHoldExpiry 0).wf,
    (Instr.driveAdmissionCheck 0 aDrive).wf,
    (Instr.memberFailCmd 0).wf,
    (Instr.memberAdopt 0).wf,
    (Instr.memberClearRefused 0).wf,
    (Instr.rebuildStripe 0 noIo).wf,
    (Instr.resyncStrip 0 noIo).wf,
    (Instr.copybackStripe 0 noIo).wf,
    (Instr.scrubStripe noIo).wf,
    (Instr.repairDone 0 0 noIo).wf,
    (Instr.frameArrival 0 aFrame.f).wf,
    (Instr.rcRequestReceive 0 0 ⟨0, false, false, 0, .unsupported⟩).wf,
    (Instr.ackReceive 0 0 false).wf,
    (Instr.nakSequenceErrorReceive 0 0 false).wf,
    (Instr.nakErrorReceive 0 0 false).wf,
    (Instr.rnrNakReceive 0 0 false).wf,
    (Instr.rnrRetryTimerExpiry 0).wf,
    (Instr.ackTimeout 0).wf,
    (Instr.ackCoalesceExpiry 0).wf].all (· == true) = true := by decide +kernel

theorem test_well_formed_5 : [(Instr.readResponseReceive 0 0 false []).wf,
    (Instr.rdmaReadIssue 0).wf,
    (Instr.windowWriteReceive 0 0 false false false false 0 0 0 []).wf,
    (Instr.windowReadRequest 0 0 false 0 0 0).wf,
    (Instr.cnpReceive 0).wf,
    (Instr.ccRateIncrease 0).wf,
    (Instr.cmReq 0 0 0 0 0 0 0 0 0 none).wf,
    (Instr.cmDreqReceive 0).wf,
    (Instr.setupTimeout 0).wf,
    (Instr.contextFetchDone 0 0).wf,
    (Instr.responderResourceTimeout 0 0).wf,
    (Instr.pfcFrameReceive 0 0 []).wf,
    (Instr.pfcWatchdogExpiry 0 0).wf,
    (Instr.pfcStormEnd 0 0).wf,
    (Instr.portLinkUp 0).wf,
    (Instr.portLinkDown 0).wf,
    (Instr.forwardedCommandReceive ⟨5, 1, 9, none, 2⟩ []).wf,
    (Instr.egressFrameStart 0).wf,
    (Instr.frameAgeDrop 0 0).wf,
    (Instr.pfcXoffRefresh 0 0).wf,
    (Instr.neighAgeOut 0).wf,
    (Instr.tblSelectLoad 0).wf,
    (Instr.identityFrameSend 0).wf,
    (Instr.identityFrameReceive 0 0 0 0 0 0).wf].all (· == true) = true := by decide +kernel

theorem test_well_formed_6 : [(Instr.topoNoPeerTimeout 0).wf,
    (Instr.ptpMessageReceive 0 0 false none none 0).wf,
    (Instr.ptpSyncSend 0).wf,
    (Instr.gateEntryStart 0).wf,
    (Instr.listStart 0).wf,
    (Instr.dmaDoorbell .v 0).wf,
    (Instr.dmaStop .v 0).wf,
    (Instr.dmaReset .v 0).wf,
    (Instr.descFetchDone 0 false).wf,
    (Instr.dmaReadBurst [] 0).wf,
    (Instr.dmaWriteBurst 0).wf,
    (Instr.dmaWriteComplete 0 0).wf,
    (Instr.tailRefetch 0 false).wf,
    (Instr.periphRequestChange 0 false).wf,
    (Instr.periphFinalRequest 0 0 []).wf,
    (Instr.keyZeroiseSlot 0).wf,
    (Instr.tamperAlarm 0).wf,
    (Instr.perstRelease 0).wf,
    (Instr.linkL0Reached 0 0 0).wf,
    (Instr.trainingTimeout 0).wf,
    (Instr.portConfigured 0 0).wf,
    (Instr.linkLeavesL0 0).wf,
    (Instr.recoveryTimeout 0).wf,
    (Instr.portQuiesced 0).wf].all (· == true) = true := by decide +kernel

theorem test_well_formed_7 : [(Instr.memberRequestIssue 0).wf,
    (Instr.memberCompletion 0 0 0 []).wf,
    (Instr.completionTimeout 0 0).wf,
    (Instr.tagQuarantineEnd 0 0).wf,
    (Instr.memberInboundWrite 0 0 []).wf,
    (Instr.memberInboundRead 0 0 0).wf,
    (Instr.memberAsyncEvent 0 0).wf,
    (Instr.presenceChange 0 false).wf,
    (Instr.buttonPress 0).wf,
    (Instr.buttonWindowExpiry 0).wf,
    (Instr.slotRemoveRequest 0).wf,
    (Instr.miPoll 0 none).wf,
    (Instr.miBusStuck 0 false).wf,
    (Instr.miSuspendEnd 0).wf,
    (Instr.portEnableWrite 0 false).wf,
    (Instr.memberCfgRead 0).wf,
    (Instr.memberCfgWrite 0).wf,
    (Instr.memberCfgDone 0 0 0).wf,
    (Instr.dclkStop 0).wf,
    (Instr.slotDemand 0).wf,
    (Instr.rampGrant 0 0).wf,
    (Instr.rampComplete 0 0 false).wf,
    (Instr.inrushTimerExpiry 0).wf,
    (Instr.fastTrip 0).wf].all (· == true) = true := by decide +kernel

theorem test_well_formed_8 : [(Instr.diodeMeasure 0 0).wf,
    (Instr.thermalModelUpdate 0 0).wf,
    (Instr.overloadEntry 0 0 0 false).wf,
    (Instr.pgReturn 0).wf,
    (Instr.faultTimerExpiry 0).wf,
    (Instr.backoffExpiry 0).wf,
    (Instr.attemptReset 0).wf,
    (Instr.slotDemandWithdrawn 0).wf,
    (Instr.shutdownComplete 0).wf,
    (Instr.minOffExpiry 0).wf,
    (Instr.slotClear 0).wf,
    (Instr.feedUnusable 0 0).wf,
    (Instr.feedQualified 0 0).wf,
    (Instr.feedReversed 0 0).wf,
    (Instr.feedReverseClear 0).wf,
    (Instr.epLinkUp 0 0).wf,
    (Instr.epConfigRequest false 0 0).wf,
    (Instr.bar2Read 0 0 false).wf,
    (Instr.bar2Write 0 [] false).wf,
    (Instr.msixTableWrite 0 0).wf,
    (Instr.epCompletionTimeout 0).wf,
    (Instr.sbRegisterRead 0 false).wf,
    (Instr.sbRegisterWrite 0 0 false).wf,
    (Instr.lockWrite .v 0).wf].all (· == true) = true := by decide +kernel

theorem test_well_formed_9 : [(Instr.pendClear 0 0).wf,
    (Instr.evrFreezeWrite 0).wf,
    (Instr.userRecord 0).wf,
    (Instr.recordLatch 0).wf,
    (Instr.registerWrite .v 0 0 4).wf,
    (Instr.rcRegisterRead .v 0 4).wf,
    (Instr.pairLowRead .v 0).wf,
    (Instr.dramEccCorrected 0 0 0).wf,
    (Instr.dramEccUncorrectable 0 0 0 0).wf,
    (Instr.tablePageReloadDone 0).wf,
    (Instr.patrolPassDone 0).wf,
    (Instr.dramHot 0 0).wf,
    (Instr.dramCool 0 0).wf,
    (Instr.sidebandXferStart 0).wf,
    (Instr.sidebandXferDone 0 0 []).wf,
    (Instr.controllerFatalStatus 0).wf,
    (Instr.controllerReadyTimeout 0).wf,
    (Instr.announceReceiptTimeout 0 0).wf,
    (Instr.pfcPauseExpiry 0 0).wf,
    (Instr.firmwareSourceRaise 0).wf].all (· == true) = true := by decide +kernel

/-! ### The manual's worked examples -/

/-- R77's worked example at offset 0: two data strips of a 4 + 2 stripe recovered byte by byte. -/
theorem test_recovery_worked_example :
    gmul 2 0xA7 = 0x53 ∧ gmul 4 0xA7 = 0xA6 ∧ gmul 8 0xF2 = 0xC3 ∧ ginv 0x03 = 0xF4 ∧
      (0x5A : Byte) ^^^ gmul 2 0x3C ^^^ gmul 4 0xA7 ^^^ gmul 8 0x11 = 0x0C ∧
      gmul 0xF4 (0x22 ^^^ gmul 2 0x66) = 0x5A ∧ (0x66 : Byte) ^^^ 0x5A = 0x3C := by decide +kernel

/-- R74: 48 columns and W = 22 give 24 rows in which a column appears 11 times. -/
theorem test_cyclic_rows : (cyclicRows 48 22).length = 24 ∧ (cyclicRows 48 22).all (fun r => r.length == 22) = true ∧
    ((cyclicRows 48 22).filter fun r => decide (30 ∈ r)).length = 11 := by decide +kernel

/-- The worked example of R73: stripe 819,000,315, data position 12, P and Q. -/
theorem test_place_worked_example :
    let l : Layout := ⟨22, 48, 2, 11, 0, 0, 0, 0, cyclicRows 48 22, []⟩
    l.colAt 819000315 12 = 30 ∧ l.colAt 819000315 20 = 38 ∧ l.colAt 819000315 21 = 39 ∧
      l.index 819000315 30 = 375375144 := by decide +kernel

/-- A section of one record, the ARCHIVE overlay's (R362 and its example). -/
theorem test_records_archive : (recsOf (List.replicate 16 0 ++ [1, 0, 0, 0, 0, 0, 0, 0] ++
      [0, 2, 0x24, 0, 2, 0, 0, 0, 0x18, 0, 1, 0, 0x68, 1, 0, 0])).map (fun l => l.map fun r => (r.off, r.op, r.data))
      = some [(0x240200, 0, [0x10018, 0x168])] := by decide +kernel

/-- CRC-32C of R119 on the nine digits of its usual check value. -/
theorem test_crc32c : crc32c ("123456789".toList.map fun c => BitVec.ofNat 8 c.toNat) = 0xE3069283 := by decide +kernel

/-- R82: the 16-bit guard is the T10 CRC and the 64-bit guard NVMe's, on the nine digits of their usual check values. -/
theorem test_host_guard :
    hostGuard 1 ("123456789".toList.map fun c => BitVec.ofNat 8 c.toNat) = 0xD0DB ∧
    hostGuard 2 ("123456789".toList.map fun c => BitVec.ofNat 8 c.toNat) = 0xAE8B14860A799888 := by decide +kernel

/-- R392, worked example: the high word latched for a path is what it reads, whatever other paths read and however the
register moves on. -/
theorem test_two_paths_read_one_pair :
    let s0 := (live.modEp fun e => { e with command := 2 }).setEp epReady |>.on Fld.EPF.SB_CFG.ENABLE
    let s1 := s0.wr64 Reg.GNT.MSEQ_SENT_LO 0x1FFFFFFF0
    let (a, s2) := s1.readAccess .e Reg.GNT.MSEQ_SENT_LO
    let (b, s3) := (s2.wr64 Reg.GNT.MSEQ_SENT_LO 0x200000004).readAccess .s Reg.GNT.MSEQ_SENT_LO
    let (c, s4) := s3.readAccess .e Reg.GNT.MSEQ_SENT_HI
    (a, b, c, (s4.readAccess .s Reg.GNT.MSEQ_SENT_HI).1) = (0xFFFFFFF0, 4, 1, 2) := by decide +kernel

/-! ### Single steps -/

/-- R395: TOP.ID reads 0x4832_00B1. -/
theorem test_top_id : lastSent (.rcRegisterRead .v Reg.TOP.ID 4) { live with regs := [(0, 0x483200B1)] } = some (.regValue .v 0x483200B1 0) := by
  decide +kernel

/-- R9: an offset outside 50 ppm clears REF_IN_RANGE and sets REF_RANGE. -/
theorem test_ref_range :
    let t := nextOf live (exec (.refMeasure 5001) ((live.on Fld.CLK.STATUS.REF_PRESENT).on Fld.CLK.STATUS.REF_IN_RANGE))
    t.flag Fld.CLK.STATUS.REF_IN_RANGE = false ∧ t.flag Fld.CLK.EVENT.REF_RANGE = true := by decide +kernel

/-- R10: the loss of the root PLL's lock is counted and falls back. -/
theorem test_lock_lost :
    let t := nextOf live (exec .clkLockLost (live.on Fld.CLK.STATUS.ROOT_LOCK))
    t.get Fld.CLK.LOCK_COUNT.COUNT = 1 ∧ t.flag Fld.CLK.STATUS.SLOW_FALLBACK = true ∧ t.flag Fld.CLK.STATUS.ROOT_LOCK = false := by
  decide +kernel

/-- R356, R264: a core reset by command shows cause 4 and empties the key slots. -/
theorem test_core_reset :
    let t := nextOf live (exec .coreResetCmd live)
    t.get Fld.FLT.RESET_CAUSE.V = 4 ∧ t.keys.slots = [] ∧ t.aon.coreUp = false := by decide +kernel

/-- R4: both fields of SLP.FEED_LIMITS, UV and OV, are RW (14_slot_power.md, Registers). -/
theorem test_feed_limits :
    (nextOf live (exec (.registerWrite .v Reg.SLP.FEED_LIMITS 0x8C32 4) live)).regN Reg.SLP.FEED_LIMITS = 0x8C32 := by decide +kernel

/-- R391: a write to an RO register is recorded as kind 3 with its path and offset, and changes nothing else of it. -/
theorem test_write_ro :
    let t := nextOf live (exec (.registerWrite .v Reg.PMC.CAP 5 4) live)
    t.regN Reg.PMC.CAP = 0 ∧ t.get Fld.TOP.BAD_INFO.KIND = 3 ∧ t.get Fld.TOP.BAD_INFO.COUNT = 1 ∧
      t.get Fld.TOP.BAD_ADDR.OFFSET = Reg.PMC.CAP / 4 := by decide +kernel

/-- R4: a W1C field keeps the bits written 0. -/
theorem test_w1c :
    let s := live.setN Reg.CLK.EVENT 7
    (nextOf s (exec (.registerWrite .v Reg.CLK.EVENT 2 4) s)).regN Reg.CLK.EVENT = 5 := by decide +kernel

/-- R4, R391: a write after the seal that would change an RWS field leaves it and is recorded as kind 4. -/
theorem test_rws_sealed :
    let s := live.on Fld.TOP.STATUS.SEALED
    let t := nextOf s (exec (.registerWrite .v Reg.DRP.MODE 1 4) s)
    t.flag Fld.DRP.MODE.X4 = false ∧ t.get Fld.TOP.BAD_INFO.KIND = 4 := by decide +kernel

/-- R320: while another path holds the lock a write is discarded and counted. -/
theorem test_locked_write :
    let s := live.put Fld.EPF.LOCK.OWNER 1
    let t := nextOf s (exec (.registerWrite .v Reg.NVQ.ARB 9 4) s)
    t.regN Reg.NVQ.ARB = 0 ∧ t.get Fld.EPF.LOCK_DISCARDS.V = 1 := by decide +kernel

/-- R393: a pair's low word is held until the high word is written, then both stand. -/
theorem test_pair_write :
    let s1 := nextOf live (exec (.registerWrite .v Reg.PTP.SET_TIME_LO 7 4) live)
    let s2 := nextOf s1 (exec (.registerWrite .v (Reg.PTP.SET_TIME_LO + 4) 1 4) s1)
    s1.rd64 Reg.PTP.SET_TIME_LO = 0 ∧ s2.rd64 Reg.PTP.SET_TIME_LO = 2 ^ 32 + 7 := by decide +kernel

/-- R311: a BAR0 read of one byte answers that byte of the register, one of 16 bytes Unsupported Request. -/
theorem test_bar0_sizes :
    let s := ((live.setEp epReady).modEp fun e => { e with command := 2 }).setN Reg.TOP.ID 0x483200B1
    s.epMemOk = true ∧ (s.barRead 2 1).emitted.head? = some (.regValue .e 0x32 0) ∧ (s.barRead 0 16).emitted.head? = some (.pcie 1 []) := by
  decide +kernel

/-- R349: CLEAR_SEL clears the selected counter only. -/
theorem test_clear_sel :
    let s := live.modPmc fun p => { p with ctrs := [(0, ⟨0, 0, 0, 0, 0, 9, true⟩), (1, ⟨0, 0, 0, 0, 0, 8, false⟩)] }
    let t := nextOf s (exec .counterClearSel s)
    ((t.ctr 0).val, (t.ctr 0).ovf, (t.ctr 1).val) = (0, false, 8) := by decide +kernel

/-- R264: a zeroised slot is empty and its neighbour is not touched. -/
theorem test_zeroise_slot :
    let s := live.modKeys fun k => { k with slots := [(0, ⟨1, 0, 0, false, [1]⟩), (1, ⟨1, 0, 0, false, [2]⟩)] }
    let t := nextOf s (exec (.keyZeroiseSlot 1) s)
    t.keys.slots.map (·.1) = [0] := by decide +kernel

/-- R373: EXTEND of a slot below 12 is refused with code 2. -/
theorem test_extend_refused : (nextOf live (exec (.cfgExtend 3) live)).get Fld.CFG.CMD_RESULT.CODE = 2 := by decide +kernel

/-- R312: a BAR2 write above the protected part lands at BAR2_MAP + x, byte by byte. -/
theorem test_bar2_write :
    let s := (((live.modEp fun e => { e with command := 2 }).setEp epReady).on Fld.DDC.STATUS.TRAINED).put Fld.TOP.DRAM_FITTED.V 2 |>.put
      Fld.EPF.BAR2_CFG.LOG2 30 |>.wr64 Reg.EPF.BAR2_MAP_LO 4096
    let t := nextOf s (exec (.bar2Write 8 [1, 2] false) s)
    (memGet t.dram 4104, memGet t.dram 4105, memGet t.dram 4106) = (1, 2, 0) := by decide +kernel

/-- R309: before the image is applied a configuration request gets Request Retry Status. -/
theorem test_config_retry : lastSent (.epConfigRequest false 0 0) (live.setEp epNotReady) = some (.pcie 3 []) := by decide +kernel

/-- R272: a port whose training times out a second time does not try a third. -/
theorem test_training_retry :
    let s := live.put (Fld.DRP_P.STATUS.STATE 9) ptTraining
    let t := nextOf s (exec (.trainingTimeout 9) s)
    t.pt 9 = ptReset ∧ (t.port 9).tries = 1 := by decide +kernel

/-- R302: the fast trip of a channel in On takes its gate low. -/
theorem test_fast_trip :
    let s := (live.put (Fld.SLP_C.STATUS.STATE 9) chOn).modAon fun a => { a with slotGates := 2 ^ 9 }
    bit (nextOf s (exec (.fastTrip 9) s)).aon.slotGates 9 = false := by decide +kernel

/-- R218: PPS_OUT rises at a whole second. -/
theorem test_pps_out :
    let s := live.on Fld.PTP.PPS.OUT_EN
    (nextOf s (exec .ppsOutRise s)).aon.ppsOut = true := by decide +kernel

/-- R220, R223: a commit of an empty list is refused with code 3. -/
theorem test_list_commit_empty : ((nextOf live (exec .listCommit live)).glist 0).error = 3 := by decide +kernel

/-- R328: FLT.CLEAR.FIRST clears the first-fault capture. -/
theorem test_clear_first :
    let s := live.setN Reg.FLT.FIRST_TIME_LO 5
    (nextOf s (exec .fltClearFirst s)).regN Reg.FLT.FIRST_TIME_LO = 0 := by decide +kernel

/-- R26: a controller whose keep-alive timer expires is deleted with its queues. -/
theorem test_keep_alive_expiry :
    let t := nextOf live (exec (.keepAliveExpiry 5) live)
    t.fr.ctrls = [] ∧ t.fr.queues = [] := by decide +kernel

/-- R50: Set Features Keep Alive Timer outside 1 s to 120 s does not change the timer. -/
theorem test_kato_range :
    ((nextOf live (exec (.setFeatures 5 7 0x0F 999) live)).ctrl? 5).map (·.kato) = some 10000 := by decide +kernel

/-- A step takes the front command alone. -/
theorem test_step_front :
    let s := { live with pending := [Instr.refReturn, Instr.refLost] }
    (nextOf s (step s)).pending = [Instr.refLost] ∧ (nextOf s (step s)).flag Fld.CLK.STATUS.REF_PRESENT = true := by decide +kernel

/-- A step on an empty queue advances the model's clock. -/
theorem test_step_idle : (nextOf State.reset (step State.reset)).now = 1000 := by decide +kernel

/-- While the core is held in reset a command has no effect. -/
theorem test_core_down : exec .refLost State.reset = .next State.reset := by rfl

/-- The table gives no row bits, so no word spells a command. -/
theorem test_no_word : decodeTableWord 32 0 = none := by rfl

/-! ### The hypotheses of every obligation are met -/

def at1 : State := { live with pending := [Instr.refLost] }

def at2 : State := (live.modAon fun a => { a with coreUp := false })

def at3 : State := live

def at4 : State := (live.on Fld.CLK.STATUS.REF_PRESENT)

def at5 : State := (live.on Fld.CLK.STATUS.ROOT_LOCK)

def at6 : State := ((live.on Fld.CLK.STATUS.REF_PRESENT).modAon fun a => { a with dumpPhase := 1 })

def at7 : State := State.reset

def at8 : State := ((((live.modAon fun a => { a with released := true }).modAon fun a => { a with porst := true }).modAon fun a => { a with pfail := true }).modAon fun a => { a with coreUp := false })

def at9 : State := ((live.on Fld.FLT.STATUS.HALTED).put Fld.FLT.CFG.HALT_HOLD_S 1)

def at10 : State := (live.modAon fun a => { a with pfail := true })

def at11 : State := ((live.modAon fun a => { a with pfail := true }).modAon fun a => { a with dumpPhase := 1 })

def at12 : State := (live.modAon fun a => { a with pfail := false })

def at13 : State := ((live.modAon fun a => { a with pfail := false }).modAon fun a => { a with dumpPhase := 3 })

def at14 : State := (live.modAon fun a => { a with dumpPhase := 2 })

def at15 : State := ((live.modAon fun a => { a with dumpPhase := 2 }).on Fld.GNT.STATUS.DUMP_PENDING)

def at16 : State := (live.modBoot fun a => { a with phase := 1 })

def at17 : State := (live.modBoot fun a => { a with phase := 2 })

def at18 : State := ((live.modBoot fun a => { a with trainFails := 0 }).modBoot fun a => { a with phase := 2 })

def at19 : State := (live.modBoot fun a => { a with phase := 4 })

def at20 : State := (live.on Fld.TOP.STATUS.HOLD_SEAL)

def at21 : State := (live.modBoot fun a => { a with phase := 6 })

def at22 : State := (((live.modBoot fun a => { a with phase := 7 }).modNv fun y => { y with klogs := [(0, { KeepLog.empty (9, 9) with store := some (Tables.reset, 3), shelf := some 1, num := 1 })], shelf := some 1 }))

def at23 : State := (((live.modBoot fun a => { a with phase := 7 }).modNv fun y => { y with klogs := [(0, { KeepLog.empty (9, 9) with store := some (Tables.reset, 3), shelf := some 1, num := 1 })], shelf := none }))

def at24 : State := (((live.modBoot fun a => { a with phase := 7 }).modNv fun y => { y with klogs := [(0, { KeepLog.empty (9, 9) with store := some (Tables.reset, 3), shelf := some 1, num := 1 })], shelf := none }).mirrored)

def at25 : State := (live.on Fld.TOP.STATUS.SEALED)

def at26 : State := (live.on Fld.DDC.STATUS.TRAINED).put Fld.CFG.UPD_LEN.V 64

def at27 : State := live.on Fld.CFG.STATUS.FW_VERIFIED

def at28 : State := { live with fuse := some bFuses }

def at29 : State := live.put Fld.TOP.STATUS.MODE 2

def at30 : State := live.modBoot fun b => { b with stage := some ([], 0) }

def at31 : State := (live.on Fld.CFG.STATUS.IMAGE_APPLIED).setN Reg.TOP.OVL_VALID 8

def at32 : State := ((live.on Fld.CFG.STATUS.IMAGE_APPLIED).modTg fun t => { t with ovlDue := some 1 })

def at33 : State := (live.on Fld.CFG.STATUS.IMAGE_APPLIED).modBoot fun b => { b with ovlReqs := [(3, 7)] }

def at34 : State := live.on Fld.EPF.STATUS.LINK_UP

def at35 : State := (live.on Fld.EPF.STATUS.LINK_UP).on Fld.EPF.SB_CFG.ENABLE

def at36 : State := live.modBoot fun b => { b with spdm := [(2, Spdm.start 5 0)] }

def at37 : State := (live.withConn 1).put Fld.NVQ.CAPSULE_SLOTS.V 100

def at38 : State := live.modFr fun f => { f with ctrls := [(5, { aCtrl with events := [2] })] }

def at39 : State := live.modFr fun f => { f with queues := [{ aQueue with caps := [(⟨5, 0, 9, none, 2⟩, false, 0)] }] }

def at40 : State := (live.put Fld.NVQ.SELFTEST.OP 0)

def at41 : State := live.put Fld.NVQ.SELFTEST.OP 1

def at42 : State := ((live.put Fld.NVQ.SELFTEST.OP 1).put Fld.NVQ.SELFTEST.SEGMENT 2).put (Fld.DRP_P.STATUS.STATE 3) ptUp |>.setN (Reg.DRP_P.MI_STATUS 3) 256

def at43 : State := (live.put Fld.NVQ.SELFTEST.OP 1).put Fld.NVQ.SELFTEST.SEGMENT 3

def at44 : State := (live.put Fld.NVQ.SELFTEST.OP 1).put Fld.NVQ.SELFTEST.SEGMENT 1

def at45 : State := live.modFr fun f => { f with hosts := [(5, { aHost with perm := 1 })] }

def at46 : State := live.withIo .read .zopen

def at47 : State := live.withIo .write .zopen

def at48 : State := live.withIo .append .zopen

def at49 : State := live.withIo .writeZeroes .zopen

def at50 : State := live.withIo .dsm .zopen

def at51 : State := (live.modTb fun y => { y with nss := [(1, { aNs with cfg := 2 })] }).modFr fun y => { y with cmds := [(4, aCmd (some { anIo .dsm .zopen with sgl := 0 }))] }

def at52 : State := live.withIo .flush .zopen

def at53 : State := live.withIo .zoneSend .zopen

def at54 : State := live.withIo .zoneSend .zclose

def at55 : State := live.withIo .zoneSend .zfinish

def at56 : State := live.withIo .zoneSend .zreset

def at57 : State := live.withIo .zoneSend .zoffline

def at58 : State := live.withIo .zoneReceive .zopen

def at59 : State := live.modEv fun e => { e with conds := [401] }

def at60 : State := live.modFr fun f => { f with nsDel := some 5 }

def at61 : State := ((live.put Fld.GNT.STATUS.ROLE 2).on Fld.GNT.MIRROR.IN_STEP).on Fld.GNT.VERIFY.LAST_OK

def at62 : State := (live.mirrored.put Fld.GNT.STATUS.ROLE 2).put Fld.ZMP.ANA.STATE 0xF

def at63 : State := { live with slots := [(2, { Slot.free with st := 3 })] }

def at64 : State := live.modMb fun y => { y with recons := [aRecon] }

def at65 : State := live.put Fld.MBR.DARK_EPOCH.MINUTES 10

def at66 : State := live.withPs { Power.reset with ps := 1 }

def at67 : State := ((live.withPs { Power.reset with ps := 2 }).modMb fun m => { m with deferred := [aReq] }).put Fld.MBR.PWR_CFG.ACTIVE_MAX 4

def at68 : State := live.withPs { Power.reset with ps := 6 }

def at69 : State := (live.withPs { Power.reset with ps := 6 }).put (Fld.DRP_P.STATUS.STATE 3) ptUp

def at70 : State := (live.put (Fld.DRP_P.STATUS.STATE 3) ptQuiescing).modAon fun a => { a with slotPerst := 8 }

def at71 : State := (live.put Fld.MBR.WAKE_CFG.DEFER_MAX 5).modMb fun y => { y with deferred := [aReq] }

def at72 : State := (live.on Fld.GNT.STATUS.REPLAY_DONE)

def at73 : State := live.modNv fun y => { y with ring := [aRing] }

def at74 : State := live.modNv fun y => { y with tails := [(34, aBlk)] }

def at75 : State := live.modNv fun y => { y with wear := [(1, 2 ^ 31)] }

def at76 : State := ((live.put Fld.GNT.KEEPERS.IN_STEP 7).on Fld.GNT.STATUS.REPLAY_DONE).modJn fun j => { j with ckptDue := true }

def at77 : State := ((live.put Fld.GNT.KEEPERS.IN_STEP 7).on Fld.NVQ.BG.GATE_OPEN).modJn fun j => { j with ckpt := some (Tables.reset, 3, []) }

def at78 : State := live.put Fld.GNT.KEEPERS.IN_STEP 7

def at79 : State := (live.on Fld.NVQ.BG.GATE_OPEN).modJn fun j => { j with keeperCopy := [2] }

def at80 : State := live.mirrored

def at81 : State := live.mirrored.modNv fun y => { y with mseq := 9 }

def at82 : State := live.mirrored.modJn fun j => { j with tx := [(1, .tail 0 0 aBlk)] }

def at83 : State := live.mirrored.on (pathField 1)

def at84 : State := (live.mirrored.put Fld.GNT.STATUS.ROLE 1).modJn fun j => { j with contest := true }

def at85 : State := (live.mirrored.put Fld.GNT.STATUS.ROLE 1).on Fld.GNT.MIRROR.IN_STEP

def at86 : State := live.withCol { someDrive with st := 3 }

def at87 : State := (live.withPort { Port.reset with probe := true }).put (Fld.DRP_P.STATUS.STATE 3) ptUp

def at88 : State := { ((live.put Fld.ZMP.ZONE_GEOM.STRIPES_PER_ZONE 1)) with tb := { live.tb with zones := [(0, ⟨14, false, false, 1, 0, 1, 1, 0, 0, 0, true⟩)], cols := [Column.vacant, Column.vacant, Column.vacant, someDrive] } }

def at89 : State := ((live.withCol Column.vacant).withPort { Port.reset with drive := some { aDrive with serial := 5 } }).on (Fld.DRP_P.SLOT_STATUS.PRESENT 3)

def at90 : State := (live.withCol { someDrive with refused := true }).on (Fld.DRP_P.SLOT_STATUS.PRESENT 3)

def at91 : State := live.on Fld.NVQ.BG.GATE_OPEN

def at92 : State := (live.on Fld.NVQ.BG.GATE_OPEN).withCol { someDrive with st := 6 }

def at93 : State := (live.on Fld.NVQ.BG.GATE_OPEN).on Fld.MBR.SCRUB_CFG.ENABLE

def at94 : State := (live.on Fld.NVQ.BG.GATE_OPEN).modMb fun m => { m with unread := [(0, 3, 0, 0)] }

def at95 : State := ((live.modSw fun w => { w with frames := [aFrame] }).on (Fld.FAB_E.PORT_CFG.ENABLE 1)).on (Fld.FAB_E.PORT_STATUS.LINK_UP 1) |>.put (Fld.TGS_P.SCHED.STRICT 1) 255

def at96 : State := live.modSw fun w => { w with frames := [{ aFrame with dests := [(7, 0)] }] }

def at97 : State := live.modSw fun w => { w with frames := [aFrame] }

def at98 : State := live.put (Fld.FAB_E.PFC_CFG.LOSSLESS 1) 1

def at99 : State := live.modSw fun w => { w with paused := [12] }

def at100 : State := live.modSw fun w => { w with xoff := [12] }

def at101 : State := live.modSw fun w => { w with neigh := [(2, ⟨true, false, false, 0, 0, 0, 0, 0⟩)] }

def at102 : State := live.setN Reg.SWC.TBL_SELECT (2)

def at103 : State := ((live.setN Reg.SWC.TBL_SELECT (2 * 2 ^ 28 + 2)).setN (Reg.SWC.TBL_DATA 0) 4)

def at104 : State := live.setN Reg.SWC.TBL_SELECT (2 * 2 ^ 28 + 4000)

def at105 : State := live.setN Reg.SWC.TBL_SELECT (3 * 2 ^ 28 + 2)

def at106 : State := live.setN Reg.SWC.TBL_SELECT (4 * 2 ^ 28 + 100)

def at107 : State := (live.on (Fld.FAB_E.PORT_CFG.ENABLE 2)).on (Fld.FAB_E.PORT_STATUS.LINK_UP 2)

def at108 : State := ((live.on (Fld.FAB_E.PORT_CFG.ENABLE 2)).on (Fld.FAB_E.PORT_STATUS.LINK_UP 2)).modSw fun w => { w with ident := [(2, (1, 2, 3, 4, 5))] }

def at109 : State := ((live.on (Fld.FAB_E.PORT_CFG.ENABLE 1)).modAon fun a => { a with squelched := false })

def at110 : State := (live.on (Fld.FAB_E.PORT_STATUS.LINK_UP 1))

def at111 : State := (live.modFab fun f => { f with conns := [(3, ({ aConn with cntlid := some 5 } : Conn))], cur := [(0, aWin)] })

def at112 : State := (live.modFab fun f => { f with conns := [(3, ({ aConn with una := [⟨0, 1, .readData 4⟩], spsn := 1 } : Conn))], cur := [(0, aWin)] })

def at113 : State := (live.modFab fun f => { f with conns := [(3, ({ aConn with una := [⟨0, 1, .readData 4⟩], spsn := 1 } : Conn))], cur := [(0, aWin)] }).put Fld.FAB.RC_CFG.RETRY_CNT 7

def at114 : State := (live.modFab fun f => { f with conns := [(3, ({ aConn with una := [⟨0, 1, .readData 4⟩], spsn := 1 } : Conn))], cur := [(0, aWin)] }).put Fld.FAB.RC_CFG.RNR_RETRY 7

def at115 : State := (live.modFab fun f => { f with conns := [(3, aConn)], cur := [(0, aWin)] })

def at116 : State := (live.modFab fun f => { f with conns := [(3, aConn)], cur := [(0, aWin)] }).on Fld.FAB.CC_CFG.ENABLE

def at117 : State := live.modFab fun f => { f with conns := (List.range 64).map fun i => (i, { aConn with st := 1 }) }

def at118 : State := live.withConn 1

def at119 : State := live.withConn 4

def at120 : State := (live.on Fld.FAB.WIN_STATUS.OLD_IN_FLIGHT)

def at121 : State := (live.withIo .write .zopen).modFab fun y => { y with conns := [(3, ({ aConn with una := [⟨3, 1, .readReq 4 0 0 0⟩] } : Conn))] }

def at122 : State := ((live.modFr fun y => { y with cmds := [(4, ({ aCmd (some (anIo .write .zopen)) with total := 1, zone := some 0 } : Cmd))], queues := [{ aQueue with qid := 1 }] }).modFab fun y => { y with conns := [(3, { aConn with ird := 4 })] }).put Fld.FAB.RD_POOL.CELLS_FREE 100

def at123 : State := live.setN Reg.PTP.CFG 512

def at124 : State := live.put Fld.PTP.STATUS.SERVO 3

def at125 : State := (live.put (portState 1) 6)

def at126 : State := (live.put Fld.PTP.PPS.IN_MODE 1)

def at127 : State := (live.put Fld.PTP.PPS.IN_MODE 2)

def at128 : State := (live.on Fld.PTP.PPS.OUT_EN)

def at129 : State := live.modTg fun t => { t with setGo := some 9 }

def at130 : State := (live.put (portState 1) 9)

def at131 : State := live.modTg fun t => { t with lists := List.replicate 8 { GList.reset with running := some aSet } }

def at132 : State := live.modTg fun t => { t with lists := List.replicate 8 { GList.reset with sLen := 1, sCycle := 1000, sEnt := [(0, (255, 1000))] } }

def at133 : State := (live.modTg fun t => { t with lists := List.replicate 8 { GList.reset with sLen := 1, sCycle := 1000, sEnt := [(0, (255, 1000))] } }).on ⟨Reg.TGS.CFG, 0, 1⟩

def at134 : State := live.modTg fun t => { t with lists := List.replicate 8 { GList.reset with pending := some aSet } }

def at135 : State := ((live.modAon fun a => { a with dumpPhase := 0 }).put (Fld.DMA_C.STATUS.STATE 9) 0)

def at136 : State := (live.put (Fld.DMA_C.STATUS.STATE 9) 5)

def at137 : State := (live.put (Fld.DMA_C.STATUS.STATE 0) 7)

def at138 : State := ((live.put (Fld.DMA_C.STATUS.STATE 9) 1).put Fld.TOP.DRAM_FITTED.V 1).withDma { DmaCh.idle with fetch := some 64 }

def at139 : State := { (((live.put (Fld.DMA_C.STATUS.STATE 9) 1).put Fld.TOP.DRAM_FITTED.V 1).withDma { DmaCh.idle with fetch := some 64 }) with dram := [(64 + 22, 7)] }

def at140 : State := (live.put (Fld.DMA_C.STATUS.STATE 9) 1).withDma { DmaCh.idle with fetch := some 65 }

def at141 : State := (live.put (Fld.DMA_C.STATUS.STATE 0) 3).withDma { DmaCh.idle with jobs := [aJob] }

def at142 : State := (live.withDma { DmaCh.idle with jobs := [{ aJob with issued := 1 }], bursts := [(64, [1])] }).modEp fun e => { e with command := 4 }

def at143 : State := live.withDma { DmaCh.idle with jobs := [{ aJob with closed := true }] }

def at144 : State := { (live.put (Fld.DMA_C.STATUS.STATE 9) 6) with dram := [(20, 1)] }

def at145 : State := ((live.put (Fld.DMA_C.STATUS.STATE 9) 4).withDma { DmaCh.idle with want := some 2 }).modDmac fun d => { d with owner := [(2, 9)] }

def at146 : State := ((live.put (Fld.DMA_C.STATUS.STATE 9) 6).withDma { DmaCh.idle with jobs := [{ aJob with d := { lineDesc with line := 2 } }] }).modDmac fun y => { y with owner := [(2, 9)] }

def at147 : State := live.modKeys fun k => { k with imp := some (3, [], []) }

def at148 : State := live.modKeys fun k => { k with imp := some (4, [], []) }

def at149 : State := (live.on Fld.KEY.STATUS.ZEROISING)

def at150 : State := ((live.put (Fld.DRP_P.STATUS.STATE 3) ptReset).on (Fld.SLP_C.STATUS.PG 3))

def at151 : State := live.put (Fld.DRP_P.STATUS.STATE 3) ptTraining

def at152 : State := live.put (Fld.DRP_P.STATUS.STATE 3) ptRecovering

def at153 : State := (live.put (Fld.DRP_P.STATUS.STATE 3) ptTraining).withPort { Port.reset with tries := 1 }

def at154 : State := (live.put (Fld.DRP_P.STATUS.STATE 3) ptConfiguring)

def at155 : State := (live.put (Fld.DRP_P.STATUS.STATE 3) ptUp)

def at156 : State := live.put (Fld.DRP_P.STATUS.STATE 9) ptRecovering

def at157 : State := (live.put (Fld.DRP_P.STATUS.STATE 3) ptRecovering).withPs { Power.reset with ps := 6 }

def at158 : State := live.put (Fld.DRP_P.STATUS.STATE 3) ptQuiescing

def at159 : State := live.withPort { Port.reset with cfsTried := true }

def at160 : State := live.put (Fld.DRP_P.STATUS.STATE 3) ptUp

def at161 : State := (live.put (Fld.DRP_P.STATUS.STATE 3) ptUp).withPort { Port.reset with reqs := [aReq] }

def at162 : State := live.withPort { Port.reset with tags := [(4, { aTag with req := { aReq with n := 2 } })], drive := some { aDrive with mdts := 1 } }

def at163 : State := live.withPort { Port.reset with tags := [(4, aTag)] }

def at164 : State := live.withPort { Port.reset with tags := [(4, { aTag with req := { aReq with write := true } })] }

def at165 : State := live.withPort { Port.reset with tags := [(4, oldTag)] }

def at166 : State := (live.on (Fld.DRP_P.SLOT_STATUS.PRESENT 3))

def at167 : State := (live.on (Fld.DRP_P.SLOT_STATUS.BUTTON_WINDOW 3))

def at168 : State := (live.put (Fld.DRP_P.STATUS.STATE 3) ptUp).withCol Column.vacant

def at169 : State := (live.on (Fld.DRP_P.CFG_STATUS.BUSY 3)).withPort { Port.reset with cfgOp := 1 }

def at170 : State := live.on (Fld.DRP_P.CFG_STATUS.BUSY 3)

def at171 : State := (((live.withChan { Chan.reset with demand := true }).put Fld.SLP.FEED_STATUS.SELECTED 1).put (Fld.SLP_C.STATUS.STATE 3) chQueued).put Fld.SLP.CFG.RAMP_MAX 4

def at172 : State := (live.put (Fld.SLP_C.STATUS.STATE 3) chRamping)

def at173 : State := live.put (Fld.SLP_C.STATUS.STATE 3) chOn

def at174 : State := (live.put (Fld.SLP_C.STATUS.STATE 3) chOverload)

def at175 : State := (live.on (Fld.SLP_C.CFG.TSRC 3))

def at176 : State := (((live.put (Fld.SLP_C.MODEL0.TAU1 3) 1).put (Fld.SLP_C.MODEL1.TAU2 3) 1).on (Fld.SLP_C.STATUS.TSRC_ACTIVE 3))

def at177 : State := ((live.withChan { Chan.reset with demand := true }).put Fld.SLP.FEED_STATUS.SELECTED 1).put (Fld.SLP_C.STATUS.STATE 3) chBackoff

def at178 : State := (live.on (Fld.SLP_C.STATUS.PG 3))

def at179 : State := live.withChan { Chan.reset with demand := true }

def at180 : State := ((live.withChan { Chan.reset with demand := true }).withPort { Port.reset with wanted := true }).on (Fld.DRP_P.CTRL.ENABLE 3) |>.on (Fld.DRP_P.STATUS.PENDING 3)

def at181 : State := (live.put (Fld.SLP_C.STATUS.STATE 3) chShut)

def at182 : State := (live.put (Fld.SLP_C.STATUS.STATE 3) chMinOff)

def at183 : State := (live.put (Fld.SLP_C.STATUS.STATE 3) chLatched)

def at184 : State := live.put (Fld.SLP_C.STATUS.STATE 3) chRamping

def at185 : State := live.on (feedBit 3 1)

def at186 : State := live.put Fld.SLP.FEED_STATUS.SELECTED 1

def at187 : State := (live.on Fld.SLP.FEED_STATUS.SWITCHING)

def at188 : State := (live.on Fld.SLP.FEED_STATUS.SWITCHING).modAon fun a => { a with feedGates := 1 }

def at189 : State := ((live.on Fld.SLP.FEED_CFG.REVERT).on (feedBit 3 0)).put Fld.SLP.FEED_STATUS.SELECTED 2

def at190 : State := (live.modAon fun a => { a with epPerst := false })

def at191 : State := (live.modAon fun a => { a with epPerst := true })

def at192 : State := ((live.put Fld.EPF.STATUS.STATE epTraining).modAon fun a => { a with squelched := false })

def at193 : State := live.setEp epReady

def at194 : State := (live.put Fld.EPF.STATUS.STATE epResetting)

def at195 : State := (live.put Fld.EPF.STATUS.STATE epReady)

def at196 : State := live.setEp epNotReady

def at197 : State := (((((live.setEp epReady).modEp fun e => { e with command := 2 }).on Fld.DDC.STATUS.TRAINED).put Fld.TOP.DRAM_FITTED.V 2048).put Fld.EPF.BAR2_CFG.LOG2 30)

def at198 : State := (((((live.setEp epReady).modEp fun e => { e with command := 2 }).on Fld.DDC.STATUS.TRAINED).put Fld.TOP.DRAM_FITTED.V 512).put Fld.EPF.BAR2_CFG.LOG2 30)

def at199 : State := (((((live.setEp epReady).modEp fun e => { e with command := 2 }).on Fld.DDC.STATUS.TRAINED).put Fld.TOP.DRAM_FITTED.V 2048).put Fld.EPF.BAR2_CFG.LOG2 30).put Fld.TOP.DRAM_REQUIRED.V 1

def at200 : State := (((((live.setEp epReady).modEp fun e => { e with command := 2 }).on Fld.DDC.STATUS.TRAINED).put Fld.TOP.DRAM_FITTED.V 0).put Fld.EPF.BAR2_CFG.LOG2 30)

def at201 : State := (((live.setEp epReady).modEp fun e => { e with command := 2 }).put Fld.EPF.BAR2_CFG.LOG2 30)

def at202 : State := (((live.setEp epReady).modEp fun e => { e with command := 2 }).on Fld.DDC.STATUS.TRAINED)

def at203 : State := live.on Fld.EPF.SB_CFG.ENABLE

def at204 : State := (live.put Fld.EPF.LOCK.OWNER 0)

def at205 : State := live.put Fld.EPF.LOCK.OWNER (pathCode .v)

def at206 : State := ((live.on Fld.FLT.STATUS.PULSING).modAon fun a => { a with levelSet := false })

def at207 : State := ((live.on Fld.FLT.STATUS.PULSING).modAon fun a => { a with levelSet := true })

def at208 : State := (live.put Fld.FLT.CFG.TOCSIN_MODE 1)

def at209 : State := (live.on Fld.FLT.STATUS.ALIVE)

def at210 : State := (((live.on Fld.FLT.STATUS.ALIVE).on Fld.FLT.STATUS.TOCSIN).modAon fun a => { a with tocsinHold := false })

def at211 : State := (((live.on Fld.FLT.STATUS.ALIVE).on Fld.FLT.STATUS.TOCSIN).modAon fun a => { a with tocsinHold := true })

def at212 : State := (live.on Fld.EVR.STATUS.READY)

def at213 : State := (live.on Fld.EVR.CTRL.FREEZE)

def at214 : State := live.modNv fun y => { y with carillon := [(3, aRec)] }

def at215 : State := live.modPmc fun p => { p with bwFresh := true }

def at216 : State := (live.on Fld.DDC.STATUS.TRAINED)

def at217 : State := ((live.on Fld.DDC.STATUS.TRAINED).put (Fld.DDC_C.PATROL_CFG.HOURS 1) 1)

def at218 : State := (live.on Fld.DDC.STATUS.TRAINED).modAcc fun a => { a with xfer := [(2, 3)] }

def at219 : State := live.on Fld.DRP.MODE.X4

def at220 : State := (live.put Fld.EPF.STATUS.STATE epNotReady)

def at221 : State := live.on Fld.EVR.CTRL.FREEZE

/-- No chunk is worn less than one never worn. -/
theorem lessWorn_zero (s : State) : s.lessWorn 0 = false := by simp [State.lessWorn]

/-- Witness of Obligations.StepRunsTheFrontCommand. -/
theorem test_witness_StepRunsTheFrontCommand :
    (at1.pending = (Instr.refLost) :: []) := by
  repeat' apply And.intro
  all_goals first | with_reducible rfl | decide +kernel | (intro _ e; exact nomatch e) | (intro e; exact absurd e (by decide)) | exact eq_nextOf _ _ (by decide +kernel)

/-- Witness of Obligations.IdleStepAdvancesTimeAlone. -/
theorem test_witness_IdleStepAdvancesTimeAlone :
    ((at2.pending = []) ∧ (at2.aon.coreUp = false)) ∧
    ((at3.pending = []) ∧ (at3.aon.coreUp = true) ∧ ((at3.tg.rateFrac + (BitVec.ofNat 32 (at3.regN Reg.PTP.ADJ_RATE)).toInt) = at3.tg.rateFrac + (BitVec.ofNat 32 (at3.regN Reg.PTP.ADJ_RATE)).toInt)) := by
  repeat' apply And.intro
  all_goals first | with_reducible rfl | decide +kernel | (intro _ e; exact nomatch e) | (intro e; exact absurd e (by decide)) | exact eq_nextOf _ _ (by decide +kernel)

/-- Witness of Obligations.ReferenceAndRootPll. -/
theorem test_witness_ReferenceAndRootPll :
    ((at4.aon.coreUp = true) ∧ (at4.flag Fld.CLK.STATUS.REF_PRESENT = true) ∧ (-5000 ≤ (3 : Int)) ∧ ((3 : Int) ≤ 5000)) ∧
    ((at4.aon.coreUp = true) ∧ (at4.flag Fld.CLK.STATUS.REF_PRESENT = true) ∧ (-32768 ≤ (-6000 : Int)) ∧ ((-6000 : Int) ≤ 32767) ∧ ((-6000 : Int) < -5000 ∨ 5000 < (-6000 : Int))) ∧
    ((at4.aon.coreUp = true) ∧ (at4.flag Fld.CLK.STATUS.REF_PRESENT = true)) ∧
    ((at3.aon.coreUp = true)) ∧
    ((at5.aon.coreUp = true) ∧ (at5.flag Fld.CLK.STATUS.ROOT_LOCK = true)) ∧
    ((at4.aon.coreUp = true) ∧ (at4.flag Fld.CLK.STATUS.REF_PRESENT = true) ∧ (at4.flag Fld.CLK.STATUS.ROOT_LOCK = false) ∧ (at4.aon.dumpPhase ≠ 1)) ∧
    ((at6.aon.coreUp = true) ∧ (at6.flag Fld.CLK.STATUS.REF_PRESENT = true) ∧ (at6.flag Fld.CLK.STATUS.ROOT_LOCK = false) ∧ (at6.aon.dumpPhase = 1)) := by
  repeat' apply And.intro
  all_goals first | with_reducible rfl | decide +kernel | (intro _ e; exact nomatch e) | (intro e; exact absurd e (by decide)) | exact eq_nextOf _ _ (by decide +kernel)

/-- Witness of Obligations.SuppliesAndResets. -/
theorem test_witness_SuppliesAndResets :
    ((at7.aon.released = false)) ∧
    ((1 ≤ 3) ∧ (3 < 8) ∧ (at3.aon.coreUp = true) ∧ (at3.aon.dumpPhase ≠ 1) ∧ (at3.aon.dumpPhase ≠ 2)) ∧
    ((1 ≤ 3) ∧ (3 < 8) ∧ (at2.aon.coreUp = false)) ∧
    ((at8.aon.released = true) ∧ (at8.aon.porst = true) ∧ (at8.aon.pfail = true) ∧ (at8.aon.coreUp = false)) ∧
    ((at3.aon.coreUp = true)) ∧
    ((at9.aon.coreUp = true) ∧ (at9.flag Fld.FLT.STATUS.HALTED = true) ∧ (at9.get Fld.FLT.CFG.HALT_HOLD_S ≠ 0)) := by
  repeat' apply And.intro
  all_goals first | with_reducible rfl | decide +kernel | (intro _ e; exact nomatch e) | (intro e; exact absurd e (by decide)) | exact eq_nextOf _ _ (by decide +kernel)

/-- Witness of Obligations.CoreResetLeaves. -/
theorem test_witness_CoreResetLeaves :
    ((2 < 8) ∧ (at3.canon = true)) ∧
    ((2 < 8) ∧ (at3.canon = true) ∧ (keptAcross 3 = false) ∧ (3 ≠ Reg.EVC.PEND 41)) := by
  repeat' apply And.intro
  all_goals first | with_reducible rfl | decide +kernel | (intro _ e; exact nomatch e) | (intro e; exact absurd e (by decide)) | exact eq_nextOf _ _ (by decide +kernel)

/-- Witness of Obligations.PowerFailSequence. -/
theorem test_witness_PowerFailSequence :
    ((at10.aon.pfail = true) ∧ (at10.aon.coreUp = true) ∧ (at10.aon.dumpPhase ≠ 1)) ∧
    ((at11.aon.pfail = true) ∧ (at11.aon.coreUp = true) ∧ (at11.aon.dumpPhase = 1)) ∧
    ((at12.aon.pfail = false) ∧ (at12.aon.coreUp = false ∨ at12.aon.dumpPhase ≠ 3)) ∧
    ((at13.aon.pfail = false) ∧ (at13.aon.coreUp = true) ∧ (at13.aon.dumpPhase = 3)) ∧
    ((at14.aon.coreUp = true) ∧ (at14.aon.dumpPhase = 2) ∧ (at14.flag Fld.GNT.STATUS.DUMP_PENDING = false) ∧ ((((List.range 256).foldl (fun at14 k => at14.wearAdd (512 + k) 16 2) at14).linesRetire ([] : List Nat)) = ((List.range 256).foldl (fun at14 k => at14.wearAdd (512 + k) 16 2) at14).linesRetire ([] : List Nat))) ∧
    ((at15.aon.coreUp = true) ∧ (at15.aon.dumpPhase = 2) ∧ (at15.flag Fld.GNT.STATUS.DUMP_PENDING = true)) := by
  repeat' apply And.intro
  all_goals first | with_reducible rfl | decide +kernel | (intro _ e; exact nomatch e) | (intro e; exact absurd e (by decide)) | exact eq_nextOf _ _ (by decide +kernel)

/-- Witness of Obligations.StartSequence. -/
theorem test_witness_StartSequence :
    ((at16.aon.coreUp = true) ∧ (at16.stopped = false) ∧ (at16.boot.phase = 1)) ∧
    ((at17.aon.coreUp = true) ∧ (at17.stopped = false) ∧ (at17.boot.phase = 2)) ∧
    ((at17.aon.coreUp = true) ∧ (at17.stopped = false) ∧ (at17.flag Fld.DDC.STATUS.TRAINED = false) ∧ (at17.boot.trainFails < 2) ∧ (at17.boot.phase = 2 ∨ at17.boot.phase = 3)) ∧
    ((at18.aon.coreUp = true) ∧ (at18.stopped = false) ∧ (at18.flag Fld.DDC.STATUS.TRAINED = false) ∧ (at18.boot.trainFails = 0) ∧ (at18.boot.phase = 2 ∨ at18.boot.phase = 3)) ∧
    ((at19.aon.coreUp = true) ∧ (at19.stopped = false) ∧ (at19.boot.phase = 4)) ∧
    ((at20.aon.coreUp = true) ∧ (at20.stopped = false) ∧ (at20.flag Fld.TOP.STATUS.HOLD_SEAL = true) ∧ (at20.flag Fld.TOP.STATUS.SEALED = false)) ∧
    ((at21.aon.coreUp = true) ∧ (at21.stopped = false) ∧ (at21.boot.phase = 6) ∧ (at21.lay.isSome = true)) ∧
    ((at22.aon.coreUp = true) ∧ (at22.stopped = false) ∧ (at22.boot.phase = 7) ∧ (at22.lay.isSome = true) ∧ ((at22.linesRetire ([] : List Nat)).tableStore = some (Tables.reset, 3)) ∧ ((at22.linesRetire ([] : List Nat)).mirrorOn = false ∨ true = true) ∧ ((at22.linesRetire ([] : List Nat)).garnetLost = false)) ∧
    ((at23.aon.coreUp = true) ∧ (at23.stopped = false) ∧ (at23.boot.phase = 7) ∧ (at23.lay.isSome = true) ∧ ((at23.linesRetire ([] : List Nat)).tableStore = some (Tables.reset, 3)) ∧ ((at23.linesRetire ([] : List Nat)).mirrorOn = false ∨ true = true) ∧ ((at23.linesRetire ([] : List Nat)).garnetLost = true)) ∧
    ((at24.aon.coreUp = true) ∧ (at24.stopped = false) ∧ (at24.boot.phase = 7) ∧ (at24.lay.isSome = true) ∧ ((at24.linesRetire ([] : List Nat)).tableStore = some (Tables.reset, 3)) ∧ ((at24.linesRetire ([] : List Nat)).mirrorOn = true) ∧ (false = false)) := by
  repeat' apply And.intro
  all_goals first | with_reducible rfl | decide +kernel | (intro _ e; exact nomatch e) | (intro e; exact absurd e (by decide)) | exact eq_nextOf _ _ (by decide +kernel)

/-- Witness of Obligations.SealExtendsSlotSeven. -/
theorem test_witness_SealExtendsSlotSeven :
    ((at3.boot.msl.length = 16)) ∧
    ((at3.boot.msl.length = 16) ∧ (3 ≠ 7)) ∧
    ((at25.boot.msl.length = 16) ∧ (at25.aon.coreUp = true) ∧ (at25.flag Fld.TOP.STATUS.SEALED = true)) := by
  repeat' apply And.intro
  all_goals first | with_reducible rfl | decide +kernel | (intro _ e; exact nomatch e) | (intro e; exact absurd e (by decide)) | exact eq_nextOf _ _ (by decide +kernel)

/-- Witness of Obligations.ConfigurationCommands. -/
theorem test_witness_ConfigurationCommands :
    ((at3.aon.coreUp = true) ∧ (at3.fuse = some aFuses) ∧ (at3.flag Fld.CFG.CMD_RESULT.BUSY = false) ∧ (12 ≤ 13) ∧ (13 < 16)) ∧
    ((at3.aon.coreUp = true) ∧ (at3.fuse = some aFuses) ∧ (at3.flag Fld.CFG.CMD_RESULT.BUSY = false) ∧ (3 < 12)) ∧
    ((at26.aon.coreUp = true) ∧ (at26.fuse = some aFuses) ∧ (at26.flag Fld.CFG.CMD_RESULT.BUSY = false) ∧ ((at26.rd64 Reg.CFG.UPD_ADDR_LO) = at26.rd64 Reg.CFG.UPD_ADDR_LO) ∧ ((at26.get Fld.CFG.UPD_LEN.V) = at26.get Fld.CFG.UPD_LEN.V) ∧ (((if at26.flag Fld.DDC.STATUS.TRAINED = true then at26.get Fld.TOP.DRAM_FITTED.V * 2 ^ 20 else 2 ^ 25)) = (if at26.flag Fld.DDC.STATUS.TRAINED = true then at26.get Fld.TOP.DRAM_FITTED.V * 2 ^ 20 else 2 ^ 25)) ∧ (((if at26.flag Fld.DDC.STATUS.TRAINED = true then at26.dramRead (at26.rd64 Reg.CFG.UPD_ADDR_LO) (at26.get Fld.CFG.UPD_LEN.V) else memGetAll at26.boot.buffer (at26.rd64 Reg.CFG.UPD_ADDR_LO) (at26.get Fld.CFG.UPD_LEN.V))) = (if at26.flag Fld.DDC.STATUS.TRAINED = true then at26.dramRead (at26.rd64 Reg.CFG.UPD_ADDR_LO) (at26.get Fld.CFG.UPD_LEN.V) else memGetAll at26.boot.buffer (at26.rd64 Reg.CFG.UPD_ADDR_LO) (at26.get Fld.CFG.UPD_LEN.V))) ∧ (((if at26.flag Fld.DDC.STATUS.TRAINED = true then at26.get Fld.TOP.DRAM_FITTED.V * 2 ^ 20 else 2 ^ 25)) < (at26.rd64 Reg.CFG.UPD_ADDR_LO) + (at26.get Fld.CFG.UPD_LEN.V))) ∧
    ((at3.aon.coreUp = true) ∧ (at3.fuse = some aFuses) ∧ (at3.flag Fld.CFG.CMD_RESULT.BUSY = false) ∧ ((at3.rd64 Reg.CFG.UPD_ADDR_LO) = at3.rd64 Reg.CFG.UPD_ADDR_LO) ∧ ((at3.get Fld.CFG.UPD_LEN.V) = at3.get Fld.CFG.UPD_LEN.V) ∧ (((if at3.flag Fld.DDC.STATUS.TRAINED = true then at3.get Fld.TOP.DRAM_FITTED.V * 2 ^ 20 else 2 ^ 25)) = (if at3.flag Fld.DDC.STATUS.TRAINED = true then at3.get Fld.TOP.DRAM_FITTED.V * 2 ^ 20 else 2 ^ 25)) ∧ (((if at3.flag Fld.DDC.STATUS.TRAINED = true then at3.dramRead (at3.rd64 Reg.CFG.UPD_ADDR_LO) (at3.get Fld.CFG.UPD_LEN.V) else memGetAll at3.boot.buffer (at3.rd64 Reg.CFG.UPD_ADDR_LO) (at3.get Fld.CFG.UPD_LEN.V))) = (if at3.flag Fld.DDC.STATUS.TRAINED = true then at3.dramRead (at3.rd64 Reg.CFG.UPD_ADDR_LO) (at3.get Fld.CFG.UPD_LEN.V) else memGetAll at3.boot.buffer (at3.rd64 Reg.CFG.UPD_ADDR_LO) (at3.get Fld.CFG.UPD_LEN.V))) ∧ ((at3.rd64 Reg.CFG.UPD_ADDR_LO) + (at3.get Fld.CFG.UPD_LEN.V) ≤ ((if at3.flag Fld.DDC.STATUS.TRAINED = true then at3.get Fld.TOP.DRAM_FITTED.V * 2 ^ 20 else 2 ^ 25)))) ∧
    ((at3.aon.coreUp = true) ∧ (at3.fuse = some aFuses) ∧ (at3.flag Fld.CFG.CMD_RESULT.BUSY = false)) ∧
    ((at27.aon.coreUp = true) ∧ (at27.fuse = some aFuses) ∧ (at27.flag Fld.CFG.CMD_RESULT.BUSY = false) ∧ (at27.get Fld.TOP.STATUS.MODE ≠ 2) ∧ (at27.flag Fld.CFG.STATUS.FW_VERIFIED = true)) ∧
    ((at3.aon.coreUp = true) ∧ (at3.fuse = some aFuses) ∧ (at3.flag Fld.CFG.CMD_RESULT.BUSY = false) ∧ (at3.get Fld.TOP.STATUS.MODE ≠ 2) ∧ (aFuses.ownerHash = none)) ∧
    ((at28.aon.coreUp = true) ∧ (at28.fuse = some bFuses) ∧ (at28.flag Fld.CFG.CMD_RESULT.BUSY = false) ∧ (at28.get Fld.TOP.STATUS.MODE ≠ 2) ∧ (bFuses.ownerHash.isSome = true)) ∧
    ((at29.aon.coreUp = true) ∧ (at29.fuse = some aFuses) ∧ (at29.flag Fld.CFG.CMD_RESULT.BUSY = false) ∧ (at29.get Fld.TOP.STATUS.MODE = 2)) ∧
    ((at30.aon.coreUp = true) ∧ (at30.fuse = some aFuses) ∧ (at30.boot.stage = some ([], 0)) ∧ (at30.flash = some aFlash)) := by
  repeat' apply And.intro
  all_goals first | with_reducible rfl | decide +kernel | (intro _ e; exact nomatch e) | (intro e; exact absurd e (by decide)) | exact eq_nextOf _ _ (by decide +kernel)

/-- Witness of Obligations.OverlayCommands. -/
theorem test_witness_OverlayCommands :
    ((at31.aon.coreUp = true) ∧ (3 < 16) ∧ (at31.ovlValid 3 = true)) ∧
    ((at3.aon.coreUp = true) ∧ (3 < 16) ∧ (at3.ovlValid 3 = false)) ∧
    ((at32.aon.coreUp = true) ∧ (at32.flag Fld.CFG.STATUS.IMAGE_APPLIED = true) ∧ (at32.stopped = false) ∧ (at32.tg.ovlDue = some 1)) ∧
    ((at33.aon.coreUp = true) ∧ (at33.flag Fld.CFG.STATUS.IMAGE_APPLIED = true) ∧ (at33.stopped = false) ∧ (at33.tg.ovlDue = none) ∧ (at33.boot.ovlReqs = (3, 7) :: ([] : List (Nat × Nat))) ∧ ((at33.glist 7).running = none)) := by
  repeat' apply And.intro
  all_goals first | with_reducible rfl | decide +kernel | (intro _ e; exact nomatch e) | (intro e; exact absurd e (by decide)) | exact eq_nextOf _ _ (by decide +kernel)

/-- Witness of Obligations.AttestationRequests. -/
theorem test_witness_AttestationRequests :
    ((at34.aon.coreUp = true) ∧ (at34.carrierUp 0 3 = true) ∧ (0 = 2 → at34.ctrlReady 3 = true)) ∧
    ((at35.aon.coreUp = true) ∧ (1 < 2) ∧ (at35.carrierUp 1 0 = true) ∧ (8 ≤ 9) ∧ (9 ≤ 254)) ∧
    ((at34.aon.coreUp = true) ∧ (0 < 2) ∧ (at34.carrierUp 0 0 = true)) ∧
    ((at3.aon.coreUp = true) ∧ (at3.ctrl? 5 = some aCtrl) ∧ (bit aCtrl.csts 0 = true) ∧ (keyedSgl aSgl.ty = true)) ∧
    ((at36.aon.coreUp = true) ∧ (at36.ctrl? 5 = some aCtrl) ∧ (bit aCtrl.csts 0 = true) ∧ (keyedSgl aSgl.ty = true) ∧ (5 ∉ at36.boot.resynch) ∧ (at36.spdmKey 2 5 = some 2) ∧ (tget at36.boot.spdm 2 = some (Spdm.start 5 0))) := by
  repeat' apply And.intro
  all_goals first | with_reducible rfl | decide +kernel | (intro _ e; exact nomatch e) | (intro e; exact absurd e (by decide)) | exact eq_nextOf _ _ (by decide +kernel)

/-- Witness of Obligations.FabricsAndKeepAlive. -/
theorem test_witness_FabricsAndKeepAlive :
    ((at37.aon.coreUp = true) ∧ (at37.conn? 3 = some { aConn with st := 1 }) ∧ ({ aConn with st := 1 }.st = 1) ∧ ({ aConn with st := 1 }.port = 1) ∧ ({ aConn with st := 1 }.hsq = 31) ∧ (at37.connectCheck { aConn with st := 1 } 0 65535 31 (List.replicate 223 0) = 0)) ∧
    ((at3.aon.coreUp = true) ∧ (at3.ctrl? 5 = some aCtrl)) ∧
    ((at3.aon.coreUp = true) ∧ (at3.ctrl? 5 = some aCtrl) ∧ (bit 1 0 = true) ∧ (bit aCtrl.cc 0 = false) ∧ (bits 1 11 3 < 2)) ∧
    ((at3.aon.coreUp = true) ∧ (at3.ctrl? 5 = some aCtrl) ∧ (bit 0 0 = false)) ∧
    ((at3.aon.coreUp = true) ∧ (at3.ctrl? 5 = some aCtrl) ∧ (aCtrl.kato ≠ 0)) ∧
    ((at3.aon.coreUp = true) ∧ (at3.ctrl? 5 = some aCtrl) ∧ (bit aCtrl.csts 0 = true)) ∧
    ((at3.aon.coreUp = true) ∧ (at3.ctrl? 5 = some aCtrl) ∧ (bit aCtrl.csts 0 = true) ∧ (aCtrl.aers.length < 4) ∧ (aCtrl.events = [])) ∧
    ((at38.aon.coreUp = true) ∧ (at38.ctrl? 5 = some { aCtrl with events := [2] }) ∧ (bit { aCtrl with events := [2] }.csts 0 = true) ∧ ({ aCtrl with events := [2] }.aers.length < 4) ∧ ({ aCtrl with events := [2] }.events = 2 :: [])) ∧
    ((at3.aon.coreUp = true) ∧ (at3.queue? 5 0 = some aQueue)) := by
  repeat' apply And.intro
  all_goals first | with_reducible rfl | decide +kernel | (intro _ e; exact nomatch e) | (intro e; exact absurd e (by decide)) | exact eq_nextOf _ _ (by decide +kernel)

/-- Witness of Obligations.IdentifyLogsFeaturesAbort. -/
theorem test_witness_IdentifyLogsFeaturesAbort :
    ((at3.aon.coreUp = true) ∧ (keyedSgl aSgl.ty = true) ∧ (at3.ctrl? 5 = some aCtrl) ∧ (bit aCtrl.csts 0 = true)) ∧
    ((at3.aon.coreUp = true) ∧ (keyedSgl aSgl.ty = true) ∧ (at3.ctrl? 5 = some aCtrl) ∧ (bit aCtrl.csts 0 = true) ∧ (1000 ≤ 1000) ∧ (1000 ≤ 120000)) ∧
    ((at3.aon.coreUp = true) ∧ (keyedSgl aSgl.ty = true) ∧ (at3.ctrl? 5 = some aCtrl) ∧ (bit aCtrl.csts 0 = true) ∧ (bit (at3.host aCtrl.host).perm 2 = true)) ∧
    ((at3.aon.coreUp = true) ∧ (keyedSgl aSgl.ty = true) ∧ (at3.ctrl? 5 = some aCtrl) ∧ (bit aCtrl.csts 0 = true) ∧ (at3.abortsBefore 5 7 < 4) ∧ (at3.abortMark 5 3 3 = none) ∧ (3 ≠ 0) ∧ (at3.tagOf 5 3 3 = none)) ∧
    ((at39.aon.coreUp = true) ∧ (keyedSgl aSgl.ty = true) ∧ (at39.ctrl? 5 = some aCtrl) ∧ (bit aCtrl.csts 0 = true) ∧ (at39.abortsBefore 5 7 < 4) ∧ (at39.abortMark 5 0 9 = some ((at39.abortMark 5 0 9).getD at39))) := by
  repeat' apply And.intro
  all_goals first | with_reducible rfl | decide +kernel | (intro _ e; exact nomatch e) | (intro e; exact absurd e (by decide)) | exact eq_nextOf _ _ (by decide +kernel)

/-- Witness of Obligations.SelfTestAndVendorAccess. -/
theorem test_witness_SelfTestAndVendorAccess :
    ((at40.aon.coreUp = true) ∧ (at40.ctrl? 5 = some aCtrl) ∧ (bit aCtrl.csts 0 = true) ∧ (at40.stNsidOk aCtrl 0 = true) ∧ (at40.get Fld.NVQ.SELFTEST.OP = 0) ∧ (at40.flag Fld.SWC.TOPO_CFG.PARTNERED = false ∨ true = false)) ∧
    ((at41.aon.coreUp = true) ∧ (at41.ctrl? 5 = some aCtrl) ∧ (bit aCtrl.csts 0 = true) ∧ (at41.stNsidOk aCtrl 0 = true) ∧ (at41.get Fld.NVQ.SELFTEST.OP ≠ 0 ∨ (at41.flag Fld.SWC.TOPO_CFG.PARTNERED = true ∧ true = true))) ∧
    ((at3.aon.coreUp = true) ∧ (at3.ctrl? 5 = some aCtrl) ∧ (bit aCtrl.csts 0 = true)) ∧
    ((at3.aon.coreUp = true) ∧ (at3.ctrl? 5 = some aCtrl) ∧ (bit aCtrl.csts 0 = true) ∧ (3 ≠ 0xF)) ∧
    ((at41.aon.coreUp = true) ∧ (at41.ctrl? 5 = some aCtrl) ∧ (bit aCtrl.csts 0 = true) ∧ (at41.get Fld.NVQ.SELFTEST.OP = 1)) ∧
    ((at42.aon.coreUp = true) ∧ (at42.ctrl? 5 = some aCtrl) ∧ (bit aCtrl.csts 0 = true) ∧ (at42.get Fld.NVQ.SELFTEST.OP = 1) ∧ (at42.get Fld.NVQ.SELFTEST.SEGMENT = 2) ∧ (at42.healthBad = true)) ∧
    ((at43.aon.coreUp = true) ∧ (at43.ctrl? 5 = some aCtrl) ∧ (bit aCtrl.csts 0 = true) ∧ (at43.get Fld.NVQ.SELFTEST.OP = 1) ∧ (3 ≤ at43.get Fld.NVQ.SELFTEST.SEGMENT)) ∧
    ((at44.aon.coreUp = true) ∧ (at44.ctrl? 5 = some aCtrl) ∧ (bit aCtrl.csts 0 = true) ∧ (at44.get Fld.NVQ.SELFTEST.OP = 1) ∧ (at44.get Fld.NVQ.SELFTEST.SEGMENT < 3) ∧ (at44.get Fld.NVQ.SELFTEST.SEGMENT ≠ 2 ∨ at44.healthBad = false)) ∧
    ((at3.aon.coreUp = true) ∧ (at3.ctrl? 5 = some aCtrl) ∧ (bit aCtrl.csts 0 = true) ∧ (bit (at3.host aCtrl.host).perm 2 = true) ∧ (offOk 64 = true)) ∧
    ((at45.aon.coreUp = true) ∧ (at45.ctrl? 5 = some aCtrl) ∧ (bit aCtrl.csts 0 = true) ∧ (bit (at45.host aCtrl.host).perm 2 = false)) := by
  repeat' apply And.intro
  all_goals first | with_reducible rfl | decide +kernel | (intro _ e; exact nomatch e) | (intro e; exact absurd e (by decide)) | exact eq_nextOf _ _ (by decide +kernel)

/-- Witness of Obligations.IoCommandsStart. -/
theorem test_witness_IoCommandsStart :
    ((at46.aon.coreUp = true) ∧ (at46.atStep4 4 (aCmd (some (anIo .read .zopen))) (anIo .read .zopen) aNs) ∧ ((anIo .read .zopen).op = .read)) ∧
    ((at47.aon.coreUp = true) ∧ (at47.atStep4 4 (aCmd (some (anIo .write .zopen))) (anIo .write .zopen) aNs) ∧ ((anIo .write .zopen).op = .write)) ∧
    ((at48.aon.coreUp = true) ∧ (at48.atStep4 4 (aCmd (some (anIo .append .zopen))) (anIo .append .zopen) aNs) ∧ ((anIo .append .zopen).op = .append)) ∧
    ((at49.aon.coreUp = true) ∧ (at49.atStep4 4 (aCmd (some (anIo .writeZeroes .zopen))) (anIo .writeZeroes .zopen) aNs) ∧ ((anIo .writeZeroes .zopen).op = .writeZeroes)) ∧
    ((at50.aon.coreUp = true) ∧ (at50.atStep4 4 (aCmd (some (anIo .dsm .zopen))) (anIo .dsm .zopen) aNs) ∧ ((anIo .dsm .zopen).op = .dsm) ∧ (aNs.conv = false ∨ keyedSgl (anIo .dsm .zopen).sgl = true)) ∧
    ((at51.aon.coreUp = true) ∧ (at51.atStep4 4 (aCmd (some { anIo .dsm .zopen with sgl := 0 })) { anIo .dsm .zopen with sgl := 0 } ({ aNs with cfg := 2 } : Ns)) ∧ ({ anIo .dsm .zopen with sgl := 0 }.op = .dsm) ∧ (({ aNs with cfg := 2 } : Ns).conv = true) ∧ (keyedSgl { anIo .dsm .zopen with sgl := 0 }.sgl = false)) ∧
    ((at52.aon.coreUp = true) ∧ (at52.atStep4 4 (aCmd (some (anIo .flush .zopen))) (anIo .flush .zopen) aNs) ∧ ((anIo .flush .zopen).op = .flush)) ∧
    ((at53.aon.coreUp = true) ∧ (at53.atStep4 4 (aCmd (some (anIo .zoneSend .zopen))) (anIo .zoneSend .zopen) aNs) ∧ ((anIo .zoneSend .zopen).op = .zoneSend) ∧ ((anIo .zoneSend .zopen).zact = .zopen)) ∧
    ((at54.aon.coreUp = true) ∧ (at54.atStep4 4 (aCmd (some (anIo .zoneSend .zclose))) (anIo .zoneSend .zclose) aNs) ∧ ((anIo .zoneSend .zclose).op = .zoneSend) ∧ ((anIo .zoneSend .zclose).zact = .zclose)) ∧
    ((at55.aon.coreUp = true) ∧ (at55.atStep4 4 (aCmd (some (anIo .zoneSend .zfinish))) (anIo .zoneSend .zfinish) aNs) ∧ ((anIo .zoneSend .zfinish).op = .zoneSend) ∧ ((anIo .zoneSend .zfinish).zact = .zfinish)) ∧
    ((at56.aon.coreUp = true) ∧ (at56.atStep4 4 (aCmd (some (anIo .zoneSend .zreset))) (anIo .zoneSend .zreset) aNs) ∧ ((anIo .zoneSend .zreset).op = .zoneSend) ∧ ((anIo .zoneSend .zreset).zact = .zreset)) ∧
    ((at57.aon.coreUp = true) ∧ (at57.atStep4 4 (aCmd (some (anIo .zoneSend .zoffline))) (anIo .zoneSend .zoffline) aNs) ∧ ((anIo .zoneSend .zoffline).op = .zoneSend) ∧ ((anIo .zoneSend .zoffline).zact = .zoffline)) ∧
    ((at58.aon.coreUp = true) ∧ (at58.atStep4 4 (aCmd (some (anIo .zoneReceive .zopen))) (anIo .zoneReceive .zopen) aNs) ∧ ((anIo .zoneReceive .zopen).op = .zoneReceive) ∧ (aNs.conv = false) ∧ (keyedSgl (anIo .zoneReceive .zopen).sgl = true)) := by
  repeat' apply And.intro
  all_goals first | with_reducible rfl | decide +kernel | (intro _ e; exact nomatch e) | (intro e; exact absurd e (by decide)) | exact eq_nextOf _ _ (by decide +kernel)

/-- Witness of Obligations.WriteCommandRefusals. -/
theorem test_witness_WriteCommandRefusals :
    ((at59.cmd? 4 = some (aCmd (some (anIo .read .zopen)))) ∧ ((aCmd (some (anIo .read .zopen))).claimed = false) ∧ (at59.writeProtected = true) ∧ (at59.dataCheck aNs (anIo .write .zopen) = 0) ∧ ((anIo .write .zopen).op = .append → aNs.conv = false)) ∧
    ((at3.cmd? 4 = some (aCmd (some (anIo .read .zopen)))) ∧ ((aCmd (some (anIo .read .zopen))).claimed = false) ∧ ((anIo .append .zopen).op = .append) ∧ ({ aNs with cfg := 2 }.conv = true)) ∧
    ((at3.cmd? 4 = some (aCmd (some (anIo .read .zopen)))) ∧ ((aCmd (some (anIo .read .zopen))).claimed = false) ∧ ({ aNs with cfg := 2 }.conv = true)) ∧
    ((at59.cmd? 4 = some (aCmd (some (anIo .read .zopen)))) ∧ ((aCmd (some (anIo .read .zopen))).claimed = false) ∧ (aNs.conv = false) ∧ (at59.writeProtected = true)) ∧
    ((at3.cmd? 4 = some (aCmd (some (anIo .read .zopen)))) ∧ ((aCmd (some (anIo .read .zopen))).claimed = false) ∧ (aNs.conv = false)) ∧
    ((at59.cmd? 4 = some (aCmd (some (anIo .read .zopen)))) ∧ ((aCmd (some (anIo .read .zopen))).claimed = false) ∧ ({ aNs with cfg := 2 }.conv = true) ∧ (at59.writeProtected = true)) := by
  repeat' apply And.intro
  all_goals first | with_reducible rfl | decide +kernel | (intro _ e; exact nomatch e) | (intro e; exact absurd e (by decide)) | exact eq_nextOf _ _ (by decide +kernel)

/-- Witness of Obligations.QueuesAndShares. -/
theorem test_witness_QueuesAndShares :
    ((at39.aon.coreUp = true) ∧ (at39.stopped = false) ∧ (at39.nextQueue 0 = some ({ aQueue with caps := [(⟨5, 0, 9, none, 2⟩, false, 0)] }, 0)) ∧ ((at39.freeTag true false).isSome = true ∨ { aQueue with caps := [(⟨5, 0, 9, none, 2⟩, false, 0)] }.aerFirst = true)) ∧
    ((at3.aon.coreUp = true)) ∧
    ((at3.aon.coreUp = true) ∧ (at3.stopped = false) ∧ ((⟨0x2005, 1, 9, none, 2⟩ : Capsule).qid ≠ 0) ∧ ((⟨0x2005, 1, 9, none, 2⟩ : Capsule).cntlid / 0x1000 ≠ at3.devNum)) := by
  repeat' apply And.intro
  all_goals first | with_reducible rfl | decide +kernel | (intro _ e; exact nomatch e) | (intro e; exact absurd e (by decide)) | exact eq_nextOf _ _ (by decide +kernel)

/-- Witness of Obligations.NamespacesHostsAndProbe. -/
theorem test_witness_NamespacesHostsAndProbe :
    ((at3.aon.coreUp = true) ∧ (at3.fr.nsQueue.length < 2048)) ∧
    ((at60.aon.coreUp = true) ∧ (at60.fr.nsDel = some 5) ∧ (((at60.nsCmds 5).any fun x => x.2.started) = false)) ∧
    ((at61.aon.coreUp = true) ∧ (at61.get Fld.GNT.STATUS.ROLE = 2) ∧ (at61.inStep = true) ∧ (at61.flag Fld.GNT.VERIFY.LAST_OK = true) ∧ (at61.flag Fld.TOP.STATUS.DRAM_SHORT = false)) ∧
    ((at3.aon.coreUp = true) ∧ (at3.get Fld.GNT.STATUS.ROLE ≠ 2 ∨ at3.inStep = false ∨ at3.flag Fld.GNT.VERIFY.LAST_OK = false ∨ at3.flag Fld.TOP.STATUS.DRAM_SHORT = true)) ∧
    ((at62.aon.coreUp = true) ∧ (at62.mirrorOn = true) ∧ (at62.stopped = false) ∧ (at62.get Fld.GNT.STATUS.ROLE = 2) ∧ (at62.get Fld.ZMP.ANA.STATE = 0xF)) ∧
    ((at3.aon.coreUp = true) ∧ (3 < 2 ^ 32)) ∧
    ((at3.aon.coreUp = true) ∧ (5 < 1024)) ∧
    ((at3.aon.coreUp = true) ∧ (5 < 1024) ∧ (1 < 32)) ∧
    ((at3.aon.coreUp = true) ∧ (at3.lay.isSome = true) ∧ (at3.rd64 Reg.STR.PROBE_STRIPE_LO % 2 ^ 40 < at3.layout.stripes) ∧ (3 % 32 < at3.layout.width)) := by
  repeat' apply And.intro
  all_goals first | with_reducible rfl | decide +kernel | (intro _ e; exact nomatch e) | (intro e; exact absurd e (by decide)) | exact eq_nextOf _ _ (by decide +kernel)

/-- Witness of Obligations.RecomputeAndReconstruction. -/
theorem test_witness_RecomputeAndReconstruction :
    ((at63.aon.coreUp = true) ∧ ((at63.slot 2).st = 3) ∧ ((at63.slot 2).freeing = false) ∧ (at63.recReach (at63.bgCols (at63.slot 2).stripe (at63.recIo 2 noIo)) = some at63) ∧ ((List.range (at63.slot 2).folded).foldl (fun (a : List (Option Blk) × State) i => (a.1 ++ [(a.2.recBlock 2 (at63.recIo 2 noIo) i).1], (a.2.recBlock 2 (at63.recIo 2 noIo) i).2)) ([], at63.bgReads (at63.slot 2).stripe (at63.recIo 2 noIo)) = (([] : List Blk).map some, (at63.bgReads (at63.slot 2).stripe (at63.recIo 2 noIo))))) ∧
    ((at3.aon.coreUp = true) ∧ ((at3.slot 2).st ≠ 3)) ∧
    ((at64.aon.coreUp = true) ∧ ((at64.mb.recons.find? fun x => x.id == 5) = some aRecon)) := by
  repeat' apply And.intro
  all_goals first | with_reducible rfl | decide +kernel | (intro _ e; exact nomatch e) | (intro e; exact absurd e (by decide)) | exact eq_nextOf _ _ (by decide +kernel)

/-- Witness of Obligations.MemberPowerEvents. -/
theorem test_witness_MemberPowerEvents :
    ((at65.aon.coreUp = true) ∧ (at65.get Fld.MBR.DARK_EPOCH.MINUTES ≠ 0) ∧ (at65.lay.isSome = true)) ∧
    ((at66.aon.coreUp = true) ∧ (at66.colOfSlot 3 = some 3) ∧ ((at66.power 3).ps = 1) ∧ (at66.quiet 3 = true)) ∧
    ((at67.aon.coreUp = true) ∧ (at67.colOfSlot 3 = some 3) ∧ ((at67.power 3).ps = 2) ∧ ((at67.inPs 1).length < at67.get Fld.MBR.PWR_CFG.ACTIVE_MAX) ∧ ((at67.mb.deferred.any fun r => r.col == 3) = true)) ∧
    ((at68.aon.coreUp = true) ∧ (at68.colOfSlot 3 = some 3) ∧ ((at68.power 3).ps = 6)) ∧
    ((at69.aon.coreUp = true) ∧ (at69.colOfSlot 3 = some 3) ∧ ((at69.power 3).ps = 6) ∧ (at69.pt (at69.slotOfCol 3) = ptUp) ∧ (unnamedCol (at69.col 3) = false) ∧ (isDrive (at69.col 3) { aDrive with serial := 6 } = true)) ∧
    ((at70.aon.coreUp = true) ∧ (at70.pt 3 = ptQuiescing) ∧ (bit at70.aon.slotPerst 3 = true)) ∧
    ((at71.aon.coreUp = true) ∧ (at71.get Fld.MBR.WAKE_CFG.DEFER_MAX ≠ 0) ∧ ((at71.mb.deferred.find? fun aReq => aReq.id == 2 && at71.waits aReq) = some aReq) ∧ (aReq.own = .host 4 2)) ∧
    ((at3.aon.coreUp = true)) ∧
    ((at72.aon.coreUp = true) ∧ (at72.flag Fld.GNT.STATUS.REPLAY_DONE = true) ∧ (at72.lay.isSome = true)) := by
  repeat' apply And.intro
  all_goals first | with_reducible rfl | decide +kernel | (intro _ e; exact nomatch e) | (intro e; exact absurd e (by decide)) | exact eq_nextOf _ _ (by decide +kernel)

/-- Witness of Obligations.JournalRecords. -/
theorem test_witness_JournalRecords :
    ((at73.aon.coreUp = true) ∧ (at73.flag Fld.FLT.STATUS.HALTED = false) ∧ ((at73.nv.ring.any fun r => r.jseq == 3 && !r.verified) = true) ∧ (((at73.modNv fun v => { v with ring := v.ring.map fun r => if r.jseq = 3 then { r with verified := true } else r })) = (at73.modNv fun v => { v with ring := v.ring.map fun r => if r.jseq = 3 then { r with verified := true } else r }))) ∧
    ((at74.aon.coreUp = true) ∧ (at74.flag Fld.FLT.STATUS.HALTED = false) ∧ (at74.cmd? 4 = some (aCmd (some (anIo .read .zopen)))) ∧ ((aCmd (some (anIo .read .zopen))).owed ≠ 0) ∧ ((tget at74.nv.tails (16 * 2 + 2)).isSome = true)) ∧
    ((at75.aon.coreUp = true) ∧ (1 < 1664) ∧ (at75.chunkFree 2000 = true) ∧ (at75.lessWorn 0 = false) ∧ (tgetD at75.nv.wear 2000 0 + 2 ^ 30 ≤ tgetD at75.nv.wear (at75.physChunk 1) 0)) ∧
    ((at76.aon.coreUp = true) ∧ (at76.flag Fld.GNT.STATUS.REPLAY_DONE = true) ∧ (at76.jn.ckpt = none) ∧ (at76.jn.ckptDue = true) ∧ (at76.stopped = false) ∧ (at76.keeperUp = true)) ∧
    ((at77.aon.coreUp = true) ∧ (at77.jn.ckpt = some (Tables.reset, 3, ([] : List Nat))) ∧ (at77.bgOk = true) ∧ (at77.keepersIn ≠ []) ∧ (at77.bgReach at77.keepersIn = some at77) ∧ (∀ c : Nat, c ∈ at77.keepersIn → c ∉ noIo.wrBad ∧ c ∉ noIo.conflict) ∧ (1 = (at77.ckptNumber + 1) % 2 ^ 32) ∧ (((at77.keepersIn.foldl (fun y z => (y.logCommit z Tables.reset 3 1 ([] : List Nat)).logDone z 4 (y.keepLog z) noIo) at77).modNv fun y => { y with ring := y.ring.filter fun z => decide (3 < z.jseq) }) = ((at77.keepersIn.foldl (fun at77 c => (at77.logCommit c Tables.reset 3 1 ([] : List Nat)).logDone c 4 (at77.keepLog c) noIo) at77).modNv fun at77 => { at77 with ring := at77.ring.filter fun r => decide (3 < r.jseq) })) ∧ ((((((((at77.keepersIn.foldl (fun y z => (y.logCommit z Tables.reset 3 1 ([] : List Nat)).logDone z 4 (y.keepLog z) noIo) at77).modNv fun y => { y with ring := y.ring.filter fun z => decide (3 < z.jseq) }).setN Reg.GNT.RING_USE ((at77.keepersIn.foldl (fun y z => (y.logCommit z Tables.reset 3 1 ([] : List Nat)).logDone z 4 (y.keepLog z) noIo) at77).modNv fun y => { y with ring := y.ring.filter fun z => decide (3 < z.jseq) }).ringUse).wr64 Reg.GNT.CKPT_SEQ_LO 3).setN Reg.GNT.CKPT_NUM 1).modJn fun y => { y with ckpt := none, waitRecs := [] }).recIssue (.checkpoint 1 3)) = (((((((at77.keepersIn.foldl (fun y z => (y.logCommit z Tables.reset 3 1 ([] : List Nat)).logDone z 4 (y.keepLog z) noIo) at77).modNv fun y => { y with ring := y.ring.filter fun z => decide (3 < z.jseq) }).setN Reg.GNT.RING_USE ((at77.keepersIn.foldl (fun y z => (y.logCommit z Tables.reset 3 1 ([] : List Nat)).logDone z 4 (y.keepLog z) noIo) at77).modNv fun y => { y with ring := y.ring.filter fun z => decide (3 < z.jseq) }).ringUse).wr64 Reg.GNT.CKPT_SEQ_LO 3).setN Reg.GNT.CKPT_NUM 1).modJn fun j => { j with ckpt := none, waitRecs := [] }).recIssue (.checkpoint 1 3)))) ∧
    ((at78.aon.coreUp = true) ∧ (at78.stopped = false)) ∧
    ((at79.aon.coreUp = true) ∧ (at79.jn.keeperCopy = 2 :: ([] : List Nat)) ∧ (at79.tb.keepers[2]? = some 2) ∧ (at79.bgOk = true) ∧ (at79.bgReach [2] = some at79) ∧ (2 ∉ noIo.wrBad) ∧ (2 ∉ noIo.conflict) ∧ ((((at79.modJn fun y => { y with keeperCopy := ([] : List Nat) }).logFull 2).logDone 2 4 (KeepLog.empty (0, 0)) noIo) = ((at79.modJn fun j => { j with keeperCopy := ([] : List Nat) }).logFull 2).logDone 2 4 (KeepLog.empty (0, 0)) noIo)) := by
  repeat' apply And.intro
  all_goals first | with_reducible exact lessWorn_zero _ | with_reducible rfl | decide +kernel | (intro _ e; exact nomatch e) | (intro e; exact absurd e (by decide)) | exact eq_nextOf _ _ (by decide +kernel)

/-- Witness of Obligations.MirrorRows. -/
theorem test_witness_MirrorRows :
    ((at80.aon.coreUp = true) ∧ (at80.mirrorOn = true) ∧ (at80.stopped = false) ∧ ((at80.pathUp 1).mirrorKeyMissing = false) ∧ (¬ ((at80.pathUp 1).jn.rebase = true ∧ (at80.pathUp 1).get Fld.GNT.STATUS.ROLE = 2)) ∧ (((at80.pathUp 1).mirA + 1) = (at80.pathUp 1).mirA + 1) ∧ ((at80.pathUp 1).mirBlocked (.tail 0 0 aBlk) = false)) ∧
    ((at80.aon.coreUp = true) ∧ (at80.mirrorOn = true) ∧ (at80.stopped = false) ∧ ((at80.pathUp 1).mirrorKeyMissing = false) ∧ (¬ ((at80.pathUp 1).jn.rebase = true ∧ (at80.pathUp 1).get Fld.GNT.STATUS.ROLE = 2)) ∧ (0 ≤ (at80.pathUp 1).mirA)) ∧
    ((at80.aon.coreUp = true) ∧ (at80.mirrorOn = true) ∧ (at80.stopped = false) ∧ ((at80.pathUp 1).mirrorKeyMissing = false) ∧ (¬ ((at80.pathUp 1).jn.rebase = true ∧ (at80.pathUp 1).get Fld.GNT.STATUS.ROLE = 2)) ∧ ((at80.pathUp 1).mirA + 1 < 5) ∧ (5 ≤ (at80.pathUp 1).mirA + 1024) ∧ (((at80.pathUp 1).jn.rxHeld.any fun e => e.mseq == 5) = false)) ∧
    ((at81.aon.coreUp = true) ∧ (at81.mirrorOn = true) ∧ (at81.stopped = false) ∧ (3 ≤ (at81.pathUp 1).nv.mseq) ∧ ((at81.pathUp 1).mseqAcked < 3)) ∧
    ((at82.aon.coreUp = true) ∧ (at82.mirrorOn = true) ∧ (at82.stopped = false) ∧ (at82.mirrorKeyMissing = false) ∧ (at82.jn.partnerWait = false) ∧ ((at82.jn.tx.find? fun e => e.1 == 1) = some (1, (.tail 0 0 aBlk)))) ∧
    ((at83.aon.coreUp = true) ∧ (at83.mirrorOn = true) ∧ (at83.stopped = false) ∧ (1 < 2) ∧ (at83.flag (pathField 1) = true)) ∧
    ((at80.aon.coreUp = true) ∧ (at80.mirrorOn = true) ∧ (at80.stopped = false)) ∧
    ((at80.aon.coreUp = true) ∧ (at80.mirrorOn = true) ∧ (at80.stopped = false) ∧ (at80.jn.contest = false)) ∧
    ((at84.aon.coreUp = true) ∧ (at84.mirrorOn = true) ∧ (at84.stopped = false) ∧ (at84.jn.contest = true) ∧ (at84.get Fld.GNT.STATUS.ROLE = 1) ∧ (((((at84.evAt 402 Fld.GNT.EVENT.PARTNER_LOST).outOfStep).modJn fun j => { j with contest := false, keyGen := j.keyGen + 1 })) = (((at84.evAt 402 Fld.GNT.EVENT.PARTNER_LOST).outOfStep).modJn fun j => { j with contest := false, keyGen := j.keyGen + 1 }))) ∧
    ((at84.aon.coreUp = true) ∧ (at84.mirrorOn = true) ∧ (at84.stopped = false) ∧ (at84.jn.contest = true) ∧ (at84.get Fld.GNT.STATUS.ROLE = 1)) ∧
    ((at85.aon.coreUp = true) ∧ (at85.mirrorOn = true) ∧ (at85.stopped = false) ∧ (at85.mirrorSends = true) ∧ (at85.get Fld.GNT.STATUS.ROLE = 1)) := by
  repeat' apply And.intro
  all_goals first | with_reducible rfl | decide +kernel | (intro _ e; exact nomatch e) | (intro e; exact absurd e (by decide)) | exact eq_nextOf _ _ (by decide +kernel)

/-- Witness of Obligations.MemberFailureAndAdmission. -/
theorem test_witness_MemberFailureAndAdmission :
    ((at3.aon.coreUp = true) ∧ (at3.colOfSlot 3 = some 3) ∧ (at3.pt 3 ≠ ptUp) ∧ (at3.poweredUp 3 = true)) ∧
    ((at86.aon.coreUp = true) ∧ ((at86.col 3).st = 3) ∧ ((at86.port (at86.slotOfCol 3)).awaiting = false) ∧ ((at86.port (at86.slotOfCol 3)).probe = false)) ∧
    ((at87.aon.coreUp = true) ∧ ((at87.port 3).probe = true) ∧ (at87.pt 3 = ptUp)) ∧
    ((at3.aon.coreUp = true) ∧ (at3.colOfSlot 3 = some 3) ∧ ((at3.col 3).st = 2 ∨ (at3.col 3).st = 3 ∨ (at3.col 3).st = 6) ∧ (at3.wouldLose 3 = false)) ∧
    ((at88.aon.coreUp = true) ∧ (at88.colOfSlot 3 = some 3) ∧ ((at88.col 3).st = 2 ∨ (at88.col 3).st = 3 ∨ (at88.col 3).st = 6) ∧ (at88.wouldLose 3 = true)) ∧
    ((at89.aon.coreUp = true) ∧ (at89.flag (Fld.DRP_P.SLOT_STATUS.PRESENT 3) = true) ∧ (at89.colOfSlot 3 = some 3) ∧ ((at89.port 3).drive = some { aDrive with serial := 5 }) ∧ ((at89.col 3).st = 0) ∧ ((at89.col 3).refused = false) ∧ (at89.admitCode (some 3) { aDrive with serial := 5 } = 0)) ∧
    ((at3.aon.coreUp = true) ∧ (at3.flag (Fld.DRP_P.SLOT_STATUS.PRESENT 3) = false)) ∧
    ((at90.aon.coreUp = true) ∧ (at90.flag (Fld.DRP_P.SLOT_STATUS.PRESENT 3) = true) ∧ (at90.colOfSlot 3 = some 3) ∧ ((at90.col 3).refused = true)) ∧
    ((at3.aon.coreUp = true) ∧ (at3.lay.isSome = true)) ∧
    ((at3.aon.coreUp = true)) := by
  repeat' apply And.intro
  all_goals first | with_reducible rfl | decide +kernel | (intro _ e; exact nomatch e) | (intro e; exact absurd e (by decide)) | exact eq_nextOf _ _ (by decide +kernel)

/-- Witness of Obligations.BackgroundRows. -/
theorem test_witness_BackgroundRows :
    ((at91.aon.coreUp = true) ∧ (at91.bgOk = true)) ∧
    ((at91.aon.coreUp = true) ∧ (at91.bgOk = true) ∧ (at91.poweredUp 3 = true)) ∧
    ((at92.aon.coreUp = true) ∧ (at92.bgOk = true) ∧ ((at92.col 3).st = 6) ∧ (at92.poweredUp 3 = true)) ∧
    ((at93.aon.coreUp = true) ∧ (at93.bgOk = true) ∧ (at93.ctxOpen = false) ∧ (at93.scrubRuns = true)) ∧
    ((at94.aon.coreUp = true) ∧ (at94.bgOk = true) ∧ (at94.repairable 3 = true) ∧ ((at94.mb.unread.any fun u => u.1 == 0 && at94.layout.colAt 0 u.2.1 == 3) = true)) ∧
    ((at3.aon.coreUp = true) ∧ (at3.bgOk = false)) := by
  repeat' apply And.intro
  all_goals first | with_reducible rfl | decide +kernel | (intro _ e; exact nomatch e) | (intro e; exact absurd e (by decide)) | exact eq_nextOf _ _ (by decide +kernel)

/-- Witness of Obligations.FramesAndPauses. -/
theorem test_witness_FramesAndPauses :
    ((at3.aon.coreUp = true) ∧ (1 < 7)) ∧
    ((at3.aon.coreUp = true)) ∧
    ((at95.aon.coreUp = true) ∧ (1 < 7) ∧ (at95.portUp 1 = true) ∧ (at95.pick 1 = some (4, at95)) ∧ (at95.queueOf 1 4 = aFrame :: [])) ∧
    ((at96.aon.coreUp = true) ∧ (at96.intHead = some { aFrame with dests := [(7, 0)] })) ∧
    ((at97.aon.coreUp = true) ∧ (1 < 7) ∧ (at97.queueOf 1 4 = aFrame :: [])) ∧
    ((at98.aon.coreUp = true) ∧ (1 < 6)) ∧
    ((at99.aon.coreUp = true) ∧ (8 * 1 + 4 ∈ at99.sw.paused)) ∧
    ((at100.aon.coreUp = true) ∧ (8 * 1 + 4 ∈ at100.sw.xoff)) := by
  repeat' apply And.intro
  all_goals first | with_reducible rfl | decide +kernel | (intro _ e; exact nomatch e) | (intro e; exact absurd e (by decide)) | exact eq_nextOf _ _ (by decide +kernel)

/-- Witness of Obligations.SwitchTablesAndLinks. -/
theorem test_witness_SwitchTablesAndLinks :
    ((at101.aon.coreUp = true) ∧ ((tgetD at101.sw.neigh 2 Neigh.vacant).valid = true) ∧ ((tgetD at101.sw.neigh 2 Neigh.vacant).fixed = false)) ∧
    ((at3.aon.coreUp = true)) ∧
    ((at102.aon.coreUp = true) ∧ (0 = bits (at102.regN Reg.SWC.TBL_SELECT) 28 4) ∧ (2 = bits (at102.regN Reg.SWC.TBL_SELECT) 0 12) ∧ (0 < 3) ∧ (2 < tblSize 0) ∧ (at102.tblCheck 0 = 0)) ∧
    ((at103.aon.coreUp = true) ∧ (2 = bits (at103.regN Reg.SWC.TBL_SELECT) 28 4) ∧ (2 = bits (at103.regN Reg.SWC.TBL_SELECT) 0 12) ∧ (2 < 3) ∧ (2 < tblSize 2) ∧ (at103.tblCheck 2 ≠ 0)) ∧
    ((at104.aon.coreUp = true) ∧ (2 = bits (at104.regN Reg.SWC.TBL_SELECT) 28 4) ∧ (4000 = bits (at104.regN Reg.SWC.TBL_SELECT) 0 12) ∧ (2 < 3) ∧ (tblSize 2 ≤ 4000)) ∧
    ((at105.aon.coreUp = true) ∧ (3 = bits (at105.regN Reg.SWC.TBL_SELECT) 28 4) ∧ (2 = bits (at105.regN Reg.SWC.TBL_SELECT) 0 12) ∧ (3 ≤ 3) ∧ (2 < tblSize 3)) ∧
    ((at106.aon.coreUp = true) ∧ (4 = bits (at106.regN Reg.SWC.TBL_SELECT) 28 4) ∧ (100 = bits (at106.regN Reg.SWC.TBL_SELECT) 0 12) ∧ (3 ≤ 4) ∧ (tblSize 4 ≤ 100)) ∧
    ((at107.aon.coreUp = true) ∧ (2 ≤ 2) ∧ (2 ≤ 5) ∧ (at107.portUp 2 = true)) ∧
    ((at107.aon.coreUp = true) ∧ (2 ≤ 2) ∧ (2 ≤ 5) ∧ (at107.portUp 2 = true) ∧ (tget at107.sw.ident 2 ≠ some (3, 3, 1, 3, 3))) ∧
    ((at108.aon.coreUp = true) ∧ (2 ≤ 2) ∧ (2 ≤ 5) ∧ (at108.portUp 2 = true) ∧ (tget at108.sw.ident 2 = some (1, 2, 3, 4, 5))) ∧
    ((at3.aon.coreUp = true) ∧ (2 ≤ 2) ∧ (2 ≤ 5) ∧ (tget at3.sw.ident 2 = none)) ∧
    ((at109.aon.coreUp = true) ∧ (1 < 7) ∧ (at109.flag (Fld.FAB_E.PORT_CFG.ENABLE 1) = true) ∧ (at109.aon.squelched = false) ∧ (6 ≤ at109.boot.phase) ∧ (at109.boot.phase ≠ 9)) ∧
    ((at110.aon.coreUp = true) ∧ (1 < 7) ∧ (at110.flag (Fld.FAB_E.PORT_STATUS.LINK_UP 1) = true) ∧ ((((((at110.setN (Reg.FAB_E.PORT_STATUS 1) 0).mgtLink 1 false).dropQueued 1).modSw fun w => { w with ident := tdel w.ident 1, paused := w.paused.filter fun k => k / 8 ≠ 1 })) = ((((at110.setN (Reg.FAB_E.PORT_STATUS 1) 0).mgtLink 1 false).dropQueued 1).modSw fun w => { w with ident := tdel w.ident 1, paused := w.paused.filter fun k => k / 8 ≠ 1 }))) := by
  repeat' apply And.intro
  all_goals first | with_reducible rfl | decide +kernel | (intro _ e; exact nomatch e) | (intro e; exact absurd e (by decide)) | exact eq_nextOf _ _ (by decide +kernel)

/-- Witness of Obligations.ConnectionPackets. -/
theorem test_witness_ConnectionPackets :
    ((at111.aon.coreUp = true) ∧ (at111.conn? 3 = some ({ aConn with cntlid := some 5 } : Conn)) ∧ (({ aConn with cntlid := some 5 } : Conn).tr = 0) ∧ (({ aConn with cntlid := some 5 } : Conn).st ≠ 4) ∧ (({ aConn with cntlid := some 5 } : Conn).st ≠ 5) ∧ (((at111.add64 Reg.QPC.HITS_LO 1).count { code := 0x0D, n := 1, masters := ({ aConn with cntlid := some 5 } : Conn).masters }) = (at111.add64 Reg.QPC.HITS_LO 1).count { code := 0x0D, n := 1, masters := ({ aConn with cntlid := some 5 } : Conn).masters }) ∧ (1 ≠ 6) ∧ ((⟨0, true, false, 126, .send true ⟨5, 0, 9, none, 2⟩⟩ : RcPkt).op = .send true (⟨5, 0, 9, none, 2⟩ : Capsule)) ∧ ((⟨0, true, false, 126, .send true ⟨5, 0, 9, none, 2⟩⟩ : RcPkt).ce = false) ∧ ((⟨0, true, false, 126, .send true ⟨5, 0, 9, none, 2⟩⟩ : RcPkt).psn % 2 ^ 24 = ({ aConn with cntlid := some 5 } : Conn).epsn) ∧ (({ aConn with cntlid := some 5 } : Conn).sendLen + sendBytes (⟨0, true, false, 126, .send true ⟨5, 0, 9, none, 2⟩⟩ : RcPkt) ≤ 16777216) ∧ (({ aConn with cntlid := some 5 } : Conn).cntlid = some 5) ∧ (((at111.add64 Reg.QPC.HITS_LO 1).count { code := 0x0D, n := 1, masters := ({ aConn with cntlid := some 5 } : Conn).masters }).queue? 5 ({ aConn with cntlid := some 5 } : Conn).qid = some aQueue) ∧ (aQueue.caps.length < aQueue.depth) ∧ (({ ({ aConn with cntlid := some 5 } : Conn) with resp := ({ aConn with cntlid := some 5 } : Conn).resp.filter fun r => psnLe (⟨0, true, false, 126, .send true ⟨5, 0, 9, none, 2⟩⟩ : RcPkt).psn r.1 }) = { ({ aConn with cntlid := some 5 } : Conn) with resp := ({ aConn with cntlid := some 5 } : Conn).resp.filter fun r => psnLe (⟨0, true, false, 126, .send true ⟨5, 0, 9, none, 2⟩⟩ : RcPkt).psn r.1 })) ∧
    ((at112.aon.coreUp = true) ∧ (at112.conn? 3 = some ({ aConn with una := [⟨0, 1, .readData 4⟩], spsn := 1 } : Conn)) ∧ (({ aConn with una := [⟨0, 1, .readData 4⟩], spsn := 1 } : Conn).tr = 0) ∧ (({ aConn with una := [⟨0, 1, .readData 4⟩], spsn := 1 } : Conn).st ≠ 4) ∧ (({ aConn with una := [⟨0, 1, .readData 4⟩], spsn := 1 } : Conn).st ≠ 5) ∧ (((at112.add64 Reg.QPC.HITS_LO 1).count { code := 0x0D, n := 1, masters := ({ aConn with una := [⟨0, 1, .readData 4⟩], spsn := 1 } : Conn).masters }) = (at112.add64 Reg.QPC.HITS_LO 1).count { code := 0x0D, n := 1, masters := ({ aConn with una := [⟨0, 1, .readData 4⟩], spsn := 1 } : Conn).masters }) ∧ (({ aConn with una := [⟨0, 1, .readData 4⟩], spsn := 1 } : Conn).una ≠ []) ∧ (psnLe ({ aConn with una := [⟨0, 1, .readData 4⟩], spsn := 1 } : Conn).oldest 0 = true) ∧ (psnLe (0 + 1) ({ aConn with una := [⟨0, 1, .readData 4⟩], spsn := 1 } : Conn).spsn = true)) ∧
    ((at113.aon.coreUp = true) ∧ (at113.conn? 3 = some ({ aConn with una := [⟨0, 1, .readData 4⟩], spsn := 1 } : Conn)) ∧ (({ aConn with una := [⟨0, 1, .readData 4⟩], spsn := 1 } : Conn).tr = 0) ∧ (({ aConn with una := [⟨0, 1, .readData 4⟩], spsn := 1 } : Conn).st ≠ 4) ∧ (({ aConn with una := [⟨0, 1, .readData 4⟩], spsn := 1 } : Conn).st ≠ 5) ∧ (((at113.add64 Reg.QPC.HITS_LO 1).count { code := 0x0D, n := 1, masters := ({ aConn with una := [⟨0, 1, .readData 4⟩], spsn := 1 } : Conn).masters }) = (at113.add64 Reg.QPC.HITS_LO 1).count { code := 0x0D, n := 1, masters := ({ aConn with una := [⟨0, 1, .readData 4⟩], spsn := 1 } : Conn).masters }) ∧ (({ aConn with una := [⟨0, 1, .readData 4⟩], spsn := 1 } : Conn).una = (⟨0, 1, .readData 4⟩ : TxMsg) :: ([] : List TxMsg)) ∧ ((⟨0, 1, .readData 4⟩ : TxMsg).psn = 0) ∧ (0 < 2 ^ 24) ∧ (psnLe (0 + 1) ({ aConn with una := [⟨0, 1, .readData 4⟩], spsn := 1 } : Conn).spsn = true) ∧ (({ aConn with una := [⟨0, 1, .readData 4⟩], spsn := 1 } : Conn).retries < ((at113.add64 Reg.QPC.HITS_LO 1).count { code := 0x0D, n := 1, masters := ({ aConn with una := [⟨0, 1, .readData 4⟩], spsn := 1 } : Conn).masters }).get Fld.FAB.RC_CFG.RETRY_CNT)) ∧
    ((at111.aon.coreUp = true) ∧ (at111.conn? 3 = some ({ aConn with cntlid := some 5 } : Conn)) ∧ (({ aConn with cntlid := some 5 } : Conn).tr = 0) ∧ (({ aConn with cntlid := some 5 } : Conn).st ≠ 4) ∧ (({ aConn with cntlid := some 5 } : Conn).st ≠ 5) ∧ (((at111.add64 Reg.QPC.HITS_LO 1).count { code := 0x0D, n := 1, masters := ({ aConn with cntlid := some 5 } : Conn).masters }) = (at111.add64 Reg.QPC.HITS_LO 1).count { code := 0x0D, n := 1, masters := ({ aConn with cntlid := some 5 } : Conn).masters }) ∧ (((((((at111.add64 Reg.QPC.HITS_LO 1).count { code := 0x0D, n := 1, masters := ({ aConn with cntlid := some 5 } : Conn).masters }).satInc Fld.FAB.NAK_RCVD.V).satInc Fld.FAB.CONN_FAILED.V).event Fld.FAB.EVENT.CONN_FAILED 176).delConn 3) = (((((at111.add64 Reg.QPC.HITS_LO 1).count { code := 0x0D, n := 1, masters := ({ aConn with cntlid := some 5 } : Conn).masters }).satInc Fld.FAB.NAK_RCVD.V).satInc Fld.FAB.CONN_FAILED.V).event Fld.FAB.EVENT.CONN_FAILED 176).delConn 3)) ∧
    ((at114.aon.coreUp = true) ∧ (at114.conn? 3 = some ({ aConn with una := [⟨0, 1, .readData 4⟩], spsn := 1 } : Conn)) ∧ (({ aConn with una := [⟨0, 1, .readData 4⟩], spsn := 1 } : Conn).tr = 0) ∧ (({ aConn with una := [⟨0, 1, .readData 4⟩], spsn := 1 } : Conn).st ≠ 4) ∧ (({ aConn with una := [⟨0, 1, .readData 4⟩], spsn := 1 } : Conn).st ≠ 5) ∧ (((at114.add64 Reg.QPC.HITS_LO 1).count { code := 0x0D, n := 1, masters := ({ aConn with una := [⟨0, 1, .readData 4⟩], spsn := 1 } : Conn).masters }) = (at114.add64 Reg.QPC.HITS_LO 1).count { code := 0x0D, n := 1, masters := ({ aConn with una := [⟨0, 1, .readData 4⟩], spsn := 1 } : Conn).masters }) ∧ (({ aConn with una := [⟨0, 1, .readData 4⟩], spsn := 1 } : Conn).una ≠ []) ∧ (((at114.add64 Reg.QPC.HITS_LO 1).count { code := 0x0D, n := 1, masters := ({ aConn with una := [⟨0, 1, .readData 4⟩], spsn := 1 } : Conn).masters }).get Fld.FAB.RC_CFG.RNR_RETRY = 7 ∨ ({ aConn with una := [⟨0, 1, .readData 4⟩], spsn := 1 } : Conn).rnr < ((at114.add64 Reg.QPC.HITS_LO 1).count { code := 0x0D, n := 1, masters := ({ aConn with una := [⟨0, 1, .readData 4⟩], spsn := 1 } : Conn).masters }).get Fld.FAB.RC_CFG.RNR_RETRY)) ∧
    ((at115.aon.coreUp = true) ∧ (at115.conn? 3 = some aConn) ∧ (aConn.tr = 0) ∧ (aConn.st ≠ 4) ∧ (aConn.st ≠ 5) ∧ (((at115.add64 Reg.QPC.HITS_LO 1).count { code := 0x0D, n := 1, masters := aConn.masters }) = (at115.add64 Reg.QPC.HITS_LO 1).count { code := 0x0D, n := 1, masters := aConn.masters }) ∧ (0 % 2 ^ 24 = aConn.epsn) ∧ (aConn.wmsg = none) ∧ (([1, 2] : List Byte).length ≤ 16777216) ∧ (((at115.add64 Reg.QPC.HITS_LO 1).count { code := 0x0D, n := 1, masters := aConn.masters }).winServe (at115.get Fld.FAB.WIN_STATUS.GEN) aConn.host true 7 64 ([1, 2] : List Byte).length = some (0, aWin)) ∧ (({ aConn with resp := aConn.resp.filter fun r => psnLe 0 r.1 }) = { aConn with resp := aConn.resp.filter fun r => psnLe 0 r.1 })) ∧
    ((at115.aon.coreUp = true) ∧ (at115.conn? 3 = some aConn) ∧ (aConn.tr = 0) ∧ (aConn.st ≠ 4) ∧ (aConn.st ≠ 5) ∧ (((at115.add64 Reg.QPC.HITS_LO 1).count { code := 0x0D, n := 1, masters := aConn.masters }) = (at115.add64 Reg.QPC.HITS_LO 1).count { code := 0x0D, n := 1, masters := aConn.masters }) ∧ (0 % 2 ^ 24 = aConn.epsn) ∧ (aConn.wmsg = none) ∧ (4 ≤ 16777216) ∧ (((at115.add64 Reg.QPC.HITS_LO 1).count { code := 0x0D, n := 1, masters := aConn.masters }).winServe (at115.get Fld.FAB.WIN_STATUS.GEN) aConn.host false 7 64 4 = some (0, aWin)) ∧ (({ aConn with resp := aConn.resp.filter fun r => psnLe 0 r.1 }) = { aConn with resp := aConn.resp.filter fun r => psnLe 0 r.1 })) ∧
    ((at116.aon.coreUp = true) ∧ (at116.conn? 3 = some aConn) ∧ (aConn.tr = 0) ∧ (aConn.st ≠ 4) ∧ (aConn.st ≠ 5) ∧ (((at116.add64 Reg.QPC.HITS_LO 1).count { code := 0x0D, n := 1, masters := aConn.masters }) = (at116.add64 Reg.QPC.HITS_LO 1).count { code := 0x0D, n := 1, masters := aConn.masters }) ∧ (((at116.add64 Reg.QPC.HITS_LO 1).count { code := 0x0D, n := 1, masters := aConn.masters }).flag Fld.FAB.CC_CFG.ENABLE = true) ∧ (∀ t : Nat, aConn.cnpCut = some t → t + 1000 * ((at116.add64 Reg.QPC.HITS_LO 1).count { code := 0x0D, n := 1, masters := aConn.masters }).get Fld.FAB.CC_CFG.CNP_INTERVAL ≤ ((at116.add64 Reg.QPC.HITS_LO 1).count { code := 0x0D, n := 1, masters := aConn.masters }).now)) ∧
    ((at113.aon.coreUp = true) ∧ (at113.conn? 3 = some ({ aConn with una := [⟨0, 1, .readData 4⟩], spsn := 1 } : Conn)) ∧ (({ aConn with una := [⟨0, 1, .readData 4⟩], spsn := 1 } : Conn).tr = 0) ∧ (({ aConn with una := [⟨0, 1, .readData 4⟩], spsn := 1 } : Conn).st ≠ 4) ∧ (({ aConn with una := [⟨0, 1, .readData 4⟩], spsn := 1 } : Conn).st ≠ 5) ∧ (((at113.add64 Reg.QPC.HITS_LO 1).count { code := 0x0D, n := 1, masters := ({ aConn with una := [⟨0, 1, .readData 4⟩], spsn := 1 } : Conn).masters }) = (at113.add64 Reg.QPC.HITS_LO 1).count { code := 0x0D, n := 1, masters := ({ aConn with una := [⟨0, 1, .readData 4⟩], spsn := 1 } : Conn).masters }) ∧ (({ aConn with una := [⟨0, 1, .readData 4⟩], spsn := 1 } : Conn).una ≠ []) ∧ (({ aConn with una := [⟨0, 1, .readData 4⟩], spsn := 1 } : Conn).retries < at113.get Fld.FAB.RC_CFG.RETRY_CNT)) ∧
    ((at112.aon.coreUp = true) ∧ (at112.conn? 3 = some ({ aConn with una := [⟨0, 1, .readData 4⟩], spsn := 1 } : Conn)) ∧ (({ aConn with una := [⟨0, 1, .readData 4⟩], spsn := 1 } : Conn).tr = 0) ∧ (({ aConn with una := [⟨0, 1, .readData 4⟩], spsn := 1 } : Conn).st ≠ 4) ∧ (({ aConn with una := [⟨0, 1, .readData 4⟩], spsn := 1 } : Conn).st ≠ 5) ∧ (((at112.add64 Reg.QPC.HITS_LO 1).count { code := 0x0D, n := 1, masters := ({ aConn with una := [⟨0, 1, .readData 4⟩], spsn := 1 } : Conn).masters }) = (at112.add64 Reg.QPC.HITS_LO 1).count { code := 0x0D, n := 1, masters := ({ aConn with una := [⟨0, 1, .readData 4⟩], spsn := 1 } : Conn).masters }) ∧ (({ aConn with una := [⟨0, 1, .readData 4⟩], spsn := 1 } : Conn).una ≠ []) ∧ (at112.get Fld.FAB.RC_CFG.RETRY_CNT ≤ ({ aConn with una := [⟨0, 1, .readData 4⟩], spsn := 1 } : Conn).retries)) ∧
    ((at115.aon.coreUp = true) ∧ (at115.conn? 3 = some aConn) ∧ (aConn.tr = 0) ∧ (aConn.st ≠ 4) ∧ (aConn.st ≠ 5) ∧ (((at115.add64 Reg.QPC.HITS_LO 1).count { code := 0x0D, n := 1, masters := aConn.masters }) = (at115.add64 Reg.QPC.HITS_LO 1).count { code := 0x0D, n := 1, masters := aConn.masters }) ∧ (aConn.owed ≠ 0)) ∧
    ((at115.aon.coreUp = true) ∧ (at115.conn? 3 = some aConn) ∧ (aConn.tr = 0) ∧ (aConn.st ≠ 4) ∧ (aConn.st ≠ 5) ∧ (((at115.add64 Reg.QPC.HITS_LO 1).count { code := 0x0D, n := 1, masters := aConn.masters }) = (at115.add64 Reg.QPC.HITS_LO 1).count { code := 0x0D, n := 1, masters := aConn.masters }) ∧ (aConn.rnrWait = some 1)) ∧
    ((at116.aon.coreUp = true) ∧ (at116.conn? 3 = some aConn) ∧ (aConn.tr = 0) ∧ (aConn.st ≠ 4) ∧ (aConn.st ≠ 5) ∧ (((at116.add64 Reg.QPC.HITS_LO 1).count { code := 0x0D, n := 1, masters := aConn.masters }) = (at116.add64 Reg.QPC.HITS_LO 1).count { code := 0x0D, n := 1, masters := aConn.masters }) ∧ (at116.flag Fld.FAB.CC_CFG.ENABLE = true)) ∧
    ((at115.aon.coreUp = true) ∧ (at115.conn? 3 = some aConn) ∧ (aConn.tr = 0) ∧ (aConn.st ≠ 4) ∧ (aConn.st ≠ 5) ∧ (((at115.add64 Reg.QPC.HITS_LO 1).count { code := 0x0D, n := 1, masters := aConn.masters }) = (at115.add64 Reg.QPC.HITS_LO 1).count { code := 0x0D, n := 1, masters := aConn.masters }) ∧ (1 ≠ 6) ∧ ((⟨0, false, false, 0, .unsupported⟩ : RcPkt).op ≠ .notRc)) ∧
    ((at115.aon.coreUp = true) ∧ (at115.conn? 3 = some aConn) ∧ (aConn.tr = 0) ∧ (aConn.st ≠ 4) ∧ (aConn.st ≠ 5) ∧ (((at115.add64 Reg.QPC.HITS_LO 1).count { code := 0x0D, n := 1, masters := aConn.masters }) = (at115.add64 Reg.QPC.HITS_LO 1).count { code := 0x0D, n := 1, masters := aConn.masters })) ∧
    ((at3.aon.coreUp = true) ∧ (1 ≠ 6) ∧ ((⟨0, false, false, 0, .notRc⟩ : RcPkt).op = .notRc)) ∧
    ((at3.aon.coreUp = true)) := by
  repeat' apply And.intro
  all_goals first | with_reducible rfl | decide +kernel | (intro _ e; exact nomatch e) | (intro e; exact absurd e (by decide)) | exact eq_nextOf _ _ (by decide +kernel)

/-- Witness of Obligations.ConnectionsAndWindows. -/
theorem test_witness_ConnectionsAndWindows :
    ((at3.aon.coreUp = true) ∧ (1 ≤ 5) ∧ (3 < 32)) ∧
    ((at3.aon.coreUp = true) ∧ (1 ≤ 5) ∧ (32 ≤ 32) ∧ (1 ≠ 0)) ∧
    ((at117.aon.coreUp = true) ∧ (1 ≤ 5) ∧ (32 ≤ 32) ∧ (0 = 0) ∧ (64 ≤ (at117.fab.conns.filter fun x => x.2.st == 1).length)) ∧
    ((at3.aon.coreUp = true) ∧ (1 ≤ 5) ∧ (32 ≤ 32) ∧ (0 = 0) ∧ ((at3.fab.conns.filter fun x => x.2.st == 1).length < 64) ∧ (0 = 0)) ∧
    ((at3.aon.coreUp = true) ∧ (1 ≤ 5) ∧ (32 ≤ 32) ∧ (0 = 0) ∧ ((at3.fab.conns.filter fun x => x.2.st == 1).length < 64) ∧ (1 ≠ 0)) ∧
    ((at3.aon.coreUp = true)) ∧
    ((at118.aon.coreUp = true) ∧ (at118.conn? 3 = some { aConn with st := 1 }) ∧ ({ aConn with st := 1 }.st = 1)) ∧
    ((at119.aon.coreUp = true) ∧ (at119.conn? 3 = some { aConn with st := 4 }) ∧ ({ aConn with st := 4 }.st = 4) ∧ (0 ≤ (at119.setConn 3 { { aConn with st := 4 } with st := 3, held := [] }).get Fld.QPC.FETCH_LAT_MAX.V)) ∧
    ((at3.aon.coreUp = true) ∧ (at3.flag Fld.FAB.WIN_STATUS.OLD_IN_FLIGHT = false)) ∧
    ((at120.aon.coreUp = true) ∧ (at120.flag Fld.FAB.WIN_STATUS.OLD_IN_FLIGHT = true)) ∧
    ((at120.aon.coreUp = true) ∧ (at120.flag Fld.FAB.WIN_STATUS.OLD_IN_FLIGHT = true) ∧ (at120.oldUsed (at120.get Fld.FAB.WIN_STATUS.GEN) = false) ∧ (at120.flag Fld.FAB.WIN_STATUS.PENDING = false)) ∧
    ((at3.aon.coreUp = true) ∧ (at3.conn? 3 = some aConn)) ∧
    ((at121.aon.coreUp = true) ∧ (at121.conn? 3 = some ({ aConn with una := [⟨3, 1, .readReq 4 0 0 0⟩] } : Conn)) ∧ ((({ aConn with una := [⟨3, 1, .readReq 4 0 0 0⟩] } : Conn).una.find? fun y => y.psn == 3) = some (⟨3, 1, .readReq 4 0 0 0⟩ : TxMsg)) ∧ ((⟨3, 1, .readReq 4 0 0 0⟩ : TxMsg).kind = .readReq 4 0 0 0) ∧ (([] : List HostBlk).length = 0) ∧ (at121.cmd? 4 = some (aCmd (some (anIo .write .zopen)))) ∧ ((aCmd (some (anIo .write .zopen))).st = .running) ∧ ((aCmd (some (anIo .write .zopen))).claimed = false) ∧ ((aCmd (some (anIo .write .zopen))).io = some (anIo .write .zopen)) ∧ (at121.ns? (anIo .write .zopen).nsid = some aNs) ∧ (((at121.setConn 3 { ({ aConn with una := [⟨3, 1, .readReq 4 0 0 0⟩] } : Conn) with una := (({ aConn with una := [⟨3, 1, .readReq 4 0 0 0⟩] } : Conn).una.filter fun y => y.psn ≠ 3), retries := 0, due := (if (({ aConn with una := [⟨3, 1, .readReq 4 0 0 0⟩] } : Conn).una.filter fun y => y.psn ≠ 3) = [] then none else some (at121.now + at121.ackTimeout)) }).touch 3) = (at121.setConn 3 { ({ aConn with una := [⟨3, 1, .readReq 4 0 0 0⟩] } : Conn) with una := (({ aConn with una := [⟨3, 1, .readReq 4 0 0 0⟩] } : Conn).una.filter fun y => y.psn ≠ 3), retries := 0, due := (if (({ aConn with una := [⟨3, 1, .readReq 4 0 0 0⟩] } : Conn).una.filter fun y => y.psn ≠ 3) = [] then none else some (at121.now + at121.ackTimeout)) }).touch 3)) ∧
    ((at122.aon.coreUp = true) ∧ (at122.cmd? 4 = some ({ aCmd (some (anIo .write .zopen)) with total := 1, zone := some 0 } : Cmd)) ∧ (({ aCmd (some (anIo .write .zopen)) with total := 1, zone := some 0 } : Cmd).io = some (anIo .write .zopen)) ∧ (at122.queue? ({ aCmd (some (anIo .write .zopen)) with total := 1, zone := some 0 } : Cmd).cntlid ({ aCmd (some (anIo .write .zopen)) with total := 1, zone := some 0 } : Cmd).qid = some { aQueue with qid := 1 }) ∧ (at122.ns? (anIo .write .zopen).nsid = some aNs) ∧ (at122.conn? { aQueue with qid := 1 }.conn = some { aConn with ird := 4 }) ∧ (({ aCmd (some (anIo .write .zopen)) with total := 1, zone := some 0 } : Cmd).st = .running) ∧ (({ aCmd (some (anIo .write .zopen)) with total := 1, zone := some 0 } : Cmd).claimed = false) ∧ (({ aCmd (some (anIo .write .zopen)) with total := 1, zone := some 0 } : Cmd).zone.isSome = true) ∧ (({ aCmd (some (anIo .write .zopen)) with total := 1, zone := some 0 } : Cmd).asked < ({ aCmd (some (anIo .write .zopen)) with total := 1, zone := some 0 } : Cmd).total) ∧ (at122.stopped = false) ∧ ({ aConn with ird := 4 }.tr = 0) ∧ ({ aConn with ird := 4 }.st ≠ 4) ∧ ({ aConn with ird := 4 }.st ≠ 5) ∧ ({ aConn with ird := 4 }.waitTx = []) ∧ (1 = min (({ aCmd (some (anIo .write .zopen)) with total := 1, zone := some 0 } : Cmd).total - ({ aCmd (some (anIo .write .zopen)) with total := 1, zone := some 0 } : Cmd).asked) (131072 / (4096 + lbafMeta aNs.lbaf))) ∧ (16 = (dataBytes aNs 1 + 255) / 256) ∧ ({ aConn with ird := 4 }.reads.length < min { aConn with ird := 4 }.ird 16) ∧ (16 ≤ at122.get Fld.FAB.RD_POOL.CELLS_FREE) ∧ (at122.get Fld.FAB.RD_POOL.REQ_OUT < 64)) := by
  repeat' apply And.intro
  all_goals first | with_reducible rfl | decide +kernel | (intro _ e; exact nomatch e) | (intro e; exact absurd e (by decide)) | exact eq_nextOf _ _ (by decide +kernel)

/-- Witness of Obligations.PtpAndPps. -/
theorem test_witness_PtpAndPps :
    ((at3.aon.coreUp = true) ∧ (1 < 7)) ∧
    ((at123.aon.coreUp = true) ∧ (1 < 7) ∧ (bit (bits (at123.regN Reg.PTP.CFG) 8 7) 1 = true)) ∧
    ((at124.aon.coreUp = true) ∧ (at124.get Fld.PTP.STATUS.SERVO = 2 ∨ at124.get Fld.PTP.STATUS.SERVO = 3)) ∧
    ((at125.aon.coreUp = true) ∧ (1 < 7) ∧ (at125.get (portState 1) = 6)) ∧
    ((at126.aon.coreUp = true) ∧ (at126.get Fld.PTP.PPS.IN_MODE = 1)) ∧
    ((at127.aon.coreUp = true) ∧ (at127.get Fld.PTP.PPS.IN_MODE = 2)) ∧
    ((at128.aon.coreUp = true) ∧ (at128.flag Fld.PTP.PPS.OUT_EN = true) ∧ (at128.ptpTime % 10 ^ 9 = 0)) ∧
    ((at3.aon.coreUp = true)) ∧
    ((at3.aon.coreUp = true) ∧ (at3.get Fld.PTP.PPS.IN_MODE = 2 ∨ ((List.range 7).any fun n => at3.get (portState n) = 9) = false)) ∧
    ((at129.aon.coreUp = true) ∧ (at129.tg.setGo = some 9)) ∧
    ((at130.aon.coreUp = true) ∧ (1 < 7) ∧ (at130.get (portState 1) = 9) ∧ (3 % 16 ≠ 9)) := by
  repeat' apply And.intro
  all_goals first | with_reducible rfl | decide +kernel | (intro _ e; exact nomatch e) | (intro e; exact absurd e (by decide)) | exact eq_nextOf _ _ (by decide +kernel)

/-- Witness of Obligations.GatesAndShapers. -/
theorem test_witness_GatesAndShapers :
    ((at131.aon.coreUp = true) ∧ (2 < 8) ∧ ((at131.glist 2).running = some aSet)) ∧
    ((at3.aon.coreUp = true) ∧ (0 = at3.get Fld.TGS.LSEL.V) ∧ (3 = commitCheck 0 (at3.glist 0) at3.tg.cal) ∧ (3 ≠ 0)) ∧
    ((at132.aon.coreUp = true) ∧ (0 = at132.get Fld.TGS.LSEL.V) ∧ (0 ≠ 7) ∧ (commitCheck 0 (at132.glist 0) at132.tg.cal = 0) ∧ ((⟨0, 1000, [(255, 1000)], 0, 0⟩ : GSet) = ⟨(at132.glist 0).sBase, (at132.glist 0).sCycle, (List.range (at132.glist 0).sLen).map (fun i => tgetD (at132.glist 0).sEnt i (0, 0)), 0, 0⟩) ∧ (at132.flag ⟨Reg.TGS.CFG, 0, 1⟩ = false ∨ at132.flag Fld.PTP.STATUS.LOCKED = true)) ∧
    ((at133.aon.coreUp = true) ∧ (0 = at133.get Fld.TGS.LSEL.V) ∧ (0 ≠ 7) ∧ (commitCheck 0 (at133.glist 0) at133.tg.cal = 0) ∧ ((⟨0, 1000, [(255, 1000)], 0, 0⟩ : GSet) = ⟨(at133.glist 0).sBase, (at133.glist 0).sCycle, (List.range (at133.glist 0).sLen).map (fun i => tgetD (at133.glist 0).sEnt i (0, 0)), 0, 0⟩) ∧ (at133.flag ⟨Reg.TGS.CFG, 0, 1⟩ = true) ∧ (at133.flag Fld.PTP.STATUS.LOCKED = false)) ∧
    ((at134.aon.coreUp = true) ∧ (2 < 7) ∧ ((at134.glist 2).pending = some aSet) ∧ ((at134.glist 2).waitLock = false)) ∧
    ((at3.aon.coreUp = true)) := by
  repeat' apply And.intro
  all_goals first | with_reducible rfl | decide +kernel | (intro _ e; exact nomatch e) | (intro e; exact absurd e (by decide)) | exact eq_nextOf _ _ (by decide +kernel)

/-- Witness of Obligations.DmaCommands. -/
theorem test_witness_DmaCommands :
    ((at135.aon.coreUp = true) ∧ (9 < 32) ∧ (8 ≤ 9 ∨ Path.e = .fw) ∧ (at135.flag Fld.AES.STATUS.HALTED = false) ∧ (at135.aon.dumpPhase = 0) ∧ (at135.dmaSt 9 = 0)) ∧
    ((at136.aon.coreUp = true) ∧ (9 < 32) ∧ (8 ≤ 9 ∨ Path.e = .fw) ∧ (at136.dmaSt 9 = 5)) ∧
    ((at137.aon.coreUp = true) ∧ (0 < 32) ∧ (8 ≤ 0 ∨ Path.fw = .fw) ∧ (at137.dmaSt 0 = 7)) ∧
    ((at3.aon.coreUp = true) ∧ (3 < 8) ∧ (Path.v ≠ .fw)) ∧
    ((at138.aon.coreUp = true) ∧ ((at138.dmaCh 9).fetch = some 64) ∧ (at138.dmaSt 9 = 1) ∧ (64 % 64 = 0) ∧ (64 + 64 ≤ at138.dramTop) ∧ (at138.descCheck 9 (decodeDesc (at138.dramRead 64 64)) = 0)) ∧
    ((at139.aon.coreUp = true) ∧ ((at139.dmaCh 9).fetch = some 64) ∧ (at139.dmaSt 9 = 1) ∧ (64 % 64 = 0) ∧ (64 + 64 ≤ at139.dramTop) ∧ (at139.descCheck 9 (decodeDesc (at139.dramRead 64 64)) ≠ 0)) ∧
    ((at140.aon.coreUp = true) ∧ ((at140.dmaCh 9).fetch = some 65) ∧ (at140.dmaSt 9 = 1) ∧ (65 % 64 ≠ 0)) ∧
    ((at141.aon.coreUp = true) ∧ ((at141.lineArb) = at141.lineArb) ∧ (at141.flag Fld.AES.STATUS.HALTED = false) ∧ ((at141.lineArb).dmaPick (at141.lineArb).readReady (at141.lineArb).dma.rrRead = some (0, false)) ∧ (((at141.lineArb).dmaCh 0).jobs.getLast? = some aJob)) ∧
    ((at142.aon.coreUp = true) ∧ ((at142.lineArb) = at142.lineArb) ∧ (at142.flag Fld.AES.STATUS.HALTED = false) ∧ ((at142.lineArb).dmaPick (at142.lineArb).writeReady (at142.lineArb).dma.rrWrite = some (0, false)) ∧ (((at142.lineArb).dmaCh 0).bursts = (64, [1]) :: []) ∧ (bit (at142.lineArb).ep.command 2 = true)) ∧
    ((at143.aon.coreUp = true) ∧ ((at143.dmaCh 9).jobs = { aJob with closed := true } :: []) ∧ ({ aJob with closed := true }.closed = true) ∧ ({ aJob with closed := true }.written = { aJob with closed := true }.issued)) ∧
    ((at144.aon.coreUp = true) ∧ (at144.dmaSt 9 = 6) ∧ ((at144.dmaCh 9).stopping = false) ∧ (chainEnded (at144.dmaCh 9).jobs = false) ∧ ((decodeDesc (at144.dramRead (at144.rd64 (Reg.DMA_C.CUR_DESC_LO 9)) 64)).isEnd = true)) ∧
    ((at3.aon.coreUp = true) ∧ (2 < 10) ∧ (tget at3.dma.owner 2 = none)) ∧
    ((at145.aon.coreUp = true) ∧ (2 < 10) ∧ (tget at145.dma.owner 2 = some 9) ∧ ((at145.setN Reg.DMA.LINES (putBit (at145.regN Reg.DMA.LINES) 2 true)) = at145.setN Reg.DMA.LINES (putBit (at145.regN Reg.DMA.LINES) 2 true)) ∧ ((at145.setN Reg.DMA.LINES (putBit (at145.regN Reg.DMA.LINES) 2 true)).dmaSt 9 = 4) ∧ (((at145.setN Reg.DMA.LINES (putBit (at145.regN Reg.DMA.LINES) 2 true)).dmaCh 9).want = some 2)) ∧
    ((at146.aon.coreUp = true) ∧ (tget at146.dma.owner 2 = some 9) ∧ ((at146.dmaCh 9).jobs.getLast? = some { aJob with d := { lineDesc with line := 2 } }) ∧ ({ aJob with d := { lineDesc with line := 2 } }.d.sspace = 2) ∧ ({ aJob with d := { lineDesc with line := 2 } }.d.line = 2) ∧ ({ aJob with d := { lineDesc with line := 2 } }.closed = false) ∧ (at146.dmaSt 9 ≠ 3) ∧ (at146.dmaSt 9 ≠ 4)) ∧
    ((at3.aon.coreUp = true) ∧ (3 < 32)) := by
  repeat' apply And.intro
  all_goals first | with_reducible rfl | decide +kernel | (intro _ e; exact nomatch e) | (intro e; exact absurd e (by decide)) | exact eq_nextOf _ _ (by decide +kernel)

/-- Witness of Obligations.KeyStoreCommands. -/
theorem test_witness_KeyStoreCommands :
    ((at3.aon.coreUp = true) ∧ (at3.flag Fld.KEY.IMP_RESULT.BUSY = false)) ∧
    ((at147.aon.coreUp = true) ∧ (at147.keys.imp.isSome = true)) ∧
    ((at3.aon.coreUp = true) ∧ (3 < 4096) ∧ (at3.keys.imp = none)) ∧
    ((at3.aon.coreUp = true) ∧ (at3.keys.imp = none)) ∧
    ((at148.aon.coreUp = true) ∧ (at148.keys.imp = some (4, ([] : List Byte), ([] : List Byte))) ∧ (3 < 4096) ∧ (3 ≠ 4 % 4096)) ∧
    ((at148.aon.coreUp = true) ∧ (at148.keys.imp = some (4, ([] : List Byte), ([] : List Byte))) ∧ (4 = 4 % 4096)) ∧
    ((at148.aon.coreUp = true) ∧ (at148.keys.imp = some (4, ([] : List Byte), ([] : List Byte)))) ∧
    ((at149.aon.coreUp = true) ∧ (at149.flag Fld.KEY.STATUS.ZEROISING = true)) ∧
    ((at3.aon.coreUp = true) ∧ (3 < 4)) ∧
    ((at3.aon.coreUp = true)) := by
  repeat' apply And.intro
  all_goals first | with_reducible rfl | decide +kernel | (intro _ e; exact nomatch e) | (intro e; exact absurd e (by decide)) | exact eq_nextOf _ _ (by decide +kernel)

/-- Witness of Obligations.DrivePortLink. -/
theorem test_witness_DrivePortLink :
    ((at150.aon.coreUp = true) ∧ (3 < 48) ∧ (at150.pt 3 = ptReset) ∧ (at150.flag (Fld.SLP_C.STATUS.PG 3) = true)) ∧
    ((at151.aon.coreUp = true) ∧ (3 < 48) ∧ (at151.pt 3 = ptTraining ∨ at151.pt 3 = ptRecovering) ∧ (((((at151.put (Fld.DRP_P.STATUS.STATE 3) ptConfiguring).put (Fld.DRP_P.STATUS.SPEED 3) 5).put (Fld.DRP_P.STATUS.WIDTH 3) 4)) = (((at151.put (Fld.DRP_P.STATUS.STATE 3) ptConfiguring).put (Fld.DRP_P.STATUS.SPEED 3) 5).put (Fld.DRP_P.STATUS.WIDTH 3) 4)) ∧ (4 ≤ 5) ∧ (at151.fullWidth ≤ 4)) ∧
    ((at152.aon.coreUp = true) ∧ (3 < 48) ∧ (at152.pt 3 = ptTraining ∨ at152.pt 3 = ptRecovering) ∧ (((((at152.put (Fld.DRP_P.STATUS.STATE 3) ptConfiguring).put (Fld.DRP_P.STATUS.SPEED 3) 3).put (Fld.DRP_P.STATUS.WIDTH 3) 4)) = (((at152.put (Fld.DRP_P.STATUS.STATE 3) ptConfiguring).put (Fld.DRP_P.STATUS.SPEED 3) 3).put (Fld.DRP_P.STATUS.WIDTH 3) 4)) ∧ (3 < 4 ∨ 4 < at152.fullWidth)) ∧
    ((at151.aon.coreUp = true) ∧ (3 < 48) ∧ (at151.pt 3 = ptTraining) ∧ ((at151.port 3).tries = 0)) ∧
    ((at153.aon.coreUp = true) ∧ (3 < 48) ∧ (at153.pt 3 = ptTraining) ∧ ((at153.port 3).tries ≠ 0)) ∧
    ((at154.aon.coreUp = true) ∧ (3 < 48) ∧ (at154.pt 3 = ptConfiguring)) ∧
    ((at155.aon.coreUp = true) ∧ (3 < 48) ∧ (at155.pt 3 = ptUp)) ∧
    ((at156.aon.coreUp = true) ∧ (9 < 48) ∧ (at156.pt 9 = ptRecovering) ∧ ((((at156.portOff 9).modPort 9 fun p => { p with wanted := false, probe := false })) = ((at156.portOff 9).modPort 9 fun p => { p with wanted := false, probe := false })) ∧ ((((at156.portOff 9).modPort 9 fun p => { p with wanted := false, probe := false })).colOfSlot 9 = none)) ∧
    ((at157.aon.coreUp = true) ∧ (3 < 48) ∧ (at157.pt 3 = ptRecovering) ∧ ((((at157.portOff 3).modPort 3 fun p => { p with wanted := false, probe := false })) = ((at157.portOff 3).modPort 3 fun p => { p with wanted := false, probe := false })) ∧ ((((at157.portOff 3).modPort 3 fun p => { p with wanted := false, probe := false })).colOfSlot 3 = some 3) ∧ (((((at157.portOff 3).modPort 3 fun p => { p with wanted := false, probe := false })).power 3).ps = 6)) ∧
    ((at152.aon.coreUp = true) ∧ (3 < 48) ∧ (at152.pt 3 = ptRecovering) ∧ ((((at152.portOff 3).modPort 3 fun p => { p with wanted := false, probe := false })) = ((at152.portOff 3).modPort 3 fun p => { p with wanted := false, probe := false })) ∧ ((((at152.portOff 3).modPort 3 fun p => { p with wanted := false, probe := false })).colOfSlot 3 = some 3) ∧ (((((at152.portOff 3).modPort 3 fun p => { p with wanted := false, probe := false })).power 3).ps ≠ 6)) ∧
    ((at158.aon.coreUp = true) ∧ (3 < 48) ∧ (at158.pt 3 = ptQuiescing) ∧ (bit at158.aon.slotPerst 3 = false)) ∧
    ((at155.aon.coreUp = true) ∧ (3 < 48) ∧ (at155.pt 3 = ptUp) ∧ ((at155.port 3).cfsTried = false)) ∧
    ((at159.aon.coreUp = true) ∧ (3 < 48) ∧ ((at159.port 3).cfsTried = true)) := by
  repeat' apply And.intro
  all_goals first | with_reducible rfl | decide +kernel | (intro _ e; exact nomatch e) | (intro e; exact absurd e (by decide)) | exact eq_nextOf _ _ (by decide +kernel)

/-- Witness of Obligations.DriveRequests. -/
theorem test_witness_DriveRequests :
    ((at160.aon.coreUp = true) ∧ (at160.stopped = false) ∧ (at160.pt 3 = ptUp) ∧ ((at160.port 3).live < 1024)) ∧
    ((at161.aon.coreUp = true) ∧ (at161.stopped = false) ∧ (at161.pt 3 = ptUp) ∧ ((at161.port 3).live < 1024) ∧ (at161.pickReq { at161.port 3 with reqs := ((at161.port 3).reqs.filter fun q => !at161.heldBack q) } = some (aReq, (3, 0))) ∧ (((List.range 2048).find? fun y => (tget (at161.port 3).tags y).isNone) = some 0) ∧ (aReq.write = true → at161.writeCheck aReq = []) ∧ (((at161.modPort 3 fun p => { p with reqs := (p.reqs.filter fun q => q.id ≠ aReq.id), tags := (tput p.tags 0 ⟨aReq, false, at161.now, [], 0⟩), wrr := (3, 0) })) = (at161.modPort 3 fun p => { p with reqs := (p.reqs.filter fun q => q.id ≠ aReq.id), tags := (tput p.tags 0 ⟨aReq, false, at161.now, [], 0⟩), wrr := (3, 0) }))) ∧
    ((at162.aon.coreUp = true) ∧ (3 < 48) ∧ (4 < 2048) ∧ (tget (at162.port 3).tags 4 = some { aTag with req := { aReq with n := 2 } }) ∧ ({ aTag with req := { aReq with n := 2 } }.quarantined = false) ∧ ({ aTag with req := { aReq with n := 2 } }.moved + at162.cmdBlks 3 { aTag with req := { aReq with n := 2 } }.req < { aTag with req := { aReq with n := 2 } }.req.n)) ∧
    ((at163.aon.coreUp = true) ∧ (3 < 48) ∧ (4 < 2048) ∧ (tget (at163.port 3).tags 4 = some aTag) ∧ (aTag.quarantined = false) ∧ (aTag.req.n ≤ aTag.moved + at163.cmdBlks 3 aTag.req) ∧ (((((at163.modPort 3 fun p => { p with tags := tdel p.tags 4 }).memberCount 3 aTag.req true ((at163.now - aTag.at_) / 1000)).tagFreed 3)) = (((at163.modPort 3 fun p => { p with tags := tdel p.tags 4 }).memberCount 3 aTag.req true ((at163.now - aTag.at_) / 1000)).tagFreed 3)) ∧ (aTag.req.write = false)) ∧
    ((at164.aon.coreUp = true) ∧ (3 < 48) ∧ (4 < 2048) ∧ (tget (at164.port 3).tags 4 = some { aTag with req := { aReq with write := true } }) ∧ ({ aTag with req := { aReq with write := true } }.quarantined = false) ∧ ({ aTag with req := { aReq with write := true } }.req.n ≤ { aTag with req := { aReq with write := true } }.moved + at164.cmdBlks 3 { aTag with req := { aReq with write := true } }.req) ∧ (((((at164.modPort 3 fun p => { p with tags := tdel p.tags 4 }).memberCount 3 { aTag with req := { aReq with write := true } }.req true ((at164.now - { aTag with req := { aReq with write := true } }.at_) / 1000)).tagFreed 3)) = (((at164.modPort 3 fun p => { p with tags := tdel p.tags 4 }).memberCount 3 { aTag with req := { aReq with write := true } }.req true ((at164.now - { aTag with req := { aReq with write := true } }.at_) / 1000)).tagFreed 3)) ∧ ({ aTag with req := { aReq with write := true } }.req.write = true)) ∧
    ((at3.aon.coreUp = true) ∧ (3 < 48) ∧ (4 < 2048) ∧ (tget (at3.port 3).tags 4 = none)) ∧
    ((at163.aon.coreUp = true) ∧ (tget (at163.port 3).tags 4 = some aTag) ∧ (aTag.quarantined = false)) ∧
    ((at165.aon.coreUp = true) ∧ (tget (at165.port 3).tags 4 = some oldTag) ∧ (oldTag.quarantined = true)) ∧
    ((at163.aon.coreUp = true) ∧ (tget (at163.port 3).tags (524288 / tagBytes) = some aTag) ∧ (aTag.quarantined = false) ∧ (524288 % tagBytes + ([1] : List Byte).length ≤ tagBytes)) ∧
    ((at165.aon.coreUp = true) ∧ (tget (at165.port 3).tags (524288 / tagBytes) = some oldTag) ∧ (oldTag.quarantined = true)) ∧
    ((at163.aon.coreUp = true) ∧ (tget (at163.port 3).tags (524288 / tagBytes) = some aTag) ∧ (aTag.quarantined = false) ∧ (524288 % tagBytes + 4 ≤ tagBytes)) ∧
    ((at165.aon.coreUp = true) ∧ (tget (at165.port 3).tags (524288 / tagBytes) = some oldTag) ∧ (oldTag.quarantined = true ∨ tagBytes < 524288 % tagBytes + 4)) ∧
    ((at3.aon.coreUp = true) ∧ (tget (at3.port 3).tags (3 / tagBytes) = none)) ∧
    ((at155.aon.coreUp = true) ∧ (at155.pt 3 = ptUp)) := by
  repeat' apply And.intro
  all_goals first | with_reducible rfl | decide +kernel | (intro _ e; exact nomatch e) | (intro e; exact absurd e (by decide)) | exact eq_nextOf _ _ (by decide +kernel)

/-- Witness of Obligations.PresenceAndSideband. -/
theorem test_witness_PresenceAndSideband :
    ((at3.aon.coreUp = true) ∧ (3 < at3.slotsInUse) ∧ (at3.flag (Fld.DRP_P.SLOT_STATUS.PRESENT 3) = false) ∧ (((((at3.modPort 3 fun p => { p with rawAbsent := false }).putBit64 Reg.DRP.PRESENT_LO 3 true).on (Fld.DRP_P.SLOT_STATUS.PRESENT 3)).eventHeld Fld.DRP.EVENT.PRESENCE (drpSrc 3 0)) = (((at3.modPort 3 fun p => { p with rawAbsent := false }).putBit64 Reg.DRP.PRESENT_LO 3 true).on (Fld.DRP_P.SLOT_STATUS.PRESENT 3)).eventHeld Fld.DRP.EVENT.PRESENCE (drpSrc 3 0)) ∧ ((((((at3.modPort 3 fun p => { p with rawAbsent := false }).putBit64 Reg.DRP.PRESENT_LO 3 true).on (Fld.DRP_P.SLOT_STATUS.PRESENT 3)).eventHeld Fld.DRP.EVENT.PRESENCE (drpSrc 3 0)).event (Fld.DRP_P.SLOT_STATUS.PRESENCE_CHANGED 3) (drpSrc 3 0)) = ((((at3.modPort 3 fun p => { p with rawAbsent := false }).putBit64 Reg.DRP.PRESENT_LO 3 true).on (Fld.DRP_P.SLOT_STATUS.PRESENT 3)).eventHeld Fld.DRP.EVENT.PRESENCE (drpSrc 3 0)).event (Fld.DRP_P.SLOT_STATUS.PRESENCE_CHANGED 3) (drpSrc 3 0))) ∧
    ((at166.aon.coreUp = true) ∧ (3 < at166.slotsInUse) ∧ (at166.flag (Fld.DRP_P.SLOT_STATUS.PRESENT 3) = true)) ∧
    ((at3.aon.coreUp = true) ∧ (3 < at3.slotsInUse)) ∧
    ((at167.aon.coreUp = true) ∧ (3 < at167.slotsInUse) ∧ (at167.flag (Fld.DRP_P.SLOT_STATUS.BUTTON_WINDOW 3) = true)) ∧
    ((at160.aon.coreUp = true) ∧ (3 < at160.slotsInUse) ∧ (((((at160.emit (.smbus (at160.chainOf 3) (at160.get Fld.DRP.MI_CFG.MUX_ADDR) (3 % 12 + 1))).emit (.smbus (at160.chainOf 3) 0x6A 0)).emit (.smbus (at160.chainOf 3) (at160.get Fld.DRP.MI_CFG.MUX_ADDR) 0))) = (((at160.emit (.smbus (at160.chainOf 3) (at160.get Fld.DRP.MI_CFG.MUX_ADDR) (3 % 12 + 1))).emit (.smbus (at160.chainOf 3) 0x6A 0)).emit (.smbus (at160.chainOf 3) (at160.get Fld.DRP.MI_CFG.MUX_ADDR) 0))) ∧ (at160.pt 3 ≠ ptOff) ∧ (bit at160.mb.chainsStuck (at160.chainOf 3) = false) ∧ (bit (at160.get Fld.SIO.STATUS.V) (at160.chainOf 3) = false)) ∧
    ((at3.aon.coreUp = true) ∧ (3 < at3.slotsInUse) ∧ (2 < 4)) ∧
    ((at160.aon.coreUp = true) ∧ (3 < at160.slotsInUse) ∧ (at160.flag (Fld.DRP_P.CFG_STATUS.BUSY 3) = false) ∧ (at160.flag (Fld.DRP_P.STATUS.PENDING 3) = false) ∧ (at160.pt 3 = ptUp ∨ at160.pt 3 = ptConfiguring)) ∧
    ((at168.aon.coreUp = true) ∧ (3 < at168.slotsInUse) ∧ (at168.flag (Fld.DRP_P.CFG_STATUS.BUSY 3) = false) ∧ (at168.flag (Fld.DRP_P.STATUS.PENDING 3) = false) ∧ (at168.pt 3 = ptUp ∨ at168.pt 3 = ptConfiguring) ∧ (at168.cfgWritable 3 = true)) ∧
    ((at169.aon.coreUp = true) ∧ (3 < at169.slotsInUse) ∧ (at169.flag (Fld.DRP_P.CFG_STATUS.BUSY 3) = true) ∧ ((at169.port 3).cfgOp = 1)) ∧
    ((at170.aon.coreUp = true) ∧ (3 < at170.slotsInUse) ∧ (at170.flag (Fld.DRP_P.CFG_STATUS.BUSY 3) = true) ∧ ((at170.port 3).cfgOp ≠ 1)) ∧
    ((at3.aon.coreUp = true) ∧ (3 < at3.slotsInUse) ∧ (2 < 12) ∧ (∀ m : Nat, m < 48 → at3.dclkOf m = 2 → bit at3.aon.slotGates m = false ∧ at3.ch m ≠ chShut)) := by
  repeat' apply And.intro
  all_goals first | with_reducible rfl | decide +kernel | (intro _ e; exact nomatch e) | (intro e; exact absurd e (by decide)) | exact eq_nextOf _ _ (by decide +kernel)

/-- Witness of Obligations.SlotPowerRamps. -/
theorem test_witness_SlotPowerRamps :
    ((at3.aon.coreUp = true) ∧ (3 < 48)) ∧
    ((at171.aon.coreUp = true) ∧ (3 < 48) ∧ (at171.slotOk 3 = true) ∧ (at171.ch 3 = chQueued) ∧ (at171.demandCounts 3 = true) ∧ (at171.rampHead 3 = true) ∧ (at171.get Fld.SLP.STATUS.RAMPING < at171.get Fld.SLP.CFG.RAMP_MAX) ∧ (3 ≤ 200) ∧ ((((at171.setCh 3 chRamping).modChan 3 fun c => { c with bad := 0 })) = ((at171.setCh 3 chRamping).modChan 3 fun c => { c with bad := 0 }))) ∧
    ((at172.aon.coreUp = true) ∧ (3 < 48) ∧ (at172.ch 3 = chRamping)) ∧
    ((at173.aon.coreUp = true) ∧ (3 < 48) ∧ (at173.ch 3 = chRamping ∨ at173.ch 3 = chOn ∨ at173.ch 3 = chOverload)) ∧
    ((at174.aon.coreUp = true) ∧ (3 < 48) ∧ (at174.ch 3 = chOverload)) ∧
    ((at175.aon.coreUp = true) ∧ (3 < 48) ∧ (at175.flag (Fld.SLP_C.CFG.TSRC 3) = true) ∧ ((at175.chan 3).diodeBad = false) ∧ (-640 ≤ (3 : Int)) ∧ ((3 : Int) ≤ 3200)) ∧
    ((at175.aon.coreUp = true) ∧ (3 < 48) ∧ (at175.flag (Fld.SLP_C.CFG.TSRC 3) = true) ∧ ((at175.chan 3).diodeBad = false) ∧ ((-700 : Int) < -640 ∨ 3200 < (-700 : Int))) ∧
    ((at176.aon.coreUp = true) ∧ (3 < 48) ∧ (at176.get (Fld.SLP_C.MODEL0.TAU1 3) ≠ 0) ∧ (at176.get (Fld.SLP_C.MODEL1.TAU2 3) ≠ 0) ∧ (at176.flag (Fld.SLP_C.STATUS.TSRC_ACTIVE 3) = true)) ∧
    ((at3.aon.coreUp = true) ∧ (3 < 48) ∧ (100 * at3.get (Fld.SLP_C.TIMER.PG_V 3) ≤ 3)) := by
  repeat' apply And.intro
  all_goals first | with_reducible rfl | decide +kernel | (intro _ e; exact nomatch e) | (intro e; exact absurd e (by decide)) | exact eq_nextOf _ _ (by decide +kernel)

/-- Witness of Obligations.SlotPowerOffAndFaults. -/
theorem test_witness_SlotPowerOffAndFaults :
    ((at177.aon.coreUp = true) ∧ (3 < 48) ∧ (at177.ch 3 = chBackoff) ∧ (at177.demandCounts 3 = true) ∧ (at177.temp16 3 ≤ 2080)) ∧
    ((at178.aon.coreUp = true) ∧ (3 < 48) ∧ (at178.flag (Fld.SLP_C.STATUS.PG 3) = true)) ∧
    ((at179.aon.coreUp = true) ∧ (3 < 48) ∧ ((at179.chan 3).demand = true) ∧ (at179.portCalls 3 = false) ∧ (at179.pt 3 = ptOff) ∧ (at179.flag (Fld.DRP_P.STATUS.PENDING 3) = false)) ∧
    ((at180.aon.coreUp = true) ∧ (3 < 48) ∧ ((at180.chan 3).demand = true) ∧ (at180.portCalls 3 = true) ∧ (at180.pt 3 = ptOff) ∧ (at180.flag (Fld.DRP_P.STATUS.PENDING 3) = true) ∧ (at180.flag (Fld.SLP_C.CTRL.FORCE_OFF 3) = false)) ∧
    ((at181.aon.coreUp = true) ∧ (3 < 48) ∧ (at181.ch 3 = chShut)) ∧
    ((at182.aon.coreUp = true) ∧ (3 < 48) ∧ (at182.ch 3 = chMinOff)) ∧
    ((at183.aon.coreUp = true) ∧ (3 < 48) ∧ (at183.ch 3 = chLatched)) ∧
    ((at184.aon.coreUp = true) ∧ (3 < 48) ∧ (200 < 300) ∧ (at184.ch 3 ≠ chOff) ∧ (at184.ch 3 ≠ chLatched)) ∧
    ((at3.aon.coreUp = true) ∧ (3 < 48)) := by
  repeat' apply And.intro
  all_goals first | with_reducible rfl | decide +kernel | (intro _ e; exact nomatch e) | (intro e; exact absurd e (by decide)) | exact eq_nextOf _ _ (by decide +kernel)

/-- Witness of Obligations.FeedsAndShelfStop. -/
theorem test_witness_FeedsAndShelfStop :
    ((at185.aon.coreUp = true) ∧ (1 < 2) ∧ (at185.feedUsable 1 = true)) ∧
    ((at186.aon.coreUp = true) ∧ (1 < 2) ∧ (at186.flag (feedBit 5 1) = false) ∧ (at186.flag (feedBit 7 1) = false) ∧ (((at186.put (feedV 1) (codeOf 16 (3 : Int))).on (feedBit 3 1)).get Fld.SLP.FEED_STATUS.SELECTED ≠ 0)) ∧
    ((at3.aon.coreUp = true) ∧ (1 < 2) ∧ (at3.flag (feedBit 5 1) = false) ∧ (at3.flag (feedBit 7 1) = false) ∧ (((at3.put (feedV 1) (codeOf 16 (3 : Int))).on (feedBit 3 1)).get Fld.SLP.FEED_STATUS.SELECTED = 0)) ∧
    ((at3.aon.coreUp = true) ∧ (1 < 2) ∧ ((-400 : Int) < -300)) ∧
    ((at3.aon.coreUp = true) ∧ (1 < 2)) ∧
    ((at187.aon.coreUp = true) ∧ (at187.flag Fld.SLP.FEED_STATUS.SWITCHING = true) ∧ (at187.flag Fld.SLP.STATUS.SHELF_STOPPED = false)) ∧
    ((at188.aon.coreUp = true) ∧ (at188.flag Fld.SLP.FEED_STATUS.SWITCHING = true) ∧ (at188.aon.feedGates ≠ 0)) ∧
    ((at3.aon.coreUp = true) ∧ (at3.flag Fld.SLP.FEED_STATUS.SWITCHING = false)) ∧
    ((at189.aon.coreUp = true) ∧ (at189.flag Fld.SLP.FEED_CFG.REVERT = true) ∧ (at189.feedUsable (at189.get Fld.SLP.FEED_CFG.PRIMARY) = true) ∧ (at189.get Fld.SLP.FEED_STATUS.SELECTED ≠ 0) ∧ (at189.get Fld.SLP.FEED_STATUS.SELECTED ≠ at189.get Fld.SLP.FEED_CFG.PRIMARY + 1) ∧ (at189.flag Fld.SLP.FEED_STATUS.SWITCHING = false)) ∧
    ((at3.aon.coreUp = true)) := by
  repeat' apply And.intro
  all_goals first | with_reducible rfl | decide +kernel | (intro _ e; exact nomatch e) | (intro e; exact absurd e (by decide)) | exact eq_nextOf _ _ (by decide +kernel)

/-- Witness of Obligations.EndpointLink. -/
theorem test_witness_EndpointLink :
    ((at190.aon.coreUp = true) ∧ (at190.aon.epPerst = false)) ∧
    ((at191.aon.coreUp = true) ∧ (at191.aon.epPerst = true)) ∧
    ((at192.aon.coreUp = true) ∧ (at192.epState = epTraining) ∧ (at192.aon.squelched = false) ∧ ((((at192.put Fld.EPF.STATUS.SPEED 5).put Fld.EPF.STATUS.WIDTH 4).on Fld.EPF.STATUS.LINK_UP) = ((at192.put Fld.EPF.STATUS.SPEED 5).put Fld.EPF.STATUS.WIDTH 4).on Fld.EPF.STATUS.LINK_UP)) ∧
    ((at193.aon.coreUp = true) ∧ (at193.epState = epReady ∨ at193.epState = epNotReady)) ∧
    ((at194.aon.coreUp = true) ∧ (at194.epState = epResetting)) ∧
    ((at195.aon.coreUp = true) ∧ (at195.epState = epReady)) ∧
    ((at3.aon.coreUp = true)) ∧
    ((at196.aon.coreUp = true) ∧ (at196.epState = epNotReady ∨ (at196.epState = epResetting ∧ at196.ep.linkKept = true))) := by
  repeat' apply And.intro
  all_goals first | with_reducible rfl | decide +kernel | (intro _ e; exact nomatch e) | (intro e; exact absurd e (by decide)) | exact eq_nextOf _ _ (by decide +kernel)

/-- Witness of Obligations.Bar2AndMsix. -/
theorem test_witness_Bar2AndMsix :
    ((at197.aon.coreUp = true) ∧ (at197.epMemOk = true) ∧ (at197.flag Fld.DDC.STATUS.TRAINED = true) ∧ (64 + 4 ≤ 2 ^ at197.get Fld.EPF.BAR2_CFG.LOG2) ∧ (at197.rd64 Reg.EPF.BAR2_MAP_LO + 64 + 4 ≤ at197.get Fld.TOP.DRAM_FITTED.V * 2 ^ 20)) ∧
    ((at198.aon.coreUp = true) ∧ (at198.epMemOk = true) ∧ (at198.flag Fld.DDC.STATUS.TRAINED = true) ∧ (2 ^ 29 + 4 ≤ 2 ^ at198.get Fld.EPF.BAR2_CFG.LOG2) ∧ (at198.get Fld.TOP.DRAM_FITTED.V * 2 ^ 20 < at198.rd64 Reg.EPF.BAR2_MAP_LO + 2 ^ 29 + 4)) ∧
    ((at197.aon.coreUp = true) ∧ (at197.epMemOk = true) ∧ (at197.flag Fld.DDC.STATUS.TRAINED = true) ∧ (64 + [(1 : Byte)].length ≤ 2 ^ at197.get Fld.EPF.BAR2_CFG.LOG2) ∧ (at197.rd64 Reg.EPF.BAR2_MAP_LO + 64 + [(1 : Byte)].length ≤ at197.get Fld.TOP.DRAM_FITTED.V * 2 ^ 20) ∧ (at197.get Fld.TOP.DRAM_REQUIRED.V * 2 ^ 20 ≤ at197.rd64 Reg.EPF.BAR2_MAP_LO + 64)) ∧
    ((at199.aon.coreUp = true) ∧ (at199.epMemOk = true) ∧ (at199.flag Fld.DDC.STATUS.TRAINED = true) ∧ (64 + [(1 : Byte)].length ≤ 2 ^ at199.get Fld.EPF.BAR2_CFG.LOG2) ∧ (at199.rd64 Reg.EPF.BAR2_MAP_LO + 64 + [(1 : Byte)].length ≤ at199.get Fld.TOP.DRAM_FITTED.V * 2 ^ 20) ∧ (at199.rd64 Reg.EPF.BAR2_MAP_LO + 64 < at199.get Fld.TOP.DRAM_REQUIRED.V * 2 ^ 20) ∧ (at199.inSampleRing (at199.rd64 Reg.EPF.BAR2_MAP_LO + 64) [(1 : Byte)].length = false)) ∧
    ((at200.aon.coreUp = true) ∧ (at200.epMemOk = true) ∧ (at200.flag Fld.DDC.STATUS.TRAINED = true) ∧ (64 + [(1 : Byte)].length ≤ 2 ^ at200.get Fld.EPF.BAR2_CFG.LOG2) ∧ (at200.get Fld.TOP.DRAM_FITTED.V * 2 ^ 20 < at200.rd64 Reg.EPF.BAR2_MAP_LO + 64 + [(1 : Byte)].length)) ∧
    ((at197.aon.coreUp = true) ∧ (at197.epMemOk = true) ∧ (at197.flag Fld.DDC.STATUS.TRAINED = true) ∧ (64 + [(1 : Byte)].length ≤ 2 ^ at197.get Fld.EPF.BAR2_CFG.LOG2)) ∧
    ((at201.aon.coreUp = true) ∧ (at201.epMemOk = true) ∧ (at201.flag Fld.DDC.STATUS.TRAINED = false) ∧ (64 + [(1 : Byte)].length ≤ 2 ^ at201.get Fld.EPF.BAR2_CFG.LOG2) ∧ (64 + [(1 : Byte)].length ≤ 2 ^ 25)) ∧
    ((at197.aon.coreUp = true) ∧ (at197.epMemOk = true) ∧ (64 < 0x8000)) := by
  repeat' apply And.intro
  all_goals first | with_reducible rfl | decide +kernel | (intro _ e; exact nomatch e) | (intro e; exact absurd e (by decide)) | exact eq_nextOf _ _ (by decide +kernel)

/-- Witness of Obligations.Bar2WriteFrame. -/
theorem test_witness_Bar2WriteFrame :
    ((at197.aon.coreUp = true) ∧ (at197.epMemOk = true) ∧ (at197.flag Fld.DDC.STATUS.TRAINED = true) ∧ (64 + [(1 : Byte)].length ≤ 2 ^ at197.get Fld.EPF.BAR2_CFG.LOG2) ∧ (at197.rd64 Reg.EPF.BAR2_MAP_LO + 64 + [(1 : Byte)].length ≤ at197.get Fld.TOP.DRAM_FITTED.V * 2 ^ 20) ∧ (at197.get Fld.TOP.DRAM_REQUIRED.V * 2 ^ 20 ≤ at197.rd64 Reg.EPF.BAR2_MAP_LO + 64) ∧ (exec (.bar2Write 64 [(1 : Byte)] false) at197 = .next (nextOf at197 (exec (.bar2Write 64 [1] false) at197))) ∧ (0 < [(1 : Byte)].length)) ∧
    ((at197.aon.coreUp = true) ∧ (at197.epMemOk = true) ∧ (at197.flag Fld.DDC.STATUS.TRAINED = true) ∧ (64 + [(1 : Byte)].length ≤ 2 ^ at197.get Fld.EPF.BAR2_CFG.LOG2) ∧ (at197.rd64 Reg.EPF.BAR2_MAP_LO + 64 + [(1 : Byte)].length ≤ at197.get Fld.TOP.DRAM_FITTED.V * 2 ^ 20) ∧ (at197.get Fld.TOP.DRAM_REQUIRED.V * 2 ^ 20 ≤ at197.rd64 Reg.EPF.BAR2_MAP_LO + 64) ∧ (exec (.bar2Write 64 [(1 : Byte)] false) at197 = .next (nextOf at197 (exec (.bar2Write 64 [1] false) at197))) ∧ (65 < at197.rd64 Reg.EPF.BAR2_MAP_LO + 64 ∨ at197.rd64 Reg.EPF.BAR2_MAP_LO + 64 + [(1 : Byte)].length ≤ 65)) ∧
    ((at197.aon.coreUp = true) ∧ (at197.epMemOk = true) ∧ (at197.flag Fld.DDC.STATUS.TRAINED = true) ∧ (64 + [(1 : Byte)].length ≤ 2 ^ at197.get Fld.EPF.BAR2_CFG.LOG2) ∧ (at197.rd64 Reg.EPF.BAR2_MAP_LO + 64 + [(1 : Byte)].length ≤ at197.get Fld.TOP.DRAM_FITTED.V * 2 ^ 20) ∧ (at197.get Fld.TOP.DRAM_REQUIRED.V * 2 ^ 20 ≤ at197.rd64 Reg.EPF.BAR2_MAP_LO + 64) ∧ (exec (.bar2Write 64 [(1 : Byte)] false) at197 = .next (nextOf at197 (exec (.bar2Write 64 [1] false) at197)))) := by
  repeat' apply And.intro
  all_goals first | with_reducible rfl | decide +kernel | (intro _ e; exact nomatch e) | (intro e; exact absurd e (by decide)) | exact eq_nextOf _ _ (by decide +kernel)

/-- Witness of Obligations.RegisterAccess. -/
theorem test_witness_RegisterAccess :
    ((at3.aon.coreUp = true) ∧ (at3.reaches Path.v = true) ∧ (offOk 64 = true)) ∧
    ((at202.aon.coreUp = true) ∧ (at202.reaches .e = true) ∧ (64 < 2 ^ 25) ∧ (3 < 4)) ∧
    ((at202.aon.coreUp = true) ∧ (at202.reaches .e = true) ∧ (64 < 2 ^ 25) ∧ (64 % 4 = 0)) ∧
    ((at202.aon.coreUp = true) ∧ (at202.reaches .e = true) ∧ (64 < 2 ^ 25) ∧ (8 < 9)) ∧
    ((at202.aon.coreUp = true) ∧ (at202.reaches .e = true) ∧ (2 < 2 ^ 25) ∧ (1 ≤ 2) ∧ (2 < 4) ∧ (2 % 4 + 2 ≤ 4)) ∧
    ((at202.aon.coreUp = true) ∧ (at202.reaches .e = true) ∧ (64 < 2 ^ 25) ∧ (64 % 8 = 0)) ∧
    ((at202.aon.coreUp = true) ∧ (at202.reaches .e = true) ∧ (64 < 2 ^ 25) ∧ (8 < 16)) ∧
    ((at3.aon.coreUp = true)) ∧
    ((at203.aon.coreUp = true) ∧ (at203.reaches .s = true) ∧ (offOk 64 = true)) ∧
    ((at203.aon.coreUp = true) ∧ (at203.reaches .s = true) ∧ (offOk 3 = false)) ∧
    ((at203.aon.coreUp = true) ∧ (at203.reaches .s = true)) ∧
    ((at204.aon.coreUp = true) ∧ (at204.get Fld.EPF.LOCK.OWNER = 0) ∧ (pathCode Path.e < 4) ∧ (pathCode Path.e ≠ 0)) ∧
    ((at205.aon.coreUp = true) ∧ (pathCode Path.v ≠ 0) ∧ (at205.get Fld.EPF.LOCK.OWNER = pathCode Path.v)) := by
  repeat' apply And.intro
  all_goals first | with_reducible rfl | decide +kernel | (intro _ e; exact nomatch e) | (intro e; exact absurd e (by decide)) | exact eq_nextOf _ _ (by decide +kernel)

/-- Witness of Obligations.TocsinAndFirstFault. -/
theorem test_witness_TocsinAndFirstFault :
    ((at206.aon.coreUp = true) ∧ (at206.flag Fld.FLT.STATUS.PULSING = true) ∧ (at206.aon.levelSet = false)) ∧
    ((at207.aon.coreUp = true) ∧ (at207.flag Fld.FLT.STATUS.PULSING = true) ∧ (at207.aon.levelSet = true) ∧ ((at207.off Fld.FLT.STATUS.PULSING) = at207.off Fld.FLT.STATUS.PULSING)) ∧
    ((at208.aon.coreUp = true) ∧ (at208.get Fld.FLT.CFG.TOCSIN_MODE = 1) ∧ (at208.tocsinPending = false)) ∧
    ((at209.aon.coreUp = true) ∧ (at209.flag Fld.FLT.STATUS.ALIVE = true) ∧ (at209.flag Fld.FLT.STATUS.TOCSIN = false)) ∧
    ((at210.aon.coreUp = true) ∧ (at210.flag Fld.FLT.STATUS.ALIVE = true) ∧ (at210.flag Fld.FLT.STATUS.TOCSIN = true) ∧ (at210.aon.tocsinHold = false)) ∧
    ((at211.aon.coreUp = true) ∧ (at211.flag Fld.FLT.STATUS.ALIVE = true) ∧ (at211.flag Fld.FLT.STATUS.TOCSIN = true) ∧ (at211.aon.tocsinHold = true)) ∧
    ((at3.aon.coreUp = true) ∧ (1 < 48)) ∧
    ((at3.aon.coreUp = true)) ∧
    ((at3.aon.coreUp = true) ∧ (1424 ≤ 1430) ∧ (1430 < 1536)) := by
  repeat' apply And.intro
  all_goals first | with_reducible rfl | decide +kernel | (intro _ e; exact nomatch e) | (intro e; exact absurd e (by decide)) | exact eq_nextOf _ _ (by decide +kernel)

/-- Witness of Obligations.CarillonAndCounters. -/
theorem test_witness_CarillonAndCounters :
    ((at212.aon.coreUp = true) ∧ (at212.flag Fld.EVR.STATUS.READY = true) ∧ (at212.flag Fld.EVR.CTRL.FREEZE = false)) ∧
    ((at3.aon.coreUp = true)) ∧
    ((at213.aon.coreUp = true) ∧ (at213.flag Fld.EVR.CTRL.FREEZE = true)) ∧
    ((at214.aon.coreUp = true) ∧ (3 < 65536) ∧ (tget at214.nv.carillon 3 = some aRec)) ∧
    ((at215.aon.coreUp = true) ∧ (at215.pmc.bwFresh = true)) ∧
    ((at3.aon.coreUp = true) ∧ (at3.pmc.bwFresh = false)) := by
  repeat' apply And.intro
  all_goals first | with_reducible rfl | decide +kernel | (intro _ e; exact nomatch e) | (intro e; exact absurd e (by decide)) | exact eq_nextOf _ _ (by decide +kernel)

/-- Witness of Obligations.DramAndSideband. -/
theorem test_witness_DramAndSideband :
    ((at216.aon.coreUp = true) ∧ (at216.flag Fld.DDC.STATUS.TRAINED = true) ∧ (1 < 2)) ∧
    ((at216.aon.coreUp = true) ∧ (at216.flag Fld.DDC.STATUS.TRAINED = true) ∧ (1 < 2) ∧ (1 < 2)) ∧
    ((at216.aon.coreUp = true) ∧ (at216.flag Fld.DDC.STATUS.TRAINED = true) ∧ (1 < 2) ∧ (2 ≤ 3)) ∧
    ((at216.aon.coreUp = true) ∧ (at216.flag Fld.DDC.STATUS.TRAINED = true) ∧ (1 < 2) ∧ (at216.cmd? 4 = some (aCmd (some (anIo .read .zopen))))) ∧
    ((at217.aon.coreUp = true) ∧ (at217.flag Fld.DDC.STATUS.TRAINED = true) ∧ (1 < 2) ∧ (at217.get (Fld.DDC_C.PATROL_CFG.HOURS 1) ≠ 0)) ∧
    ((at216.aon.coreUp = true) ∧ (at216.flag Fld.DDC.STATUS.TRAINED = true) ∧ (1 < 2) ∧ (85 ≤ 90)) ∧
    ((at216.aon.coreUp = true) ∧ (at216.flag Fld.DDC.STATUS.TRAINED = true) ∧ (1 < 2) ∧ (3 < 80)) ∧
    ((at216.aon.coreUp = true) ∧ (at216.flag Fld.DDC.STATUS.TRAINED = true) ∧ (1 < 2) ∧ (2 < 4)) ∧
    ((at218.aon.coreUp = true) ∧ (at218.flag Fld.DDC.STATUS.TRAINED = true) ∧ (1 < 2) ∧ (tget at218.acc.xfer 2 = some 3) ∧ (3 ≤ 5)) := by
  repeat' apply And.intro
  all_goals first | with_reducible rfl | decide +kernel | (intro _ e; exact nomatch e) | (intro e; exact absurd e (by decide)) | exact eq_nextOf _ _ (by decide +kernel)

/-- Witness of Obligations.ResetLeaves. -/
theorem test_witness_ResetLeaves :
    (3 < 48) := by
  repeat' apply And.intro
  all_goals first | with_reducible rfl | decide +kernel | (intro _ e; exact nomatch e) | (intro e; exact absurd e (by decide)) | exact eq_nextOf _ _ (by decide +kernel)

/-- Witness of Obligations.StepKeepsCanonicalForm. -/
theorem test_witness_StepKeepsCanonicalForm :
    (at3.canon = true) ∧ (step at3 = .next (nextOf at3 (step at3))) := by
  repeat' apply And.intro
  all_goals first | with_reducible rfl | decide +kernel | (intro _ e; exact nomatch e) | (intro e; exact absurd e (by decide)) | exact eq_nextOf _ _ (by decide +kernel)

/-- Witness of Obligations.FusesOnlyGrow. -/
theorem test_witness_FusesOnlyGrow :
    (step at3 = .next (nextOf at3 (step at3))) := by
  repeat' apply And.intro
  all_goals first | with_reducible rfl | decide +kernel | (intro _ e; exact nomatch e) | (intro e; exact absurd e (by decide)) | exact eq_nextOf _ _ (by decide +kernel)

/-- Witness of Obligations.StepTakesOneCommandAndTimeRuns. -/
theorem test_witness_StepTakesOneCommandAndTimeRuns :
    (step at3 = .next (nextOf at3 (step at3))) := by
  repeat' apply And.intro
  all_goals first | with_reducible rfl | decide +kernel | (intro _ e; exact nomatch e) | (intro e; exact absurd e (by decide)) | exact eq_nextOf _ _ (by decide +kernel)

/-- Witness of Obligations.CoreHeldInResetIgnoresCommands. -/
theorem test_witness_CoreHeldInResetIgnoresCommands :
    (at7.aon.coreUp = false) ∧ ((Instr.refLost).alwaysOn = false) := by
  repeat' apply And.intro
  all_goals first | with_reducible rfl | decide +kernel | (intro _ e; exact nomatch e) | (intro e; exact absurd e (by decide)) | exact eq_nextOf _ _ (by decide +kernel)

/-- Witness of Obligations.UpperSlotRegistersInX4Mode. -/
theorem test_witness_UpperSlotRegistersInX4Mode :
    ((at219.flag Fld.DRP.MODE.X4 = true) ∧ (0x298000 % 4 = 0) ∧ ((0x298000 ≤ 0x298000 ∧ 0x298000 < 0x2B0000) ∨ (0x301600 ≤ 0x298000 ∧ 0x298000 < 0x301C00)) ∧ ((rowAt 0x298000).isSome = true) ∧ (at219.reaches Path.v = true) ∧ (at219.held_ Path.v = none) ∧ (∀ h : Nat, at219.latch_ Path.v ≠ some (0x298000 - 4, h)) ∧ (at219.lockedOut Path.v 0x298000 = false)) ∧
    ((at219.flag Fld.DRP.MODE.X4 = true) ∧ (0x301604 % 4 = 0) ∧ ((0x298000 ≤ 0x301604 ∧ 0x301604 < 0x2B0000) ∨ (0x301600 ≤ 0x301604 ∧ 0x301604 < 0x301C00)) ∧ ((rowAt 0x301604).isSome = true) ∧ (at219.reaches Path.v = true) ∧ (at219.held_ Path.v = none) ∧ (∀ h : Nat, at219.latch_ Path.v ≠ some (0x301604 - 4, h)) ∧ (at219.lockedOut Path.v 0x301604 = false)) := by
  repeat' apply And.intro
  all_goals first | with_reducible rfl | decide +kernel | (intro _ e; exact nomatch e) | (intro e; exact absurd e (by decide)) | exact eq_nextOf _ _ (by decide +kernel)

/-- Witness of Obligations.EndpointBeforeTheImage. -/
theorem test_witness_EndpointBeforeTheImage :
    ((at192.aon.coreUp = true) ∧ (at192.epServes = false) ∧ (at192.epState = epTraining) ∧ (at192.aon.squelched = false)) ∧
    ((at220.aon.coreUp = true) ∧ (at220.epServes = false) ∧ (at220.epState = epNotReady)) := by
  repeat' apply And.intro
  all_goals first | with_reducible rfl | decide +kernel | (intro _ e; exact nomatch e) | (intro e; exact absurd e (by decide)) | exact eq_nextOf _ _ (by decide +kernel)

/-- Witness of Obligations.ExtendChangesOneSlotWhole. -/
theorem test_witness_ExtendChangesOneSlotWhole :
    ((at3.aon.coreUp = true) ∧ (at3.flag Fld.CFG.CMD_RESULT.BUSY = false) ∧ (at3.boot.msl.length = 16) ∧ (12 ≤ 13) ∧ (13 < 16)) ∧
    ((at3.aon.coreUp = true) ∧ (at3.flag Fld.CFG.CMD_RESULT.BUSY = false) ∧ (at3.boot.msl.length = 16) ∧ (3 < 12)) := by
  repeat' apply And.intro
  all_goals first | with_reducible rfl | decide +kernel | (intro _ e; exact nomatch e) | (intro e; exact absurd e (by decide)) | exact eq_nextOf _ _ (by decide +kernel)

/-- Witness of Obligations.CounterClears. -/
theorem test_witness_CounterClears :
    (at3.aon.coreUp = true) := by
  repeat' apply And.intro
  all_goals first | with_reducible rfl | decide +kernel | (intro _ e; exact nomatch e) | (intro e; exact absurd e (by decide)) | exact eq_nextOf _ _ (by decide +kernel)

/-- Witness of Obligations.FrameOfRegisterAndSendCommands. -/
theorem test_witness_FrameOfRegisterAndSendCommands :
    ((exec Instr.refReturn at3 = .next (nextOf at3 (exec .refReturn at3))) ∧ (Instr.refReturn.registersOnly = true)) ∧
    ((exec Instr.sbStatusRead at203 = .next (nextOf at203 (exec .sbStatusRead at203))) ∧ (Instr.sbStatusRead.sendsOnly = true)) ∧
    ((exec Instr.heartbeatSend at3 = .next (nextOf at3 (exec .heartbeatSend at3))) ∧ (Instr.heartbeatSend = .heartbeatSend)) := by
  repeat' apply And.intro
  all_goals first | with_reducible rfl | decide +kernel | (intro _ e; exact nomatch e) | (intro e; exact absurd e (by decide)) | exact eq_nextOf _ _ (by decide +kernel)

/-- Witness of Obligations.FrameOfAttestationRequests. -/
theorem test_witness_FrameOfAttestationRequests :
    (((Instr.setEndpointId 0 9).attests = true) ∧ (∀ id : Nat, (Instr.setEndpointId 0 9).adminSender = some id → at3.ctrlReady id = true) ∧ (exec (Instr.setEndpointId 0 9) at3 = .next (nextOf at3 (exec (.setEndpointId 0 9) at3)))) ∧
    (((Instr.setEndpointId 0 9).attests = true) ∧ (∀ id : Nat, (Instr.setEndpointId 0 9).adminSender = some id → at3.ctrlReady id = true) ∧ (exec (Instr.setEndpointId 0 9) at3 = .next (nextOf at3 (exec (.setEndpointId 0 9) at3))) ∧ (3 ≠ Reg.CFG.SPDM)) := by
  repeat' apply And.intro
  all_goals first | with_reducible rfl | decide +kernel | (intro _ e; exact nomatch e) | (intro e; exact absurd e (by decide)) | exact eq_nextOf _ _ (by decide +kernel)

/-- Witness of Obligations.FrameOfShelfCommands. -/
theorem test_witness_FrameOfShelfCommands :
    (Instr.ppsOutFall.shelfOnly = true) ∧ (exec Instr.ppsOutFall at3 = .next (nextOf at3 (exec .ppsOutFall at3))) := by
  repeat' apply And.intro
  all_goals first | with_reducible rfl | decide +kernel | (intro _ e; exact nomatch e) | (intro e; exact absurd e (by decide)) | exact eq_nextOf _ _ (by decide +kernel)

/-- Witness of Obligations.FrameOfSwitchRecordAndCounterCommands. -/
theorem test_witness_FrameOfSwitchRecordAndCounterCommands :
    ((exec (Instr.pfcStormEnd 1 4) at3 = .next (nextOf at3 (exec (.pfcStormEnd 1 4) at3))) ∧ ((Instr.pfcStormEnd 1 4).switchOnly = true)) ∧
    ((exec Instr.freezeExpiry at221 = .next (nextOf at221 (exec .freezeExpiry at221))) ∧ (Instr.freezeExpiry.recordsOnly = true)) ∧
    ((exec Instr.counterClearSel at3 = .next (nextOf at3 (exec .counterClearSel at3))) ∧ (Instr.counterClearSel.countersOnly = true)) ∧
    ((exec (Instr.responderResourceTimeout 3 1) at3 = .next (nextOf at3 (exec (.responderResourceTimeout 3 1) at3))) ∧ ((Instr.responderResourceTimeout 3 1).connectionsOnly = true)) ∧
    ((exec (Instr.setupTimeout 3) at118 = .next (nextOf at118 (exec (.setupTimeout 3) at118))) ∧ ((Instr.setupTimeout 3).connectionsFetch = true)) := by
  repeat' apply And.intro
  all_goals first | with_reducible rfl | decide +kernel | (intro _ e; exact nomatch e) | (intro e; exact absurd e (by decide)) | exact eq_nextOf _ _ (by decide +kernel)

/-- A block every covered byte of which is `v`. -/
def flat (v : Byte) (syn : BitVec 64) : Blk :=
  ⟨List.replicate 4096 v, List.replicate 16 v, ⟨0, 0, 0, 1, 0, 1, 0, false, 0, 0, 0⟩, syn, 0⟩

theorem fit_replicate (n : Nat) (v : Byte) : fitBytes n (List.replicate n v) = List.replicate n v := by
  simp [fitBytes]

theorem flat_cover (v : Byte) (syn : BitVec 64) (h : leBytes 8 syn.toNat = List.replicate 8 v) :
    coverOf (flat v syn) = List.replicate 4120 v := by
  show fitBytes 4096 (List.replicate 4096 v) ++ (fitBytes 16 (List.replicate 16 v) ++ leBytes 8 syn.toNat) = _
  rw [fit_replicate, fit_replicate, h, List.replicate_append_replicate, List.replicate_append_replicate]

theorem flat_scale (c v : Byte) (n : Nat) : scaleBytes c (List.replicate n v) = List.replicate n (gmul c v) := by
  simp [scaleBytes]

theorem flat_xor (a b : Byte) (n : Nat) : xorBytes (List.replicate n a) (List.replicate n b) = List.replicate n (a ^^^ b) := by
  induction n with
  | zero => rfl
  | succ n ih => simp [List.replicate_succ, xorBytes, ih]

theorem flat_xor_nil (l : List Byte) : xorBytes [] l = l := by
  cases l <;> rfl

/-- Witness of Obligations.RecoveryGivesTheData: data bytes 0x05 at position 3 and 0x09 at position 4. -/
theorem test_witness_RecoveryGivesTheData :
    coverOf (flat 0x05 0x0505050505050505) = sumCover [(3, flat 0x05 0x0505050505050505)] (fun _ => 1) ∧
    coverOf (flat 0x28 0x2828282828282828) = sumCover [(3, flat 0x05 0x0505050505050505)] gexp ∧
    coverOf (flat 0x0C 0x0C0C0C0C0C0C0C0C)
      = sumCover [(3, flat 0x05 0x0505050505050505), (4, flat 0x09 0x0909090909090909)] (fun _ => 1) ∧
    coverOf (flat 0xB8 0xB8B8B8B8B8B8B8B8)
      = sumCover [(3, flat 0x05 0x0505050505050505), (4, flat 0x09 0x0909090909090909)] gexp := by
  have e5 := flat_cover 0x05 0x0505050505050505 (by decide)
  have e9 := flat_cover 0x09 0x0909090909090909 (by decide)
  refine ⟨?_, ?_, ?_, ?_⟩
  · rw [e5]
    simp only [sumCover, List.foldl, e5, flat_scale, flat_xor_nil, show gmul 1 0x05 = 0x05 by decide]
  · rw [flat_cover 0x28 _ (by decide)]
    simp only [sumCover, List.foldl, e5, flat_scale, flat_xor_nil, show gmul (gexp 3) 0x05 = 0x28 by decide]
  · rw [flat_cover 0x0C _ (by decide)]
    simp only [sumCover, List.foldl, e5, e9, flat_scale, flat_xor_nil, flat_xor, show gmul 1 0x05 = 0x05 by decide,
      show gmul 1 0x09 = 0x09 by decide, show (0x05 : Byte) ^^^ 0x09 = 0x0C by decide]
  · rw [flat_cover 0xB8 _ (by decide)]
    simp only [sumCover, List.foldl, e5, e9, flat_scale, flat_xor_nil, flat_xor, show gmul (gexp 3) 0x05 = 0x28 by decide,
      show gmul (gexp 4) 0x09 = 0x90 by decide, show (0x28 : Byte) ^^^ 0x90 = 0xB8 by decide]

end Sys2Proof.Machine
end

/-! What one step keeps (Kept), from what each command keeps and what an idle microsecond keeps: the canonical form of the
sparse tables among it (00_scope.md, R4, R15, R367). -/

namespace Sys2Proof.Machine
open Sys2Proof

/-- Every command keeps what its meaning keeps. -/
theorem exec_kept {orig s : State} (h : Kept orig s) (i : Instr) : OutKept orig (exec i s) :=
  match i with
  | .refMeasure off => execRefMeasure_kept h off
  | .refLost => execRefLost_kept h
  | .clkLockLost => execClkLockLost_kept h
  | .alwaysOnRelease => execAlwaysOnRelease_kept h
  | .porstAssert => execPorstAssert_kept h
  | .supplyOutOfRange supply => execSupplyOutOfRange_kept h supply
  | .coreResetRelease => execCoreResetRelease_kept h
  | .fuseLoadDone fuses flash => execFuseLoadDone_kept h fuses flash
  | .imageVerified => execImageVerified_kept h
  | .ddrTrainingDone ok mib us => execDdrTrainingDone_kept h ok mib us
  | .imageApply strips waitsMet => execImageApply_kept h strips waitsMet
  | .sealGo => execSealGo_kept h
  | .slotDiscovery present => execSlotDiscovery_kept h present
  | .replay readable holds fixed bad => execReplay_kept h readable holds fixed bad
  | .pfailFall => execPfailFall_kept h
  | .pfailRise => execPfailRise_kept h
  | .dumpComplete us bad => execDumpComplete_kept h us bad
  | .cfgStage => execCfgStage_kept h
  | .stageComplete ok => execStageComplete_kept h ok
  | .cfgActivate => execCfgActivate_kept h
  | .cfgRaiseSvn => execCfgRaiseSvn_kept h
  | .cfgOwnerFuse => execCfgOwnerFuse_kept h
  | .cfgExtend arg => execCfgExtend_kept h arg
  | .ovlRequest ovl => execOvlRequest_kept h ovl
  | .overlayApply => execOverlayApply_kept h
  | .getVersion carrier sender => execGetVersion_kept h carrier sender
  | .getCapabilities carrier sender => execGetCapabilities_kept h carrier sender
  | .negotiateAlgorithms carrier sender p384 sha384 => execNegotiateAlgorithms_kept h carrier sender p384 sha384
  | .getDigests carrier sender => execGetDigests_kept h carrier sender
  | .getCertificate carrier sender slot off len => execGetCertificate_kept h carrier sender slot off len
  | .challenge carrier sender slot nonce => execChallenge_kept h carrier sender slot nonce
  | .getMeasurements carrier sender index sign nonce => execGetMeasurements_kept h carrier sender index sign nonce
  | .setEndpointId carrier eid => execSetEndpointId_kept h carrier eid
  | .getEndpointId carrier => execGetEndpointId_kept h carrier
  | .getEndpointUuid carrier => execGetEndpointUuid_kept h carrier
  | .getMctpVersionSupport carrier msgType => execGetMctpVersionSupport_kept h carrier msgType
  | .getMessageTypeSupport carrier => execGetMessageTypeSupport_kept h carrier
  | .securitySend cntlid cid sgl req => execSecuritySend_kept h cntlid cid sgl req
  | .securityReceive cntlid cid alloc sgl => execSecurityReceive_kept h cntlid cid alloc sgl
  | .fabricsConnect conn port qid cntlid sqsize hsqsize kato cid nqn => execFabricsConnect_kept h conn port qid cntlid sqsize hsqsize kato cid nqn
  | .propertyGet cntlid cid off => execPropertyGet_kept h cntlid cid off
  | .propertySet cntlid cid off value => execPropertySet_kept h cntlid cid off value
  | .fabricsDisconnect cntlid qid cid => execFabricsDisconnect_kept h cntlid qid cid
  | .identify cntlid cid cns csi nsid sgl => execIdentify_kept h cntlid cid cns csi nsid sgl
  | .getLogPage cntlid cid lid nsid off len sgl => execGetLogPage_kept h cntlid cid lid nsid off len sgl
  | .setFeatures cntlid cid fid value => execSetFeatures_kept h cntlid cid fid value
  | .getFeatures cntlid cid fid => execGetFeatures_kept h cntlid cid fid
  | .asyncEventRequest cntlid cid => execAsyncEventRequest_kept h cntlid cid
  | .keepAlive cntlid cid => execKeepAlive_kept h cntlid cid
  | .keepAliveExpiry cntlid => execKeepAliveExpiry_kept h cntlid
  | .abort cntlid cid sqid target => execAbort_kept h cntlid cid sqid target
  | .selftestShort cntlid cid nsid busy => execSelftestShort_kept h cntlid cid nsid busy
  | .selftestExtended cntlid cid nsid busy => execSelftestExtended_kept h cntlid cid nsid busy
  | .selftestAbort cntlid cid stc => execSelftestAbort_kept h cntlid cid stc
  | .selftestSegmentDone failed => execSelftestSegmentDone_kept h failed
  | .vendorRegisterRead cntlid cid off pair => execVendorRegisterRead_kept h cntlid cid off pair
  | .vendorRegisterWrite cntlid cid off value => execVendorRegisterWrite_kept h cntlid cid off value
  | .read tag => execRead_kept h tag
  | .flush tag => execFlush_kept h tag
  | .write tag => execWrite_kept h tag
  | .writeZeroes tag => execWriteZeroes_kept h tag
  | .datasetManagement tag => execDatasetManagement_kept h tag
  | .zoneAppend tag => execZoneAppend_kept h tag
  | .zoneOpen tag => execZoneOpen_kept h tag
  | .zoneClose tag => execZoneClose_kept h tag
  | .zoneFinish tag => execZoneFinish_kept h tag
  | .zoneReset tag => execZoneReset_kept h tag
  | .zoneOffline tag => execZoneOffline_kept h tag
  | .zoneMgmtReceive tag => execZoneMgmtReceive_kept h tag
  | .commandAccept fixed => execCommandAccept_kept h fixed
  | .backgroundWindowEnd slot => execBackgroundWindowEnd_kept h slot
  | .nsCreate => execNsCreate_kept h
  | .nsDelete => execNsDelete_kept h
  | .nsDeleteComplete => execNsDeleteComplete_kept h
  | .failbackRequest => execFailbackRequest_kept h
  | .failbackOwnershipPass fixed bad => execFailbackOwnershipPass_kept h fixed bad
  | .zoneSelectLoad zone => execZoneSelectLoad_kept h zone
  | .hostInvalidate host => execHostInvalidate_kept h host
  | .hostAccessMapWrite host m value => execHostAccessMapWrite_kept h host m value
  | .strProbe pos => execStrProbe_kept h pos
  | .slotRecomputeDone slot io => execSlotRecomputeDone_kept h slot io
  | .reconstructionStart job => execReconstructionStart_kept h job
  | .reconstructionDone job => execReconstructionDone_kept h job
  | .berylShareWindowEnd => execBerylShareWindowEnd_kept h
  | .darkEpochBoundary => execDarkEpochBoundary_kept h
  | .idleTimeout slot => execIdleTimeout_kept h slot
  | .activationDone slot => execActivationDone_kept h slot
  | .memberShutdownComplete slot => execMemberShutdownComplete_kept h slot
  | .shutdownWaitTimeout slot waitMs => execShutdownWaitTimeout_kept h slot waitMs
  | .wakeComplete slot drive sealOk ms => execWakeComplete_kept h slot drive sealOk ms
  | .wakeTimeout slot => execWakeTimeout_kept h slot
  | .deferExpiry req => execDeferExpiry_kept h req
  | .pwrConfigWrite which value => execPwrConfigWrite_kept h which value
  | .darkTimeRecord => execDarkTimeRecord_kept h
  | .journalRecordWritten jseq bad staged => execJournalRecordWritten_kept h jseq bad staged
  | .tailWriteComplete slot idx tag bad => execTailWriteComplete_kept h slot idx tag bad
  | .chunkWearCopy chunk free fixed => execChunkWearCopy_kept h chunk free fixed
  | .checkpointStart => execCheckpointStart_kept h
  | .checkpointCommit io => execCheckpointCommit_kept h io
  | .ringCopyStream io => execRingCopyStream_kept h io
  | .keeperCopyDone io => execKeeperCopyDone_kept h io
  | .mirrorRecordReceive path mseq body bad => execMirrorRecordReceive_kept h path mseq body bad
  | .mirrorAckReceive path upTo out => execMirrorAckReceive_kept h path upTo out
  | .mirrorRetxTimeout mseq => execMirrorRetxTimeout_kept h mseq
  | .mirrorPathDown path => execMirrorPathDown_kept h path
  | .heartbeatSend => execHeartbeatSend_kept h
  | .heartbeatReceive path sent role keyWait => execHeartbeatReceive_kept h path sent role keyWait
  | .partnerSilent => execPartnerSilent_kept h
  | .reservationResult first fixed bad => execReservationResult_kept h first fixed bad
  | .verifyRecordSend => execVerifyRecordSend_kept h
  | .linkDownAbsent slot => execLinkDownAbsent_kept h slot
  | .absentHoldExpiry col => execAbsentHoldExpiry_kept h col
  | .driveAdmissionCheck slot drive => execDriveAdmissionCheck_kept h slot drive
  | .memberFailCmd slot => execMemberFailCmd_kept h slot
  | .memberAdopt slot => execMemberAdopt_kept h slot
  | .memberClearRefused slot => execMemberClearRefused_kept h slot
  | .scrubStart => execScrubStart_kept h
  | .scrubStop => execScrubStop_kept h
  | .rebuildStripe col io => execRebuildStripe_kept h col io
  | .resyncStrip col io => execResyncStrip_kept h col io
  | .copybackStripe col io => execCopybackStripe_kept h col io
  | .scrubStripe io => execScrubStripe_kept h io
  | .repairDone col stripe io => execRepairDone_kept h col stripe io
  | .frameArrival port f => execFrameArrival_kept h port f
  | .rcRequestReceive conn port pkt => execRcRequestReceive_kept h conn port pkt
  | .ackReceive conn psn ce => execAckReceive_kept h conn psn ce
  | .nakSequenceErrorReceive conn psn ce => execNakSequenceErrorReceive_kept h conn psn ce
  | .nakErrorReceive conn kind ce => execNakErrorReceive_kept h conn kind ce
  | .rnrNakReceive conn psn ce => execRnrNakReceive_kept h conn psn ce
  | .rnrRetryTimerExpiry conn => execRnrRetryTimerExpiry_kept h conn
  | .ackTimeout conn => execAckTimeout_kept h conn
  | .ackCoalesceExpiry conn => execAckCoalesceExpiry_kept h conn
  | .readResponseReceive conn psn ce blks => execReadResponseReceive_kept h conn psn ce blks
  | .rdmaReadIssue tag => execRdmaReadIssue_kept h tag
  | .windowWriteReceive conn psn first last ackReq ce key addr len data => execWindowWriteReceive_kept h conn psn first last ackReq ce key addr len data
  | .windowReadRequest conn psn ce key addr len => execWindowReadRequest_kept h conn psn ce key addr len
  | .cnpReceive conn => execCnpReceive_kept h conn
  | .ccRateIncrease conn => execCcRateIncrease_kept h conn
  | .cmReq port peer privLen recfmt hsqsize ird dscp pmtu psn host => execCmReq_kept h port peer privLen recfmt hsqsize ird dscp pmtu psn host
  | .cmDreqReceive conn => execCmDreqReceive_kept h conn
  | .setupTimeout conn => execSetupTimeout_kept h conn
  | .contextFetchDone conn ns => execContextFetchDone_kept h conn ns
  | .deadlineScan => execDeadlineScan_kept h
  | .winCommit => execWinCommit_kept h
  | .winOldRelease => execWinOldRelease_kept h
  | .responderResourceTimeout conn psn => execResponderResourceTimeout_kept h conn psn
  | .pfcFrameReceive port enable quanta => execPfcFrameReceive_kept h port enable quanta
  | .pfcWatchdogExpiry port prio => execPfcWatchdogExpiry_kept h port prio
  | .pfcStormEnd port prio => execPfcStormEnd_kept h port prio
  | .portLinkUp port => execPortLinkUp_kept h port
  | .portLinkDown port => execPortLinkDown_kept h port
  | .forwardedCommandReceive cap blks => execForwardedCommandReceive_kept h cap blks
  | .egressFrameStart port => execEgressFrameStart_kept h port
  | .frameAgeDrop port tc => execFrameAgeDrop_kept h port tc
  | .pfcXoffRefresh port prio => execPfcXoffRefresh_kept h port prio
  | .neighAgeOut index => execNeighAgeOut_kept h index
  | .tblCommitEntry => execTblCommitEntry_kept h
  | .tblCommitAddress => execTblCommitAddress_kept h
  | .tblSelectLoad value => execTblSelectLoad_kept h value
  | .identityFrameSend port => execIdentityFrameSend_kept h port
  | .identityFrameReceive port board dev peerPort devices smac => execIdentityFrameReceive_kept h port board dev peerPort devices smac
  | .topoNoPeerTimeout port => execTopoNoPeerTimeout_kept h port
  | .ptpMessageReceive port kind mine offset state parent => execPtpMessageReceive_kept h port kind mine offset state parent
  | .syncLossTimeout => execSyncLossTimeout_kept h
  | .ptpSyncSend port => execPtpSyncSend_kept h port
  | .ppsInEdge => execPpsInEdge_kept h
  | .ppsInLost => execPpsInLost_kept h
  | .ppsOutRise => execPpsOutRise_kept h
  | .ppsOutFall => execPpsOutFall_kept h
  | .ptpSetGo => execPtpSetGo_kept h
  | .ptpTimeSet => execPtpTimeSet_kept h
  | .gateEntryStart list => execGateEntryStart_kept h list
  | .listCommit => execListCommit_kept h
  | .listStart list => execListStart_kept h list
  | .shaperRefill => execShaperRefill_kept h
  | .policerRefill => execPolicerRefill_kept h
  | .dmaDoorbell path ch => execDmaDoorbell_kept h path ch
  | .dmaStop path ch => execDmaStop_kept h path ch
  | .dmaReset path ch => execDmaReset_kept h path ch
  | .descFetchDone ch ecc => execDescFetchDone_kept h ch ecc
  | .dmaReadBurst data err => execDmaReadBurst_kept h data err
  | .dmaWriteBurst err => execDmaWriteBurst_kept h err
  | .dmaWriteComplete ch err => execDmaWriteComplete_kept h ch err
  | .tailRefetch ch ecc => execTailRefetch_kept h ch ecc
  | .periphRequestChange line asserted => execPeriphRequestChange_kept h line asserted
  | .periphFinalRequest line count data => execPeriphFinalRequest_kept h line count data
  | .keyImport => execKeyImport_kept h
  | .keyImportDone => execKeyImportDone_kept h
  | .keyZeroiseSlot slot => execKeyZeroiseSlot_kept h slot
  | .keyZeroiseAll => execKeyZeroiseAll_kept h
  | .zeroiseDone => execZeroiseDone_kept h
  | .tamperAlarm detector => execTamperAlarm_kept h detector
  | .aesFloorWindowEnd => execAesFloorWindowEnd_kept h
  | .perstRelease slot => execPerstRelease_kept h slot
  | .linkL0Reached slot speed width => execLinkL0Reached_kept h slot speed width
  | .trainingTimeout slot => execTrainingTimeout_kept h slot
  | .portConfigured slot critWarn => execPortConfigured_kept h slot critWarn
  | .linkLeavesL0 slot => execLinkLeavesL0_kept h slot
  | .recoveryTimeout slot => execRecoveryTimeout_kept h slot
  | .portQuiesced slot => execPortQuiesced_kept h slot
  | .memberRequestIssue slot => execMemberRequestIssue_kept h slot
  | .memberCompletion slot tag status blks => execMemberCompletion_kept h slot tag status blks
  | .completionTimeout slot tag => execCompletionTimeout_kept h slot tag
  | .tagQuarantineEnd slot tag => execTagQuarantineEnd_kept h slot tag
  | .memberInboundWrite slot addr bytes => execMemberInboundWrite_kept h slot addr bytes
  | .memberInboundRead slot addr len => execMemberInboundRead_kept h slot addr len
  | .memberAsyncEvent slot critWarn => execMemberAsyncEvent_kept h slot critWarn
  | .presenceChange slot present => execPresenceChange_kept h slot present
  | .buttonPress slot => execButtonPress_kept h slot
  | .buttonWindowExpiry slot => execButtonWindowExpiry_kept h slot
  | .slotRemoveRequest slot => execSlotRemoveRequest_kept h slot
  | .miPoll slot sample => execMiPoll_kept h slot sample
  | .miBusStuck chain stillHeld => execMiBusStuck_kept h chain stillHeld
  | .miSuspendEnd chain => execMiSuspendEnd_kept h chain
  | .portEnableWrite slot enable => execPortEnableWrite_kept h slot enable
  | .memberCfgRead slot => execMemberCfgRead_kept h slot
  | .memberCfgWrite slot => execMemberCfgWrite_kept h slot
  | .memberCfgDone slot result data => execMemberCfgDone_kept h slot result data
  | .dclkStop k => execDclkStop_kept h k
  | .slotDemand slot => execSlotDemand_kept h slot
  | .rampGrant slot senseMv => execRampGrant_kept h slot senseMv
  | .rampComplete slot us bad => execRampComplete_kept h slot us bad
  | .inrushTimerExpiry slot => execInrushTimerExpiry_kept h slot
  | .fastTrip slot => execFastTrip_kept h slot
  | .diodeMeasure slot temp16 => execDiodeMeasure_kept h slot temp16
  | .thermalModelUpdate slot powerMw => execThermalModelUpdate_kept h slot powerMw
  | .overloadEntry slot curMa voutMv limiting => execOverloadEntry_kept h slot curMa voutMv limiting
  | .pgReturn slot => execPgReturn_kept h slot
  | .faultTimerExpiry slot => execFaultTimerExpiry_kept h slot
  | .backoffExpiry slot => execBackoffExpiry_kept h slot
  | .attemptReset slot => execAttemptReset_kept h slot
  | .slotDemandWithdrawn slot => execSlotDemandWithdrawn_kept h slot
  | .shutdownComplete slot => execShutdownComplete_kept h slot
  | .minOffExpiry slot => execMinOffExpiry_kept h slot
  | .slotClear slot => execSlotClear_kept h slot
  | .openSenseInjection slotMv feedMv => execOpenSenseInjection_kept h slotMv feedMv
  | .feedUnusable feed mv => execFeedUnusable_kept h feed mv
  | .feedQualified feed mv => execFeedQualified_kept h feed mv
  | .feedDeadTimeExpiry => execFeedDeadTimeExpiry_kept h
  | .feedSwitchComplete => execFeedSwitchComplete_kept h
  | .feedUvMaskEnd => execFeedUvMaskEnd_kept h
  | .feedRevert => execFeedRevert_kept h
  | .feedReversed feed mv => execFeedReversed_kept h feed mv
  | .feedReverseClear feed => execFeedReverseClear_kept h feed
  | .shelfStopCmd => execShelfStopCmd_kept h
  | .shelfResume => execShelfResume_kept h
  | .epPerstChange high => execEpPerstChange_kept h high
  | .epLinkUp speed width => execEpLinkUp_kept h speed width
  | .epLinkDown => execEpLinkDown_kept h
  | .functionLevelReset => execFunctionLevelReset_kept h
  | .epEnableWrite enable => execEpEnableWrite_kept h enable
  | .funcResetDone => execFuncResetDone_kept h
  | .epConfigRequest awrite off value => execEpConfigRequest_kept h awrite off value
  | .bar2Read off len uncorrectable => execBar2Read_kept h off len uncorrectable
  | .bar2Write off bytes poisoned => execBar2Write_kept h off bytes poisoned
  | .msixTableWrite off value => execMsixTableWrite_kept h off value
  | .epCompletionTimeout ch => execEpCompletionTimeout_kept h ch
  | .sbRegisterRead off pecOk => execSbRegisterRead_kept h off pecOk
  | .sbRegisterWrite off value pecOk => execSbRegisterWrite_kept h off value pecOk
  | .sbStatusRead => execSbStatusRead_kept h
  | .lockWrite path value => execLockWrite_kept h path value
  | .lockTimeout => execLockTimeout_kept h
  | .tocsinPulseEnd => execTocsinPulseEnd_kept h
  | .tocsinRestart => execTocsinRestart_kept h
  | .pendClear m value => execPendClear_kept h m value
  | .fltClearFirst => execFltClearFirst_kept h
  | .coreResetCmd => execCoreResetCmd_kept h
  | .haltHoldExpiry => execHaltHoldExpiry_kept h
  | .coreWatchdogMiss => execCoreWatchdogMiss_kept h
  | .carillonRecordWrite lineBad => execCarillonRecordWrite_kept h lineBad
  | .evrFreezeWrite value => execEvrFreezeWrite_kept h value
  | .freezeExpiry => execFreezeExpiry_kept h
  | .carillonClear path => execCarillonClear_kept h path
  | .userRecord tag => execUserRecord_kept h tag
  | .recordLatch slot => execRecordLatch_kept h slot
  | .counterClearSel => execCounterClearSel_kept h
  | .counterClearAll => execCounterClearAll_kept h
  | .bwWindowEnd => execBwWindowEnd_kept h
  | .registerWrite path off value len => execRegisterWrite_kept h path off value len
  | .rcRegisterRead path off len => execRcRegisterRead_kept h path off len
  | .pairLowRead path off => execPairLowRead_kept h path off
  | .pairLowWriteTimeout path => execPairLowWriteTimeout_kept h path
  | .dramEccCorrected ch addr devs => execDramEccCorrected_kept h ch addr devs
  | .dramEccUncorrectable ch addr devs requester => execDramEccUncorrectable_kept h ch addr devs requester
  | .tablePageReloadDone page => execTablePageReloadDone_kept h page
  | .patrolPassDone ch => execPatrolPassDone_kept h ch
  | .dramHot ch temp => execDramHot_kept h ch temp
  | .dramCool ch temp => execDramCool_kept h ch temp
  | .sidebandXferStart k => execSidebandXferStart_kept h k
  | .sidebandXferDone k result bytes => execSidebandXferDone_kept h k result bytes
  | .refReturn => execRefReturn_kept h
  | .rootPllRelock => execRootPllRelock_kept h
  | .controllerFatalStatus slot => execControllerFatalStatus_kept h slot
  | .controllerReadyTimeout slot => execControllerReadyTimeout_kept h slot
  | .gateChargePumpUv ana => execGateChargePumpUv_kept h ana
  | .announceReceiptTimeout port newState => execAnnounceReceiptTimeout_kept h port newState
  | .tocsinAliveEdge => execTocsinAliveEdge_kept h
  | .pfcPauseExpiry port prio => execPfcPauseExpiry_kept h port prio
  | .firmwareSourceRaise source => execFirmwareSourceRaise_kept h source

/-- A step keeps everything of Kept but the front of the queue, which it takes off. -/
theorem step_kept {s t : State} (hstep : step s = .next t) : Kept { s with pending := s.pending.tail } t := by
  have hout : OutKept { s with pending := s.pending.tail } (step s) := by
    cases hp : s.pending with
    | nil =>
      have idle : step s = .next (idleTick s) := by simp only [step, hp]
      rw [idle]
      exact idleTick_kept (Kept.same (Kept.refl _) hp rfl rfl rfl rfl rfl)
    | cons c rest =>
      have front : step s = exec c { s with pending := rest } := by simp only [step, hp]
      rw [front]
      exact exec_kept (Kept.refl _) c
  rwa [hstep] at hout

/-- The canonical form does not depend on the queue of waiting commands. -/
theorem canon_setPending (s : State) (p : List Instr) : State.canon { s with pending := p } = s.canon := rfl

/-- Settles O48: the command in front, or the idle microsecond, keeps the canonical form, and so does taking the command
off the queue. -/
theorem stepKeepsCanonicalForm : Obligations.StepKeepsCanonicalForm := by
  unfold Obligations.StepKeepsCanonicalForm
  intro s t hcanon hstep
  exact (step_kept hstep).canon ((canon_setPending s _).trans hcanon)

end Sys2Proof.Machine

/-! What the machine holds right after reset (R1, R6, R14, R264, R334, R355). -/

namespace Sys2Proof.Machine
open Sys2Proof

/-- Every drive port is Off after reset. -/
theorem pt_reset : ∀ n < 48, State.reset.pt n = ptOff := by decide +kernel

/-- Every slot channel is Off after reset. -/
theorem ch_reset : ∀ n < 48, State.reset.ch n = chOff := by decide +kernel

/-- Settles O46: the identification and capability words and the two flags are read off the table of printed reset values,
every other table stands as its block's reset gives it, and every port and channel is Off. -/
theorem resetLeaves : Obligations.ResetLeaves := by
  unfold Obligations.ResetLeaves
  refine ⟨?topId, ?pmc, ?dma, ?key, ?fab, ?nvq, ?zmp, ?gnt, ?mbr, ?drp, ?slp, ?swc, ?aes, rfl, rfl, rfl, rfl, rfl, rfl,
    ?sealClear, ?notHalted, rfl, rfl, rfl, fun n hn => ⟨pt_reset n hn, ch_reset n hn⟩⟩
  all_goals decide +kernel

end Sys2Proof.Machine

/-! What an idle step does, and that every step takes one command off the queue and keeps the clock from running backwards
(00_scope.md, R8, R98, R213, R346). -/

namespace Sys2Proof.Machine
open Sys2Proof

/-- With no command waiting a step answers the idle tick. -/
theorem step_of_pending_nil {s : State} (h : s.pending = []) : step s = .next (idleTick s) := by
  simp only [step, h]

/-- While the core is in reset an idle microsecond advances the clock and changes nothing else. -/
theorem idleTick_of_coreDown {s : State} (h : s.aon.coreUp = false) : idleTick s = { s with now := s.now + 1000 } := by
  simp [idleTick, h]

/-- In a running core an idle microsecond also advances PTP time, counts cycles, gathers Dark time and compacts. -/
theorem idleTick_of_coreUp {s : State} (h : s.aon.coreUp = true) :
    idleTick s = (({ s with now := s.now + 1000 } : State).ptpTick.count { code := 0x01, n := 400 }).darkTick.compact := by
  simp [idleTick, h]

/-- PTP time advances a microsecond and the whole nanoseconds of the gathered correction `f`; its fraction is carried (R213). -/
theorem State.ptpTick_eq (s : State) {f : Int} (hf : f = s.tg.rateFrac + (BitVec.ofNat 32 (s.regN Reg.PTP.ADJ_RATE)).toInt) :
    s.ptpTick = (s.modTg fun t => { t with rateFrac := f % 1024000000 }).wr64 Reg.PTP.TIME_LO
      ((s.ptpTime : Int) + 1000 + f / 1024000000).toNat := by
  rw [State.ptpTick, hf]

/-- Settles O2, by the two forms of the idle tick; the correction gathered is the same before and after the clock advances. -/
theorem idleStepAdvancesTimeAlone : Obligations.IdleStepAdvancesTimeAlone := by
  unfold Obligations.IdleStepAdvancesTimeAlone
  intro s hp
  rw [step_of_pending_nil hp]
  refine ⟨fun down => by rw [idleTick_of_coreDown down], fun up f hf => ?_⟩
  rw [idleTick_of_coreUp up, State.ptpTick_eq { s with now := s.now + 1000 } hf]
  rfl

/-- Settles O50: the queue and the clock are among what a step keeps once the front of the queue is taken off. -/
theorem stepTakesOneCommandAndTimeRuns : Obligations.StepTakesOneCommandAndTimeRuns := by
  unfold Obligations.StepTakesOneCommandAndTimeRuns
  intro s t hstep
  have kept : Kept { s with pending := s.pending.tail } t := step_kept hstep
  exact ⟨kept.pending, kept.now⟩

end Sys2Proof.Machine

/-! What a command does in a running core: the guard that every meaning begins with, and the events of the reference clock and
the root PLL (R9, R10, R333). -/

namespace Sys2Proof.Machine
open Sys2Proof

/-- The guard of a meaning that waits for the core to run. -/
theorem coreGuard_of_coreUp {s : State} {o : Host.Outcome State Fault Refusal} (up : s.aon.coreUp = true) :
    (if ¬ s.aon.coreUp then .next s else o) = o := if_neg (not_not_intro up)

/-- A measurement the register can show, within ±50 ppm. -/
theorem State.refMeasured_within (s : State) {off : Int} (lo : -5000 ≤ off) (hi : off ≤ 5000) :
    s.refMeasured off = (s.put Fld.CLK.REF_OFFSET.PPB_DIV10 (codeOf 16 off)).on Fld.CLK.STATUS.REF_IN_RANGE := by
  have shown : -32768 ≤ off ∧ off ≤ 32767 := by omega
  have near : ¬(off < -5000 ∨ 5000 < off) := by omega
  simp only [State.refMeasured, if_pos shown, if_neg near]

/-- A measurement the register can show, outside ±50 ppm. -/
theorem State.refMeasured_outside (s : State) {off : Int} (lo : -32768 ≤ off) (hi : off ≤ 32767) (far : off < -5000 ∨ 5000 < off) :
    s.refMeasured off = ((s.put Fld.CLK.REF_OFFSET.PPB_DIV10 (codeOf 16 off)).off Fld.CLK.STATUS.REF_IN_RANGE).event
      Fld.CLK.EVENT.REF_RANGE 19 := by
  simp only [State.refMeasured, if_pos (And.intro lo hi), if_pos far]

/-- With the reference present a measurement is taken. -/
theorem exec_refMeasure {s : State} (up : s.aon.coreUp = true) (present : s.flag Fld.CLK.STATUS.REF_PRESENT = true) (off : Int) :
    exec (.refMeasure off) s = .next (s.refMeasured off).settle :=
  congrArg Host.Outcome.next (if_pos ⟨up, present⟩)

/-- The lock's return, of a root PLL that was not locked, starts a dump that waited for it (R10). -/
theorem exec_rootPllRelock {s : State} (up : s.aon.coreUp = true) (present : s.flag Fld.CLK.STATUS.REF_PRESENT = true)
    (unlocked : s.flag Fld.CLK.STATUS.ROOT_LOCK = false) :
    exec .rootPllRelock s = .next (if s.aon.dumpPhase = 1 then (s.on Fld.CLK.STATUS.ROOT_LOCK).dumpStart
      else s.on Fld.CLK.STATUS.ROOT_LOCK) :=
  congrArg Host.Outcome.next (if_pos ⟨up, present, by simp [unlocked]⟩)

/-- Settles O3: each event finds its condition met, and its meaning's other branch is out. -/
theorem referenceAndRootPll : Obligations.ReferenceAndRootPll := by
  unfold Obligations.ReferenceAndRootPll
  intro s up
  refine ⟨fun off present lo hi => ?within, fun off present lo hi far => ?outside, fun present => ?lost, ?returns,
    fun locked => ?lockLost, fun present unlocked idle => ?relock, fun present unlocked waits => ?relockDump⟩
  case within => rw [exec_refMeasure up present, s.refMeasured_within lo hi]
  case outside => rw [exec_refMeasure up present, s.refMeasured_outside lo hi far]
  case lost => exact congrArg Host.Outcome.next (if_pos ⟨up, present⟩)
  case returns => exact congrArg Host.Outcome.next (if_pos up)
  case lockLost => exact congrArg Host.Outcome.next (if_pos ⟨up, locked⟩)
  case relock => rw [exec_rootPllRelock up present unlocked, if_neg idle]
  case relockDump => rw [exec_rootPllRelock up present unlocked, if_pos waits]

end Sys2Proof.Machine

/-! I/O commands at step 4 of R17 that pass its checks (R17, R43, R63, R178). -/

namespace Sys2Proof.Machine
open Sys2Proof

/-- A command of kind `o` that stands at step 4 and passes its checks notes the time and is carried out. -/
theorem State.begin4_of_atStep4 {s : State} {t : Nat} {c : Cmd} {io : IoCmd} {n : Ns} {o : IoOp} (h : s.atStep4 t c io n)
    (hop : io.op = o) (f : State → Cmd → IoCmd → Ns → State) :
    s.begin4 t [o] f = f (s.setCmd t { c with step4 := s.now }) { c with step4 := s.now } io n := by
  obtain ⟨hcmd, hio, hrun, hstarted, hclaimed, hstopped, hpage, hserved, hcheck, hns⟩ := h
  have goes : ¬(c.st ≠ .running ∨ c.started ∨ c.claimed ∨ io.op ∉ [o] ∨ s.stopped ∨ s.pageHeld c) := by
    simp [hrun, hstarted, hclaimed, hop, hstopped, hpage]
  have stays : ¬(s.get Fld.ZMP.ANA.STATE = 2 ∧ ¬ s.forwarded c ∧ c.move.isNone ∧ (s.ioCheck c io).1 = 0) := by
    rintro ⟨nonOptimized, notForwarded, noMove, -⟩
    rcases hserved with h | h | h
    · exact h nonOptimized
    · exact notForwarded h
    · exact h (Option.isNone_iff_eq_none.1 noMove)
  rcases hpair : s.ioCheck c io with ⟨e, d⟩
  obtain rfl : e = 0 := by rw [← hcheck, hpair]
  simp only [State.begin4, hcmd, hio, if_neg goes, if_neg stays]
  simp only [hpair, hns]

/-- A zone action at step 4 that passes its checks and whose action is `a` moves the zones named. -/
theorem State.zoneSendAct_of_atStep4 {s : State} {t : Nat} {c : Cmd} {io : IoCmd} {n : Ns} {a : ZAct} (h : s.atStep4 t c io n)
    (hop : io.op = .zoneSend) (hact : io.zact = a) :
    s.zoneSendAct t a = (s.setCmd t { c with step4 := s.now }).zoneSend t { c with step4 := s.now } io n := by
  rw [State.zoneSendAct, State.begin4_of_atStep4 h hop, if_pos hact]

/-- Settles O15: each command of its own kind passes step 4, and what it starts there is its row's shared operation. -/
theorem ioCommandsStart : Obligations.IoCommandsStart := by
  unfold Obligations.IoCommandsStart
  intro s t c io n up h
  have runs {o : Host.Outcome State Fault Refusal} : (if ¬ s.aon.coreUp then .next s else o) = o := coreGuard_of_coreUp up
  refine ⟨fun hop => runs.trans ?read, fun hop => runs.trans ?write, fun hop => runs.trans ?append,
    fun hop => runs.trans ?writeZeroes, fun hop served => runs.trans ?dsm, fun hop conv unkeyed => runs.trans ?dsmUnkeyed,
    fun hop => runs.trans ?flush, fun hop hact => runs.trans ?zoneOpen, fun hop hact => runs.trans ?zoneClose,
    fun hop hact => runs.trans ?zoneFinish, fun hop hact => runs.trans ?zoneReset, fun hop hact => runs.trans ?zoneOffline,
    fun hop zoned keyed => runs.trans ?zoneReceive⟩
  case dsm =>
    have keyed : ¬(n.conv ∧ ¬ keyedSgl io.sgl) := by rcases served with zoned | isKeyed <;> simp [*]
    rw [State.begin4_of_atStep4 h hop, if_neg keyed]
  case dsmUnkeyed => rw [State.begin4_of_atStep4 h hop, if_pos ⟨conv, by simp [unkeyed]⟩]
  case zoneReceive =>
    rw [State.begin4_of_atStep4 h hop, if_neg (by simp [zoned]), if_neg (by simp [keyed])]
    rfl
  case zoneOpen | zoneClose | zoneFinish | zoneReset | zoneOffline => rw [State.zoneSendAct_of_atStep4 h hop hact]
  case read | write | append | writeZeroes | flush => rw [State.begin4_of_atStep4 h hop]

end Sys2Proof.Machine

/-! Write-kind commands that end at once: those the namespace's kind does not have (R29), and every one on a write protected shelf
(R117). -/

namespace Sys2Proof.Machine
open Sys2Proof

/-- A write whose data check passes ends with 20h on a write protected shelf; an append gets there on a zoned namespace. -/
theorem State.writeStart_of_writeProtected {s : State} {io : IoCmd} {n : Ns} (wp : s.writeProtected = true)
    (check : s.dataCheck n io = 0) (zoned : io.op = .append → n.conv = false) (t : Nat) (c : Cmd) :
    s.writeStart t c io n = s.cmdEnd t 0x20 false := by
  have kind : ¬(io.op = .append ∧ n.conv) := fun ⟨append, conv⟩ => by simp [zoned append] at conv
  simp only [State.writeStart, if_neg kind, check, ne_eq, not_true_eq_false, if_false, wp, if_true]

/-- An append to a conventional namespace ends with 01h (R29). -/
theorem State.writeStart_append_conv {io : IoCmd} {n : Ns} (append : io.op = .append) (conv : n.conv = true) (s : State) (t : Nat)
    (c : Cmd) : s.writeStart t c io n = s.cmdEnd t 0x01 false := if_pos ⟨append, conv⟩

/-- A zone action on a conventional namespace ends with 01h (R29). -/
theorem State.zoneSend_conv {n : Ns} (conv : n.conv = true) (s : State) (t : Nat) (c : Cmd) (io : IoCmd) :
    s.zoneSend t c io n = s.cmdEnd t 0x01 false := if_pos conv

/-- A zone action on a zoned namespace of a write protected shelf ends with 20h. -/
theorem State.zoneSend_of_writeProtected {s : State} {n : Ns} (zoned : n.conv = false) (wp : s.writeProtected = true) (t : Nat)
    (c : Cmd) (io : IoCmd) : s.zoneSend t c io n = s.cmdEnd t 0x20 false := by
  rw [State.zoneSend, if_neg (by simp [zoned]), if_pos wp]

/-- A deallocation on a zoned namespace ends with 01h (R29). -/
theorem State.dealloc_zoned {n : Ns} (zoned : n.conv = false) (s : State) (t : Nat) (c : Cmd) (io : IoCmd) (rs : List (Nat × Nat)) :
    s.dealloc t c io n rs = s.cmdEnd t 0x01 false := if_pos (by simp [zoned])

/-- A deallocation on a conventional namespace of a write protected shelf ends with 20h. -/
theorem State.dealloc_of_writeProtected {s : State} {n : Ns} (conv : n.conv = true) (wp : s.writeProtected = true) (t : Nat)
    (c : Cmd) (io : IoCmd) (rs : List (Nat × Nat)) : s.dealloc t c io n rs = s.cmdEnd t 0x20 false := by
  rw [State.dealloc, if_neg (not_not_intro conv), if_pos wp]

/-- Settles O16: the refusals stand before everything else that the three operations do. -/
theorem writeCommandRefusals : Obligations.WriteCommandRefusals := by
  unfold Obligations.WriteCommandRefusals
  intro s t c io n _ _
  exact ⟨fun wp check zoned => State.writeStart_of_writeProtected wp check zoned t c,
    fun append conv => State.writeStart_append_conv append conv s t c,
    fun conv => State.zoneSend_conv conv s t c io,
    fun zoned wp => State.zoneSend_of_writeProtected zoned wp t c io,
    fun rs zoned => State.dealloc_zoned zoned s t c io rs,
    fun rs conv wp => State.dealloc_of_writeProtected conv wp t c io rs⟩

end Sys2Proof.Machine

/-! Commands that change the register file alone, commands that only send, and the heartbeat of the mirror: what differs between
the state before and after each (R9, R46, R73, R136, R198, R209, R212, R214, R242, R271, R274, R298, R304, R316, R320, R321, R328,
R376, R399). -/

namespace Sys2Proof.Machine
open Sys2Proof

/-- From `s` to `t` nothing but the register file changed. -/
def RegistersOnly (s t : State) : Prop := ∃ r, t = { s with regs := r }

theorem RegistersOnly.refl (s : State) : RegistersOnly s s := ⟨s.regs, rfl⟩

theorem RegistersOnly.frame {s t : State} (h : RegistersOnly s t) : t = { s with regs := t.regs } := by
  obtain ⟨r, rfl⟩ := h
  rfl

section RegistersOnly
variable {o s : State} (h : RegistersOnly o s)
include h

theorem RegistersOnly.setReg (a : Nat) (w : Word) : RegistersOnly o (s.setReg a w) := by
  obtain ⟨r, rfl⟩ := h
  exact ⟨tputD r a w 0, rfl⟩

theorem RegistersOnly.setN (a v : Nat) : RegistersOnly o (s.setN a v) := h.setReg _ _

theorem RegistersOnly.put (f : FieldAt) (v : Nat) : RegistersOnly o (s.put f v) := h.setReg _ _

theorem RegistersOnly.on (f : FieldAt) : RegistersOnly o (s.on f) := h.put _ _

theorem RegistersOnly.off (f : FieldAt) : RegistersOnly o (s.off f) := h.put _ _

theorem RegistersOnly.wr64 (a v : Nat) : RegistersOnly o (s.wr64 a v) := (h.setN _ _).setN _ _

theorem RegistersOnly.ite {t : State} {p : Prop} [Decidable p] (g : RegistersOnly o t) : RegistersOnly o (if p then s else t) :=
  iteInduction (fun _ => h) fun _ => g

theorem RegistersOnly.foldl {α : Type} {f : State → α → State} (hf : ∀ s x, RegistersOnly o s → RegistersOnly o (f s x))
    (l : List α) : RegistersOnly o (l.foldl f s) :=
  List.foldlRecOn l f h fun s g x _ => hf s x g

theorem RegistersOnly.setDma (n st : Nat) : RegistersOnly o (s.setDma n st) := ((h.put _ _).setN _ _).setN _ _

theorem RegistersOnly.setTblData (a b c d : Nat) : RegistersOnly o (s.setTblData a b c d) :=
  (((h.setN _ _).setN _ _).setN _ _).setN _ _

theorem RegistersOnly.showAddr (a : Nat) : RegistersOnly o (s.showAddr a) := h.foldl (fun _ _ g => g.setN _ _) _

end RegistersOnly

/-- A DMA request line that changes shows in DMA.LINES, and its owner channel starts or waits. -/
theorem State.lineChange_registersOnly (s : State) (line : Nat) (asserted : Bool) : RegistersOnly s (s.lineChange line asserted) := by
  have lines := (RegistersOnly.refl s).setN Reg.DMA.LINES (putBit (s.regN Reg.DMA.LINES) line asserted)
  unfold State.lineChange
  dsimp only
  split
  · exact lines
  · exact (lines.setDma _ 3).ite ((lines.setDma _ 4).ite lines)

/-- A write of EPF.LOCK sets its timeout, and its owner takes or gives up the lock. -/
theorem State.lockWrite_registersOnly (s : State) (p : Path) (v : Nat) : RegistersOnly s (s.lockWrite p v) := by
  have timeout := (RegistersOnly.refl s).ite (p := bits v 8 8 = 0)
    ((RegistersOnly.refl s).put Fld.EPF.LOCK.TIMEOUT_S (bits v 8 8))
  exact (timeout.put _ _).ite ((timeout.put _ _).ite timeout)

/-- The probe answers in its own registers, whether the layout has the position or not. -/
theorem State.strProbe_registersOnly (s : State) (pos : Nat) : RegistersOnly s (s.strProbe pos) := by
  have asked := ((RegistersOnly.refl s).put Fld.STR.PROBE_POS.V pos).setN Reg.STR.PROBE_RESULT 0
  exact (((asked.on _).on _).wr64 _ _).ite (((((asked.put _ _).put _ _).put _ _).on _).wr64 _ _)

/-- The window of ZMP.ZONE_ENTRY shows the entry of the zone selected. -/
theorem State.zoneSelect_registersOnly (s : State) (z : Nat) : RegistersOnly s (s.zoneSelect z) :=
  ((RegistersOnly.refl s).put _ _).foldl (fun _ _ g => g.setN _ _) _

/-- The window of SWC.TBL_DATA shows the entry selected, of whichever table; a number beyond the table's end shows a status. -/
theorem State.tblLoad_registersOnly (s : State) (v : Nat) : RegistersOnly s (s.tblLoad v) := by
  have selected := (RegistersOnly.refl s).setN Reg.SWC.TBL_SELECT (bits v 0 12 + 2 ^ 28 * bits v 28 4)
  refine (selected.put _ _).ite ?shown
  split
  case h_1 | h_2 | h_3 => exact selected.setTblData _ _ _ _
  case h_4 | h_5 => exact selected.showAddr _

/-- From `s` to `t` nothing but the log of what has left the part changed. -/
def SendsOnly (s t : State) : Prop := ∃ e, t = { s with emitted := e }

theorem SendsOnly.refl (s : State) : SendsOnly s s := ⟨s.emitted, rfl⟩

theorem SendsOnly.frame {s t : State} (h : SendsOnly s t) : t = { s with emitted := t.emitted } := by
  obtain ⟨e, rfl⟩ := h
  rfl

section SendsOnly
variable {o s : State} (h : SendsOnly o s)
include h

theorem SendsOnly.emit (e : Emit) : SendsOnly o (s.emit e) := by
  obtain ⟨l, rfl⟩ := h
  exact ⟨e :: l, rfl⟩

theorem SendsOnly.ite {t : State} {p : Prop} [Decidable p] (g : SendsOnly o t) : SendsOnly o (if p then s else t) :=
  iteInduction (fun _ => h) fun _ => g

theorem SendsOnly.mctp (k cmd code : Nat) (l : List Byte) : SendsOnly o (s.mctp k cmd code l) := (h.emit _).ite h

theorem SendsOnly.sendOwn (p kind arg : Nat) : SendsOnly o (s.sendOwn p kind arg) := h.emit _

theorem SendsOnly.ptpSend (n kind arg : Nat) : SendsOnly o (s.ptpSend n kind arg) := h.emit _

end SendsOnly

/-- The next state that an outcome answers has `P`. -/
def NextHas (P : State → Prop) : Host.Outcome State Fault Refusal → Prop
  | .next t => P t
  | .fault _ | .refused _ => True

theorem NextHas.ite {P : State → Prop} {x y : Host.Outcome State Fault Refusal} {p : Prop} [Decidable p] (hx : NextHas P x)
    (hy : NextHas P y) : NextHas P (if p then x else y) :=
  iteInduction (fun _ => hx) fun _ => hy

/-- A command of Instr.registersOnly changes the register file alone. -/
theorem exec_registersOnly (c : Instr) (s : State) (hc : c.registersOnly = true) : NextHas (RegistersOnly s) (exec c s) := by
  have same := RegistersOnly.refl s
  cases c
  case lockTimeout => exact .ite same (same.put _ _)
  case fltClearFirst => exact .ite same (((same.setN _ _).wr64 _ _).setN _ _)
  case refReturn => exact (same.on _).ite same
  case feedReverseClear => exact .ite same (.ite (same.off _) same)
  case attemptReset => exact .ite same (.ite (same.put _ _) same)
  case dramCool | dramHot => exact .ite same ((same.setN _ _).ite same)
  case lockWrite => exact (s.lockWrite_registersOnly _ _).ite same
  case dclkStop => exact .ite same ((same.setN _ _).ite same)
  case periphRequestChange => exact .ite same (.ite (s.lineChange_registersOnly _ _) same)
  case strProbe => exact .ite same (s.strProbe_registersOnly _)
  case epLinkUp => exact .ite same (same.ite ((((same.put _ _).put _ _).on _).put _ _))
  case zoneSelectLoad => exact .ite same (s.zoneSelect_registersOnly _)
  case tblSelectLoad => exact .ite same (s.tblLoad_registersOnly _)
  all_goals exact absurd hc Bool.false_ne_true

/-- A command of Instr.sendsOnly changes what has left the part alone. -/
theorem exec_sendsOnly (c : Instr) (s : State) (hc : c.sendsOnly = true) : NextHas (SendsOnly s) (exec c s) := by
  have same := SendsOnly.refl s
  cases c
  case sbStatusRead => exact .ite same ((same.emit _).ite same)
  case getEndpointId | getMessageTypeSupport | getEndpointUuid => exact .ite same (same.mctp _ _ _ _)
  case getMctpVersionSupport => exact .ite same ((same.mctp _ _ _ _).ite (same.mctp _ _ _ _))
  case pfcXoffRefresh => exact .ite same ((same.sendOwn _ _ _).ite same)
  case identityFrameSend => exact .ite same ((same.emit _).ite same)
  case memberInboundRead =>
    refine .ite same (?answer : SendsOnly s _)
    split
    · exact (same.emit _).ite (same.emit _)
    · exact same.emit _
  case ptpSyncSend => exact .ite same (.ite (((same.ptpSend _ _ _).ptpSend _ _ _).ptpSend _ _ _) same)
  all_goals exact absurd hc Bool.false_ne_true

/-- A heartbeat of the mirror, sent or not, changes registers, the journal's own state and what has left the part. -/
theorem exec_heartbeatSend_frame (s : State) :
    NextHas (fun t => t = { s with regs := t.regs, jn := t.jn, emitted := t.emitted }) (exec .heartbeatSend s) := by
  refine .ite rfl (?sent : _ = _)
  split
  · rfl
  · rfl

/-- Settles O57, from what each command's next state keeps. -/
theorem frameOfRegisterAndSendCommands : Obligations.FrameOfRegisterAndSendCommands := by
  unfold Obligations.FrameOfRegisterAndSendCommands
  intro c s t h
  refine ⟨fun hc => ?registers, fun hc => ?sends, ?heartbeat⟩
  case registers =>
    have changed := exec_registersOnly c s hc
    rw [h] at changed
    exact changed.frame
  case sends =>
    have sent := exec_sendsOnly c s hc
    rw [h] at sent
    exact sent.frame
  case heartbeat =>
    rintro rfl
    have beat := exec_heartbeatSend_frame s
    rwa [h] at beat

end Sys2Proof.Machine

/-! Fabrics commands, properties, Keep Alive and Asynchronous Event Requests of a controller that exists (R24, R26, R29, R50, R53). -/

namespace Sys2Proof.Machine
open Sys2Proof

/-- An admin command of an enabled controller is carried out (R53). -/
theorem State.admin_of_ready {s : State} {id : Nat} {c : Ctrl} (found : s.ctrl? id = some c) (ready : bit c.csts 0 = true) (cid : Nat)
    (f : Ctrl → State) : s.admin id cid f = f c := by
  simp only [State.admin, found, if_pos ready]

/-- Settles O12: each command finds its connection, controller or queue, and its meaning's other branches are out. -/
theorem fabricsAndKeepAlive : Obligations.FabricsAndKeepAlive := by
  unfold Obligations.FabricsAndKeepAlive
  intro s up
  have runs {o : Host.Outcome State Fault Refusal} : (if ¬ s.aon.coreUp then .next s else o) = o := coreGuard_of_coreUp up
  refine ⟨fun conn port cntlid sqsize hsq kato cid nqn c found setup onPort sameHsq check => runs.trans ?connect,
    fun id cid c found => ⟨runs.trans ?getCc, runs.trans ?getCsts, fun v enable disabled known => runs.trans ?enable,
      fun v disable => runs.trans ?disable, fun running => runs.trans ?expiry, fun ready => runs.trans ?keepAlive,
      fun ready room quiet => runs.trans ?kept, fun k r ready room waits => runs.trans ?answered⟩,
    fun id cid q found => runs.trans ?disconnect⟩
  case connect =>
    have awaited : ¬(c.st ≠ 1 ∨ c.port ≠ port ∨ c.hsq ≠ hsq) := by simp [setup, onPort, sameHsq]
    simp only [found, if_neg awaited, check]
    rfl
  case getCc | getCsts =>
    simp only [found]
    rfl
  case enable => simp [found, enable, disabled, known]
  case disable => simp [found, disable]
  case expiry => simp only [found, if_neg running]
  case keepAlive => rw [State.admin_of_ready found ready]
  case kept => rw [State.admin_of_ready found ready, if_neg (Nat.not_le.2 room), quiet]
  case answered => rw [State.admin_of_ready found ready, if_neg (Nat.not_le.2 room), waits]
  case disconnect => simp only [found, if_true]

end Sys2Proof.Machine

/-! Namespace commits, failback, host entries, zone entries and the translation probe (R25, R44, R45, R46, R73). -/

namespace Sys2Proof.Machine
open Sys2Proof

/-- A commit that finds room joins the queue with what the registers hold, and the queue runs (R45). -/
theorem State.nsCommit_of_room {s : State} (room : s.fr.nsQueue.length < 2048) (op : Nat) :
    s.nsCommit op = ((s.modFr fun f => { f with nsQueue := f.nsQueue ++
      [(op, s.get Fld.ZMP.NS_SELECT.V, s.regN Reg.ZMP.NS_CFG, s.rd64 Reg.ZMP.NS_SIZE_LO)] }).on Fld.ZMP.NS_RESULT.BUSY).nsRun 2049 :=
  if_neg (Nat.not_le.2 room)

/-- With DRAM enough the ANA state is the one asked for. -/
theorem State.anaTo_of_dramEnough {s : State} (enough : s.flag Fld.TOP.STATUS.DRAM_SHORT = false) (st : Nat) :
    s.anaTo st = s.anaSet st := by
  rw [State.anaTo, if_neg (by simp [enough])]

/-- A standby in step, verified and not short of DRAM is granted failback (R44). -/
theorem State.failback_granted {s : State} (standby : s.get Fld.GNT.STATUS.ROLE = 2) (inStep : s.inStep = true)
    (verified : s.flag Fld.GNT.VERIFY.LAST_OK = true) (enough : s.flag Fld.TOP.STATUS.DRAM_SHORT = false) :
    s.failback = s.anaSet 0xF := by
  rw [State.failback, if_pos ⟨standby, inStep, verified, by simp [enough]⟩, State.anaTo_of_dramEnough enough]

/-- A failback that lacks any one of the conditions is refused (R44). -/
theorem State.failback_refused {s : State} (lacks : s.get Fld.GNT.STATUS.ROLE ≠ 2 ∨ s.inStep = false ∨
    s.flag Fld.GNT.VERIFY.LAST_OK = false ∨ s.flag Fld.TOP.STATUS.DRAM_SHORT = true) :
    s.failback = s.evAt 320 Fld.ZMP.EVENT.FAILBACK_REFUSED := by
  refine if_neg fun ⟨standby, inStep, verified, enough⟩ => ?_
  rcases lacks with notStandby | outOfStep | unverified | short
  · exact notStandby standby
  · simp [outOfStep] at inStep
  · simp [unverified] at verified
  · exact enough short

/-- In the Change state the standby of a running mirror takes ownership (R44). -/
theorem State.ownershipPass_standby {s : State} (mirror : s.mirrorOn = true) (runs : s.stopped = false)
    (standby : s.get Fld.GNT.STATUS.ROLE = 2) (change : s.get Fld.ZMP.ANA.STATE = 0xF) (fixed bad : List Nat) :
    s.ownershipPass fixed bad = s.takeover fixed bad := by
  rw [State.ownershipPass, if_neg (by simp [mirror, runs]), if_pos ⟨standby, change⟩]

/-- A register written 0 reads 0 in every field. -/
theorem State.get_setN_zero (s : State) (f : FieldAt) : (s.setN f.reg 0).get f = 0 := by
  simp [State.get, State.setN]

/-- A field outside a pair reads as before after the pair is written. -/
theorem State.get_wr64_other (s : State) {a : Nat} (v : Nat) {f : FieldAt} (low : f.reg ≠ a) (high : f.reg ≠ a + 4) :
    (s.wr64 a v).get f = s.get f := by
  simp only [State.get, State.wr64, State.setN, State.reg_setReg_other _ _ high, State.reg_setReg_other _ _ low]

/-- The answer of the probe for a position that the layout has: row, column, slot and index (R73). -/
def State.probeAnswer (s : State) (row column slot index : Nat) : State :=
  (((((s.setN Reg.STR.PROBE_RESULT 0).put Fld.STR.PROBE_RESULT.ROW row).put Fld.STR.PROBE_RESULT.COLUMN column).put
    Fld.STR.PROBE_RESULT.SLOT slot).on Fld.STR.PROBE_RESULT.DONE).wr64 Reg.STR.PROBE_INDEX_LO index

section ProbeAnswer
variable (s : State) (row column slot index : Nat)

theorem State.probeAnswer_column :
    (s.probeAnswer row column slot index).get Fld.STR.PROBE_RESULT.COLUMN = column % 2 ^ Fld.STR.PROBE_RESULT.COLUMN.w := by
  rw [State.probeAnswer, State.get_wr64_other _ _ (by decide) (by decide), State.on, State.get_put_other _ _ _ _ (by decide) (by decide),
    State.get_put_other _ _ _ _ (by decide) (by decide), State.get_put_same _ _ _ (by decide)]

theorem State.probeAnswer_done : (s.probeAnswer row column slot index).get Fld.STR.PROBE_RESULT.DONE = 1 := by
  rw [State.probeAnswer, State.get_wr64_other _ _ (by decide) (by decide), State.on, State.get_put_same _ _ _ (by decide)]
  rfl

theorem State.probeAnswer_error : (s.probeAnswer row column slot index).get Fld.STR.PROBE_RESULT.ERROR = 0 := by
  rw [State.probeAnswer, State.get_wr64_other _ _ (by decide) (by decide), State.on, State.get_put_other _ _ _ _ (by decide) (by decide),
    State.get_put_other _ _ _ _ (by decide) (by decide), State.get_put_other _ _ _ _ (by decide) (by decide),
    State.get_put_other _ _ _ _ (by decide) (by decide)]
  exact s.get_setN_zero Fld.STR.PROBE_RESULT.ERROR

theorem State.probeAnswer_index : (s.probeAnswer row column slot index).rd64 Reg.STR.PROBE_INDEX_LO = index % 2 ^ 64 :=
  State.rd64_wr64_same _ _ _

end ProbeAnswer

/-- Within the layout the probe answers with the place of the position (R72, R73). -/
theorem State.strProbe_within {s : State} {pos n c : Nat} (hn : n = s.rd64 Reg.STR.PROBE_STRIPE_LO % 2 ^ 40)
    (hc : c = s.layout.colAt n (pos % 32)) (laid : s.lay.isSome = true) (stripe : n < s.layout.stripes)
    (position : pos % 32 < s.layout.width) :
    s.strProbe pos = (s.put Fld.STR.PROBE_POS.V pos).probeAnswer (n % s.layout.rows.length) c (s.layout.slotOf c)
      (s.layout.index n c) := by
  subst hc hn
  have within : ¬(s.lay.isNone ∨ s.layout.stripes ≤ s.rd64 Reg.STR.PROBE_STRIPE_LO % 2 ^ 40 ∨ s.layout.width ≤ pos % 32) := by
    rintro (unlaid | beyond | outside)
    · simp [Option.isNone_iff_eq_none.1 unlaid] at laid
    · exact Nat.not_le.2 stripe beyond
    · exact Nat.not_le.2 position outside
  exact if_neg within

/-- Settles O18: each command's condition holds, and its shared operation takes the branch named; what the probe shows is read
back from its registers. -/
theorem namespacesHostsAndProbe : Obligations.NamespacesHostsAndProbe := by
  unfold Obligations.NamespacesHostsAndProbe
  intro s up
  have runs {o : Host.Outcome State Fault Refusal} : (if ¬ s.aon.coreUp then .next s else o) = o := coreGuard_of_coreUp up
  refine ⟨fun room => ⟨runs.trans ?create, runs.trans ?delete⟩, fun id deleting idle => runs.trans ?deleted,
    fun standby inStep verified enough => runs.trans ?granted, fun lacks => runs.trans ?refused,
    fun fixed bad mirror running standby change => runs.trans ?pass, fun z hz => runs.trans ?select, fun h hh => runs.trans ?invalidate,
    fun h m v hh hm => runs.trans ?access, fun pos laid stripe position => ⟨s.strProbe pos, runs, ?probe⟩⟩
  case create | delete => rw [State.nsCommit_of_room room]
  case deleted => simp only [deleting, idle, Bool.false_eq_true, if_false]
  case granted => rw [State.failback_granted standby inStep verified enough]
  case refused => rw [State.failback_refused lacks]
  case pass => rw [State.ownershipPass_standby mirror running standby change]
  case select => rw [Nat.mod_eq_of_lt hz, State.zoneSelect]
  case invalidate => rw [if_neg (Nat.not_le.2 hh)]
  case access => rw [if_pos ⟨hh, hm⟩]
  case probe =>
    rw [State.strProbe_within rfl rfl laid stripe position]
    exact ⟨State.probeAnswer_column .., State.probeAnswer_done .., State.probeAnswer_error .., State.probeAnswer_index ..⟩

end Sys2Proof.Machine

/-! Identify, log pages, features and Abort on an enabled controller (R27, R29, R52, R53, R61, R62, R178). -/

namespace Sys2Proof.Machine
open Sys2Proof

/-- An admin command that moves data, of an enabled controller and with a keyed descriptor, is carried out (R53, R178). -/
theorem State.adminData_of_ready {s : State} {id : Nat} {c : Ctrl} {sgl : Sgl} (found : s.ctrl? id = some c)
    (ready : bit c.csts 0 = true) (keyed : keyedSgl sgl.ty = true) (cid : Nat) (f : Ctrl → State) :
    s.adminData id cid sgl f = f c := by
  rw [State.adminData, State.admin_of_ready found ready, if_pos keyed]

/-- Settles O13: the controller carries the command out, and the branches of its meaning that the conditions shut out are out. -/
theorem identifyLogsFeaturesAbort : Obligations.IdentifyLogsFeaturesAbort := by
  unfold Obligations.IdentifyLogsFeaturesAbort
  intro s id cid sgl c up keyed found ready
  have runs {o : Host.Outcome State Fault Refusal} : (if ¬ s.aon.coreUp then .next s else o) = o := coreGuard_of_coreUp up
  refine ⟨fun csi nsid => runs.trans ?identify, fun off len => runs.trans ?errorLog, fun v low high => runs.trans ?setKeepAlive,
    fun v => runs.trans ?setEvents, fun v permitted => runs.trans ?setArbitration, runs.trans ?getKeepAlive, runs.trans ?getEvents,
    runs.trans ?getArbitration, fun sqid target room unmarked io unknown => runs.trans ?missed,
    fun sqid target s1 room marked => runs.trans ?marks⟩
  case identify =>
    rw [State.adminData_of_ready found ready keyed]
    rfl
  case errorLog =>
    have everyNs : ¬((0 : Nat) ≠ 0 ∧ (0 : Nat) ≠ 0xFFFFFFFF ∧ ¬ s.visible c.host 0) := fun named => named.1 rfl
    rw [State.adminData_of_ready found ready keyed, if_neg everyNs]
    rfl
  case setKeepAlive =>
    have inRange : ¬(v < 1000 ∨ 120000 < v) := by omega
    simp only [State.admin_of_ready found ready, if_neg inRange]
  case setArbitration => simp only [State.admin_of_ready found ready, if_pos permitted]
  case setEvents | getKeepAlive | getEvents | getArbitration => simp only [State.admin_of_ready found ready]
  case missed => simp only [State.admin_of_ready found ready, if_neg (Nat.not_le.2 room), unmarked, if_neg io, unknown]
  case marks => simp only [State.admin_of_ready found ready, if_neg (Nat.not_le.2 room), marked]

end Sys2Proof.Machine

/-! Device self-test and the vendor register commands (R29, R53, R64 to R67, R322). -/

namespace Sys2Proof.Machine
open Sys2Proof

section SelftestStart
variable {s : State} {id nsid : Nat} {c : Ctrl} (found : s.ctrl? id = some c) (ready : bit c.csts 0 = true)
  (named : s.stNsidOk c nsid = true)
include found ready named

/-- While a test runs, here or in the partner, another is refused with 1Dh (R64). -/
theorem State.selftestStart_busy {pb : Bool}
    (busy : s.get Fld.NVQ.SELFTEST.OP ≠ 0 ∨ (s.flag Fld.SWC.TOPO_CFG.PARTNERED = true ∧ pb = true)) (cid op : Nat) :
    s.selftestStart id cid nsid op pb = s.adminDone id cid 0x11D := by
  rw [State.selftestStart, State.admin_of_ready found ready, if_neg (not_not_intro named), if_pos busy]

/-- With no test running, here or in the partner, one starts; an extended one asks for its scrub pass (R64, R66). -/
theorem State.selftestStart_free {pb : Bool} (idle : s.get Fld.NVQ.SELFTEST.OP = 0)
    (alone : s.flag Fld.SWC.TOPO_CFG.PARTNERED = false ∨ pb = false) (cid op : Nat) :
    s.selftestStart id cid nsid op pb =
      (if op = 2 then (((s.setN Reg.NVQ.SELFTEST (op + 16 + 2 ^ 16 * (id % 2 ^ 16))).modFr fun f => { f with stNsid := nsid }).modMb
          fun m => { m with scrubSelf := true, scrubLost := false }).scrubBegin
        else (s.setN Reg.NVQ.SELFTEST (op + 16 + 2 ^ 16 * (id % 2 ^ 16))).modFr fun f => { f with stNsid := nsid }).adminDone id cid 0 := by
  have free : ¬(s.get Fld.NVQ.SELFTEST.OP ≠ 0 ∨ (s.flag Fld.SWC.TOPO_CFG.PARTNERED = true ∧ pb = true)) := by
    rintro (running | ⟨partnered, busy⟩)
    · exact running idle
    · rcases alone with h | h <;> simp [h] at partnered busy
  rw [State.selftestStart, State.admin_of_ready found ready, if_neg (not_not_intro named), if_neg free]

end SelftestStart

/-- A segment reported good fails only as the health segment with a member's health bad (R65). -/
theorem State.not_segmentFails_of_good {s : State} (good : s.get Fld.NVQ.SELFTEST.SEGMENT ≠ 2 ∨ s.healthBad = false) :
    ¬(false = true ∨ (s.get Fld.NVQ.SELFTEST.SEGMENT = 2 ∧ s.healthBad = true)) := by
  rintro (failed | ⟨health, bad⟩)
  · exact Bool.false_ne_true failed
  · rcases good with other | healthy
    · exact other health
    · simp [healthy] at bad

/-- The host's permission as the vendor commands ask for it (R29, R322). -/
theorem State.vendorOk_of_found {s : State} {id : Nat} {c : Ctrl} (found : s.ctrl? id = some c) :
    s.vendorOk id = bit (s.host c.host).perm 2 := by
  simp only [State.vendorOk, found]

/-- A controller that exists is ready as its CSTS.RDY says (R53). -/
theorem State.ctrlReady_of_found {s : State} {id : Nat} {c : Ctrl} (found : s.ctrl? id = some c) :
    s.ctrlReady id = bit c.csts 0 := by
  simp only [State.ctrlReady, found]

/-- Settles O14: the controller carries the command out; a segment's end falls under one of the three cases of R65 and R67. -/
theorem selfTestAndVendorAccess : Obligations.SelfTestAndVendorAccess := by
  unfold Obligations.SelfTestAndVendorAccess
  intro s id cid c up found ready
  have runs {o : Host.Outcome State Fault Refusal} : (if ¬ s.aon.coreUp then .next s else o) = o := coreGuard_of_coreUp up
  have present : ¬(s.ctrl? id).isNone = true := by simp [found]
  have enabled : ¬¬s.ctrlReady id = true := by simp [State.ctrlReady_of_found found, ready]
  have vendorOk : s.vendorOk id = bit (s.host c.host).perm 2 := State.vendorOk_of_found found
  refine ⟨fun nsid pb named idle alone => ⟨runs.trans ?short, runs.trans ?extended⟩,
    fun nsid pb named busy => ⟨runs.trans ?shortBusy, runs.trans ?extendedBusy⟩, runs.trans ?abort,
    fun stc other => runs.trans ?otherCode, fun short => runs.trans ?failed, fun short health bad => runs.trans ?badHealth,
    fun short last => runs.trans ?last, fun short before good => ⟨Config.freeNat 10 s.freeCtr, runs.trans ?next⟩,
    fun off permitted inMap => runs.trans ?read, fun off v permitted inMap => runs.trans ?write,
    fun off pair barred => runs.trans ?barred⟩
  case short | extended =>
    rw [State.selftestStart_free found ready named idle alone]
    rfl
  case shortBusy | extendedBusy => rw [State.selftestStart_busy found ready named busy]
  case abort => rw [State.admin_of_ready found ready, if_neg (not_not_intro rfl)]
  case otherCode => rw [State.admin_of_ready found ready, if_pos other]
  case failed => rw [if_neg (not_not_intro short), if_pos (Or.inl rfl)]
  case badHealth => rw [if_neg (not_not_intro short), if_pos (Or.inr ⟨health, bad⟩)]
  case last => rw [if_neg (not_not_intro short), if_neg (State.not_segmentFails_of_good (Or.inl (by omega))), if_pos last]
  case next =>
    rw [if_neg (not_not_intro short), if_neg (State.not_segmentFails_of_good good), if_neg (Nat.not_le.2 before)]
    rfl
  case read =>
    rw [if_neg present, if_neg enabled, if_neg (not_not_intro (vendorOk.trans permitted)), if_neg (not_not_intro inMap)]
    rcases s.readAccess .v off with ⟨value, s1⟩
    exact congrArg Host.Outcome.next (if_neg Bool.false_ne_true)
  case write =>
    rw [if_neg present, if_neg enabled, if_neg (not_not_intro (vendorOk.trans permitted)), if_neg (not_not_intro inMap)]
  case barred => rw [if_neg present, if_neg enabled, if_pos (by simp [vendorOk, barred])]

end Sys2Proof.Machine

/-! Acceptance of capsules and the windows of the background shares (R43, R49 to R51, R54, R93). -/

namespace Sys2Proof.Machine
open Sys2Proof

/-- A capsule that waits in an admin queue, with a tag for it or needing none, is taken, and its queue and burst noted (R49 to R51). -/
theorem State.commandAccept_admin {s : State} {q : Queue} {b : Nat} (runs : s.stopped = false) (next : s.nextQueue 0 = some (q, b))
    (served : (s.freeTag true false).isSome = true ∨ q.aerFirst = true) :
    s.commandAccept = (s.modFr fun f => { f with
      wrrLast := f.wrrLast.set 0 q.key, wrrBurst := f.wrrBurst.set 0 (if q.caps.length ≤ 1 then 0 else b) }).acceptFrom q 0 := by
  have serves : ((s.freeTag true false).isSome || q.aerFirst) = true := by simpa using served
  simp only [State.commandAccept, runs, Bool.false_eq_true, if_false, next, serves]

/-- Settles O17: the admin queue is served first, a window's end clears its own account, and what the partner passed on enters. -/
theorem queuesAndShares : Obligations.QueuesAndShares := by
  unfold Obligations.QueuesAndShares
  intro s up
  have runs {o : Host.Outcome State Fault Refusal} : (if ¬ s.aon.coreUp then .next s else o) = o := coreGuard_of_coreUp up
  refine ⟨fun q b fixed going next served => runs.trans ?accept, fun n => runs, runs,
    fun cap blks going io other => runs.trans ?forwarded⟩
  case accept => simp only [State.commandAccept_admin going next served, going, Bool.false_eq_true, if_false]
  case forwarded => rw [if_neg (by simp [going, io, other])]

end Sys2Proof.Machine

/-! Arithmetic of GF(2^8) and of byte strings over it, and the recovery of one or two missing data strips from P and Q (R76, R77). -/

namespace Sys2Proof.Machine
open Sys2Proof

/-! ### The field -/

theorem gdouble_eq (a : Byte) : gdouble a = a <<< 1 ^^^ if a.msb then 0x1D else 0 := by
  unfold gdouble
  cases a.msb <;> simp

/-- Two bits each add `c` where they are set; where both are, `c` is added twice and is gone. -/
theorem ite_bool_xor (p q : Bool) (c : Byte) : (if p ^^ q then c else 0) = (if p then c else 0) ^^^ (if q then c else 0) := by
  cases p <;> cases q <;> simp

theorem gdouble_zero : gdouble 0 = 0 := rfl

theorem gdouble_xor (a b : Byte) : gdouble (a ^^^ b) = gdouble a ^^^ gdouble b := by
  rw [gdouble_eq, gdouble_eq a, gdouble_eq b, BitVec.msb_xor, BitVec.shiftLeft_xor_distrib, ite_bool_xor]
  ac_rfl

theorem gmulBits_xor_right (a b c : Byte) (n : Nat) : gmulBits a (b ^^^ c) n = gmulBits a b n ^^^ gmulBits a c n := by
  induction n generalizing b c with
  | zero => exact (BitVec.xor_self ..).symm
  | succ n ih =>
    rw [gmulBits, gmulBits, gmulBits, BitVec.ushiftRight_xor_distrib, ih, gdouble_xor, BitVec.getLsbD_xor, ite_bool_xor]
    ac_rfl

theorem gmulBits_xor_left (a b c : Byte) (n : Nat) : gmulBits (a ^^^ b) c n = gmulBits a c n ^^^ gmulBits b c n := by
  induction n generalizing c with
  | zero => exact (BitVec.xor_self ..).symm
  | succ n ih =>
    have added : (if c.getLsbD 0 then a ^^^ b else 0) = (if c.getLsbD 0 then a else 0) ^^^ (if c.getLsbD 0 then b else 0) := by
      cases c.getLsbD 0 <;> simp
    rw [gmulBits, gmulBits, gmulBits, ih, gdouble_xor, added]
    ac_rfl

theorem gmulBits_gdouble_left (a b : Byte) (n : Nat) : gmulBits (gdouble a) b n = gdouble (gmulBits a b n) := by
  induction n generalizing b with
  | zero => exact gdouble_zero.symm
  | succ n ih => rw [gmulBits, gmulBits, ih, gdouble_xor, apply_ite gdouble, gdouble_zero]

theorem gmul_xor_right (a b c : Byte) : gmul a (b ^^^ c) = gmul a b ^^^ gmul a c := gmulBits_xor_right a b c 8

theorem gmul_xor_left (a b c : Byte) : gmul (a ^^^ b) c = gmul a c ^^^ gmul b c := gmulBits_xor_left a b c 8

theorem gmul_gdouble_left (a b : Byte) : gmul (gdouble a) b = gdouble (gmul a b) := gmulBits_gdouble_left a b 8

theorem gmul_zero_left : ∀ b : Byte, gmul 0 b = 0 := by decide +kernel

theorem gmul_one_left : ∀ b : Byte, gmul 1 b = b := by decide +kernel

/-- Every field element is made from 0 by multiplying by g and adding 1: 1 · a, computed over the bits of a, does it. -/
theorem gf_induction {P : Byte → Prop} (zero : P 0) (double : ∀ a, P a → P (gdouble a)) (addOne : ∀ a, P a → P (a ^^^ 1))
    (a : Byte) : P a := by
  have horner : ∀ (n : Nat) (b : Byte), P (gmulBits 1 b n) := fun n => by
    induction n with
    | zero => exact fun _ => zero
    | succ n ih =>
      intro b
      rw [gmulBits]
      split
      · exact addOne _ (double _ (ih _))
      · exact BitVec.xor_zero.symm ▸ double _ (ih (b >>> 1))
  exact gmul_one_left a ▸ horner 8 a

theorem gmul_assoc (a b c : Byte) : gmul (gmul a b) c = gmul a (gmul b c) := by
  induction a using gf_induction with
  | zero => simp only [gmul_zero_left]
  | double a ih => simp only [gmul_gdouble_left, ih]
  | addOne a ih => simp only [gmul_xor_left, gmul_one_left, ih]

theorem gmul_ginv_self : ∀ a : Byte, a ≠ 0 → gmul (ginv a) a = 1 := by decide +kernel

theorem gmul_ginv_cancel {a : Byte} (nonzero : a ≠ 0) (b : Byte) : gmul (ginv a) (gmul a b) = b := by
  rw [← gmul_assoc, gmul_ginv_self a nonzero, gmul_one_left]

/-- The coefficients of Q are not zero at any data position (R76). -/
theorem gexp_ne_zero : ∀ x < 30, gexp x ≠ 0 := by decide +kernel

/-- The coefficients of Q differ from position to position (R76). -/
theorem gexp_xor_gexp_ne_zero : ∀ x < 30, ∀ y < 30, x ≠ y → gexp x ^^^ gexp y ≠ 0 := by decide +kernel

/-! ### Byte strings -/

@[simp] theorem xorBytes_nil_left (l : List Byte) : xorBytes [] l = l := by rw [xorBytes]

@[simp] theorem xorBytes_nil_right (l : List Byte) : xorBytes l [] = l := by cases l <;> rfl

@[simp] theorem xorBytes_cons (a b : Byte) (l m : List Byte) : xorBytes (a :: l) (b :: m) = (a ^^^ b) :: xorBytes l m := rfl

theorem xorBytes_assoc (l m n : List Byte) : xorBytes (xorBytes l m) n = xorBytes l (xorBytes m n) := by
  induction l generalizing m n with
  | nil => simp
  | cons a l ih =>
    cases m with
    | nil => simp
    | cons b m =>
      cases n with
      | nil => simp
      | cons c n => simp [ih, BitVec.xor_assoc]

theorem xorBytes_comm (l m : List Byte) : xorBytes l m = xorBytes m l := by
  induction l generalizing m with
  | nil => simp
  | cons a l ih =>
    cases m with
    | nil => simp
    | cons b m => simp [ih, BitVec.xor_comm]

/-- A string added twice is gone, unless it is longer than what it was added to. -/
theorem xorBytes_xorBytes_cancel {l m : List Byte} (fits : m.length ≤ l.length) : xorBytes (xorBytes l m) m = l := by
  induction l generalizing m with
  | nil => simp [List.length_eq_zero_iff.1 (Nat.le_zero.1 fits)]
  | cons a l ih =>
    cases m with
    | nil => simp
    | cons b m =>
      rw [xorBytes_cons, xorBytes_cons, ih (Nat.le_of_succ_le_succ fits), BitVec.xor_assoc, BitVec.xor_self, BitVec.xor_zero]

theorem length_xorBytes (l m : List Byte) : (xorBytes l m).length = max l.length m.length := by
  induction l generalizing m with
  | nil => simp
  | cons a l ih =>
    cases m with
    | nil => simp
    | cons b m => simp [ih]

@[simp] theorem length_scaleBytes (c : Byte) (l : List Byte) : (scaleBytes c l).length = l.length := List.length_map ..

theorem scaleBytes_one (l : List Byte) : scaleBytes 1 l = l :=
  (List.map_congr_left fun a _ => gmul_one_left a).trans (List.map_id' l)

theorem scaleBytes_xorBytes (c : Byte) (l m : List Byte) :
    scaleBytes c (xorBytes l m) = xorBytes (scaleBytes c l) (scaleBytes c m) := by
  induction l generalizing m with
  | nil => simp [scaleBytes]
  | cons a l ih =>
    cases m with
    | nil => simp [scaleBytes]
    | cons b m => simpa [scaleBytes, gmul_xor_right] using ih m

theorem scaleBytes_xor (c d : Byte) (l : List Byte) : scaleBytes (c ^^^ d) l = xorBytes (scaleBytes c l) (scaleBytes d l) := by
  induction l with
  | nil => rfl
  | cons a l ih => simpa [scaleBytes, gmul_xor_left] using ih

theorem scaleBytes_ginv_cancel {c : Byte} (nonzero : c ≠ 0) (l : List Byte) : scaleBytes (ginv c) (scaleBytes c l) = l := by
  have undone : gmul (ginv c) ∘ gmul c = id := funext (gmul_ginv_cancel nonzero)
  rw [scaleBytes, scaleBytes, List.map_map, undone, List.map_id]

/-! ### What P and Q cover -/

theorem length_leBytes (n v : Nat) : (leBytes n v).length = n := by
  induction n generalizing v with
  | zero => rfl
  | succ n ih => simp [leBytes, ih]

theorem length_fitBytes (n : Nat) (l : List Byte) : (fitBytes n l).length = n := by
  rw [fitBytes, List.length_append, List.length_take, List.length_replicate]
  omega

/-- A block's covered bytes are its 4,096 data bytes and 24 metadata bytes (R78). -/
theorem length_coverOf (b : Blk) : (coverOf b).length = 4120 := by
  unfold coverOf
  split
  · exact List.length_replicate
  · split <;> simp only [coverMeta, List.length_append, length_fitBytes, length_leBytes]

/-- The sum begun from `l` is `l` added to the sum. -/
theorem foldl_xorBytes_eq (g : Nat × Blk → List Byte) (ds : List (Nat × Blk)) (l : List Byte) :
    ds.foldl (fun acc e => xorBytes acc (g e)) l = xorBytes l (ds.foldl (fun acc e => xorBytes acc (g e)) []) := by
  induction ds generalizing l with
  | nil => simp
  | cons e ds ih => rw [List.foldl_cons, List.foldl_cons, ih, ih (xorBytes [] (g e)), xorBytes_nil_left, xorBytes_assoc]

/-- A data block adds its covered bytes, scaled, to the sum of the others. -/
theorem sumCover_cons (x : Nat) (b : Blk) (ds : List (Nat × Blk)) (f : Nat → Byte) :
    sumCover ((x, b) :: ds) f = xorBytes (scaleBytes (f x) (coverOf b)) (sumCover ds f) := by
  rw [sumCover, List.foldl_cons, foldl_xorBytes_eq, xorBytes_nil_left, sumCover]

theorem length_sumCover_le (ds : List (Nat × Blk)) (f : Nat → Byte) : (sumCover ds f).length ≤ 4120 := by
  induction ds with
  | nil => exact Nat.zero_le _
  | cons e ds ih =>
    rw [sumCover_cons e.1 e.2, length_xorBytes, length_scaleBytes, length_coverOf]
    exact Nat.max_le.2 ⟨Nat.le_refl _, ih⟩

/-- With the data there is taken out, what is left of a syndrome is the missing block's scaled bytes. -/
theorem xorBytes_sumCover_one (x : Nat) (b : Blk) (ds : List (Nat × Blk)) (f : Nat → Byte) :
    xorBytes (sumCover ((x, b) :: ds) f) (sumCover ds f) = scaleBytes (f x) (coverOf b) := by
  have fits : (sumCover ds f).length ≤ (scaleBytes (f x) (coverOf b)).length := by
    rw [length_scaleBytes, length_coverOf]
    exact length_sumCover_le ds f
  rw [sumCover_cons, xorBytes_xorBytes_cancel fits]

/-- With the data there is taken out, what is left of a syndrome is the two missing blocks' scaled bytes. -/
theorem xorBytes_sumCover_two (x y : Nat) (b c : Blk) (ds : List (Nat × Blk)) (f : Nat → Byte) :
    xorBytes (sumCover ((x, b) :: (y, c) :: ds) f) (sumCover ds f)
      = xorBytes (scaleBytes (f x) (coverOf b)) (scaleBytes (f y) (coverOf c)) := by
  rw [sumCover_cons, xorBytes_assoc, xorBytes_sumCover_one]

/-- Of two missing strips `l` and `m`, the Q sum and the P sum scaled to the place of `m` leave `l` alone (R77). -/
theorem xorBytes_scaled_sum (c d : Byte) {l m : List Byte} (same : m.length = l.length) :
    xorBytes (xorBytes (scaleBytes c l) (scaleBytes d m)) (scaleBytes d (xorBytes l m)) = scaleBytes (c ^^^ d) l := by
  have fits : (scaleBytes d m).length ≤ (scaleBytes c l).length :=
    Nat.le_of_eq (by rw [length_scaleBytes, length_scaleBytes, same])
  rw [scaleBytes_xorBytes, xorBytes_comm (scaleBytes d l), ← xorBytes_assoc, xorBytes_xorBytes_cancel fits, scaleBytes_xor]

/-- One missing block is what is left of P. -/
theorem recover1_one_p (x : Nat) (ds : List (Nat × Blk)) (p : Blk) (q : Option Blk) :
    recover1 x none ds (some p) q = some (xorBytes (coverOf p) (sumCover ds fun _ => 1)) := rfl

/-- Without P one missing block is what is left of Q, with its coefficient undone. -/
theorem recover1_one_q (x : Nat) (ds : List (Nat × Blk)) (q : Blk) :
    recover1 x none ds none (some q) = some (scaleBytes (ginv (gexp x)) (xorBytes (coverOf q) (sumCover ds gexp))) := rfl

/-- Of two missing blocks one is eliminated between what is left of Q and of P. -/
theorem recover1_two (x y : Nat) (ds : List (Nat × Blk)) (p q : Blk) :
    recover1 x (some y) ds (some p) (some q) = some (scaleBytes (ginv (gexp x ^^^ gexp y))
      (xorBytes (xorBytes (coverOf q) (sumCover ds gexp))
        (scaleBytes (gexp y) (xorBytes (coverOf p) (sumCover ds fun _ => 1))))) := rfl

/-- Settles O52: the data that is there cancels out of P and Q, and the coefficient left is not zero. -/
theorem recoveryGivesTheData : Obligations.RecoveryGivesTheData := by
  unfold Obligations.RecoveryGivesTheData
  refine ⟨fun ds x b p q hp => ?fromP, fun ds x b q hx hq => ?fromQ, fun ds x y b c p q hx hy differ hp hq => ?fromBoth⟩
  case fromP => rw [recover1_one_p, hp, xorBytes_sumCover_one, scaleBytes_one]
  case fromQ => rw [recover1_one_q, hq, xorBytes_sumCover_one, scaleBytes_ginv_cancel (gexp_ne_zero x hx)]
  case fromBoth =>
    have same : (coverOf c).length = (coverOf b).length := (length_coverOf c).trans (length_coverOf b).symm
    rw [recover1_two, hp, hq, xorBytes_sumCover_two, xorBytes_sumCover_two, scaleBytes_one, scaleBytes_one,
      xorBytes_scaled_sum _ _ same, scaleBytes_ginv_cancel (gexp_xor_gexp_ne_zero x hx y hy differ)]

end Sys2Proof.Machine

/-! The end of a slot's recompute, and reconstructions for host reads (R87, R89, R91 to R93). -/

namespace Sys2Proof.Machine
open Sys2Proof

/-- A slot that is not being recomputed is left as it is. -/
theorem State.recomputeDone_of_not_recomputing {s : State} {k : Nat} (other : (s.slot k).st ≠ 3) (io : BgIo) :
    s.recomputeDone k io = s := if_pos (Or.inl other)

/-- Settles O19: a recompute's end passes its three tests, the slot's state, the members reached and every block there; a
reconstruction's events are its shared operations. -/
theorem recomputeAndReconstruction : Obligations.RecomputeAndReconstruction := by
  unfold Obligations.RecomputeAndReconstruction
  intro s up
  have runs {o : Host.Outcome State Fault Refusal} : (if ¬ s.aon.coreUp then .next s else o) = o := coreGuard_of_coreUp up
  refine ⟨fun k io l v u recomputing kept reached read => runs.trans ?recomputed, fun k io other => runs.trans ?untouched,
    fun id j _ => ⟨runs, runs⟩⟩
  case recomputed =>
    have goes : ¬((s.slot k).st ≠ 3 ∨ (s.slot k).freeing) := by
      simp only [recomputing, kept, ne_eq, not_true_eq_false, Bool.false_eq_true, or_self, not_false_eq_true]
    have allThere : ((l.map some).any fun b => b.isNone) = false := List.any_eq_false.2 fun b mem => by
      obtain ⟨x, _, rfl⟩ := List.mem_map.1 mem
      exact Bool.false_ne_true
    have blocks : ((l.map some).filterMap fun b => b) = l := List.filterMap_map.trans List.filterMap_some
    simp only [State.recomputeDone, if_neg goes, reached, read, allThere, Bool.false_eq_true, if_false, blocks]
  case untouched => rw [State.recomputeDone_of_not_recomputing other]

end Sys2Proof.Machine

/-! Power events of members in the states that their rows name (R98 to R103, R109, R110, R113, R114, R120). -/

namespace Sys2Proof.Machine
open Sys2Proof

/-- A row whose condition is met is carried out by a running core. -/
theorem rowGuard_of_met {s t : State} {p : Prop} [Decidable p] (up : s.aon.coreUp = true) (met : p) :
    (if ¬ s.aon.coreUp then .next s else .next (if p then t else s) : Host.Outcome State Fault Refusal) = .next t := by
  rw [coreGuard_of_coreUp up, if_pos met]

/-- A row whose condition is not met changes nothing. -/
theorem rowGuard_of_unmet {s t : State} {p : Prop} [Decidable p] (unmet : ¬p) :
    (if ¬ s.aon.coreUp then .next s else .next (if p then t else s) : Host.Outcome State Fault Refusal) = .next s := by
  rw [if_neg unmet, ite_self]

/-- In a slot that the layout maps to a column, the column's own operation is carried out. -/
theorem State.onSlot_of_col {s : State} {n c : Nat} (mapped : s.colOfSlot n = some c) (f : State → Nat → State) :
    s.onSlot n f = f s c := by
  simp only [State.onSlot, mapped]

/-- A wake that ends on the drive recorded for the column, with a good seal, makes its member Idle (R110). -/
theorem State.wakeComplete_of_recorded {s : State} {c : Nat} {d : DriveId} (waking : (s.power c).ps = 6)
    (linked : s.pt (s.slotOfCol c) = ptUp) (named : unnamedCol (s.col c) = false) (recorded : isDrive (s.col c) d = true) (ms : Nat) :
    s.wakeComplete c d true ms = (s.setN Reg.MBR.WAKE_LAST (ms % 65536 + 65536 * s.slotOfCol c)).memberIdle c d := by
  simp only [State.wakeComplete, waking, linked, named, recorded, ne_eq, not_true_eq_false, Bool.false_eq_true, not_false_eq_true,
    or_self, and_false, false_and, if_false]

/-- A host read's member request that has waited its time ends its command with 82h (R101). -/
theorem State.deferExpire_of_host {s : State} {req tag i : Nat} {r : MReq} (limited : s.get Fld.MBR.WAKE_CFG.DEFER_MAX ≠ 0)
    (waits : (s.mb.deferred.find? fun r => r.id == req && s.waits r) = some r) (own : r.own = .host tag i) :
    s.deferExpire req
      = (((s.detach tag).evAt 463 Fld.MBR.PWR_EVENT.DEFER_EXPIRED).mbrShow.reconShow).cmdFail tag 0x82 false := by
  simp only [State.deferExpire, if_neg limited, waits, own]

/-- Settles O20: each event finds its member, port or request in the state that its row names. -/
theorem memberPowerEvents : Obligations.MemberPowerEvents := by
  unfold Obligations.MemberPowerEvents
  intro s up
  have runs {o : Host.Outcome State Fault Refusal} : (if ¬ s.aon.coreUp then .next s else o) = o := coreGuard_of_coreUp up
  refine ⟨fun epochs laid => runs.trans ?epoch,
    fun n c mapped => ⟨fun active quiet => runs.trans ?idle, fun idle room needed => runs.trans ?activate,
      fun waking => runs.trans ?wakeFails, fun d ms waking linked named recorded => runs.trans ?wakes⟩,
    fun n quiescing high => ⟨rowGuard_of_met up ⟨quiescing, high⟩, fun ms => rowGuard_of_met up ⟨quiescing, high⟩⟩,
    fun req tag r i limited waits own => runs.trans ?expires, fun v => runs, fun v => runs,
    fun replayed laid => rowGuard_of_met up ⟨replayed, laid⟩⟩
  case epoch =>
    have changes : ¬(s.get Fld.MBR.DARK_EPOCH.MINUTES = 0 ∨ s.lay.isNone) := by simp [epochs, Option.isSome_iff_ne_none.1 laid]
    rw [if_neg changes]
  case idle => rw [State.onSlot_of_col mapped, State.idleTimeout, if_pos ⟨active, quiet⟩]
  case activate => rw [State.onSlot_of_col mapped, State.activationDone, if_pos ⟨idle, room, needed⟩]
  case wakeFails => rw [State.onSlot_of_col mapped, if_pos waking]
  case wakes => rw [State.onSlot_of_col mapped, State.wakeComplete_of_recorded waking linked named recorded]
  case expires => rw [State.deferExpire_of_host limited waits own]

end Sys2Proof.Machine

/-! The rows of background work behind their gate (R54, R106, R153, R157, R158, R160, R165 to R167). -/

namespace Sys2Proof.Machine
open Sys2Proof

/-- Settles O24: with the gate open each row's own condition is met too; with the gate closed no row's condition is met. -/
theorem backgroundRows : Obligations.BackgroundRows := by
  unfold Obligations.BackgroundRows
  intro s up
  refine ⟨fun gate => ?opened, fun shut => ?closed⟩
  case opened =>
    exact ⟨fun c io => rowGuard_of_met up gate,
      fun c io powered => rowGuard_of_met up ⟨gate, powered⟩,
      fun c io copies powered => rowGuard_of_met up ⟨gate, copies, powered⟩,
      fun io noContext scrubs => rowGuard_of_met up ⟨gate, by simp [noContext], scrubs⟩,
      fun c n io repairable unread => rowGuard_of_met up ⟨gate, repairable, unread⟩⟩
  case closed =>
    have gateShut : ¬s.bgOk = true := by simp [shut]
    have unmet {q : Prop} : ¬(s.bgOk = true ∧ q) := fun met => gateShut met.1
    exact ⟨fun c io => rowGuard_of_unmet gateShut, fun c io => rowGuard_of_unmet unmet, fun c io => rowGuard_of_unmet unmet,
      fun io => rowGuard_of_unmet unmet, fun c n io => rowGuard_of_unmet unmet⟩

end Sys2Proof.Machine

/-! The frame of the commands of slots, feeds, TOCSIN and windows: what it leaves out, and what of it holds (R54, R93, R109, R166, R218,
R270, R272, R274, R277, R284, R287, R294, R298, R300, R301, R303, R306, R337, R338, R355). -/

namespace Sys2Proof.Machine
open Sys2Proof

/-! ### The clock at a rise of PPS_OUT -/

/-- A running core with PPS_OUT enabled, a nanosecond after a second boundary of PTP time (R218). -/
def pastSecond : State :=
  ((State.reset.modAon fun a => { a with coreUp := true }).on Fld.PTP.PPS.OUT_EN).wr64 Reg.PTP.TIME_LO 1

/-- An event that is due later advances the clock. -/
theorem State.now_advTo_gt {s : State} {t : Nat} (later : s.ptpTime < t) : s.now < (s.advTo t).now := by
  rw [State.advTo, if_pos later]
  exact Nat.lt_add_of_pos_right (Nat.sub_pos_of_lt later)

/-- Between two second boundaries the enabled PPS_OUT rises at the next one, so the clock advances (R218). -/
theorem exec_ppsOutRise_now_gt {s : State} (up : s.aon.coreUp = true) (enabled : s.flag Fld.PTP.PPS.OUT_EN = true)
    (between : s.ptpTime % 10 ^ 9 ≠ 0) : ∃ t, exec .ppsOutRise s = .next t ∧ s.now < t.now := by
  have later : s.ptpTime < s.ptpTime + (10 ^ 9 - s.ptpTime % 10 ^ 9) :=
    Nat.lt_add_of_pos_right (Nat.sub_pos_of_lt (Nat.mod_lt _ (by decide)))
  refine ⟨(s.advTo (s.ptpTime + (10 ^ 9 - s.ptpTime % 10 ^ 9))).modAon fun a => { a with ppsOut := true },
    (coreGuard_of_coreUp up).trans ?_, State.now_advTo_gt later⟩
  simp only [if_pos enabled, if_neg between]

/-- Refutes O59: a nanosecond past a second boundary PPS_OUT_RISE advances the clock to the next, and the frame holds the clock still. -/
theorem not_frameOfShelfCommands : ¬ Obligations.FrameOfShelfCommands := by
  unfold Obligations.FrameOfShelfCommands
  intro frame
  obtain ⟨s, up, enabled, between⟩ :
      ∃ s : State, s.aon.coreUp = true ∧ s.flag Fld.PTP.PPS.OUT_EN = true ∧ s.ptpTime % 10 ^ 9 ≠ 0 :=
    ⟨pastSecond, rfl, by decide +kernel, by decide +kernel⟩
  obtain ⟨t, rises, advanced⟩ := exec_ppsOutRise_now_gt up enabled between
  have still := congrArg State.now (frame .ppsOutRise s t rfl rises)
  exact Nat.ne_of_gt advanced still

/-! ### What of the frame holds -/

/-- From `s` to `t` nothing but the register file, the always-on domain and the members' state changed. -/
def ShelfOnly (s t : State) : Prop := ∃ r a m, t = { s with regs := r, aon := a, mb := m }

theorem ShelfOnly.refl (s : State) : ShelfOnly s s := ⟨s.regs, s.aon, s.mb, rfl⟩

section ShelfOnly
variable {o s : State} (h : ShelfOnly o s)
include h

theorem ShelfOnly.registers {t : State} (g : RegistersOnly s t) : ShelfOnly o t := by
  obtain ⟨r, a, m, rfl⟩ := h
  obtain ⟨q, rfl⟩ := g
  exact ⟨q, a, m, rfl⟩

theorem ShelfOnly.modAon (f : Aon → Aon) : ShelfOnly o (s.modAon f) := by
  obtain ⟨r, a, m, rfl⟩ := h
  exact ⟨r, f a, m, rfl⟩

theorem ShelfOnly.modMb (f : Members → Members) : ShelfOnly o (s.modMb f) := by
  obtain ⟨r, a, m, rfl⟩ := h
  exact ⟨r, a, f m, rfl⟩

theorem ShelfOnly.modPort (n : Nat) (f : Port → Port) : ShelfOnly o (s.modPort n f) := h.modMb _

theorem ShelfOnly.modChan (n : Nat) (f : Chan → Chan) : ShelfOnly o (s.modChan n f) := h.modMb _

theorem ShelfOnly.setN (a v : Nat) : ShelfOnly o (s.setN a v) := h.registers ((RegistersOnly.refl s).setN a v)

theorem ShelfOnly.put (f : FieldAt) (v : Nat) : ShelfOnly o (s.put f v) := h.registers ((RegistersOnly.refl s).put f v)

theorem ShelfOnly.on (f : FieldAt) : ShelfOnly o (s.on f) := h.put _ _

theorem ShelfOnly.off (f : FieldAt) : ShelfOnly o (s.off f) := h.put _ _

theorem ShelfOnly.wr64 (a v : Nat) : ShelfOnly o (s.wr64 a v) := (h.setN _ _).setN _ _

theorem ShelfOnly.putBit64 (a n : Nat) (b : Bool) : ShelfOnly o (s.putBit64 a n b) := h.wr64 _ _

theorem ShelfOnly.ite {t : State} {p : Prop} [Decidable p] (g : ShelfOnly o t) : ShelfOnly o (if p then s else t) :=
  iteInduction (fun _ => h) fun _ => g

theorem ShelfOnly.setCh (n st : Nat) : ShelfOnly o (s.setCh n st) := by
  unfold State.setCh
  exact (((((h.put _ _).put _ _).put _ _).put _ _).putBit64 _ _ _).modAon _

theorem ShelfOnly.enqueueCh (n : Nat) : ShelfOnly o (s.enqueueCh n) := (((h.modMb _).modChan _ _).setCh _ _).off _

theorem ShelfOnly.queueDemands (n : Nat) : ShelfOnly o (s.queueDemands n) := by
  induction n with
  | zero => exact h
  | succ n ih => exact (ih.enqueueCh n).ite ih

theorem ShelfOnly.stopEnds (bits : List Nat) : ShelfOnly o (s.stopEnds bits) := by
  have ended := h.modMb fun m => { m with stopWhy := bits.foldl clrBit m.stopWhy }
  exact .ite (((ended.off _).modAon _).queueDemands 48) ended

theorem ShelfOnly.tagsShow (n : Nat) : ShelfOnly o (s.tagsShow n) := (h.put _ _).put _ _

theorem ShelfOnly.portPg (n : Nat) : ShelfOnly o (s.portPg n) := (h.put _ _).ite h

theorem ShelfOnly.scrubStop : ShelfOnly o s.scrubStop := by
  have stopped := h.modMb fun m => { m with scrubOn := false }
  exact (ShelfOnly.ite (stopped.put _ _) stopped).wr64 _ _ |>.setN _ _

/-- A port's call for power is latched, queued, or passed on to a channel that is powered already (R272, R286, R294, R301). -/
theorem ShelfOnly.slotDemand (n : Nat) : ShelfOnly o (s.slotDemand n) := by
  have demanded := h.modChan n fun c => { c with demand := true }
  have powering := (demanded.put (Fld.DRP_P.STATUS.STATE n) ptPowering).off (Fld.DRP_P.STATUS.PENDING n)
  exact .ite h (.ite (h.on _) (.ite h (.ite ((demanded.on _).on _) (.ite (powering.enqueueCh n) (.ite (powering.portPg n) powering)))))

/-- A channel whose minimum off time has passed is Off, or Queued where its demand counts (R301). -/
theorem ShelfOnly.minOffEnd (n : Nat) : ShelfOnly o (s.minOffEnd n) := by
  have off := ((h.setCh n chOff).off (Fld.SLP_C.STATUS.PENDING n)).off (Fld.DRP_P.STATUS.PENDING n)
  have called (p : Prop) [Decidable p] := ShelfOnly.ite (p := p) (off.put (Fld.DRP_P.STATUS.STATE n) ptPowering) off
  exact .ite ((called _).enqueueCh n) (called _)

end ShelfOnly

/-- A command of Instr.shelfOnly, but for PPS_OUT_RISE, changes registers, the always-on domain and the members' state alone. -/
theorem exec_shelfOnly (c : Instr) (s : State) (hc : c.shelfOnly = true) (other : c ≠ .ppsOutRise) :
    NextHas (ShelfOnly s) (exec c s) := by
  have same := ShelfOnly.refl s
  cases c
  case ppsOutRise => exact absurd rfl other
  case alwaysOnRelease => exact same.ite ((same.modAon _).setN _ _)
  case feedDeadTimeExpiry => exact .ite same (.ite (same.modAon _) same)
  case feedUvMaskEnd => exact .ite same (.ite same (same.modMb _))
  case feedRevert => exact .ite same (.ite (((same.on _).modMb _).modAon _) same)
  case ppsOutFall => exact .ite same (same.modAon _)
  case tocsinAliveEdge =>
    exact .ite same (.ite (.ite (.ite (((same.off _).off _).modAon _) (same.off _)) (same.on _)) same)
  case tocsinPulseEnd => exact .ite same (.ite ((same.off _).put _ _) same)
  case tocsinRestart => exact .ite same (((same.on _).modAon _).ite same)
  case perstRelease => exact .ite same (((same.put _ _).modAon _).ite same)
  case shutdownComplete => exact .ite same (.ite (same.setCh _ _) same)
  case slotClear => exact .ite same (((same.setCh _ _).put _ _).ite same)
  case shelfResume => exact .ite same (same.stopEnds _)
  case backoffExpiry => exact .ite same (.ite ((same.enqueueCh _).put _ _) same)
  case minOffExpiry => exact .ite same (.ite (same.minOffEnd _) same)
  case slotDemand => exact .ite same (same.slotDemand _)
  case miSuspendEnd | berylShareWindowEnd => exact .ite same (same.modMb _)
  case backgroundWindowEnd => exact .ite same (same.modPort _ _)
  case scrubStop => exact .ite same (same.scrubStop.put _ _)
  case tagQuarantineEnd =>
    refine .ite same (?ended : ShelfOnly s _)
    split
    · exact ((same.modPort _ _).tagsShow _).ite same
    · exact same
  case memberCfgDone n result data =>
    have shown := (same.off (Fld.DRP_P.CFG_STATUS.BUSY n)).put (Fld.DRP_P.CFG_STATUS.RESULT n) result
    exact .ite same (ShelfOnly.ite ((ShelfOnly.ite (shown.put _ _) shown).modPort _ _) same)
  case memberInboundWrite =>
    refine .ite same (?taken : ShelfOnly s _)
    split
    · exact (same.put _ _).ite ((same.modPort _ _).ite same)
    · exact same
  all_goals exact absurd hc Bool.false_ne_true

/-- From `s` to `advTo` nothing but the clock and the register file changed. -/
theorem State.advTo_shelfOnly (s : State) (t : Nat) : ShelfOnly { s with now := (s.advTo t).now } (s.advTo t) := by
  unfold State.advTo
  split
  · exact ⟨_, s.aon, s.mb, rfl⟩
  · exact .refl s

/-- PPS_OUT_RISE advances the clock besides (R218). -/
theorem exec_ppsOutRise_frame (s : State) :
    NextHas (fun t => ShelfOnly { s with now := t.now } t) (exec .ppsOutRise s) := by
  have same := ShelfOnly.refl s
  refine .ite same (.ite ?rises same)
  case rises =>
    show ShelfOnly _ _
    split
    · exact same.modAon _
    · exact (s.advTo_shelfOnly _).modAon _

/-- What the commands of Instr.shelfOnly leave unchanged: the clock too, but for PPS_OUT_RISE. -/
theorem shelfCommands_frame {c : Instr} {s t : State} (hc : c.shelfOnly = true) (h : exec c s = .next t) :
    t = { s with regs := t.regs, now := t.now, aon := t.aon, mb := t.mb } ∧ (c ≠ .ppsOutRise → t.now = s.now) := by
  by_cases other : c = .ppsOutRise
  · subst other
    have changed := exec_ppsOutRise_frame s
    rw [h] at changed
    obtain ⟨r, a, m, eq⟩ := changed
    exact ⟨eq.trans (by rw [eq]), fun ne => absurd rfl ne⟩
  · have changed := exec_shelfOnly c s hc other
    rw [h] at changed
    obtain ⟨r, a, m, rfl⟩ := changed
    exact ⟨rfl, fun _ => rfl⟩

end Sys2Proof.Machine

/-! What the commands of the switch, of records, of counters and of connections leave unchanged (R131, R174, R184, R186, R187, R189,
R190, R193, R201, R206, R212, R219, R229, R231, R340 to R346, R349). -/

namespace Sys2Proof.Machine
open Sys2Proof

/-- From `s` to `t` nothing changed but the register file and what `rest` takes out of a state. -/
def SameRest (rest : State → State) (s t : State) : Prop := rest { t with regs := [] } = rest { s with regs := [] }

theorem SameRest.refl (rest : State → State) (s : State) : SameRest rest s s := rfl

section SameRest
variable {rest : State → State} {o s t : State} (h : SameRest rest o s)
include h

theorem SameRest.trans (g : SameRest rest s t) : SameRest rest o t := Eq.trans g h

theorem SameRest.restored (f : State → State) : f (rest { s with regs := [] }) = f (rest { o with regs := [] }) := congrArg f h

theorem SameRest.ite {p : Prop} [Decidable p] (g : SameRest rest o t) : SameRest rest o (if p then s else t) :=
  iteInduction (fun _ => h) fun _ => g

theorem SameRest.foldl {α : Type} {f : State → α → State} (hf : ∀ s x, SameRest rest o s → SameRest rest o (f s x)) (l : List α) :
    SameRest rest o (l.foldl f s) :=
  List.foldlRecOn l f h fun s g x _ => hf s x g

theorem SameRest.registers (g : RegistersOnly s t) : SameRest rest o t := by
  obtain ⟨r, rfl⟩ := g
  exact h

theorem SameRest.setN (a v : Nat) : SameRest rest o (s.setN a v) := h.registers ((RegistersOnly.refl s).setN a v)

theorem SameRest.put (f : FieldAt) (v : Nat) : SameRest rest o (s.put f v) := h.registers ((RegistersOnly.refl s).put f v)

theorem SameRest.on (f : FieldAt) : SameRest rest o (s.on f) := h.put _ _

theorem SameRest.off (f : FieldAt) : SameRest rest o (s.off f) := h.put _ _

theorem SameRest.satInc (f : FieldAt) (n : Nat) : SameRest rest o (s.satInc f n) := h.put _ _

theorem SameRest.wr64 (a v : Nat) : SameRest rest o (s.wr64 a v) := (h.setN _ _).setN _ _

end SameRest

/-- A command of a running core leaves what its meaning leaves, and in a core in reset it leaves everything. -/
theorem NextHas.guard {P : State → Prop} {s t : State} (same : P s) (h : P t) :
    NextHas P (if ¬ s.aon.coreUp then .next s else .next t) :=
  .ite same h

/-! ### The switch and Tabor -/

/-- A state without the tables of the switch and of Tabor. -/
def withoutSwitch (s : State) : State := { s with sw := State.reset.sw, tg := State.reset.tg }

section Switch
variable {o s : State} (h : SameRest withoutSwitch o s)
include h

theorem SameRest.modSw (f : Switch → Switch) : SameRest withoutSwitch o (s.modSw f) := h

theorem SameRest.modTg (f : Tabor → Tabor) : SameRest withoutSwitch o (s.modTg f) := h

theorem SameRest.setNeigh (i : Nat) (e : Neigh) : SameRest withoutSwitch o (s.setNeigh i e) := (h.modSw _).put _ _

theorem SameRest.setCredit (p t : Nat) (c : Int) : SameRest withoutSwitch o (s.setCredit p t c) := (h.modTg _).setN _ _

theorem SameRest.tblInstall (t i : Nat) : SameRest withoutSwitch o (s.tblInstall t i) := by
  unfold State.tblInstall
  dsimp only
  split
  · exact (h.modSw _).setNeigh _ _
  · exact h.modSw _
  · exact h.modSw _

theorem SameRest.genInc : SameRest withoutSwitch o s.genInc := by
  have advanced := h.setN Reg.SWC.GEN ((s.regN Reg.SWC.GEN + 1) % 2 ^ 32)
  unfold State.genInc State.drainUpdate
  dsimp only
  split
  · exact (advanced.put _ _).on _
  · exact (advanced.put _ _).put _ _

/-- A commit is refused, stages an address, or installs an entry (R206, R212). -/
theorem SameRest.tblCommit : SameRest withoutSwitch o s.tblCommit :=
  .ite (h.put _ _) (.ite ((h.modSw _).put _ _) (.ite (h.put _ _) ((h.tblInstall _ _).put _ _).genInc))

theorem SameRest.policeTick (p t : Nat) : SameRest withoutSwitch o (s.policeTick p t) := .ite (h.modTg _) h

theorem SameRest.shapeTick (p t : Nat) : SameRest withoutSwitch o (s.shapeTick p t) := .ite (h.setCredit _ _ _) (h.setCredit _ _ _)

end Switch

/-- A command of Instr.switchOnly changes registers and the tables of the switch and of Tabor alone. -/
theorem exec_switchOnly (c : Instr) (s : State) (hc : c.switchOnly = true) : NextHas (SameRest withoutSwitch s) (exec c s) := by
  have same := SameRest.refl withoutSwitch s
  cases c
  case neighAgeOut => exact .guard same (.ite (same.setNeigh _ _) same)
  case policerRefill => exact .guard same (same.foldl (fun _ _ h => h.policeTick _ _) _)
  case shaperRefill => exact .guard same (same.foldl (fun _ _ h => h.shapeTick _ _) _)
  case ptpSetGo => exact .guard same (.ite same (same.modTg _))
  case pfcPauseExpiry | pfcStormEnd => exact .guard same (same.modSw _)
  case pfcFrameReceive =>
    exact .guard same (.ite same (same.foldl (fun _ _ h => .ite h (.ite (h.modSw _) (h.modSw _))) _))
  case tblCommitAddress | tblCommitEntry => exact .guard same (same.tblCommit.ite same)
  all_goals exact absurd hc Bool.false_ne_true

/-! ### Records and the checkpoint's start -/

/-- A state without the events, the journal, what Garnet holds, the count of free values taken and what has left the part. -/
def withoutRecords (s : State) : State :=
  { s with ev := State.reset.ev, jn := State.reset.jn, nv := State.reset.nv, freeCtr := 0, emitted := [] }

section Records
variable {o s : State} (h : SameRest withoutRecords o s)
include h

theorem SameRest.modEv (f : Events → Events) : SameRest withoutRecords o (s.modEv f) := h

theorem SameRest.modNv (f : Nv → Nv) : SameRest withoutRecords o (s.modNv f) := h

theorem SameRest.modJn (f : Journal → Journal) : SameRest withoutRecords o (s.modJn f) := h

theorem SameRest.fresh (k : Nat) : SameRest withoutRecords o (s.fresh k).2 := h

theorem SameRest.freshBytes (k : Nat) : SameRest withoutRecords o (s.freshBytes k).2 := h

theorem SameRest.unfreeze : SameRest withoutRecords o s.unfreeze := .ite ((h.off _).off _) (((h.off _).off _).modEv _)

theorem SameRest.carillon (r : CarRec) : SameRest withoutRecords o (s.carillon r) :=
  .ite ((h.modEv _).put _ _) ((h.modEv _).satInc _ _)

theorem SameRest.carPut (r : CarRec) : SameRest withoutRecords o (s.carPut r) := (h.modNv _).setN _ _

theorem SameRest.carClear (path : Nat) : SameRest withoutRecords o (s.carClear path) := ((h.modNv _).setN _ _).carPut _

theorem SameRest.carWrite (r : CarRec) : SameRest withoutRecords o (s.carWrite r) :=
  .ite (((h.fresh 1).carClear _).carPut r) (h.carPut r)

/-- The next record of Carillon is a LOST record, none, or the head of the holding queue (R342, R343). -/
theorem SameRest.carNext : SameRest withoutRecords o s.carNext := by
  refine .ite ((h.modEv _).carWrite _) ?queued
  split
  · exact h
  · have written (f : Events → Events) (r : CarRec) := (h.modEv f).carWrite r
    exact (SameRest.ite (written _ _) ((written _ _).modEv _)).put _ _

theorem SameRest.putRdata (l : List Byte) : SameRest withoutRecords o (s.putRdata l) := h.foldl (fun _ _ g => g.setN _ _) _

/-- EVR.RDATA shows the slot's record, or what a slot never written reads (R345). -/
theorem SameRest.recordLatch (slot : Nat) : SameRest withoutRecords o (s.recordLatch slot) := by
  unfold State.recordLatch
  dsimp only
  split
  · exact (h.setN _ _).putRdata _
  · exact (((h.setN _ _).freshBytes 2).fresh 2).putRdata _

/-- A write of EVR.CTRL freezes, or releases what is held (R343). -/
theorem SameRest.freezeWrite (v : Nat) : SameRest withoutRecords o (s.freezeWrite v) := by
  have timed := h.ite (p := bits v 8 8 = 0) (h.put Fld.EVR.CTRL.FREEZE_S (bits v 8 8))
  exact .ite ((timed.on _).on _) (.ite timed.unfreeze timed)

theorem SameRest.ckptStart : SameRest withoutRecords o s.ckptStart := .ite h (.ite (h.modJn _) ((h.modJn _).on _))

end Records

/-- A command of Instr.recordsOnly changes registers, the events, the journal, Garnet, the count of free values and what has left
the part alone. -/
theorem exec_recordsOnly (c : Instr) (s : State) (hc : c.recordsOnly = true) : NextHas (SameRest withoutRecords s) (exec c s) := by
  have same := SameRest.refl withoutRecords s
  cases c
  case freezeExpiry => exact .ite same (.ite same.unfreeze same)
  case evrFreezeWrite => exact .guard same (same.freezeWrite _)
  case userRecord => exact .guard same (same.carillon _)
  case carillonClear => exact .guard same (same.carClear _)
  case recordLatch => exact .guard same (same.recordLatch _)
  case carillonRecordWrite lineBad =>
    cases lineBad
    case true => exact absurd hc Bool.false_ne_true
    case false =>
      refine .ite same (.ite ?written same)
      simp only [Bool.false_eq_true, false_and, if_false]
      exact same.carNext
  case checkpointStart => exact .ite same same.ckptStart
  all_goals exact absurd hc Bool.false_ne_true

/-! ### Counters -/

/-- A state without the counters. -/
def withoutCounters (s : State) : State := { s with pmc := State.reset.pmc }

theorem SameRest.ctrClear {o s : State} (h : SameRest withoutCounters o s) (i : Nat) : SameRest withoutCounters o (s.ctrClear i) :=
  SameRest.setN (s := s.setCtr i _) h _ _

/-- A clear of counters changes the counters and their overflow bits alone. -/
theorem exec_countersOnly (c : Instr) (s : State) (hc : c.countersOnly = true) :
    NextHas (SameRest withoutCounters s) (exec c s) := by
  have same := SameRest.refl withoutCounters s
  cases c
  case counterClearSel => exact .guard same (same.ctrClear _)
  case counterClearAll => exact .guard same (same.foldl (fun _ _ h => h.ctrClear _) _)
  all_goals exact absurd hc Bool.false_ne_true

/-! ### Connections -/

/-- A state without the fabric's tables and what has left the part. -/
def withoutConnections (s : State) : State := { s with fab := State.reset.fab, emitted := [] }

section Connections
variable {o s : State} (h : SameRest withoutConnections o s)
include h

theorem SameRest.modFab (f : Fabric → Fabric) : SameRest withoutConnections o (s.modFab f) := h

theorem SameRest.emit (e : Emit) : SameRest withoutConnections o (s.emit e) := h

theorem SameRest.qpcShow : SameRest withoutConnections o s.qpcShow :=
  ((((((h.put _ _).put _ _).put _ _).put _ _).put _ _).put _ _).put _ _

theorem SameRest.setConn (k : Nat) (c : Conn) : SameRest withoutConnections o (s.setConn k c) := (h.modFab _).qpcShow

theorem SameRest.modConn (k : Nat) (f : Conn → Conn) : SameRest withoutConnections o (s.modConn k f) := by
  unfold State.modConn
  split
  · exact h.setConn _ _
  · exact h

theorem SameRest.evict : SameRest withoutConnections o s.evict := by
  refine .ite h ?full
  dsimp only
  split
  · exact h.modConn _ _
  · exact h

theorem SameRest.ackNow (k : Nat) : SameRest withoutConnections o (s.ackNow k) := by
  unfold State.ackNow
  split
  · exact .ite h ((h.setConn _ _).emit _)
  · exact h

end Connections

/-- A command of Instr.connectionsOnly changes registers, the fabric's tables and what has left the part alone. -/
theorem exec_connectionsOnly (c : Instr) (s : State) (hc : c.connectionsOnly = true) :
    NextHas (SameRest withoutConnections s) (exec c s) := by
  have same := SameRest.refl withoutConnections s
  cases c
  case responderResourceTimeout => exact .guard same (same.modConn _ _)
  case ccRateIncrease => exact .guard same ((same.modConn _ _).ite same)
  all_goals exact absurd hc Bool.false_ne_true

/-! ### Connections that may fetch a context -/

/-- A state without the counters and what a counter's event reaches. -/
def withoutEvents (s : State) : State :=
  { s with pmc := State.reset.pmc, ev := State.reset.ev, ep := State.reset.ep, aon := State.reset.aon }

/-- A state without what connections that fetch a context change. -/
def withoutFetch (s : State) : State := withoutEvents (withoutConnections s)

section Fetch
variable {o s : State}

theorem SameRest.fetches (h : SameRest withoutConnections o s) : SameRest withoutFetch o s := congrArg withoutEvents h

variable (h : SameRest withoutFetch o s)
include h

theorem SameRest.sends (e : Emit) : SameRest withoutFetch o (s.emit e) := h

theorem SameRest.events (f : Events → Events) : SameRest withoutFetch o (s.modEv f) := h

theorem SameRest.endpoint (f : Endpoint → Endpoint) : SameRest withoutFetch o (s.modEp f) := h

theorem SameRest.modAon (f : Aon → Aon) : SameRest withoutFetch o (s.modAon f) := h

theorem SameRest.setCtr (i : Nat) (c : Ctr) : SameRest withoutFetch o (s.setCtr i c) := h

theorem SameRest.sendVector (v : Nat) : SameRest withoutFetch o (s.sendVector v) := by
  have pended := h.endpoint fun e => { e with pba := addNew e.pba v, pmeStatus := true }
  exact .ite h (.ite (h.endpoint _) (.ite (h.sends _)
    (.ite pended (.ite ((pended.sends _).on _) (((pended.modAon _).sends _).on _)))))

theorem SameRest.record (code src p0 p1 p2 : Nat) (fault first : Bool) :
    SameRest withoutFetch o (s.record code src p0 p1 p2 fault first) :=
  .ite ((h.events _).put _ _) ((h.events _).satInc _ _)

theorem SameRest.capture (n : Nat) : SameRest withoutFetch o (s.capture n).2 := by
  unfold State.capture
  split
  · exact h.setN _ _
  split
  · exact .ite ((h.satInc _ _).put _ _) (h.satInc _ _)
  · exact (((((h.put _ _).put _ _).put _ _).put _ _).on _).wr64 _ _

theorem SameRest.tocsinFault : SameRest withoutFetch o s.tocsinFault := by
  have risen := h.modAon fun a => { a with tocsinFault := true }
  unfold State.tocsinFault
  dsimp only
  split
  · exact .ite risen (.ite (risen.modAon _) (risen.off _))
  · exact .ite risen ((risen.on _).off _)
  · exact risen

/-- A rise sets the pending bit, is captured, stops TOCSIN, and goes where its source is routed (R326 to R328, R336). -/
theorem SameRest.latch1 (n p2 : Nat) : SameRest withoutFetch o (s.latch1 n p2) := by
  have pending := h.setN (Reg.EVC.PEND (n / 32)) (setBit (s.regN (Reg.EVC.PEND (n / 32))) (n % 32))
  unfold State.latch1
  extract_lets cfg cls was v due s1
  have captured : SameRest withoutFetch o (if 0 < cls then s1.capture n else (false, s1)).2 := by
    rw [apply_ite Prod.snd]
    exact (SameRest.capture pending n).ite pending
  generalize (if 0 < cls then s1.capture n else (false, s1)) = taken at captured ⊢
  obtain ⟨first, s2⟩ := taken
  have faulted := captured.tocsinFault.ite (p := (decide (0 < cls) && bit cfg 28) = true) captured
  have sent := (faulted.sendVector v).ite (p := (bit cfg 31 && !due) = true) faulted
  have told := (sent.sends (.firmware n)).ite (p := bit cfg 29 = true) sent
  exact .ite faulted (.ite told (.ite (told.record _ _ _ _ _ _ _) (told.record _ _ _ _ _ _ _)))

theorem SameRest.latch (n p2 : Nat) : SameRest withoutFetch o (s.latch n p2) := .ite ((h.latch1 _ _).latch1 _ _) (h.latch1 _ _)

theorem SameRest.evLatch (f : FieldAt) (n p2 : Nat) : SameRest withoutFetch o (s.evLatch f n p2) := .ite (h.on _) ((h.on _).latch _ _)

theorem SameRest.countOn (e : PmcEv) (i : Nat) : SameRest withoutFetch o (s.countOn e i) :=
  .ite (.ite (h.setCtr _ _) (((h.setCtr _ _).setN _ _).evLatch _ _ _)) h

theorem SameRest.count (e : PmcEv) : SameRest withoutFetch o (s.count e) := .ite (h.foldl (fun _ _ g => g.countOn _ _) _) h

theorem SameRest.fetch (k : Nat) : SameRest withoutFetch o (s.fetch k) := by
  unfold State.fetch
  split
  · exact .ite h (((h.trans ((SameRest.refl _ s).evict.modConn _ _).fetches).wr64 _ _).count _)
  · exact h

theorem SameRest.fetchNext : SameRest withoutFetch o s.fetchNext := by
  unfold State.fetchNext
  split
  · exact h.fetch _
  · exact h

end Fetch

section
variable {o s : State} (h : SameRest withoutConnections o s)
include h

/-- An acknowledgement goes out, or waits for its context, which may be fetched (R184, R189). -/
theorem SameRest.sendOrWait_ack (k : Nat) : SameRest withoutFetch o (s.sendOrWait k .ack) := by
  unfold State.sendOrWait
  split
  · exact h.fetches
  · exact .ite h.fetches (.ite ((h.setConn _ _).fetches.fetch _) (h.ackNow _).fetches)

/-- The context of a connection that closes is released, and another may be fetched (R187, R191). -/
theorem SameRest.connClose (k : Nat) : SameRest withoutFetch o (s.connClose k) := by
  unfold State.connClose
  split
  · exact ((h.emit _).modFab _).qpcShow.fetches.fetchNext
  · exact h.fetches

end

/-- A command of Instr.connectionsFetch changes what a connection and a fetch of its context change alone. -/
theorem exec_connectionsFetch (c : Instr) (s : State) (hc : c.connectionsFetch = true) :
    NextHas (SameRest withoutFetch s) (exec c s) := by
  have same := SameRest.refl withoutConnections s
  cases c
  case ackCoalesceExpiry k =>
    refine .guard same.fetches ?_
    split
    · exact .ite same.fetches (same.sendOrWait_ack k)
    · exact same.fetches
  case setupTimeout k =>
    refine .guard same.fetches ?_
    split
    · exact .ite (same.connClose k) same.fetches
    · exact same.fetches
  all_goals exact absurd hc Bool.false_ne_true

/-- Settles O60: what each group's `rest` leaves is the same before and after, and the parts taken out are those of the next state. -/
theorem frameOfSwitchRecordAndCounterCommands : Obligations.FrameOfSwitchRecordAndCounterCommands := by
  unfold Obligations.FrameOfSwitchRecordAndCounterCommands
  intro c s t h
  have next {P : State → Prop} (has : NextHas P (exec c s)) : P t := by rwa [h] at has
  refine ⟨fun hc => ?switch, fun hc => ?records, fun hc => ?counters, fun hc => ?connections, fun hc => ?fetch⟩
  case switch => exact (next (exec_switchOnly c s hc)).restored fun u => { u with regs := t.regs, sw := t.sw, tg := t.tg }
  case records =>
    exact (next (exec_recordsOnly c s hc)).restored fun u => { u with
      regs := t.regs, ev := t.ev, jn := t.jn, nv := t.nv, freeCtr := t.freeCtr, emitted := t.emitted }
  case counters => exact (next (exec_countersOnly c s hc)).restored fun u => { u with regs := t.regs, pmc := t.pmc }
  case connections =>
    exact (next (exec_connectionsOnly c s hc)).restored fun u => { u with regs := t.regs, fab := t.fab, emitted := t.emitted }
  case fetch =>
    exact (next (exec_connectionsFetch c s hc)).restored fun u => { u with
      regs := t.regs, fab := t.fab, emitted := t.emitted, pmc := t.pmc, ev := t.ev, ep := t.ep, aon := t.aon }

end Sys2Proof.Machine

/-! The power-fail sequence: PFAIL_N, the hold and the end of the dump (R127, R129, R333, R406; log entries 116, 117, 148 and 171). -/

namespace Sys2Proof.Machine
open Sys2Proof

/-- The dump of `u` as its header holds it, taken in `us` microseconds (R127 step 7). -/
def State.dumpOf (u : State) (us : Nat) : Dump :=
  ⟨u.rd64 Reg.GNT.JSEQ_LO, u.nv.mirApplied, u.nv.mirReleased, u.slots, u.slots.map fun e => (e.1, slotCrc e.2), us % 65536⟩

/-- The end of a dump that no earlier one keeps waiting: its lines wear, those that failed are retired, and it is stored (R116, R127). -/
theorem State.dumpDone_stores {s u : State} {bad : List Nat} (free : s.flag Fld.GNT.STATUS.DUMP_PENDING = false)
    (hu : u = ((List.range 256).foldl (fun s k => s.wearAdd (512 + k) 16 2) s).linesRetire bad) (us : Nat) :
    s.dumpDone us bad =
      if u.aon.pfail then (u.modNv fun v => { v with dump := some (u.dumpOf us) }).coreReset 2
      else (u.modNv fun v => { v with dump := some (u.dumpOf us) }).powerHold := by
  subst hu
  simp only [State.dumpDone, free, Bool.false_eq_true, if_false]
  rfl

/-- The end of a dump while an unconsumed one waits stores nothing (R129). -/
theorem State.dumpDone_pending {s : State} (waits : s.flag Fld.GNT.STATUS.DUMP_PENDING = true) (us : Nat) (bad : List Nat) :
    s.dumpDone us bad = if s.aon.pfail then s.coreReset 2 else s.powerHold := by
  simp only [State.dumpDone, waits, if_true]

/-- PFAIL_N falls in a running core: GNT_PFAIL rises, and a dump that waits for the root PLL goes to the hold instead (R127, R333). -/
theorem State.pfailFell_of_coreUp {s : State} (up : s.aon.coreUp = true) :
    s.pfailFell = if s.aon.dumpPhase = 1 then ((s.modAon fun a => { a with pfail := false }).condOn 400).powerHold
      else (s.modAon fun a => { a with pfail := false }).condOn 400 :=
  if_neg (not_not_intro up)

/-- A fall of PFAIL_N is a fall where it was high. -/
theorem exec_pfailFall {s : State} (high : s.aon.pfail = true) : exec .pfailFall s = .next s.pfailFell.settle :=
  congrArg Host.Outcome.next (if_pos high)

/-- A rise of PFAIL_N in the hold resets the core, and elsewhere ends the condition alone (R129). -/
theorem exec_pfailRise {s : State} (low : s.aon.pfail = false) :
    exec .pfailRise s = .next (if s.aon.coreUp = true ∧ s.aon.dumpPhase = 3
      then ((s.modAon fun a => { a with pfail := true }).condOff 400).coreReset 2
      else (s.modAon fun a => { a with pfail := true }).condOff 400) :=
  congrArg Host.Outcome.next (if_neg (by simp [low]))

/-- DUMP_COMPLETE ends a dump that is being taken. -/
theorem exec_dumpComplete {s : State} (up : s.aon.coreUp = true) (taking : s.aon.dumpPhase = 2) (us : Nat) (bad : List Nat) :
    exec (.dumpComplete us bad) s = .next (s.dumpDone us bad) :=
  congrArg Host.Outcome.next (if_pos ⟨up, taking⟩)

/-- Settles O6: each edge of PFAIL_N finds the phase that its row names, and a dump's end finds another dump waiting or none. -/
theorem powerFailSequence : Obligations.PowerFailSequence := by
  unfold Obligations.PowerFailSequence
  intro s
  refine ⟨fun high up other => ?falls, fun high up waits => ?fallsWaiting, fun low outside => ?rises, fun low up hold => ?risesInHold,
    fun us bad u up taking free hu => ?stores, fun us bad up taking pending => ?keeps⟩
  case falls => rw [exec_pfailFall high, State.pfailFell_of_coreUp up, if_neg other]
  case fallsWaiting => rw [exec_pfailFall high, State.pfailFell_of_coreUp up, if_pos waits]
  case rises =>
    have notHeld : ¬(s.aon.coreUp = true ∧ s.aon.dumpPhase = 3) := by
      rintro ⟨up, hold⟩
      rcases outside with down | other
      · simp [down] at up
      · exact other hold
    rw [exec_pfailRise low, if_neg notHeld]
  case risesInHold => rw [exec_pfailRise low, if_pos ⟨up, hold⟩]
  case stores =>
    rw [exec_dumpComplete up taking, State.dumpDone_stores free hu]
    rfl
  case keeps => rw [exec_dumpComplete up taking, State.dumpDone_pending pending]

end Sys2Proof.Machine

/-! Records, tails, chunk wear, checkpoints and copies to keepers (R115 to R118, R123 to R125, R130 to R132; log entries 78, 79 and 147). -/

namespace Sys2Proof.Machine
open Sys2Proof

/-- A ring record not yet verified passes its verify while the member write pipeline runs (R123). -/
theorem State.recWritten_of_unverified {s u : State} {j : Nat} (runs : s.flag Fld.FLT.STATUS.HALTED = false)
    (unverified : (s.nv.ring.any fun r => r.jseq == j && !r.verified) = true)
    (hu : u = s.modNv fun v => { v with ring := v.ring.map fun r => if r.jseq = j then { r with verified := true } else r })
    (bad staged : List Nat) :
    s.recWritten j bad staged = ((u.badRetire (u.ringLine j) 16 bad).badRetire stagingBase 131072 staged).commitAll := by
  subst hu
  exact if_neg (by simp only [runs, unverified, Bool.false_eq_true, not_true_eq_false, or_self, not_false_eq_true])

/-- A tail write that its command waits for ends (R125). -/
theorem State.tailWritten_of_owed {s : State} {k i t : Nat} {c : Cmd} (runs : s.flag Fld.FLT.STATUS.HALTED = false)
    (found : s.cmd? t = some c) (owed : c.owed ≠ 0) (written : (tget s.nv.tails (16 * k + i)).isSome = true) (bad : List Nat) :
    s.tailWritten k i t bad
      = ((s.setCmd t { c with owed := c.owed - 1 }).badRetire (tailBase + 1024 * k + 65 * i) 65 bad).pump (s.slot k).zone := by
  have goes : ¬(s.flag Fld.FLT.STATUS.HALTED = true ∨ c.owed = 0 ∨ (tget s.nv.tails (16 * k + i)).isNone = true) := by
    simp [runs, owed, Option.isSome_iff_ne_none.1 written]
  simp only [State.tailWritten, found, if_neg goes]

/-- A checkpoint that is due starts once replay is over and a keeper is up (R131, R132). -/
theorem State.ckptStart_of_due {s : State} (replayed : s.flag Fld.GNT.STATUS.REPLAY_DONE = true) (idle : s.jn.ckpt = none)
    (due : s.jn.ckptDue = true) (runs : s.stopped = false) (keeper : s.keeperUp = true) :
    s.ckptStart = (s.modJn fun j => { j with ckpt := some (s.latched, s.jseq, j.dirty), ckptDue := false, dirty := [] }).on
      Fld.GNT.STATUS.CKPT_RUNNING := by
  simp [State.ckptStart, replayed, idle, due, runs, keeper]

/-- No keeper in step had a write fail or meet a reservation conflict. -/
theorem any_failed_eq_false {l : List Nat} {io : BgIo} (stands : ∀ c ∈ l, c ∉ io.wrBad ∧ c ∉ io.conflict) :
    (l.any fun c => decide (c ∈ io.wrBad ∨ c ∈ io.conflict)) = false :=
  List.any_eq_false.2 fun c mem => by simp [stands c mem]

/-- Settles O21: each command finds its record, tail, chunk, checkpoint or copy in the state that its row names. -/
theorem journalRecords : Obligations.JournalRecords := by
  unfold Obligations.JournalRecords
  intro s up
  have runs {o : Host.Outcome State Fault Refusal} : (if ¬ s.aon.coreUp then .next s else o) = o := coreGuard_of_coreUp up
  refine ⟨fun j bad staged u going unverified hu => runs.trans ?record, fun k i t c bad going found owed written => runs.trans ?tail,
    fun chunk free fixed inRegion isFree most worn => runs.trans ?chunk,
    fun replayed idle due going keeper => runs.trans ?start,
    fun tb q n ps io v u w running gate keepers reached stands hn hu hw => runs.trans ?commit,
    fun io going => runs.trans ?ring, fun i c r io v u waits known gate reached stood agreed hu => runs.trans ?copy⟩
  case record => rw [State.recWritten_of_unverified going unverified hu]
  case tail => rw [State.tailWritten_of_owed going found owed written]
  case chunk =>
    have moves : ¬(1664 ≤ chunk ∨ ¬s.chunkFree free = true ∨ s.lessWorn (tgetD s.nv.wear free 0) = true
        ∨ tgetD s.nv.wear (s.physChunk chunk) 0 < tgetD s.nv.wear free 0 + 2 ^ 30) := by
      simpa [isFree, most, Nat.not_le.2 inRegion] using worn
    rw [if_neg moves]
  case start => rw [State.ckptStart_of_due replayed idle due going keeper]
  case commit =>
    subst hn hu hw
    have goes : ¬(¬s.bgOk = true ∨ s.keepersIn = []) := by simp [gate, keepers]
    simp only [State.ckptCommit, running, if_neg goes, reached, any_failed_eq_false stands, Bool.false_eq_true, if_false]
  case ring => rw [State.ringCopy, if_neg (by simp [going])]
  case copy =>
    subst hu
    have stands : ¬(c ∈ io.wrBad ∨ c ∈ io.conflict) := by simp [stood, agreed]
    simp only [State.keeperDone, waits, known, gate, not_true_eq_false, if_false, reached, if_neg stands]

end Sys2Proof.Machine

/-! The partner mirror with its key there and no new mark owed (R136 to R144; log entries 45 to 48). -/

namespace Sys2Proof.Machine
open Sys2Proof

section Receive
variable {s : State} {p m : Nat} {b : MirBody} (mirror : s.mirrorOn = true) (going : s.stopped = false)
  (key : (s.pathUp p).mirrorKeyMissing = false)
  (marked : ¬((s.pathUp p).jn.rebase = true ∧ (s.pathUp p).get Fld.GNT.STATUS.ROLE = 2))
include mirror going key marked

/-- A mirror record that can be taken is judged by its MSEQ (R139). -/
theorem State.mirReceive_of_marked (bad : List Nat) :
    s.mirReceive p m b bad =
      if m ≤ (s.pathUp p).mirA then ((s.pathUp p).satInc Fld.GNT.DUP_COUNT.V).mirAck
      else if (s.pathUp p).mirA + 1024 < m then s.pathUp p
      else if m = (s.pathUp p).mirA + 1 ∧ ¬ (s.pathUp p).mirBlocked b then
        ((((s.pathUp p).modJn fun j => { j with rxHeld := j.rxHeld.filter fun e => e.mseq ≠ m }).mirApply m b bad).mirHeld 1024).mirAck
      else if (s.pathUp p).jn.rxHeld.any fun e => e.mseq == m then s.pathUp p
      else (s.pathUp p).modJn fun j => { j with rxHeld := j.rxHeld ++ [⟨m, b, bad⟩] } := by
  have takes : ¬(¬s.mirrorOn = true ∨ s.stopped = true) := by simp [mirror, going]
  rw [State.mirReceive, if_neg takes, if_neg (by simp [key]), if_neg marked]

end Receive

/-- Settles O22: each row's condition holds; a mirror record's MSEQ falls under one of the cases of R139. -/
theorem mirrorRows : Obligations.MirrorRows := by
  unfold Obligations.MirrorRows
  intro s up mirror going
  have runs {o : Host.Outcome State Fault Refusal} : (if ¬ s.aon.coreUp then .next s else o) = o := coreGuard_of_coreUp up
  have takes : ¬(¬s.mirrorOn = true ∨ s.stopped = true) := by simp [mirror, going]
  have notStopped : ¬s.stopped = true := by simp [going]
  refine ⟨fun p m b bad key marked follows unblocked => runs.trans ?applied, fun p m b bad key marked old => runs.trans ?again,
    fun p m b bad key marked later near fresh => runs.trans ?held, fun p x sent new => runs.trans ?acked,
    fun m n b key partner found => runs.trans ?resent, fun p path shown => runs.trans ?down, runs.trans ?beat,
    fun p sent role w => runs, fun quiet => runs, fun fixed bad u contest owner hu => runs.trans ?wins,
    fun fixed bad contest owner => runs.trans ?loses, fun sends owner => runs.trans ?digest⟩
  case applied =>
    rw [State.mirReceive_of_marked mirror going key marked, if_neg (by omega), if_neg (by omega), if_pos ⟨follows, by simp [unblocked]⟩]
  case again => rw [State.mirReceive_of_marked mirror going key marked, if_pos old]
  case held =>
    have gap : ¬(m = (s.pathUp p).mirA + 1 ∧ ¬(s.pathUp p).mirBlocked b = true) := fun follows => by omega
    rw [State.mirReceive_of_marked mirror going key marked, if_neg (by omega), if_neg (by omega), if_neg gap, if_neg (by simp [fresh])]
  case acked =>
    have moves : ¬((s.pathUp p).nv.mseq < x ∨ x ≤ (s.pathUp p).mseqAcked) := by omega
    simp only [State.mirAcked, if_neg takes, Bool.false_eq_true, if_false, if_neg moves]
  case resent => simp only [found, mirror, going, key, partner, Bool.false_eq_true, not_false_eq_true, and_self, if_true]
  case down => rw [if_pos ⟨path, shown⟩]
  case beat => rw [if_pos ⟨mirror, notStopped⟩]
  case wins =>
    subst hu
    simp only [State.reservation, contest, going, mirror, owner, Bool.false_eq_true, not_true_eq_false, or_self, if_false, if_true]
  case loses =>
    simp only [State.reservation, contest, going, mirror, owner, Bool.false_eq_true, not_true_eq_false, or_self, if_false, if_true]
  case digest => rw [if_pos ⟨sends, owner, notStopped⟩]

end Sys2Proof.Machine

/-! Absence, failure, admission, the management commands of members and the scrub's start and stop (R145 to R151, R166, R420; log
entries 54 and 145). -/

namespace Sys2Proof.Machine
open Sys2Proof

/-- FAIL of a member that is Online, Absent or in Copyback is carried out unless it would lose data (R148, R420). -/
theorem State.memberFailCmd_of_member {s : State} {n c : Nat} (mapped : s.colOfSlot n = some c)
    (member : (s.col c).st = 2 ∨ (s.col c).st = 3 ∨ (s.col c).st = 6) :
    s.memberFailCmd n = if s.wouldLose c then s.put Fld.MBR.MCMD_RESULT.CODE 2
      else (s.failColumn c 0x0A).put Fld.MBR.MCMD_RESULT.CODE 0 := by
  simp only [State.memberFailCmd, mapped, if_neg (not_not_intro member), State.mcmdCode]

/-- ADOPT finds no drive in the slot (R147). -/
theorem State.memberAdopt_of_empty {s : State} {n : Nat} (empty : s.flag (Fld.DRP_P.SLOT_STATUS.PRESENT n) = false) :
    s.memberAdopt n = s.put Fld.MBR.MCMD_RESULT.CODE 3 :=
  if_pos (by simp [empty])

/-- ADOPT of a drive that passes admission, into a column without a member (R145, R147). -/
theorem State.memberAdopt_of_acceptable {s : State} {n c : Nat} {d : DriveId}
    (present : s.flag (Fld.DRP_P.SLOT_STATUS.PRESENT n) = true) (mapped : s.colOfSlot n = some c)
    (probed : (s.port n).drive = some d) (vacant : (s.col c).st = 0 ∨ (s.col c).st = 4 ∨ (s.col c).st = 5)
    (welcome : (s.col c).refused = false) (passes : s.admitCode (some c) d = 0) :
    s.memberAdopt n = (s.adopt c d).put Fld.MBR.MCMD_RESULT.CODE 0 := by
  have adopts : ((s.col c).st = 0 ∨ (s.col c).st = 4 ∨ (s.col c).st = 5) ∧ ¬(s.col c).refused = true ∧ s.admitCode (some c) d = 0 :=
    ⟨vacant, by simp [welcome], passes⟩
  simp only [State.memberAdopt, if_neg (not_not_intro present), mapped, probed, if_pos adopts, State.mcmdCode]

/-- CLEAR_REFUSED finds no drive in the slot (R146). -/
theorem State.clearRefused_of_empty {s : State} {n : Nat} (empty : s.flag (Fld.DRP_P.SLOT_STATUS.PRESENT n) = false) :
    s.clearRefused n = s.put Fld.MBR.MCMD_RESULT.CODE 3 :=
  if_pos (by simp [empty])

/-- CLEAR_REFUSED lifts a column's refusal, and the slot awaits a new probe (R146; log entry 54). -/
theorem State.clearRefused_of_refused {s : State} {n c : Nat} (present : s.flag (Fld.DRP_P.SLOT_STATUS.PRESENT n) = true)
    (mapped : s.colOfSlot n = some c) (refused : (s.col c).refused = true) :
    s.clearRefused n = ((s.setCol c { s.col c with refused := false }).modPort n fun p =>
      { p with awaiting := true }).put Fld.MBR.MCMD_RESULT.CODE 0 := by
  simp only [State.clearRefused, if_neg (not_not_intro present), mapped, if_pos refused, State.mcmdCode]

/-- Settles O23: each event and each management command finds its column, slot and drive in the state that its row names. -/
theorem memberFailureAndAdmission : Obligations.MemberFailureAndAdmission := by
  unfold Obligations.MemberFailureAndAdmission
  intro s up
  have runs {o : Host.Outcome State Fault Refusal} : (if ¬ s.aon.coreUp then .next s else o) = o := coreGuard_of_coreUp up
  refine ⟨fun n c mapped down powered => runs.trans ?linkLost, fun c absent settled unprobed => rowGuard_of_met up ?holdOver,
    fun n d probed linked => runs,
    fun n c mapped member => ⟨fun spared => runs.trans ?fails, fun loses => runs.trans ?failRefused⟩,
    fun n c d present mapped probed vacant welcome passes => runs.trans ?adopts,
    fun n empty => ⟨runs.trans ?adoptsNone, runs.trans ?clearsNone⟩,
    fun n c present mapped refused => runs.trans ?clears, fun laid => runs.trans ?scrubStarts, runs⟩
  case linkLost => rw [State.onSlot_of_col mapped, if_pos ⟨down, .inl powered⟩]
  case holdOver => exact ⟨absent, by simp [settled], by simp [unprobed]⟩
  case fails => rw [State.memberFailCmd_of_member mapped member, spared, if_neg Bool.false_ne_true]
  case failRefused => rw [State.memberFailCmd_of_member mapped member, if_pos loses]
  case adopts => rw [State.memberAdopt_of_acceptable present mapped probed (.inl vacant) welcome passes]
  case adoptsNone => rw [State.memberAdopt_of_empty empty]
  case clearsNone => rw [State.clearRefused_of_empty empty]
  case clears => rw [State.clearRefused_of_refused present mapped refused]
  case scrubStarts =>
    have inForce : ¬s.lay.isNone = true := by simp [Option.isSome_iff_ne_none.1 laid]
    rw [if_neg inForce, State.mcmdCode]

end Sys2Proof.Machine

/-! Requests for an overlay and the pass that applies one (R226, R227, R369, R370). -/

namespace Sys2Proof.Machine
open Sys2Proof

/-- A request for a valid overlay waits after those made before it, and is shown (R227; log entry 101). -/
theorem State.ovlRequest_of_valid {s : State} {n : Nat} (small : n < 16) (valid : s.ovlValid n = true) :
    s.ovlRequest n = ((s.modBoot fun b => { b with ovlReqs := b.ovlReqs ++ [(n, s.ptpTime)] }).put
      Fld.TGS.OVL_STATUS.PENDING n).on Fld.TGS.OVL_STATUS.PENDING_VALID := by
  simp only [State.ovlRequest, Nat.mod_eq_of_lt small, if_neg (not_not_intro valid)]

/-- A request for an overlay that is not valid is refused (R370). -/
theorem State.ovlRequest_of_invalid {s : State} {n : Nat} (small : n < 16) (invalid : s.ovlValid n = false) :
    s.ovlRequest n = s.ovlRefuse := by
  have refused : ¬s.ovlValid n = true := by simp [invalid]
  simp only [State.ovlRequest, Nat.mod_eq_of_lt small, if_pos refused]

/-- The guard of OVERLAY_APPLY: an image is applied, and the part has not stopped. -/
theorem overlayGuard_of_applied {s t : State} (applied : s.flag Fld.CFG.STATUS.IMAGE_APPLIED = true) (live : s.stopped = false) :
    (if ¬ s.flag Fld.CFG.STATUS.IMAGE_APPLIED ∨ s.stopped then s else t) = t :=
  if_neg (by simp [applied, live])

/-- The overlay that fell due at a boundary is applied first, whatever requests wait (R226). -/
theorem exec_overlayApply_of_due {s : State} (up : s.aon.coreUp = true) (applied : s.flag Fld.CFG.STATUS.IMAGE_APPLIED = true)
    (live : s.stopped = false) {m : Nat} (due : s.tg.ovlDue = some m) :
    exec .overlayApply s = .next ((s.modTg fun t => { t with ovlDue := none }).ovlShow.overlayPass m).settle := by
  change execOverlayApply s = _
  simp only [execOverlayApply, coreGuard_of_coreUp up, overlayGuard_of_applied applied live, due]

/-- With none due and no power list in force, the oldest request is applied 1 µs after it was made (R227; log entry 101). -/
theorem exec_overlayApply_of_waiting {s : State} (up : s.aon.coreUp = true)
    (applied : s.flag Fld.CFG.STATUS.IMAGE_APPLIED = true) (live : s.stopped = false) {n made : Nat} {r : List (Nat × Nat)}
    (noneDue : s.tg.ovlDue = none) (waits : s.boot.ovlReqs = (n, made) :: r) (noList : (s.glist 7).running = none) :
    exec .overlayApply s = .next ((((s.advTo (made + 1000)).modBoot fun b => { b with ovlReqs := r }).ovlShow).overlayPass n).settle := by
  have free : ¬(s.glist 7).running.isSome = true := by simp [noList]
  change execOverlayApply s = _
  simp only [execOverlayApply, coreGuard_of_coreUp up, overlayGuard_of_applied applied live, noneDue, waits, if_neg free]

/-- Settles O10: a request's overlay is valid or it is not; the pass takes the overlay due, else the oldest request. -/
theorem overlayCommands : Obligations.OverlayCommands := by
  unfold Obligations.OverlayCommands
  intro s up
  have requests (n : Nat) : exec (.ovlRequest n) s = .next (s.ovlRequest n).settle := if_pos up
  refine ⟨fun n small valid => ?joins, fun n small invalid => ?refused,
    fun m applied live due => exec_overlayApply_of_due up applied live due,
    fun n made r applied live noneDue waits noList => exec_overlayApply_of_waiting up applied live noneDue waits noList⟩
  case joins => rw [requests, State.ovlRequest_of_valid small valid]
  case refused => rw [requests, State.ovlRequest_of_invalid small invalid]

end Sys2Proof.Machine

/-! The endpoint in Not ready, before the configuration image is applied (R309, R316). -/

namespace Sys2Proof.Machine
open Sys2Proof

/-- A write of a field of another register leaves the endpoint serving or not serving, as it was. -/
theorem State.epServes_put_other (s : State) (f : FieldAt) (v : Nat) (hf : f.fits) (image : Reg.CFG.STATUS ≠ f.reg)
    (mode : Reg.TOP.STATUS ≠ f.reg) : (s.put f v).epServes = s.epServes := by
  simp only [State.epServes, State.flag, s.get_put_other f Fld.CFG.STATUS.IMAGE_APPLIED v hf (.inl image),
    s.get_put_other f Fld.TOP.STATUS.MODE v hf (.inl mode)]

/-- EPF.STATUS.STATE, three bits wide, shows the state taken. -/
theorem State.epState_setEp (s : State) {st : Nat} (h : st < 8) : (s.setEp st).epState = st :=
  (s.get_put_same Fld.EPF.STATUS.STATE st (by decide)).trans (Nat.mod_eq_of_lt h)

/-- A function that is Training, with its transmitters on, records the link and leaves Training when L0 is reached (R316). -/
theorem exec_epLinkUp {s : State} (up : s.aon.coreUp = true) (training : s.epState = epTraining) (driven : s.aon.squelched = false)
    (speed width : Nat) {u : State}
    (hu : u = ((s.put Fld.EPF.STATUS.SPEED speed).put Fld.EPF.STATUS.WIDTH width).on Fld.EPF.STATUS.LINK_UP) :
    exec (.epLinkUp speed width) s = .next (u.setEp (if u.epServes then epReady else epNotReady)) := by
  subst hu
  have reaches : ¬(s.epState ≠ epTraining ∨ s.aon.squelched = true) :=
    not_or.2 ⟨not_not_intro training, Bool.eq_false_iff.1 driven⟩
  exact (coreGuard_of_coreUp up).trans (congrArg Host.Outcome.next (if_neg reaches))

/-- In Not ready the function takes no memory request. -/
theorem State.epMemOk_of_notReady {s : State} (notReady : s.epState = epNotReady) : ¬ s.epMemOk = true := by
  have notServed : (epNotReady == epReady) = false := by decide
  simp only [State.epMemOk, notReady, notServed, Bool.false_and, Bool.false_eq_true, not_false_eq_true]

/-- In Not ready no access on path E reaches the registers. -/
theorem State.reaches_e_of_notReady {s : State} (notReady : s.epState = epNotReady) : ¬ s.reaches .e = true :=
  fun reached => State.epMemOk_of_notReady notReady ((Bool.and_eq_true_iff.1 reached).2)

section NotReady
variable {s : State} (up : s.aon.coreUp = true) (notReady : s.epState = epNotReady)
include up notReady

/-- A configuration request gets Request Retry Status (R309). -/
theorem exec_epConfigRequest_of_notReady (write : Bool) (off v : Nat) :
    exec (.epConfigRequest write off v) s = .next (s.emit (.pcie 3 [])) :=
  (coreGuard_of_coreUp up).trans (congrArg Host.Outcome.next (if_pos (.inl notReady)))

/-- A read of BAR2 gets Unsupported Request (R309). -/
theorem exec_bar2Read_of_notReady (off len : Nat) (uncorrectable : Bool) :
    exec (.bar2Read off len uncorrectable) s = .next (s.emit (.pcie 1 [])) := by
  have linked : ¬(s.epState ≠ epReady ∧ s.epState ≠ epNotReady) := fun unlinked => unlinked.2 notReady
  exact (coreGuard_of_coreUp up).trans (congrArg Host.Outcome.next
    ((if_neg linked).trans (if_pos (.inl (State.epMemOk_of_notReady notReady)))))

/-- A read of BAR0 gets Unsupported Request (R309). -/
theorem exec_rcRegisterRead_of_notReady (off len : Nat) :
    exec (.rcRegisterRead .e off len) s = .next (s.emit (.pcie 1 [])) := by
  have refused : Path.e = .e ∧ s.aon.coreUp ∧ ¬ s.epMemOk ∧ (s.epState = epReady ∨ s.epState = epNotReady) :=
    ⟨rfl, up, State.epMemOk_of_notReady notReady, .inr notReady⟩
  exact (coreGuard_of_coreUp up).trans (congrArg Host.Outcome.next
    ((if_pos (.inl (State.reaches_e_of_notReady notReady))).trans (if_pos refused)))

/-- A write of BAR2 has no effect (R309). -/
theorem exec_bar2Write_of_notReady (off : Nat) (bytes : List Byte) (poisoned : Bool) :
    exec (.bar2Write off bytes poisoned) s = .next s :=
  (coreGuard_of_coreUp up).trans (congrArg Host.Outcome.next (if_pos (.inl (State.epMemOk_of_notReady notReady))))

/-- A write of BAR0 has no effect (R309). -/
theorem exec_registerWrite_e_of_notReady (off v len : Nat) : exec (.registerWrite .e off v len) s = .next s :=
  (coreGuard_of_coreUp up).trans (congrArg Host.Outcome.next (if_pos (.inl (State.reaches_e_of_notReady notReady))))

end NotReady

/-- Settles O54: recording the link does not make the endpoint serve, so L0 leads to Not ready; there, a function that takes no
memory request answers or drops each kind of request. -/
theorem endpointBeforeTheImage : Obligations.EndpointBeforeTheImage := by
  unfold Obligations.EndpointBeforeTheImage
  intro s up idle
  refine ⟨fun speed width training driven => ?linkUp, fun notReady => ⟨exec_epConfigRequest_of_notReady up notReady,
    exec_bar2Read_of_notReady up notReady, exec_rcRegisterRead_of_notReady up notReady, exec_bar2Write_of_notReady up notReady,
    exec_registerWrite_e_of_notReady up notReady⟩⟩
  case linkUp =>
    generalize hu : ((s.put Fld.EPF.STATUS.SPEED speed).put Fld.EPF.STATUS.WIDTH width).on Fld.EPF.STATUS.LINK_UP = u
    have stillIdle : u.epServes = false := by
      rw [← hu, State.on]
      iterate 3 rw [State.epServes_put_other _ _ _ (by decide) (by decide) (by decide)]
      exact idle
    refine ⟨_, exec_epLinkUp up training driven speed width hu.symm, ?_⟩
    rw [stillIdle]
    exact u.epState_setEp (by decide)

end Sys2Proof.Machine

/-! A BAR2 write that stores: where its bytes go, and what it leaves (R310, R312). -/

namespace Sys2Proof.Machine
open Sys2Proof

/-- A byte inside a run of written bytes reads what was written. -/
theorem memGet_memPutAll_inside (m : Memory) (a : Nat) {l : List Byte} {i : Nat} (h : i < l.length) :
    memGet (memPutAll m a l) (a + i) = l.getD i 0 := by
  induction l generalizing m a i with
  | nil => exact absurd h (Nat.not_lt_zero i)
  | cons b r ih =>
    cases i with
    | zero =>
      have before : a + 0 < a + 1 := Nat.lt_succ_self a
      rw [memPutAll, memGet_memPutAll_outside _ _ _ _ (.inl before), Nat.add_zero, memGet_memPut_same, List.getD_cons_zero]
    | succ i =>
      have shifted : a + (i + 1) = a + 1 + i := by omega
      rw [memPutAll, shifted, ih _ _ (Nat.lt_of_succ_lt_succ h), List.getD_cons_succ]

/-- A write to DRAM leaves the bytes it covers reading what was written. -/
theorem State.dramWrite_inside (s : State) (a : Nat) {l : List Byte} {i : Nat} (h : i < l.length) :
    memGet (s.dramWrite a l).dram (a + i) = l.getD i 0 := memGet_memPutAll_inside _ _ h

/-- Counting a port's bytes changes the performance counters alone. -/
theorem State.bwAdd_frame (s : State) (port rx tx : Nat) : s.bwAdd port rx tx = { s with pmc := (s.bwAdd port rx tx).pmc } := rfl

/-- A BAR2 write inside the window and below DRAM_FITTED, at or above DRAM_REQUIRED, is counted and stored from BAR2_MAP plus its
offset on (R310, R312). -/
theorem exec_bar2Write_of_stored {s : State} {off : Nat} {bytes : List Byte} (up : s.aon.coreUp = true) (taken : s.epMemOk = true)
    (trained : s.flag Fld.DDC.STATUS.TRAINED = true) (window : off + bytes.length ≤ 2 ^ s.get Fld.EPF.BAR2_CFG.LOG2)
    (fitted : s.rd64 Reg.EPF.BAR2_MAP_LO + off + bytes.length ≤ s.get Fld.TOP.DRAM_FITTED.V * 2 ^ 20)
    (free : s.get Fld.TOP.DRAM_REQUIRED.V * 2 ^ 20 ≤ s.rd64 Reg.EPF.BAR2_MAP_LO + off) :
    exec (.bar2Write off bytes false) s
      = .next ((s.bwAdd 56 bytes.length 0).dramWrite (s.rd64 Reg.EPF.BAR2_MAP_LO + off) bytes) := by
  have inWindow : ¬(¬ s.epMemOk ∨ 2 ^ s.get Fld.EPF.BAR2_CFG.LOG2 < off + bytes.length) :=
    not_or.2 ⟨not_not_intro taken, Nat.not_lt.2 window⟩
  have unprotected (p : Prop) : ¬(s.rd64 Reg.EPF.BAR2_MAP_LO + off < s.get Fld.TOP.DRAM_REQUIRED.V * 2 ^ 20 ∧ p) :=
    fun isProtected => Nat.not_lt.2 free isProtected.1
  refine (coreGuard_of_coreUp up).trans (congrArg Host.Outcome.next ?stored)
  exact (if_neg inWindow).trans <| (if_neg Bool.false_ne_true).trans <| (if_neg (not_not_intro trained)).trans <|
    (if_neg (Nat.not_lt.2 fitted)).trans <| if_neg (unprotected _)

/-- Settles O41: the write that stores is a write to DRAM after its bytes are counted; the count touches the performance counters
alone, the write to DRAM the bytes it covers. -/
theorem bar2WriteFrame : Obligations.Bar2WriteFrame := by
  unfold Obligations.Bar2WriteFrame
  intro s t off bs up taken trained window fitted free answers
  rw [exec_bar2Write_of_stored up taken trained window fitted free, State.bwAdd_frame] at answers
  obtain rfl := Host.Outcome.next.inj answers
  exact ⟨fun i covered => State.dramWrite_inside _ _ covered, fun a outside => State.dramWrite_outside _ _ _ _ outside,
    rfl, rfl, rfl, rfl, rfl, rfl⟩

end Sys2Proof.Machine

/-! Supplies, PORST_N, the start of the core and its resets (R330 to R333, R354 to R356, R365, R405, R406, R408; log entries 5
and 116). The start reports a supply that dropped, and the class of that source is set by what the state holds (R324), so no reaction
of any class may stop the core. -/

namespace Sys2Proof.Machine
open Sys2Proof

/-! ### A rise and its reactions neither reset the core nor start it -/

/-- From `s` to `t` the core keeps running, or stays in reset. -/
def CoreStays (s t : State) : Prop := t.aon.coreUp = s.aon.coreUp

section CoreStays
variable {o s : State} (h : CoreStays o s)
include h

theorem CoreStays.ite {t : State} {p : Prop} [Decidable p] (g : CoreStays o t) : CoreStays o (if p then s else t) :=
  iteInduction (fun _ => h) fun _ => g

theorem CoreStays.foldl {α : Type} {f : State → α → State} (hf : ∀ s x, CoreStays o s → CoreStays o (f s x)) (l : List α) :
    CoreStays o (l.foldl f s) :=
  List.foldlRecOn l f h fun s g x _ => hf s x g

theorem CoreStays.records {t : State} (g : SameRest withoutRecords s t) : CoreStays o t :=
  (congrArg (fun u : State => u.aon.coreUp) g).trans h

theorem CoreStays.setN (a v : Nat) : CoreStays o (s.setN a v) := h

theorem CoreStays.put (f : FieldAt) (v : Nat) : CoreStays o (s.put f v) := h

theorem CoreStays.on (f : FieldAt) : CoreStays o (s.on f) := h

theorem CoreStays.off (f : FieldAt) : CoreStays o (s.off f) := h

theorem CoreStays.wr64 (a v : Nat) : CoreStays o (s.wr64 a v) := h

theorem CoreStays.putBit64 (a n : Nat) (b : Bool) : CoreStays o (s.putBit64 a n b) := h

theorem CoreStays.emit (e : Emit) : CoreStays o (s.emit e) := h

theorem CoreStays.modEv (f : Events → Events) : CoreStays o (s.modEv f) := h

theorem CoreStays.modEp (f : Endpoint → Endpoint) : CoreStays o (s.modEp f) := h

theorem CoreStays.modMb (f : Members → Members) : CoreStays o (s.modMb f) := h

theorem CoreStays.modDma (n : Nat) (f : DmaCh → DmaCh) : CoreStays o (s.modDma n f) := h

theorem CoreStays.modAon (f : Aon → Aon) (hf : ∀ a, (f a).coreUp = a.coreUp) : CoreStays o (s.modAon f) := (hf _).trans h

/-! A source rises (R325 to R327). -/

theorem CoreStays.sendVector (v : Nat) : CoreStays o (s.sendVector v) := by
  have pended := h.modEp fun e => { e with pba := addNew e.pba v, pmeStatus := true }
  exact .ite h (.ite (h.modEp _) (.ite (h.emit _)
    (.ite pended (.ite ((pended.emit _).on _) (((pended.modAon (fun a => { a with wakeLow := true }) fun _ => rfl).emit _).on _)))))

theorem CoreStays.record (code src p0 p1 p2 : Nat) (fault first : Bool) :
    CoreStays o (s.record code src p0 p1 p2 fault first) :=
  h.records ((SameRest.refl withoutRecords s).carillon _)

theorem CoreStays.capture (n : Nat) : CoreStays o (s.capture n).2 := by
  unfold State.capture
  split
  · exact h.setN _ _
  split
  · exact .ite ((h.put _ _).put _ _) (h.put _ _)
  · exact (((((h.put _ _).put _ _).put _ _).put _ _).on _).wr64 _ _

theorem CoreStays.tocsinFault : CoreStays o s.tocsinFault := by
  have risen := h.modAon (fun a => { a with tocsinFault := true }) fun _ => rfl
  have held := risen.modAon (fun a => { a with tocsinHold := true }) fun _ => rfl
  unfold State.tocsinFault
  dsimp only
  split
  · exact .ite risen (.ite held (risen.off _))
  · exact .ite risen ((risen.on _).off _)
  · exact risen

/-- A rise sets the pending bit, is captured, stops TOCSIN, and goes where its source is routed (R326 to R328, R336). -/
theorem CoreStays.latch1 (n p2 : Nat) : CoreStays o (s.latch1 n p2) := by
  have pending := h.setN (Reg.EVC.PEND (n / 32)) (setBit (s.regN (Reg.EVC.PEND (n / 32))) (n % 32))
  unfold State.latch1
  extract_lets cfg cls was v due s1
  have captured : CoreStays o (if 0 < cls then s1.capture n else (false, s1)).2 := by
    rw [apply_ite Prod.snd]
    exact (pending.capture n).ite pending
  generalize (if 0 < cls then s1.capture n else (false, s1)) = taken at captured ⊢
  obtain ⟨first, s2⟩ := taken
  have faulted := captured.tocsinFault.ite (p := (decide (0 < cls) && bit cfg 28) = true) captured
  have sent := (faulted.sendVector v).ite (p := (bit cfg 31 && !due) = true) faulted
  have told := (sent.emit (.firmware n)).ite (p := bit cfg 29 = true) sent
  exact .ite faulted (.ite told (.ite (told.record _ _ _ _ _ _ _) (told.record _ _ _ _ _ _ _)))

theorem CoreStays.latch (n p2 : Nat) : CoreStays o (s.latch n p2) := .ite ((h.latch1 _ _).latch1 _ _) (h.latch1 _ _)

theorem CoreStays.evLatch (f : FieldAt) (n p2 : Nat) : CoreStays o (s.evLatch f n p2) := .ite (h.on _) ((h.on _).latch _ _)

/-! Shelf-stop (R306). -/

theorem CoreStays.perst (n : Nat) (high : Bool) : CoreStays o (s.perst n high) := h.modAon _ fun _ => rfl

theorem CoreStays.portLeave (n st : Nat) : CoreStays o (s.portLeave n st) := by
  have shut := (h.emit (.member n 0 0x14 0 0 [])).ite (p := st = ptQuiescing ∧ s.pt n = ptUp) h
  exact ((((shut.modMb _).modMb _).put _ _).put _ _).putBit64 _ _ _

theorem CoreStays.cfgAbandon (n : Nat) : CoreStays o (s.cfgAbandon n) := .ite (((h.off _).put _ _).modMb _) h

theorem CoreStays.portDrop (n : Nat) : CoreStays o (s.portDrop n) :=
  .ite (h.perst n false) (((((h.portLeave n ptOff).put _ _).put _ _).cfgAbandon n).perst n false)

theorem CoreStays.pgLost (n : Nat) : CoreStays o (s.pgLost n) :=
  .ite (((((h.off _).putBit64 _ _ _).put _ _).evLatch _ _ _).portDrop n) h

theorem CoreStays.setCh (n st : Nat) : CoreStays o (s.setCh n st) := by
  unfold State.setCh
  exact (((((h.put _ _).put _ _).put _ _).put _ _).putBit64 _ _ _).modAon _ fun _ => rfl

theorem CoreStays.stopCh (n : Nat) : CoreStays o (s.stopCh n) :=
  .ite ((h.setCh _ _).put _ _) <| .ite ((((((h.setCh _ _).put _ _).modMb _).off _).pgLost n).portDrop n) <|
    .ite ((h.setCh _ _).put _ _) h

theorem CoreStays.stopChans (n : Nat) : CoreStays o (s.stopChans n) := by
  induction n with
  | zero => exact h
  | succ n ih => exact ih.stopCh n

theorem CoreStays.shelfStop0 (why : Nat) : CoreStays o (s.shelfStop0 why) := by
  have stopped := ((h.modMb fun m => { m with stopWhy := setBit m.stopWhy why }).stopChans 48).modAon
    (fun a => { a with slotGates := 0, feedGates := 0 }) fun _ => rfl
  exact .ite ((stopped.on _).evLatch _ _ _) stopped

theorem CoreStays.evS (f : FieldAt) (n p2 : Nat) : CoreStays o (s.evS f n p2) := by
  have latched := (h.on f).latch n p2
  exact .ite (h.on f) (.ite (latched.shelfStop0 3) latched)

theorem CoreStays.selftestEnd (code : Nat) : CoreStays o (s.selftestEnd code) := by
  unfold State.selftestEnd
  extract_lets op r s1 s2 s3
  have logged : CoreStays o s1 := h
  have done : CoreStays o s3 := ((logged.setN _ _).modMb _).evS _ _ _
  exact .ite h (.ite done (done.evS _ _ _))

/-! The key slots are emptied (R264, R266). -/

theorem CoreStays.importEnd (code : Nat) : CoreStays o (s.importEnd code) := by
  have ended : CoreStays o (s.modKeys fun k => { k with imp := none }) := h
  have cleared (a : Nat → Nat) {s : State} (g : CoreStays o s) (n : Nat) :
      CoreStays o ((List.range n).foldl (fun s m => s.setN (a m) 0) s) := g.foldl (fun _ _ g => g.setN _ _) _
  exact ((cleared _ (cleared _ ended 18) 24).put _ _).off _

theorem CoreStays.zeroiseAll : CoreStays o s.zeroiseAll := by
  unfold State.zeroiseAll
  extract_lets s1
  have ended : CoreStays o s1 := .ite ((h.importEnd 8).evS _ _ _) h
  have emptied : CoreStays o (s1.modKeys fun k => { k with slots := [], waiting := [] }) := ended
  exact (emptied.put _ _).evS _ _ _

/-! The DMA engine, the data path and the dump (R240, R245, R247, R330, R333). -/

theorem CoreStays.count (e : PmcEv) : CoreStays o (s.count e) := by
  refine .ite (h.foldl (fun s i g => ?_) _) h
  have counted (c : Ctr) : CoreStays o (s.setCtr i c) := g
  exact .ite (.ite (counted _) (((counted _).setN _ _).evLatch _ _ _)) g

theorem CoreStays.dmaPut (n : Nat) (j : Job) (b : List Byte) : CoreStays o (s.dmaPut n j b) := by
  unfold State.dmaPut
  extract_lets s1
  have stored : CoreStays o (s.dramWrite (j.d.dst + j.written) b) := h
  have sent := h.emit (.dma n j.d.dspace (if j.d.dspace = 2 then j.d.line else j.d.dst + j.written) b)
  have written : CoreStays o s1 := .ite stored sent
  exact (written.wr64 _ _).count _

theorem CoreStays.dmaWrite1 (n : Nat) : CoreStays o (s.dmaWrite1 n) := by
  unfold State.dmaWrite1
  split
  · exact h
  · dsimp only
    split
    · exact (h.modDma _ _).put _ _
    · exact (((h.modDma _ _).dmaPut _ _ _).modDma _ _).put _ _

theorem CoreStays.dmaDrain (n k : Nat) : CoreStays o (s.dmaDrain n k) := by
  induction k generalizing s with
  | zero => exact h
  | succ k ih => exact ih (h.dmaWrite1 n)

theorem CoreStays.dmaBackAll (code : Nat) (l : List Job) : CoreStays o (s.dmaBackAll code l) :=
  h.foldl (fun s j g => .ite g (show CoreStays o (s.dmaBack j code) from g)) l

theorem CoreStays.setDma (n st : Nat) : CoreStays o (s.setDma n st) := ((h.put _ _).setN _ _).setN _ _

theorem CoreStays.dmaHalt1 (n : Nat) : CoreStays o (s.dmaHalt1 n) := by
  have back := (h.dmaDrain n (s.dmaCh n).bursts.length).dmaBackAll 0x3F
  refine .ite h ?_
  exact ((((((((back _).modDma _ _).setDma _ _).put _ _).put _ _).evS _ _ _).evS _ _ _).evS _ _ _)

theorem CoreStays.dmaHalt (n : Nat) : CoreStays o (s.dmaHalt n) := by
  induction n with
  | zero => exact h
  | succ n ih => exact ih.dmaHalt1 n

theorem CoreStays.dpHalt : CoreStays o s.dpHalt := (((h.on _).on _).evS _ _ _).dmaHalt 32

theorem CoreStays.dumpStart : CoreStays o s.dumpStart := by
  have dumps := h.modAon (fun a => { a with dumpPhase := 2 }) fun _ => rfl
  have released := dumps.records (SameRest.refl withoutRecords _).unfreeze
  exact .ite released released

theorem CoreStays.classB (n : Nat) : CoreStays o (s.classB n) := by
  have halted := (h.modAon (fun a => { a with squelched := true }) fun _ => rfl).dmaHalt 32
  exact .ite h (.ite (halted.modAon (fun a => { a with dumpPhase := 1 }) fun _ => rfl) halted.dumpStart)

/-- A rise is latched; by its class follow a shelf-stop, emptied key slots, a halt, the dump and the end of a self-test (R67, R330). -/
theorem CoreStays.raise (n p2 : Nat) : CoreStays o (s.raise n p2) := by
  unfold State.raise
  extract_lets act cls s1 s2 s3 s4 s5
  have latched : CoreStays o s1 := h.latch n p2
  have stopped : CoreStays o s2 := .ite ((latched.shelfStop0 3).selftestEnd 5) latched
  have zeroised : CoreStays o s3 := .ite stopped.zeroiseAll stopped
  have halted : CoreStays o s4 := .ite zeroised.dpHalt (.ite (zeroised.on _) zeroised)
  have dumps : CoreStays o s5 := .ite (halted.classB n) halted
  exact .ite (dumps.selftestEnd 5) dumps

theorem CoreStays.event (f : FieldAt) (n p2 : Nat) : CoreStays o (s.event f n p2) := .ite (h.on f) ((h.on f).raise n p2)

end CoreStays

/-- The core runs from the first step of its start on: the report of a drop does not stop it, and what else is shown cannot. -/
theorem State.coreStart_coreUp (s : State) : s.coreStart.aon.coreUp = true := by
  unfold State.coreStart
  extract_lets s1 s2 s3 s4 s5
  have running : CoreStays s1 s2 := rfl
  have reported : CoreStays s1 s3 := .ite (running.event _ _ _) running
  have copies : CoreStays s1 s4 := .ite (reported.setN _ _) reported
  have shown : CoreStays s1 s5 := by
    unfold s5
    split
    · exact ((copies.on _).put _ _).on _
    · exact copies
  exact shown

/-! ### Supplies and resets -/

/-- Outside a dump, the loss of a supply other than VDD_AON resets a running core with cause 5 (R354, R356, R408). -/
theorem State.supplyOut_of_coreUp {s : State} {n : Nat} (other : n ≠ 0) (up : s.aon.coreUp = true) (notDue : s.aon.dumpPhase ≠ 1)
    (notTaken : s.aon.dumpPhase ≠ 2) :
    s.supplyOut n = ((s.supplyBad n).setN Reg.TOP.SUPPLY (setBit ((s.supplyBad n).regN Reg.TOP.SUPPLY) (8 + n))).coreReset 5 := by
  have noDump : ¬(s.aon.coreUp = true ∧ (s.aon.dumpPhase = 1 ∨ s.aon.dumpPhase = 2)) := by simp [notDue, notTaken]
  exact (if_neg other).trans ((if_neg noDump).trans (if_pos up))

/-- While the core is in reset the loss of a supply other than VDD_AON shows in IN_RANGE alone (R354). -/
theorem State.supplyOut_of_coreDown {s : State} {n : Nat} (other : n ≠ 0) (down : s.aon.coreUp = false) :
    s.supplyOut n = s.supplyBad n := by
  have inReset : ¬s.aon.coreUp = true := by simp [down]
  exact (if_neg other).trans ((if_neg fun dumps => inReset dumps.1).trans (if_neg inReset))

/-- One of the eight supplies leaves its range. -/
theorem exec_supplyOutOfRange {n : Nat} (s : State) (fitted : n < 8) : exec (.supplyOutOfRange n) s = .next (s.supplyOut n) :=
  congrArg Host.Outcome.next (if_pos fitted)

/-- Settles O4: each event finds its condition met; the start's last step sets the phase, and none after its first stops the core. -/
theorem suppliesAndResets : Obligations.SuppliesAndResets := by
  unfold Obligations.SuppliesAndResets
  intro s
  refine ⟨fun unreleased => ?releases, rfl, exec_supplyOutOfRange s (by decide), fun n other fitted up notDue notTaken => ?drops,
    fun n other fitted down => ?dropsInReset, fun released porst pfail down => ⟨?starts, s.coreStart_coreUp, rfl⟩, fun up => if_pos up,
    fun up halted timed => ?holdEnds, fun up => if_pos up⟩
  case releases => exact congrArg Host.Outcome.next (if_neg (by simp [unreleased]))
  case drops =>
    rw [exec_supplyOutOfRange s fitted, State.supplyOut_of_coreUp (Nat.ne_of_gt other) up notDue notTaken]
    rfl
  case dropsInReset =>
    rw [exec_supplyOutOfRange s fitted, State.supplyOut_of_coreDown (Nat.ne_of_gt other) down]
    rfl
  case starts => exact congrArg Host.Outcome.next (if_pos ⟨released, porst, pfail, by simp [down]⟩)
  case holdEnds => exact (coreGuard_of_coreUp up).trans (if_pos ⟨halted, timed⟩)

end Sys2Proof.Machine

/-! The front of the queue, the state after reset, and the fuses from step to step (00_scope.md, R357, R363, R371; log entries 1
and 118). -/

namespace Sys2Proof.Machine
open Sys2Proof

/-- With a command waiting a step runs the one in front on the rest of the queue. -/
theorem step_of_pending_cons {s : State} {c : Instr} {r : List Instr} (h : s.pending = c :: r) :
    step s = exec c { s with pending := r } := by
  simp only [step, h]

/-- Settles O1. -/
theorem stepRunsTheFrontCommand : Obligations.StepRunsTheFrontCommand := by
  unfold Obligations.StepRunsTheFrontCommand
  exact fun _ _ _ => step_of_pending_cons

/-- Settles O47: the three tables of the reset state are evaluated. -/
theorem resetIsCanonical : Obligations.ResetIsCanonical := by
  unfold Obligations.ResetIsCanonical
  decide +kernel

/-- Settles O49: the fuses are among what a step keeps, whatever command it runs. -/
theorem fusesOnlyGrow : Obligations.FusesOnlyGrow := by
  unfold Obligations.FusesOnlyGrow
  intro s t hstep
  exact (step_kept hstep).fuse

end Sys2Proof.Machine

/-! The core held in reset: only the commands of the always-on domain and of the pins it samples act (R355, R356; log entry 15). -/

namespace Sys2Proof.Machine
open Sys2Proof

/-- While the core is in reset a row that asks for a running core first, and for `p` besides, changes nothing. -/
theorem rowGuard_of_coreDown {s t : State} {p : Prop} [Decidable p] (runsFirst : p → s.aon.coreUp = true)
    (down : s.aon.coreUp = false) : (.next (if p then t else s) : Host.Outcome State Fault Refusal) = .next s :=
  congrArg Host.Outcome.next (if_neg fun met => by simp [runsFirst met] at down)

/-- Settles O51: the meaning of every other command begins with a test that a core in reset fails: the guard that most share,
or a condition of which the running core is a part. -/
theorem coreHeldInResetIgnoresCommands : Obligations.CoreHeldInResetIgnoresCommands := by
  unfold Obligations.CoreHeldInResetIgnoresCommands
  intro c s down other
  have inReset : ¬s.aon.coreUp = true := by simp [down]
  cases c
  case alwaysOnRelease | porstAssert | supplyOutOfRange | coreResetRelease | pfailFall | pfailRise | epPerstChange =>
    exact absurd other (by simp [Instr.alwaysOn])
  case ovlRequest | cfgExtend | cfgStage | cfgActivate | cfgRaiseSvn | cfgOwnerFuse | coreResetCmd | coreWatchdogMiss =>
    exact if_neg inReset
  case epEnableWrite | lockWrite | refReturn => exact rowGuard_of_coreDown id down
  case refMeasure | refLost | clkLockLost | rootPllRelock | dumpComplete | fuseLoadDone | imageVerified | imageApply =>
    exact rowGuard_of_coreDown And.left down
  case tamperAlarm | sidebandXferStart => exact rowGuard_of_coreDown And.right down
  case pendClear => exact if_neg fun met => inReset met.2
  case firmwareSourceRaise => exact if_neg fun met => inReset met.2.2
  case ddrTrainingDone => exact congrArg Host.Outcome.next (if_pos (Or.inl inReset))
  all_goals exact if_pos inReset

end Sys2Proof.Machine

/-! The clears of the counters (R349). -/

namespace Sys2Proof.Machine
open Sys2Proof

/-- Clearing a bit replaces it, as a field of one bit, by 0. -/
theorem clrBit_eq_splice (v i : Nat) : clrBit v i = v - v / 2 ^ i % 2 ^ 1 * 2 ^ i + 0 % 2 ^ 1 * 2 ^ i := by
  rcases Nat.mod_two_eq_zero_or_one (v / 2 ^ i) with clear | set
  · simp [clrBit, bit, clear]
  · simp [clrBit, bit, set]

theorem bit_clrBit_same (v i : Nat) : bit (clrBit v i) i = false := by
  have cleared := splice_field v i 1 0
  rw [← clrBit_eq_splice, Nat.pow_one] at cleared
  simp [bit, cleared]

theorem bit_clrBit_other (v : Nat) {i j : Nat} (other : j ≠ i) : bit (clrBit v i) j = bit v j := by
  have same : clrBit v i / 2 ^ j % 2 ^ 1 = v / 2 ^ j % 2 ^ 1 := by
    rw [clrBit_eq_splice]
    rcases Nat.lt_or_gt_of_ne other with below | above
    · exact splice_below v i 1 0 j 1 below
    · exact splice_above v i 1 0 j 1 above
  rw [Nat.pow_one] at same
  rw [bit, same, bit]

/-- The word of PMC.OVF that holds the counter's bit, after the clear. -/
theorem State.regN_ctrClear (s : State) (i : Nat) :
    (s.ctrClear i).regN (Reg.PMC.OVF (i / 32)) = clrBit (s.regN (Reg.PMC.OVF (i / 32))) (i % 32) := by
  have word : clrBit (s.regN (Reg.PMC.OVF (i / 32))) (i % 32) < 2 ^ 32 := by
    rw [clrBit_eq_splice]
    exact splice_lt (s.reg (Reg.PMC.OVF (i / 32))).isLt (Nat.mod_lt i (by decide))
  exact (State.regN_setN_same _ _ _).trans (Nat.mod_eq_of_lt word)

/-- The OVF bit of counter `i`. -/
def State.ovfBit (s : State) (i : Nat) : Bool := bit (s.regN (Reg.PMC.OVF (i / 32))) (i % 32)

theorem State.ctr_ctrClear_same (s : State) (i : Nat) : (s.ctrClear i).ctr i = { s.ctr i with val := 0, ovf := false } :=
  tgetD_tputD_same _ _ _ _

theorem State.ctr_ctrClear_other (s : State) {i j : Nat} (other : j ≠ i) : (s.ctrClear i).ctr j = s.ctr j :=
  tgetD_tputD_other _ _ _ _ other

theorem State.ovfBit_ctrClear_same (s : State) (i : Nat) : (s.ctrClear i).ovfBit i = false := by
  rw [State.ovfBit, State.regN_ctrClear, bit_clrBit_same]

theorem State.ovfBit_ctrClear_other (s : State) {i j : Nat} (other : j ≠ i) : (s.ctrClear i).ovfBit j = s.ovfBit j := by
  unfold State.ovfBit
  by_cases sameWord : j / 32 = i / 32
  · rw [sameWord, State.regN_ctrClear, bit_clrBit_other _ (by omega)]
  · rw [State.ctrClear, State.regN_setN_other _ _ (by simp only [Reg.PMC.OVF]; omega)]
    rfl

/-- Counter `i` stands at 0 and its OVF bit is clear, in the counter and in PMC.OVF. -/
def State.ctrIsClear (s : State) (i : Nat) : Prop := (s.ctr i).val = 0 ∧ (s.ctr i).ovf = false ∧ s.ovfBit i = false

theorem State.ctrIsClear_ctrClear_same (s : State) (i : Nat) : (s.ctrClear i).ctrIsClear i := by
  simp [State.ctrIsClear, State.ctr_ctrClear_same, State.ovfBit_ctrClear_same]

/-- A counter that is clear stays so whichever counter is cleared next. -/
theorem State.ctrIsClear.ctrClear {s : State} {i : Nat} (h : s.ctrIsClear i) (j : Nat) : (s.ctrClear j).ctrIsClear i := by
  by_cases same : i = j
  · subst same
    exact s.ctrIsClear_ctrClear_same i
  · rwa [State.ctrIsClear, State.ctr_ctrClear_other s same, State.ovfBit_ctrClear_other s same]

/-- Clearing the counters of a list clears each of them. -/
theorem State.ctrIsClear_foldl {i : Nat} {l : List Nat} (mem : i ∈ l) (s : State) : (l.foldl State.ctrClear s).ctrIsClear i := by
  induction l generalizing s with
  | nil => exact absurd mem List.not_mem_nil
  | cons j l ih =>
    rcases List.mem_cons.1 mem with rfl | later
    · exact List.foldlRecOn (motive := fun t : State => t.ctrIsClear i) l _ (s.ctrIsClear_ctrClear_same i) fun _ clear j _ =>
        clear.ctrClear j
    · exact ih later _

/-- Settles O56: a clear reaches its own counter and its bit of PMC.OVF alone, and CLEAR_ALL is such a clear of each of the 256. -/
theorem counterClears : Obligations.CounterClears := by
  unfold Obligations.CounterClears
  intro s up
  have selected : s.regN Reg.PMC.CSEL % 256 = s.get Fld.PMC.CSEL.V := by simp [State.get, State.regN, Fld.PMC.CSEL.V]
  refine ⟨⟨s.ctrClear (s.get Fld.PMC.CSEL.V), ?clearsSel, rfl, ?sel⟩, s.ctrClearAll, coreGuard_of_coreUp up,
    ?pathsKept, fun i hi => ?all⟩
  case clearsSel => rw [← selected]; exact coreGuard_of_coreUp up
  case sel =>
    obtain ⟨value, ovf, ovfReg⟩ := s.ctrIsClear_ctrClear_same (s.get Fld.PMC.CSEL.V)
    exact ⟨value, ovf, ovfReg, fun i other => s.ctr_ctrClear_other other, fun i _ other => s.ovfBit_ctrClear_other other⟩
  case pathsKept => exact List.foldlRecOn (motive := fun t : State => t.acc = s.acc) _ _ rfl fun _ kept _ _ => kept
  case all => exact State.ctrIsClear_foldl (List.mem_range.2 hi) s

end Sys2Proof.Machine

/-! What a core reset of any cause clears and keeps (R334, R355, R356, R368; log entries 21 and 27). The records that Carillon still
holds are written first (R343), which touches neither the fuses, the flash, the queue nor the pins. -/

namespace Sys2Proof.Machine
open Sys2Proof

/-! ### Sorted tables -/

/-- An entry whose key passes a test of the keys reads the same in the table of those that pass. -/
theorem tget_filter_key {α : Type} {p : Nat → Bool} {k : Nat} (passes : p k = true) (t : Tab α) :
    tget (t.filter fun x => p x.1) k = tget t k := by
  induction t with
  | nil => rfl
  | cons x t ih =>
    obtain ⟨a, y⟩ := x
    by_cases own : a = k
    · subst own
      simp [passes, tget]
    · by_cases kept : p a = true <;> simp [kept, tget, own, ih]

/-- Entries written under other keys leave an entry as it was. -/
theorem tgetD_foldl_tputD_other {α : Type} [DecidableEq α] {d : α} {k : Nat} {l : List (Nat × α)}
    (others : ∀ x ∈ l, k ≠ x.1) (t : Tab α) :
    tgetD (l.foldl (fun t x => tputD t x.1 x.2 d) t) k d = tgetD t k d :=
  List.foldlRecOn (motive := fun u : Tab α => tgetD u k d = tgetD t k d) l _ rfl fun _ same x mem =>
    (tgetD_tputD_other _ _ _ _ (others x mem)).trans same

/-- A register outside those that stay reads its reset value in the file after a core reset. -/
theorem tgetD_regsAfterReset {a : Nat} (cleared : keptAcross a = false) (r : Tab Word) :
    tgetD (regsAfterReset r) a 0 = tgetD regResets a 0 := by
  have others : ∀ x ∈ r.filter fun x => keptAcross x.1, a ≠ x.1 := fun x mem same => by
    simp [← same, cleared] at mem
  rw [regsAfterReset, tgetD_foldl_tputD_other others, tgetD, tget_filter_key (p := fun a => !keptAcross a) (by simp [cleared]), tgetD]

/-! ### The reset -/

theorem SameRest.carDrain {o s : State} (h : SameRest withoutRecords o s) (n : Nat) : SameRest withoutRecords o (s.carDrain n) := by
  induction n generalizing s with
  | zero => exact h
  | succ n ih => exact ih h.carNext

theorem SameRest.carFlush {o s : State} (h : SameRest withoutRecords o s) : SameRest withoutRecords o s.carFlush :=
  .ite (h.unfreeze.carDrain 260) h.unfreeze

theorem State.reg_setN_other (s : State) {a b : Nat} (v : Nat) (h : b ≠ a) : (s.setN a v).reg b = s.reg b :=
  State.reg_setReg_other _ _ h

theorem State.reg_put_other (s : State) {f : FieldAt} {b : Nat} (v : Nat) (h : b ≠ f.reg) : (s.put f v).reg b = s.reg b :=
  State.reg_setReg_other _ _ h

theorem State.reg_off_other (s : State) {f : FieldAt} {b : Nat} (h : b ≠ f.reg) : (s.off f).reg b = s.reg b :=
  State.reg_setReg_other _ _ h

/-- Outside the registers that stay, only the pending word of the tamper sources may differ from its reset value (R325, R355). -/
theorem State.reg_coreResetRaw {a : Nat} (cleared : keptAcross a = false) (notTamper : a ≠ Reg.EVC.PEND 41) (s : State) (k : Nat) :
    (s.coreResetRaw k).reg a = tgetD regResets a 0 := by
  have other {b : Nat} (kept : keptAcross b = true) : a ≠ b := fun same => by simp [← same, cleared] at kept
  have status : a ≠ Reg.FLT.STATUS := other (by decide)
  rw [State.coreResetRaw, State.tamperPend, State.reg_setN_other _ _ notTamper, State.reg_put_other _ _ (other (by decide)),
    State.reg_off_other _ status, State.reg_off_other _ status, State.reg_off_other _ status, State.reg_off_other _ status]
  exact tgetD_regsAfterReset cleared s.regs

theorem State.resetCause_coreResetRaw {k : Nat} (fits : k < 8) (s : State) : (s.coreResetRaw k).get Fld.FLT.RESET_CAUSE.V = k := by
  rw [State.coreResetRaw, State.tamperPend, State.get, State.reg_setN_other _ _ (by decide), ← State.get,
    State.get_put_same _ _ _ (by decide)]
  exact Nat.mod_eq_of_lt fits

/-- Settles O5: the records written first leave what the clauses name; the reset itself is the reset state but for what it takes over. -/
theorem coreResetLeaves : Obligations.CoreResetLeaves := by
  unfold Obligations.CoreResetLeaves
  intro s k cause _
  have flushed : SameRest withoutRecords s s.carFlush := (SameRest.refl _ s).carFlush
  have keeps {α : Type} (f : State → α) :
      f (withoutRecords { s.carFlush with regs := [] }) = f (withoutRecords { s with regs := [] }) := congrArg f flushed
  have registers (a : Nat) (cleared : keptAcross a = false) (notTamper : a ≠ Reg.EVC.PEND 41) :
      (s.coreReset k).reg a = tgetD regResets a 0 := State.reg_coreResetRaw cleared notTamper _ k
  refine ⟨State.resetCause_coreResetRaw cause _, rfl, ?unsealed, rfl, rfl, rfl, keeps State.fuse, keeps State.flash,
    keeps State.pending, keeps fun t => t.aon.porst, keeps fun t => t.aon.pfail, keeps fun t => t.aon.epPerst, registers⟩
  case unsealed =>
    have status : (s.coreReset k).reg Fld.TOP.STATUS.SEALED.reg = 0 :=
      (registers Reg.TOP.STATUS (by decide) (by decide)).trans (by decide +kernel)
    simp [State.flag, State.get, status]

end Sys2Proof.Machine

/-! What a rise and its reactions leave alone (R67, R245, R264, R306, R326 to R333): the queue, the clock, the fuses and the flash, the
layout and its tables, the start-up part with the measurement slots, the paths' latches, Tabor and the switch. -/

namespace Sys2Proof.Machine
open Sys2Proof

/-- A state without what the reactions change besides registers. -/
def withoutReactions (s : State) : State :=
  { withoutFetch (withoutRecords s) with
    mb := State.reset.mb, fr := State.reset.fr, keys := State.reset.keys, dma := State.reset.dma, dram := [], slots := [] }

/-- From `s` to `t` nothing changed but registers and what the reactions to an event change. -/
def Reacts (s t : State) : Prop := SameRest withoutReactions s t

theorem Reacts.refl (s : State) : Reacts s s := rfl

/-- What the reactions leave alone reads as before. -/
theorem Reacts.keeps {α : Type} {s t : State} (h : Reacts s t) (f : State → α) :
    f (withoutReactions { t with regs := [] }) = f (withoutReactions { s with regs := [] }) := congrArg f h

section Reacts
variable {o s : State} (h : Reacts o s)
include h

theorem Reacts.ite {t : State} {p : Prop} [Decidable p] (g : Reacts o t) : Reacts o (if p then s else t) :=
  iteInduction (fun _ => h) fun _ => g

theorem Reacts.foldl {α : Type} {f : State → α → State} (hf : ∀ s x, Reacts o s → Reacts o (f s x)) (l : List α) :
    Reacts o (l.foldl f s) :=
  List.foldlRecOn l f h fun s g x _ => hf s x g

theorem Reacts.records {t : State} (g : SameRest withoutRecords s t) : Reacts o t := (congrArg withoutReactions g).trans h

theorem Reacts.fetches {t : State} (g : SameRest withoutFetch s t) : Reacts o t := (congrArg withoutReactions g).trans h

theorem Reacts.setN (a v : Nat) : Reacts o (s.setN a v) := SameRest.setN h a v

theorem Reacts.put (f : FieldAt) (v : Nat) : Reacts o (s.put f v) := SameRest.put h f v

theorem Reacts.on (f : FieldAt) : Reacts o (s.on f) := h.put _ _

theorem Reacts.off (f : FieldAt) : Reacts o (s.off f) := h.put _ _

theorem Reacts.wr64 (a v : Nat) : Reacts o (s.wr64 a v) := (h.setN _ _).setN _ _

theorem Reacts.putBit64 (a n : Nat) (b : Bool) : Reacts o (s.putBit64 a n b) := h.wr64 _ _

theorem Reacts.emit (e : Emit) : Reacts o (s.emit e) := h

theorem Reacts.modMb (f : Members → Members) : Reacts o (s.modMb f) := h

theorem Reacts.modDma (n : Nat) (f : DmaCh → DmaCh) : Reacts o (s.modDma n f) := h

theorem Reacts.modAon (f : Aon → Aon) : Reacts o (s.modAon f) := h

theorem Reacts.latch (n p2 : Nat) : Reacts o (s.latch n p2) := h.fetches ((SameRest.refl withoutFetch s).latch n p2)

theorem Reacts.evLatch (f : FieldAt) (n p2 : Nat) : Reacts o (s.evLatch f n p2) :=
  h.fetches ((SameRest.refl withoutFetch s).evLatch f n p2)

theorem Reacts.count (e : PmcEv) : Reacts o (s.count e) := h.fetches ((SameRest.refl withoutFetch s).count e)

/-! Shelf-stop (R306). -/

theorem Reacts.perst (n : Nat) (high : Bool) : Reacts o (s.perst n high) := h.modAon _

theorem Reacts.portLeave (n st : Nat) : Reacts o (s.portLeave n st) := by
  have shut := (h.emit (.member n 0 0x14 0 0 [])).ite (p := st = ptQuiescing ∧ s.pt n = ptUp) h
  exact ((((shut.modMb _).modMb _).put _ _).put _ _).putBit64 _ _ _

theorem Reacts.cfgAbandon (n : Nat) : Reacts o (s.cfgAbandon n) := .ite (((h.off _).put _ _).modMb _) h

theorem Reacts.portDrop (n : Nat) : Reacts o (s.portDrop n) :=
  .ite (h.perst n false) (((((h.portLeave n ptOff).put _ _).put _ _).cfgAbandon n).perst n false)

theorem Reacts.pgLost (n : Nat) : Reacts o (s.pgLost n) :=
  .ite (((((h.off _).putBit64 _ _ _).put _ _).evLatch _ _ _).portDrop n) h

theorem Reacts.setCh (n st : Nat) : Reacts o (s.setCh n st) := by
  unfold State.setCh
  exact (((((h.put _ _).put _ _).put _ _).put _ _).putBit64 _ _ _).modAon _

theorem Reacts.stopCh (n : Nat) : Reacts o (s.stopCh n) :=
  .ite ((h.setCh _ _).put _ _) <| .ite ((((((h.setCh _ _).put _ _).modMb _).off _).pgLost n).portDrop n) <|
    .ite ((h.setCh _ _).put _ _) h

theorem Reacts.stopChans (n : Nat) : Reacts o (s.stopChans n) := by
  induction n with
  | zero => exact h
  | succ n ih => exact ih.stopCh n

theorem Reacts.shelfStop0 (why : Nat) : Reacts o (s.shelfStop0 why) := by
  have stopped := ((h.modMb fun m => { m with stopWhy := setBit m.stopWhy why }).stopChans 48).modAon
    (fun a => { a with slotGates := 0, feedGates := 0 })
  exact .ite ((stopped.on _).evLatch _ _ _) stopped

theorem Reacts.evS (f : FieldAt) (n p2 : Nat) : Reacts o (s.evS f n p2) := by
  have latched := (h.on f).latch n p2
  exact .ite (h.on f) (.ite (latched.shelfStop0 3) latched)

theorem Reacts.selftestEnd (code : Nat) : Reacts o (s.selftestEnd code) := by
  unfold State.selftestEnd
  extract_lets op r s1 s2 s3
  have logged : Reacts o s1 := h
  have done : Reacts o s3 := ((logged.setN _ _).modMb _).evS _ _ _
  exact .ite h (.ite done (done.evS _ _ _))

/-! The key slots are emptied (R264, R266). -/

theorem Reacts.importEnd (code : Nat) : Reacts o (s.importEnd code) := by
  have ended : Reacts o (s.modKeys fun k => { k with imp := none }) := h
  have cleared (a : Nat → Nat) {s : State} (g : Reacts o s) (n : Nat) :
      Reacts o ((List.range n).foldl (fun s m => s.setN (a m) 0) s) := g.foldl (fun _ _ g => g.setN _ _) _
  exact ((cleared _ (cleared _ ended 18) 24).put _ _).off _

theorem Reacts.zeroiseAll : Reacts o s.zeroiseAll := by
  unfold State.zeroiseAll
  extract_lets s1
  have ended : Reacts o s1 := .ite ((h.importEnd 8).evS _ _ _) h
  have emptied : Reacts o (s1.modKeys fun k => { k with slots := [], waiting := [] }) := ended
  exact (emptied.put _ _).evS _ _ _

/-! The DMA engine, the data path and the dump (R240, R245, R247, R330, R333). -/

theorem Reacts.dmaPut (n : Nat) (j : Job) (b : List Byte) : Reacts o (s.dmaPut n j b) := by
  unfold State.dmaPut
  extract_lets s1
  have stored : Reacts o (s.dramWrite (j.d.dst + j.written) b) := h
  have sent := h.emit (.dma n j.d.dspace (if j.d.dspace = 2 then j.d.line else j.d.dst + j.written) b)
  have written : Reacts o s1 := .ite stored sent
  exact (written.wr64 _ _).count _

theorem Reacts.dmaWrite1 (n : Nat) : Reacts o (s.dmaWrite1 n) := by
  unfold State.dmaWrite1
  split
  · exact h
  · dsimp only
    split
    · exact (h.modDma _ _).put _ _
    · exact (((h.modDma _ _).dmaPut _ _ _).modDma _ _).put _ _

theorem Reacts.dmaDrain (n k : Nat) : Reacts o (s.dmaDrain n k) := by
  induction k generalizing s with
  | zero => exact h
  | succ k ih => exact ih (h.dmaWrite1 n)

theorem Reacts.dmaBackAll (code : Nat) (l : List Job) : Reacts o (s.dmaBackAll code l) :=
  h.foldl (fun s j g => .ite g (show Reacts o (s.dmaBack j code) from g)) l

theorem Reacts.setDma (n st : Nat) : Reacts o (s.setDma n st) := ((h.put _ _).setN _ _).setN _ _

theorem Reacts.dmaHalt1 (n : Nat) : Reacts o (s.dmaHalt1 n) := by
  have back := (h.dmaDrain n (s.dmaCh n).bursts.length).dmaBackAll 0x3F
  refine .ite h ?_
  exact ((((((((back _).modDma _ _).setDma _ _).put _ _).put _ _).evS _ _ _).evS _ _ _).evS _ _ _)

theorem Reacts.dmaHalt (n : Nat) : Reacts o (s.dmaHalt n) := by
  induction n with
  | zero => exact h
  | succ n ih => exact ih.dmaHalt1 n

theorem Reacts.dpHalt : Reacts o s.dpHalt := (((h.on _).on _).evS _ _ _).dmaHalt 32

theorem Reacts.dumpStart : Reacts o s.dumpStart := by
  have dumps := h.modAon (fun a => { a with dumpPhase := 2 })
  have released := dumps.records (SameRest.refl withoutRecords _).unfreeze
  exact .ite released released

theorem Reacts.classB (n : Nat) : Reacts o (s.classB n) := by
  have halted := (h.modAon (fun a => { a with squelched := true })).dmaHalt 32
  exact .ite h (.ite (halted.modAon (fun a => { a with dumpPhase := 1 })) halted.dumpStart)

/-- A rise is latched; by its class follow a shelf-stop, emptied key slots, a halt, the dump and the end of a self-test (R67, R330). -/
theorem Reacts.raise (n p2 : Nat) : Reacts o (s.raise n p2) := by
  unfold State.raise
  extract_lets act cls s1 s2 s3 s4 s5
  have latched : Reacts o s1 := h.latch n p2
  have stopped : Reacts o s2 := .ite ((latched.shelfStop0 3).selftestEnd 5) latched
  have zeroised : Reacts o s3 := .ite stopped.zeroiseAll stopped
  have halted : Reacts o s4 := .ite zeroised.dpHalt (.ite (zeroised.on _) zeroised)
  have dumps : Reacts o s5 := .ite (halted.classB n) halted
  exact .ite (dumps.selftestEnd 5) dumps

theorem Reacts.event (f : FieldAt) (n p2 : Nat) : Reacts o (s.event f n p2) := .ite (h.on f) ((h.on f).raise n p2)

end Reacts

end Sys2Proof.Machine

/-! The start sequence, the seal and the CFG commands (R357, R363, R364, R366 to R368, R371 to R373, R397, R399; log entries 21, 97 to
100, 115, 118 and 121). -/

namespace Sys2Proof.Machine
open Sys2Proof

/-! ### The start sequence -/

/-- What training shows of each channel (R397). -/
def State.channelsTrained (s : State) (us : Nat) : State :=
  (List.range 2).foldl (fun s h =>
    (s.setN (Reg.DDC_C.STATUS h) 3).setN (Reg.DDC_C.TRAIN_RESULT h) (us % 65536 + 65536 * b2n (s.boot.trainFails != 0))) s

theorem State.ddrTrained_eq (s : State) (mib us : Nat) :
    s.ddrTrained mib us
      = ((((((s.setN Reg.DDC.STATUS 7).put Fld.DDC.SIZE.V mib).put Fld.TOP.DRAM_FITTED.V mib).channelsTrained us).on
          Fld.CLK.STATUS.DDR_LOCK).modBoot fun b => { b with phase := if b.phase = 3 then 4 else b.phase }) := rfl

theorem State.get_modBoot (s : State) (f : Boot → Boot) (g : FieldAt) : (s.modBoot f).get g = s.get g := rfl

/-- The channels' registers hold none of the fields elsewhere. -/
theorem State.get_channelsTrained {f : FieldAt}
    (elsewhere : ∀ h < 2, f.reg ≠ Reg.DDC_C.STATUS h ∧ f.reg ≠ Reg.DDC_C.TRAIN_RESULT h) (s : State) (us : Nat) :
    (s.channelsTrained us).get f = s.get f := by
  refine List.foldlRecOn (motive := fun t : State => t.get f = s.get f) _ _ rfl fun t same h mem => ?shown
  obtain ⟨status, result⟩ := elsewhere h (List.mem_range.1 mem)
  rw [State.get, State.reg_setN_other _ _ result, State.reg_setN_other _ _ status, ← State.get, same]

theorem State.ddrTrained_trained (s : State) (mib us : Nat) : (s.ddrTrained mib us).flag Fld.DDC.STATUS.TRAINED = true := by
  have shown : (s.setN Reg.DDC.STATUS 7).get Fld.DDC.STATUS.TRAINED = 1 := by
    simp [State.get, State.setN, Fld.DDC.STATUS.TRAINED]
  rw [State.flag, State.ddrTrained_eq, State.get_modBoot, State.on, State.get_put_other _ _ _ _ (by decide) (by decide),
    State.get_channelsTrained (by decide), State.get_put_other _ _ _ _ (by decide) (by decide),
    State.get_put_other _ _ _ _ (by decide) (by decide), shown]
  rfl

theorem State.ddrTrained_locked (s : State) (mib us : Nat) : (s.ddrTrained mib us).flag Fld.CLK.STATUS.DDR_LOCK = true := by
  rw [State.flag, State.ddrTrained_eq, State.get_modBoot, State.on, State.get_put_same _ _ _ (by decide)]
  rfl

theorem State.ddrTrained_fitted (s : State) (mib us : Nat) :
    (s.ddrTrained mib us).get Fld.TOP.DRAM_FITTED.V = mib % 2 ^ Fld.TOP.DRAM_FITTED.V.w := by
  rw [State.ddrTrained_eq, State.get_modBoot, State.on, State.get_put_other _ _ _ _ (by decide) (by decide),
    State.get_channelsTrained (by decide), State.get_put_same _ _ _ (by decide)]

/-- Training ends step 7 of the start sequence once the image is verified, and leaves step 6 as it is (R364; log entry 121). -/
theorem State.ddrTrained_phase (s : State) (mib us : Nat) :
    (s.ddrTrained mib us).boot.phase = if s.boot.phase = 3 then 4 else s.boot.phase := rfl

/-- A training's end is taken while the image is checked or after, until the DRAM is trained or has failed twice (R397, R399). -/
theorem exec_ddrTrainingDone {s : State} (up : s.aon.coreUp = true) (going : s.stopped = false)
    (untrained : s.flag Fld.DDC.STATUS.TRAINED = false) (tries : s.boot.trainFails < 2) (phase : s.boot.phase = 2 ∨ s.boot.phase = 3)
    (ok : Bool) (mib us : Nat) :
    exec (.ddrTrainingDone ok mib us) s = .next (if ok then s.ddrTrained mib us else s.ddrFailed.settle) := by
  refine congrArg Host.Outcome.next (if_neg ?_)
  rintro (down | halted | trained | failed | other)
  · exact down up
  · simp [going] at halted
  · simp [untrained] at trained
  · exact Nat.not_le.2 tries failed
  · exact other (phase.imp_right Or.inl)

/-- A first failed training only counts (R399). -/
theorem State.ddrFailed_first {s : State} (first : s.boot.trainFails = 0) : s.ddrFailed.boot = { s.boot with trainFails := 1 } := by
  simp [State.ddrFailed, State.fresh, List.range_succ, first]

/-- A replay that finds a table store and a keeper that yields it (R134, R135, R143). -/
theorem State.replay_of_store {s : State} {tb : Tables} {q : Nat} {fixed : List Nat} (phase : s.boot.phase = 7) (laid : s.lay.isSome = true)
    (up : s.aon.coreUp = true) (going : s.stopped = false) (store : (s.linesRetire fixed).tableStore = some (tb, q)) (holds : Bool)
    (bad : List Nat) :
    s.replay true holds fixed bad =
      if (s.linesRetire fixed).mirrorOn ∧ ¬ holds then ((s.linesRetire fixed).rejoin tb q).replayEnd q holds
      else if (s.linesRetire fixed).garnetLost then ((s.linesRetire fixed).restore tb q).replayEnd q holds
      else ((s.linesRetire fixed).replayRing tb q bad).replayEnd q holds := by
  have goes : ¬(s.boot.phase ≠ 7 ∨ s.lay.isNone ∨ ¬s.aon.coreUp ∨ s.stopped) := by
    simp [phase, up, going, Option.isSome_iff_ne_none.1 laid]
  simp only [State.replay, if_neg goes, store, not_true_eq_false, if_false]

/-- Settles O7: each command finds the phase that its step names; what a training shows is read back from its registers. -/
theorem startSequence : Obligations.StartSequence := by
  unfold Obligations.StartSequence
  intro s up going
  have runs {o : Host.Outcome State Fault Refusal} : (if ¬ s.aon.coreUp then .next s else o) = o := coreGuard_of_coreUp up
  have notStopped : ¬s.stopped = true := by simp [going]
  refine ⟨fun fu fl phase => congrArg Host.Outcome.next (if_pos ⟨up, phase, notStopped⟩),
    fun phase => congrArg Host.Outcome.next (if_pos ⟨up, phase, notStopped⟩), fun mib us untrained tries phase => ?trains,
    fun mib us untrained none phase => ?fails, fun strips met phase => congrArg Host.Outcome.next (if_pos ⟨up, phase, notStopped⟩),
    fun hold unsealed => runs.trans ?seals, fun present _ _ => runs,
    fun tb q holds fixed bad phase laid store => ⟨fun alone kept => runs.trans ?replays, fun alone lost => runs.trans ?restores,
      fun mirror partner => runs.trans ?rejoins⟩⟩
  case trains =>
    refine ⟨s.ddrTrained mib us, exec_ddrTrainingDone up going untrained tries phase true mib us, s.ddrTrained_trained mib us,
      s.ddrTrained_locked mib us, s.ddrTrained_fitted mib us, ?_⟩
    rcases phase with checking | verified
    · simp [State.ddrTrained_phase, checking]
    · simp [State.ddrTrained_phase, verified]
  case fails => exact ⟨s.ddrFailed, exec_ddrTrainingDone up going untrained (by omega) phase false mib us, State.ddrFailed_first none⟩
  case seals => rw [State.sealGo, if_pos ⟨hold, by simp [unsealed]⟩]
  case replays =>
    have notPartner : ¬((s.linesRetire fixed).mirrorOn = true ∧ ¬holds = true) := by rcases alone with h | h <;> simp [h]
    rw [State.replay_of_store phase laid up going store, if_neg notPartner, if_neg (by simp [kept])]
  case restores =>
    have notPartner : ¬((s.linesRetire fixed).mirrorOn = true ∧ ¬holds = true) := by rcases alone with h | h <;> simp [h]
    rw [State.replay_of_store phase laid up going store, if_neg notPartner, if_pos lost]
  case rejoins => rw [State.replay_of_store phase laid up going store, if_pos ⟨mirror, by simp [partner]⟩]

/-! ### The seal -/

/-- The seal extends slot 7; the event SEALED and its reactions leave the slots alone (R368, R372). -/
theorem State.sealSet_msl (s : State) :
    s.sealSet.boot.msl = s.boot.msl.modify 7 fun m => Config.sha384 (digBytes m ++ digBytes (Config.sha384 (ascii "SEAL"))) :=
  ((Reacts.refl _).event Fld.TOP.EVENT.SEALED 4 0).keeps fun t => t.boot.msl

/-- An extended slot of the measurement slots. -/
theorem msl_modify_same {l : List Digest} {n : Nat} (f : Digest → Digest) (h : n < l.length) : (l.modify n f).getD n 0 = f (l.getD n 0) := by
  simp [h]

/-- A slot other than the one extended. -/
theorem msl_modify_other (l : List Digest) {n m : Nat} (f : Digest → Digest) (other : m ≠ n) : (l.modify n f).getD m 0 = l.getD m 0 := by
  simp [Ne.symm other]

/-- Settles O8: slot 7 of the 16 is extended; a seal that is set already is not set again. -/
theorem sealExtendsSlotSeven : Obligations.SealExtendsSlotSeven := by
  unfold Obligations.SealExtendsSlotSeven
  intro s slots
  refine ⟨?seven, fun n other => ?others, fun up sealed => (coreGuard_of_coreUp up).trans ?again⟩
  case seven => rw [State.sealSet_msl, msl_modify_same _ (by omega)]
  case others => rw [State.sealSet_msl, msl_modify_other _ _ other]
  case again => rw [State.sealGo, if_neg fun sets => sets.2 sealed]

/-! ### The CFG commands -/

section Idle
variable {s : State} (idle : s.flag Fld.CFG.CMD_RESULT.BUSY = false)
include idle

/-- A write of CFG.CMD with no command in progress starts EXTEND of the slot in ARG, in failsafe mode too (R366, R371, R373). -/
theorem State.cfgCommand_extend {n : Nat} (arg : n < 16) : s.cfgCommand (1 + 16 * (n % 16)) = s.cfgExtend n := by
  have op : (1 + 16 * (n % 16)) % 16 = 1 := by omega
  have slot : bits (1 + 16 * (n % 16)) 4 4 = n := by simp only [bits]; omega
  simp [State.cfgCommand, idle, op, slot]

theorem State.cfgCommand_stage : s.cfgCommand 2 = s.cfgStage := by simp [State.cfgCommand, idle]

theorem State.cfgCommand_activate : s.cfgCommand 3 = (s.coreReset 5).setN Reg.CFG.COPY 0 := by simp [State.cfgCommand, idle]

/-- In failsafe mode RAISE_SVN and OWNER_FUSE are refused (R366; log entry 98). -/
theorem State.cfgCommand_failsafe (failsafe : s.get Fld.TOP.STATUS.MODE = 2) {op : Nat} (h : op = 4 ∨ op = 5) :
    s.cfgCommand op = s.cfgCode 1 := by
  have refused : 3 < op % 16 := by omega
  simp [State.cfgCommand, idle, failsafe, refused]

variable (normal : s.get Fld.TOP.STATUS.MODE ≠ 2)
include normal

theorem State.cfgCommand_raise : s.cfgCommand 4 = s.cfgRaise := by simp [State.cfgCommand, idle, normal]

theorem State.cfgCommand_owner : s.cfgCommand 5 = s.cfgOwner := by simp [State.cfgCommand, idle, normal]

end Idle

/-- EXTEND of a slot from 12 to 15 (R373). -/
theorem State.cfgExtend_of_open {n : Nat} (low : 12 ≤ n) (high : n < 16) (s : State) :
    s.cfgExtend n = (s.mslExtend n (digOf s.cfgData)).put Fld.CFG.CMD_RESULT.CODE 0 :=
  if_neg (by omega)

/-- EXTEND of a slot below 12 (R373). -/
theorem State.cfgExtend_of_reserved {n : Nat} (h : n < 12) (s : State) : s.cfgExtend n = s.put Fld.CFG.CMD_RESULT.CODE 2 :=
  if_pos (Or.inl h)

/-- RAISE_SVN of verified firmware (R371). -/
theorem State.cfgRaise_of_verified {s : State} {f : Fuses} (fused : s.fuse = some f) (verified : s.flag Fld.CFG.STATUS.FW_VERIFIED = true) :
    s.cfgRaise = ((s.setFuse { f with svnFloor := max f.svnFloor (s.get Fld.CFG.SVN.FW_SVN) }).put
      Fld.CFG.SVN.FLOOR (max f.svnFloor (s.get Fld.CFG.SVN.FW_SVN))).put Fld.CFG.CMD_RESULT.CODE 0 := by
  simp only [State.cfgRaise, fused, verified, not_true_eq_false, if_false, State.cfgCode]

/-- OWNER_FUSE with no owner hash fused (R371). -/
theorem State.cfgOwner_of_none {s : State} {f : Fuses} (fused : s.fuse = some f) (unowned : f.ownerHash = none) :
    s.cfgOwner = ((s.setFuse { f with ownerHash := some (digOf s.cfgData) }).on Fld.CFG.STATUS.OWNER_SET).put
      Fld.CFG.CMD_RESULT.CODE 0 := by
  simp only [State.cfgOwner, fused, unowned, Option.isSome_none, Bool.false_eq_true, if_false, State.cfgCode]

/-- OWNER_FUSE with an owner hash fused (R371). -/
theorem State.cfgOwner_of_some {s : State} {f : Fuses} (fused : s.fuse = some f) (owned : f.ownerHash.isSome = true) :
    s.cfgOwner = s.put Fld.CFG.CMD_RESULT.CODE 7 := by
  simp only [State.cfgOwner, fused, owned, if_true, State.cfgCode]

/-- STAGE with `top` the end of the memory that the image lies in and `img` the image read from there (R367, R371). -/
theorem State.cfgStage_of_fused {s : State} {f : Fuses} {a n top : Nat} {img : List Byte} (fused : s.fuse = some f)
    (ha : a = s.rd64 Reg.CFG.UPD_ADDR_LO) (hn : n = s.get Fld.CFG.UPD_LEN.V)
    (htop : top = if s.flag Fld.DDC.STATUS.TRAINED = true then s.get Fld.TOP.DRAM_FITTED.V * 2 ^ 20 else 2 ^ 25)
    (himg : img = if s.flag Fld.DDC.STATUS.TRAINED = true then s.dramRead a n else memGetAll s.boot.buffer a n) :
    s.cfgStage = if top < a + n then s.put Fld.CFG.CMD_RESULT.CODE 8
      else if s.stageCheck f img ≠ 0 then s.put Fld.CFG.CMD_RESULT.CODE (stageCode (s.stageCheck f img))
      else ((s.modBoot fun b => { b with stage := some (img, s.stageCopy) }).put Fld.CFG.CMD_RESULT.CODE 0).on
        Fld.CFG.CMD_RESULT.BUSY := by
  subst ha hn htop himg
  simp only [State.cfgStage, fused, State.cfgCode]

/-- The flash after the image `img` is staged to copy `c` (R371). -/
def stagedFlash (fl : FlashImage) (c : Nat) (img : List Byte) : FlashImage :=
  { fl with
    dir0 := nextDir fl c img
    dir1 := nextDir fl c img
    imgA := if c = 0 then img ++ fl.imgA.drop img.length else fl.imgA
    imgB := if c = 0 then fl.imgB else img ++ fl.imgB.drop img.length }

section Staged
variable {s : State} {img : List Byte} {c : Nat} {fl : FlashImage} (staged : s.boot.stage = some (img, c)) (flash : s.flash = some fl)
include staged flash

/-- The end of a programming that succeeds (R371). -/
theorem State.stageDone_ok :
    s.stageDone true = (((((s.modBoot fun b => { b with stage := none }).off Fld.CFG.CMD_RESULT.BUSY).setFlash (stagedFlash fl c img)).emit
      (.flashWrite c img)).put Fld.CFG.CMD_RESULT.CODE 0) := by
  simp only [State.stageDone, staged, flash, if_true, State.cfgCode, stagedFlash]

/-- The end of a programming that fails (R371). -/
theorem State.stageDone_failed :
    s.stageDone false = ((((s.modBoot fun b => { b with stage := none }).off Fld.CFG.CMD_RESULT.BUSY).put Fld.CFG.CMD_RESULT.CODE 6).satInc
      ⟨Reg.SIO.SPI_ERR, 0, 32⟩).event Fld.SIO.EVENT.SPI_ERROR 1396 := by
  simp only [State.stageDone, staged, flash, Bool.false_eq_true, if_false, State.cfgCode]

end Staged

/-- Settles O9: with no command in progress each write of CFG.CMD starts its command, whose conditions pick the branch. -/
theorem configurationCommands : Obligations.ConfigurationCommands := by
  unfold Obligations.ConfigurationCommands
  intro s f up fused
  have starts {t : State} : (if s.aon.coreUp then .next t else .next s : Host.Outcome State Fault Refusal) = .next t := if_pos up
  refine ⟨fun idle => ⟨fun n low high => starts.trans ?opened, fun n reserved => starts.trans ?reserved,
      fun a n top img ha hn htop himg => ⟨fun beyond => starts.trans ?beyond, fun inside => starts.trans ?stages⟩, starts.trans ?activates,
      fun normal verified => starts.trans ?raises, fun normal unowned => starts.trans ?fuses, fun normal owned => starts.trans ?owned,
      fun failsafe => ⟨starts.trans ?raiseRefused, starts.trans ?fuseRefused⟩⟩,
    fun img c fl staged flash => ⟨⟨s.stageDone true, coreGuard_of_coreUp up, ?programmed⟩, (coreGuard_of_coreUp up).trans ?failed⟩⟩
  case opened => rw [State.cfgCommand_extend idle high, State.cfgExtend_of_open low high]
  case reserved => rw [State.cfgCommand_extend idle (by omega), State.cfgExtend_of_reserved reserved]
  case beyond => rw [State.cfgCommand_stage idle, State.cfgStage_of_fused fused ha hn htop himg, if_pos beyond]
  case stages => rw [State.cfgCommand_stage idle, State.cfgStage_of_fused fused ha hn htop himg, if_neg (Nat.not_lt.2 inside)]
  case activates => rw [State.cfgCommand_activate idle]
  case raises => rw [State.cfgCommand_raise idle normal, State.cfgRaise_of_verified fused verified]
  case fuses => rw [State.cfgCommand_owner idle normal, State.cfgOwner_of_none fused unowned]
  case owned => rw [State.cfgCommand_owner idle normal, State.cfgOwner_of_some fused owned]
  case raiseRefused | fuseRefused => rw [State.cfgCommand_failsafe idle failsafe (by decide), State.cfgCode]
  case programmed =>
    rw [State.stageDone_ok staged flash]
    refine ⟨rfl, rfl, State.get_put_same _ _ _ (by decide), ?_⟩
    rw [State.flag, State.get_put_other _ _ _ _ (by decide) (by decide)]
    exact congrArg (· != 0) (State.get_put_same _ Fld.CFG.CMD_RESULT.BUSY 0 (by decide))
  case failed => rw [State.stageDone_failed staged flash]

/-- Settles O55: EXTEND of an open slot is one extension of that slot, which CFG.MSL_DATA then shows; of a reserved slot it is a
result code alone. -/
theorem extendChangesOneSlotWhole : Obligations.ExtendChangesOneSlotWhole := by
  unfold Obligations.ExtendChangesOneSlotWhole
  intro s up idle slots
  have extending {n : Nat} (arg : n < 16) : exec (.cfgExtend n) s = .next (s.cfgExtend n) := by
    rw [← State.cfgCommand_extend idle arg]
    exact if_pos up
  refine ⟨fun n low high => ⟨s.cfgExtend n, extending high, ?_⟩, fun n reserved => ⟨s.cfgExtend n, extending (by omega), ?_⟩⟩
  · rw [State.cfgExtend_of_open low high]
    refine ⟨msl_modify_same _ (by omega), fun m other => msl_modify_other _ _ other, fun m selected => ?_⟩
    rw [State.mslData, State.get_put_other _ _ _ _ (by decide) (by decide)]
    rw [show (s.mslExtend n (digOf s.cfgData)).get Fld.CFG.MSL_SELECT.V = n from selected]
  · rw [State.cfgExtend_of_reserved reserved]
    rfl

end Sys2Proof.Machine

/-! SPDM requests and MCTP control commands: how they are answered, and what they leave unchanged (R374 to R377; log entries 102 to
104). -/

namespace Sys2Proof.Machine
open Sys2Proof

/-! ### What a request leaves unchanged -/

/-- The start-up part without what it remembers of requesters, and without the endpoint identifiers. -/
def Boot.withoutRequesters (b : Boot) : Boot := { b with spdm := [], resynch := [], eid := [], tick := 0 }

/-- A state without what a request may change besides registers. -/
def withoutRequests (s : State) : State := { s with boot := s.boot.withoutRequesters, emitted := [], freeCtr := 0 }

/-- From `s` to `t` nothing changed but CFG.SPDM and what a request may change. -/
structure Attested (s t : State) : Prop where
  rest : SameRest withoutRequests s t
  regs : ∀ a : Nat, a ≠ Reg.CFG.SPDM → t.reg a = s.reg a

theorem Attested.refl (s : State) : Attested s s := ⟨.refl _ s, fun _ _ => rfl⟩

section Attested
variable {o s : State} (h : Attested o s)
include h

theorem Attested.ite {t : State} {p : Prop} [Decidable p] (g : Attested o t) : Attested o (if p then s else t) :=
  iteInduction (fun _ => h) fun _ => g

theorem Attested.emit (e : Emit) : Attested o (s.emit e) := ⟨h.rest, h.regs⟩

theorem Attested.freshBytes (k : Nat) : Attested o (s.freshBytes k).2 := ⟨h.rest, h.regs⟩

theorem Attested.modBoot (f : Boot → Boot) (requesters : ∀ b, (f b).withoutRequesters = b.withoutRequesters) :
    Attested o (s.modBoot f) :=
  ⟨h.rest.trans (congrArg (fun b => ({ withoutRequests { s with regs := [] } with boot := b } : State)) (requesters s.boot)), h.regs⟩

/-- CFG.SPDM shows something else. -/
theorem Attested.put {f : FieldAt} (own : f.reg = Reg.CFG.SPDM) (v : Nat) : Attested o (s.put f v) :=
  ⟨h.rest.put f v, fun a other => (State.reg_put_other s v (own ▸ other)).trans (h.regs a other)⟩

theorem Attested.mctp (k cmd code : Nat) (l : List Byte) : Attested o (s.mctp k cmd code l) := (h.emit _).ite h

theorem Attested.setSpdm (k : Nat) (x : Spdm) : Attested o (s.setSpdm k x) :=
  ((h.modBoot _ fun _ => by rfl).put (by rfl) _).put (by rfl) _

/-- An answer takes a nonce, and a signature of it is counted, or neither. -/
theorem Attested.spdmBody (r : SpdmReq) : Attested o (s.spdmBody r).2 := by
  have nonce : Attested o s.spdmNonce.2 := h.freshBytes 13
  have signed : Attested o (s.spdmNonce.2.satInc Fld.CFG.SPDM.SIGNED) := nonce.put rfl _
  cases r with
  | getVersion | getCapabilities | getDigests => exact h
  | negotiate p384 sha384 =>
    rw [State.spdmBody, apply_ite Prod.snd]
    exact h.ite h
  | getCertificate slot off len =>
    rw [State.spdmBody, apply_ite Prod.snd]
    exact h.ite h
  | challenge slot n =>
    rw [State.spdmBody, apply_ite Prod.snd]
    exact h.ite signed
  | getMeasurements index sign n =>
    rw [State.spdmBody, apply_ite Prod.snd]
    refine h.ite ?_
    rw [apply_ite Prod.snd]
    exact signed.ite nonce

/-- A request is answered in its context, the answer sent or held, or asks for a resynchronisation. -/
theorem Attested.spdmRequest (carrier sender : Nat) (r : SpdmReq) : Attested o (s.spdmRequest carrier sender r) := by
  unfold State.spdmRequest
  extract_lets -lift hold key
  have held {u : State} (g : Attested o u) (k : Nat) (x : Spdm) (a : SpdmResp) : Attested o (hold u k x a) :=
    ((g.setSpdm _ _).emit _).ite ((g.setSpdm _ _).modBoot _ fun _ => by rfl)
  clear_value key
  cases key with
  | none => exact h.modBoot _ fun _ => by rfl
  | some k => exact (held h _ _ _).ite (held (h.spdmBody r) _ _ _)

end Attested

/-- A request that arrives from a controller that is ready, or on another carrier than the NVMe one (R53). -/
theorem State.spdmArrive_of_ready {s : State} {carrier sender : Nat} (ready : carrier = 2 → s.ctrlReady sender = true) (r : SpdmReq) :
    s.spdmArrive carrier sender r = if s.carrierUp carrier sender then s.spdmRequest carrier sender r else s :=
  if_neg fun ⟨nvme, _, notReady⟩ => notReady (ready nvme)

theorem Attested.spdmArrive {s : State} {carrier sender : Nat} (ready : carrier = 2 → s.ctrlReady sender = true) (r : SpdmReq) :
    Attested s (s.spdmArrive carrier sender r) := by
  rw [State.spdmArrive_of_ready ready]
  exact ((Attested.refl s).spdmRequest carrier sender r).ite (.refl s)

/-- A command of Instr.attests whose controller, if it names one, is ready. -/
theorem exec_attests {c : Instr} {s : State} (hc : c.attests = true) (ready : ∀ id : Nat, c.adminSender = some id → s.ctrlReady id = true) :
    NextHas (Attested s) (exec c s) := by
  have same := Attested.refl s
  cases c
  case setEndpointId => exact .guard same (.ite (same.mctp _ _ _ _) (.ite ((same.modBoot _ fun _ => by rfl).mctp _ _ _ _) same))
  case challenge | getCapabilities | getCertificate | getDigests | getMeasurements | getVersion | negotiateAlgorithms =>
    exact .guard same (.spdmArrive (fun nvme => ready _ (if_pos nvme)) _)
  all_goals exact absurd hc Bool.false_ne_true

/-- Settles O58: what withoutRequests leaves is the same before and after, and the parts it takes out are those of the next state. -/
theorem frameOfAttestationRequests : Obligations.FrameOfAttestationRequests := by
  unfold Obligations.FrameOfAttestationRequests
  intro c s t hc ready h
  have attested := exec_attests hc ready
  rw [h] at attested
  obtain ⟨rest, regs⟩ := attested
  exact ⟨rest.restored fun u => { u with
    boot := { u.boot with spdm := t.boot.spdm, resynch := t.boot.resynch, eid := t.boot.eid, tick := t.boot.tick }
    regs := t.regs, emitted := t.emitted, freeCtr := t.freeCtr }, regs⟩

/-! ### The answers -/

/-- An MCTP control command on a carrier that reaches the part is answered (R376). -/
theorem State.mctp_of_up {s : State} {carrier : Nat} (mctp : carrier < 2) (reaches : s.carrierUp carrier 0 = true) (cmd code : Nat)
    (l : List Byte) : s.mctp carrier cmd code l = s.emit (.spdm carrier cmd code l) :=
  if_pos ⟨mctp, reaches⟩

/-- Settles O11: the carrier is up, and its controller, where it has one, is ready. -/
theorem attestationRequests : Obligations.AttestationRequests := by
  unfold Obligations.AttestationRequests
  intro s up
  have runs {o : Host.Outcome State Fault Refusal} : (if ¬ s.aon.coreUp then .next s else o) = o := coreGuard_of_coreUp up
  refine ⟨fun carrier sender reaches ready => ?spdm,
    fun carrier mctp reaches => ⟨fun eid low high => runs.trans ?setEid, runs.trans ?eid, runs.trans ?uuid, runs.trans ?versions,
      runs.trans ?types⟩,
    fun cntlid cid sgl c r found enabled keyed => runs.trans ?send,
    fun cntlid cid alloc k sgl c x found enabled keyed inStep held context => runs.trans ?receive⟩
  case spdm =>
    have answers (r : SpdmReq) : (if ¬ s.aon.coreUp then .next s else .next (s.spdmArrive carrier sender r) :
        Host.Outcome State Fault Refusal) = .next (s.spdmRequest carrier sender r) := by
      rw [runs, State.spdmArrive_of_ready ready, if_pos reaches]
    exact ⟨answers _, answers _, fun _ _ => answers _, answers _, fun _ _ _ => answers _, fun _ _ => answers _, fun _ _ _ => answers _⟩
  case setEid =>
    have inRange : ¬(eid < 8 ∨ 254 < eid) := by omega
    rw [if_neg inRange, if_pos ⟨mctp, reaches⟩, State.mctp_of_up (s := s.modBoot _) mctp reaches]
  case eid | uuid | types => rw [State.mctp_of_up mctp reaches]
  case versions => rw [if_pos (by decide), State.mctp_of_up mctp reaches]
  case send => rw [State.adminData_of_ready found enabled keyed]
  case receive => simp only [State.adminData_of_ready found enabled keyed, if_neg inStep, held, context]

end Sys2Proof.Machine

/-! Accesses to the registers, with the registers of slots that x4 mode does not use (R5, R311, R320 to R322, R387 to R394; log
entries 108 and 136). -/

namespace Sys2Proof.Machine
open Sys2Proof

/-! ### Registers of slots that x4 mode does not use (R390) -/

/-- The offsets of the registers of slots 24 to 47, in DRP_Pn and in SLP_Cn. -/
def UpperSlotReg (a : Nat) : Prop := (0x298000 ≤ a ∧ a < 0x2B0000) ∨ (0x301600 ≤ a ∧ a < 0x301C00)

/-- In x4 mode they are hidden. -/
theorem State.hidden_of_upperSlotReg {s : State} {a : Nat} (x4 : s.flag Fld.DRP.MODE.X4 = true) (upper : UpperSlotReg a) :
    s.hidden a = true := by
  simpa [State.hidden, x4, UpperSlotReg] using upper

/-- No pair lies there. -/
theorem UpperSlotReg.not_pairLow {a : Nat} (upper : UpperSlotReg a) : isPairLow a = false := by
  have fixedPairs : ∀ x ∈ pairLows, ¬((0x298000 ≤ x ∧ x < 0x2B0000) ∨ (0x301600 ≤ x ∧ x < 0x301C00)) := by decide
  have notFixed : a ∉ pairLows := fun mem => fixedPairs a mem upper
  have notPort (n : Nat) (hn : n < 7) : a ≠ Reg.FAB_E.MAC_LO n := by
    simp only [UpperSlotReg, Reg.FAB_E.MAC_LO] at *; omega
  have notChannel (n : Nat) (hn : n < 32) : a ≠ Reg.DMA_C.HEAD_LO n ∧ a ≠ Reg.DMA_C.CUR_DESC_LO n := by
    simp only [UpperSlotReg, Reg.DMA_C.HEAD_LO, Reg.DMA_C.CUR_DESC_LO] at *; omega
  have notDram (n : Nat) (hn : n < 2) : a ≠ Reg.DDC_C.ERR_ADDR_LO n ∧ a ≠ Reg.DDC_C.PATROL_POS_LO n := by
    simp only [UpperSlotReg, Reg.DDC_C.ERR_ADDR_LO, Reg.DDC_C.PATROL_POS_LO] at *; omega
  simp only [isPairLow, Bool.or_eq_false_iff, decide_eq_false_iff_not, List.any_eq_false, List.mem_range, Bool.or_eq_true, beq_iff_eq,
    not_or]
  exact ⟨⟨⟨notFixed, notPort⟩, notChannel⟩, notDram⟩

/-- No other register lies there. -/
theorem UpperSlotReg.not_raw {a : Nat} (upper : UpperSlotReg a) : instIn a (Reg.SIO_G.RAW 0) 0x100 4 = none := by
  have below : a < Reg.SIO_G.RAW 0 := by simp only [UpperSlotReg, Reg.SIO_G.RAW] at *; omega
  simp [instIn, Nat.not_le.2 below]

/-- With nothing held on the path an access begins in the state as it stands (R393). -/
theorem State.flushFor_of_none {s : State} {p : Path} (free : s.held_ p = none) (w : Bool) (a : Nat) : s.flushFor p w a = s := by
  simp only [State.flushFor, free]

section Hidden
variable {s : State} {p : Path} {a : Nat} {r : RegRow} (row : rowAt a = some r) (hidden : s.hidden a = true)
  (free : s.held_ p = none)
include row hidden free

/-- A write of a hidden register does nothing (R390). -/
theorem State.writeDword_hidden (unlocked : s.lockedOut p a = false) (v : Nat) : s.writeDword p a v = (false, s) := by
  simp only [State.writeDword, State.flushFor_of_none free, unlocked, row, hidden, Bool.false_eq_true, if_false, if_true]

/-- A read of a hidden register, of whose pair nothing is latched, answers 0 and changes nothing (R390). -/
theorem State.readAccess_hidden (unlatched : ∀ h : Nat, s.latch_ p ≠ some (a - 4, h)) (upper : UpperSlotReg a) :
    s.readAccess p a = (0, s) := by
  have shown : s.shown p a = 0 := by simp only [State.shown, row, hidden, if_true]
  have notTimed : a ≠ Reg.PMC.CVAL_LO := by simp only [UpperSlotReg, Reg.PMC.CVAL_LO] at *; omega
  have cleared : s.rcClear a = s := by simp [State.rcClear, row, hidden]
  rw [State.readAccess, State.flushFor_of_none free, State.readDword]
  refine (if_neg (by simp [row])).trans (Prod.ext ?value ?rest)
  case value =>
    dsimp only
    split
    · next l h latched =>
      have notOwn : l ≠ a - 4 := by
        rintro rfl
        split at latched
        · exact unlatched h latched
        · cases latched
      rw [if_neg notOwn, shown]
    · exact shown
  case rest => simp [State.cvalRead, notTimed, State.readFree, upper.not_raw, upper.not_pairLow, cleared]

end Hidden

/-- A register of the upper slots is a register of BAR0. -/
theorem UpperSlotReg.inMap {a : Nat} (upper : UpperSlotReg a) : a < 2 ^ 25 := by
  simp only [UpperSlotReg] at upper; omega

section Accesses
variable {s : State} {p : Path} {a : Nat} (up : s.aon.coreUp = true) (reaches : s.reaches p = true) (inMap : a < 2 ^ 25) (aligned : a % 4 = 0)
include up reaches inMap aligned

/-- A write of a whole dword on any path (R311). -/
theorem exec_registerWrite_dword (v : Nat) : exec (.registerWrite p a v 4) s = .next (s.writeDword p a v).2.settle := by
  have taken : ¬(¬s.reaches p = true ∨ 2 ^ 25 ≤ a) := not_or.2 ⟨not_not_intro reaches, Nat.not_le.2 inMap⟩
  refine (coreGuard_of_coreUp up).trans (congrArg Host.Outcome.next ((if_neg taken).trans ?_))
  by_cases bar : p = .e
  · subst bar
    rw [if_pos rfl, State.barWrite, if_pos ⟨rfl, aligned⟩]
  · rw [if_neg bar, if_pos aligned]

omit up in
/-- A read of a whole dword on any path (R311). -/
theorem State.readOut_dword : s.readOut p a 4 = ((s.readAccess p a).2.emit (.regValue p (s.readAccess p a).1 0)).settle := by
  have taken : ¬(¬s.reaches p = true ∨ 2 ^ 25 ≤ a) := not_or.2 ⟨not_not_intro reaches, Nat.not_le.2 inMap⟩
  rw [State.readOut, if_neg taken]
  by_cases bar : p = .e
  · subst bar
    rw [if_pos rfl, State.barRead, if_pos ⟨rfl, aligned⟩]
    rfl
  · rw [if_neg bar, if_pos aligned]
    rfl

end Accesses

/-- A path that reaches the fabric finds the core running. -/
theorem State.coreUp_of_reaches {s : State} {p : Path} (reaches : s.reaches p = true) : s.aon.coreUp = true :=
  (Bool.and_eq_true _ _ ▸ reaches).1

/-- Settles O53: the accesses come to a hidden register, with nothing held, latched or locked. -/
theorem upperSlotRegistersInX4Mode : Obligations.UpperSlotRegistersInX4Mode := by
  unfold Obligations.UpperSlotRegistersInX4Mode
  intro s p a x4 aligned upper row reaches free unlatched unlocked
  obtain ⟨r, row⟩ := Option.isSome_iff_exists.1 row
  have up := State.coreUp_of_reaches reaches
  have upper : UpperSlotReg a := upper
  have hidden := State.hidden_of_upperSlotReg x4 upper
  have reads := State.readAccess_hidden row hidden free unlatched upper
  have writes (v : Nat) := State.writeDword_hidden row hidden free unlocked v
  refine ⟨?read, fun v => ?write, fun v => by simp [writes v, reads]⟩
  case read =>
    refine (coreGuard_of_coreUp up).trans (congrArg Host.Outcome.next ?_)
    rw [State.readOut_dword reaches upper.inMap aligned, reads]
  case write => rw [exec_registerWrite_dword up reaches upper.inMap aligned, writes v]

end Sys2Proof.Machine

/-! Register accesses on the paths, the sideband target and the lock (R5, R311, R320, R321, R387 to R394; log entries 108 and 136). -/

namespace Sys2Proof.Machine
open Sys2Proof

section BarPath
variable {s : State} {off : Nat} (up : s.aon.coreUp = true) (reaches : s.reaches .e = true) (inMap : off < 2 ^ 25)
include up reaches inMap

/-- A memory write to BAR0 (R311). -/
theorem exec_registerWrite_bar (v len : Nat) : exec (.registerWrite .e off v len) s = .next (s.barWrite off v len).settle := by
  have taken : ¬(¬s.reaches .e = true ∨ 2 ^ 25 ≤ off) := not_or.2 ⟨not_not_intro reaches, Nat.not_le.2 inMap⟩
  exact (coreGuard_of_coreUp up).trans (congrArg Host.Outcome.next ((if_neg taken).trans (if_pos rfl)))

/-- A memory read of BAR0 (R311). -/
theorem exec_rcRegisterRead_bar (len : Nat) : exec (.rcRegisterRead .e off len) s = .next (s.barRead off len).settle := by
  have taken : ¬(¬s.reaches .e = true ∨ 2 ^ 25 ≤ off) := not_or.2 ⟨not_not_intro reaches, Nat.not_le.2 inMap⟩
  exact (coreGuard_of_coreUp up).trans (congrArg Host.Outcome.next ((if_neg taken).trans (if_pos rfl)))

end BarPath

/-- A BAR0 write of fewer than 4 bytes stores nothing (R311). -/
theorem State.barWrite_partial {len : Nat} (short : len < 4) (s : State) (off v : Nat) :
    s.barWrite off v len = (s.flushHeld .e).event Fld.EPF.EVENT.PARTIAL_WRITE 1347 := by
  rw [State.barWrite, if_neg (by omega), if_neg (by omega), if_neg (by omega)]

/-- A BAR0 write of 8 bytes is two dword writes, low offset first (R311). -/
theorem State.barWrite_pair {off : Nat} (aligned : off % 4 = 0) (s : State) (v : Nat) :
    s.barWrite off v 8 = ((s.writeDword .e off (v % 2 ^ 32)).2.writeDword .e (off + 4) (v / 2 ^ 32)).2 := by
  rw [State.barWrite, if_neg (by omega), if_pos ⟨rfl, aligned⟩]

/-- A longer BAR0 write is discarded (R311). -/
theorem State.barWrite_long {len : Nat} (long : 8 < len) (s : State) (off v : Nat) : s.barWrite off v len = s.flushHeld .e := by
  rw [State.barWrite, if_neg (by omega), if_neg (by omega), if_pos long]

/-- A BAR0 read of fewer than 4 bytes inside a dword answers those bytes (R311). -/
theorem State.barRead_part {off len : Nat} (nonempty : 1 ≤ len) (short : len < 4) (inside : off % 4 + len ≤ 4) (s : State) :
    s.barRead off len = (s.readAccess .e (off / 4 * 4)).2.emit (.regValue .e
      ((s.readAccess .e (off / 4 * 4)).1 / 2 ^ (8 * (off % 4)) % 2 ^ (8 * len)) 0) := by
  rw [State.barRead, if_neg (by omega), if_pos ⟨nonempty, inside⟩]

/-- A BAR0 read of 8 aligned bytes answers both words of one instant (R311). -/
theorem State.barRead_pair {off : Nat} (aligned : off % 8 = 0) (s : State) :
    s.barRead off 8 = ((s.flushHeld .e).readPair .e off).2.2.emit
      (.regValue .e ((s.flushHeld .e).readPair .e off).1 ((s.flushHeld .e).readPair .e off).2.1) := by
  rw [State.barRead, if_neg (by omega), if_neg (by omega), if_pos ⟨rfl, aligned⟩]

/-- A longer BAR0 read completes with Unsupported Request (R311). -/
theorem State.barRead_long {len : Nat} (long : 8 < len) (s : State) (off : Nat) :
    s.barRead off len = (s.flushHeld .e).emit (.pcie 1 []) := by
  rw [State.barRead, if_neg (by omega), if_neg (by omega), if_neg (by omega)]

/-- A path takes the free lock with its own code (R320). -/
theorem State.lockWrite_takes {s : State} {p : Path} (free : s.get Fld.EPF.LOCK.OWNER = 0) :
    s.lockWrite p (pathCode p) = s.put Fld.EPF.LOCK.OWNER (pathCode p) := by
  have code : pathCode p < 4 := by cases p <;> decide
  have noTimeout : bits (pathCode p) 8 8 = 0 := by simp only [bits]; omega
  rw [State.lockWrite, if_pos noTimeout, if_pos ⟨free, Nat.mod_eq_of_lt code⟩]

/-- The lock's owner frees it with 0 (R320). -/
theorem State.lockWrite_frees {s : State} {p : Path} (coded : pathCode p ≠ 0) (owns : s.get Fld.EPF.LOCK.OWNER = pathCode p) :
    s.lockWrite p 0 = s.put Fld.EPF.LOCK.OWNER 0 := by
  have noTimeout : bits 0 8 8 = 0 := by decide
  have taken : ¬(s.get Fld.EPF.LOCK.OWNER = 0 ∧ 0 % 4 = pathCode p) := fun free => coded (owns ▸ free.1)
  rw [State.lockWrite, if_pos noTimeout, if_neg taken, if_pos ⟨owns, rfl⟩]

/-- Settles O42: the access reaches the part, and its length picks the branch. -/
theorem registerAccess : Obligations.RegisterAccess := by
  unfold Obligations.RegisterAccess
  intro s up
  have runs {o : Host.Outcome State Fault Refusal} : (if ¬ s.aon.coreUp then .next s else o) = o := coreGuard_of_coreUp up
  refine ⟨fun p off v reaches valid => ?dword,
    fun off v reaches inMap => ⟨fun len short => ?writePart, fun aligned => ?writePair, fun len long => ?writeLong⟩,
    fun off reaches inMap => ⟨fun len nonempty short inside => ?readPart, fun aligned => ?readPair, fun len long => ?readLong⟩,
    fun p => runs,
    fun reaches => ⟨fun off valid => runs.trans ?sbRead, fun off bad => runs.trans ?sbReadBad, fun off v valid => runs.trans ?sbWrite,
      fun off v bad => runs.trans ?sbWriteBad, runs.trans ?sbStatus⟩,
    fun p free _ _ => ?takes, fun p coded owns => ?frees, runs⟩
  case dword =>
    obtain ⟨inMap, aligned⟩ : off < 2 ^ 25 ∧ off % 4 = 0 := by simpa [offOk] using valid
    have reads := State.readOut_dword reaches inMap aligned
    exact ⟨exec_registerWrite_dword up reaches inMap aligned v, runs.trans (congrArg _ reads), runs.trans (congrArg _ reads)⟩
  case writePart => rw [exec_registerWrite_bar up reaches inMap, State.barWrite_partial short]
  case writePair => rw [exec_registerWrite_bar up reaches inMap, State.barWrite_pair aligned]
  case writeLong => rw [exec_registerWrite_bar up reaches inMap, State.barWrite_long long]
  case readPart => rw [exec_rcRegisterRead_bar up reaches inMap, State.barRead_part nonempty short inside]
  case readPair => rw [exec_rcRegisterRead_bar up reaches inMap, State.barRead_pair aligned]
  case readLong => rw [exec_rcRegisterRead_bar up reaches inMap, State.barRead_long long]
  case sbRead | sbWrite => exact congrArg _ ((if_neg (by simp [reaches])).trans (if_neg (not_not_intro valid)))
  case sbReadBad | sbWriteBad => exact congrArg _ ((if_neg (by simp [reaches])).trans (if_pos (by simp [bad])))
  case sbStatus => rw [if_pos reaches]
  case takes => exact congrArg Host.Outcome.next ((if_pos up).trans (State.lockWrite_takes free))
  case frees => exact congrArg Host.Outcome.next ((if_pos up).trans (State.lockWrite_frees coded owns))

end Sys2Proof.Machine

/-! Frames through the switch and the events of priority pauses (R174, R198 to R200, R228, R380). -/

namespace Sys2Proof.Machine
open Sys2Proof

/-! ### A pause frame (R174) -/

theorem mem_dropEl {l : List Nat} {k x : Nat} : k ∈ dropEl l x ↔ k ∈ l ∧ k ≠ x := by
  simp [dropEl]

theorem mem_addNew {l : List Nat} {k x : Nat} : k ∈ addNew l x ↔ k ∈ l ∨ k = x := by
  by_cases held : x ∈ l
  · rw [addNew, if_pos held, or_iff_left_of_imp fun same => same ▸ held]
  · simp [addNew, held]

/-- The pauses of priority `t` of port `p` count in a pause frame with enable bits `e`. -/
def State.pfcTaken (s : State) (p e t : Nat) : Prop :=
  bit e t = true ∧ bit (s.get (Fld.FAB_E.PFC_CFG.LOSSLESS p)) t = true ∧ 8 * p + t ∉ s.sw.ignored

/-- What a pause frame with quanta `qs` does to priority `t`. -/
def pfcPrio (p e : Nat) (qs : List Nat) (s : State) (t : Nat) : State :=
  if ¬ bit e t ∨ ¬ bit (s.get (Fld.FAB_E.PFC_CFG.LOSSLESS p)) t ∨ 8 * p + t ∈ s.sw.ignored then s
  else if qs.getD t 0 = 0 then s.modSw fun w => { w with paused := dropEl w.paused (8 * p + t) }
  else s.modSw fun w => { w with paused := addNew w.paused (8 * p + t) }

/-- From `s` to `u` nothing but the pauses in force changed. -/
def PausesOnly (s u : State) : Prop := ∃ l, u = { s with sw := { s.sw with paused := l } }

section Pause
variable {p e t : Nat} {qs : List Nat}

theorem pfcPrio_of_not_taken {s : State} (refused : ¬s.pfcTaken p e t) : pfcPrio p e qs s t = s := by
  refine if_pos (Classical.byContradiction fun taken => ?_)
  simp only [not_or, Classical.not_not] at taken
  exact refused taken

theorem pfcPrio_of_taken {s : State} (taken : s.pfcTaken p e t) :
    pfcPrio p e qs s t = if qs.getD t 0 = 0 then s.modSw fun w => { w with paused := dropEl w.paused (8 * p + t) }
      else s.modSw fun w => { w with paused := addNew w.paused (8 * p + t) } := by
  obtain ⟨enabled, lossless, counts⟩ := taken
  exact if_neg (by simp only [enabled, lossless, counts, not_true_eq_false, or_self, not_false_eq_true])

theorem pfcPrio_pausesOnly (s : State) : PausesOnly s (pfcPrio p e qs s t) := by
  by_cases taken : s.pfcTaken p e t
  · rw [pfcPrio_of_taken taken]
    split
    · exact ⟨_, rfl⟩
    · exact ⟨_, rfl⟩
  · exact ⟨s.sw.paused, pfcPrio_of_not_taken taken⟩

/-- Whose pauses count does not change with the pauses in force. -/
theorem pfcTaken_pfcPrio {s : State} {r : Nat} : (pfcPrio p e qs s t).pfcTaken p e r ↔ s.pfcTaken p e r := by
  obtain ⟨l, changed⟩ := pfcPrio_pausesOnly (p := p) (e := e) (qs := qs) (t := t) s
  rw [changed]
  rfl

/-- A priority that is taken is paused by quanta other than 0 and released by 0. -/
theorem mem_paused_pfcPrio_own {s : State} (taken : s.pfcTaken p e t) :
    8 * p + t ∈ (pfcPrio p e qs s t).sw.paused ↔ qs.getD t 0 ≠ 0 := by
  rw [pfcPrio_of_taken taken]
  split
  · next released => simpa [mem_dropEl] using released
  · next paused => simpa [mem_addNew] using paused

theorem mem_paused_pfcPrio_other {s : State} {k : Nat} (other : k ≠ 8 * p + t) :
    k ∈ (pfcPrio p e qs s t).sw.paused ↔ k ∈ s.sw.paused := by
  by_cases taken : s.pfcTaken p e t
  · rw [pfcPrio_of_taken taken]
    split
    · simp [mem_dropEl, other]
    · simp [mem_addNew, other]
  · rw [pfcPrio_of_not_taken taken]

/-- Over several priorities nothing but the pauses in force changes. -/
theorem foldl_pfcPrio_pausesOnly (l : List Nat) (s : State) : PausesOnly s (l.foldl (pfcPrio p e qs) s) := by
  refine List.foldlRecOn (motive := fun u => PausesOnly s u) l _ ⟨s.sw.paused, rfl⟩ fun u only t _ => ?_
  obtain ⟨a, rfl⟩ := only
  obtain ⟨b, changed⟩ := pfcPrio_pausesOnly (p := p) (e := e) (qs := qs) (t := t) { s with sw := { s.sw with paused := a } }
  exact ⟨b, changed⟩

/-- A priority stays as it was where none of the list that is taken is it. -/
theorem mem_paused_foldl_other {l : List Nat} {s : State} {k : Nat} (others : ∀ t ∈ l, s.pfcTaken p e t → k ≠ 8 * p + t) :
    k ∈ (l.foldl (pfcPrio p e qs) s).sw.paused ↔ k ∈ s.sw.paused := by
  induction l generalizing s with
  | nil => rfl
  | cons t l ih =>
    have rest := ih (s := pfcPrio p e qs s t) fun r mem taken => others r (List.mem_cons_of_mem _ mem) (pfcTaken_pfcPrio.1 taken)
    refine rest.trans ?_
    by_cases taken : s.pfcTaken p e t
    · exact mem_paused_pfcPrio_other (others t List.mem_cons_self taken)
    · rw [pfcPrio_of_not_taken taken]

/-- A priority of the list that is taken ends paused or released as its quanta say. -/
theorem mem_paused_foldl_own {l : List Nat} (distinct : l.Nodup) {s : State} (mem : t ∈ l) (taken : s.pfcTaken p e t) :
    8 * p + t ∈ (l.foldl (pfcPrio p e qs) s).sw.paused ↔ qs.getD t 0 ≠ 0 := by
  induction l generalizing s with
  | nil => exact absurd mem List.not_mem_nil
  | cons r l ih =>
    obtain ⟨notIn, distinct⟩ := List.nodup_cons.1 distinct
    rcases List.mem_cons.1 mem with rfl | later
    · have rest : ∀ r ∈ l, (pfcPrio p e qs s t).pfcTaken p e r → 8 * p + t ≠ 8 * p + r := by
        rintro r mem - same
        obtain rfl : t = r := by omega
        exact notIn mem
      exact (mem_paused_foldl_other rest).trans (mem_paused_pfcPrio_own taken)
    · exact ih distinct later (pfcTaken_pfcPrio.2 taken)

end Pause

/-- A pause frame of ports 0 to 5 runs over the eight priorities. -/
theorem exec_pfcFrameReceive {s : State} (up : s.aon.coreUp = true) {p : Nat} (port : p < 6) (e : Nat) (qs : List Nat) :
    exec (.pfcFrameReceive p e qs) s = .next ((List.range 8).foldl (pfcPrio p e qs) s) :=
  (coreGuard_of_coreUp up).trans (congrArg Host.Outcome.next (if_neg (Nat.not_lt.2 (Nat.le_of_lt_succ port))))

/-! ### Frames -/

/-- A transmission on a port that is up sends the frame that heads the queue picked (R228). -/
theorem exec_egressFrameStart {s u : State} {p t : Nat} {x : SwFrame} {r : List SwFrame} (up : s.aon.coreUp = true) (port : p < 7)
    (linked : s.portUp p = true) (picked : s.pick p = some (t, u)) (head : u.queueOf p t = x :: r) :
    exec (.egressFrameStart p) s = .next (u.sendFrame x p) := by
  have sends : ¬(7 < p ∨ ¬s.portUp p = true) := by simp [linked]; omega
  refine (coreGuard_of_coreUp up).trans (congrArg Host.Outcome.next ?_)
  simp only [if_neg (Nat.ne_of_lt port), if_neg sends, picked, head]

/-- Settles O25: each frame and each event of a pause finds its port, queue and priority; a pause frame is the run over the eight
priorities, each of which changes its own pause alone. -/
theorem framesAndPauses : Obligations.FramesAndPauses := by
  unfold Obligations.FramesAndPauses
  intro s up
  have runs {o : Host.Outcome State Fault Refusal} : (if ¬ s.aon.coreUp then .next s else o) = o := coreGuard_of_coreUp up
  refine ⟨fun p f port => runs.trans ?arrives, fun f => runs, fun p t u x r port linked picked head =>
      exec_egressFrameStart up port linked picked head,
    fun x head => runs.trans ?toInt, fun p t x r port head => runs.trans ?ages, fun p e qs port => ?paused,
    fun p t inForce => runs.trans ?storm, fun p t => runs, fun p t => runs, fun p t inForce => runs.trans ?refreshes⟩
  case arrives => rw [if_pos port]
  case toInt => simp only [if_true, head]
  case ages => simp only [if_neg (Nat.not_lt.2 (Nat.le_of_lt_succ port)), head]
  case paused =>
    refine ⟨_, exec_pfcFrameReceive up port e qs, ?only, fun t ht enabled lossless counts => ?own, fun t ht refused => ?refused,
      fun k elsewhere => ?elsewhere⟩
    case only =>
      obtain ⟨l, changed⟩ := foldl_pfcPrio_pausesOnly (p := p) (e := e) (qs := qs) (List.range 8) s
      rw [changed]
    case own => exact mem_paused_foldl_own List.nodup_range (List.mem_range.2 ht) ⟨enabled, lossless, counts⟩
    case refused =>
      refine mem_paused_foldl_other fun r mem taken same => ?_
      obtain rfl : t = r := by omega
      obtain ⟨enabled, lossless, counts⟩ := taken
      rcases refused with notEnabled | lossy | ignored
      · simp [notEnabled] at enabled
      · simp [lossy] at lossless
      · exact counts ignored
    case elsewhere =>
      refine mem_paused_foldl_other fun r mem _ same => elsewhere ?_
      have priority := List.mem_range.1 mem
      omega
  case storm => rw [if_pos inForce]
  case refreshes => rw [if_pos inForce]

end Sys2Proof.Machine

/-! The tables, the identity frames and the links of the switch (R170, R201, R206 to R212; log entries 61 and 185). -/

namespace Sys2Proof.Machine
open Sys2Proof

section Commit
variable {s : State} {t i : Nat} (ht : t = bits (s.regN Reg.SWC.TBL_SELECT) 28 4) (hi : i = bits (s.regN Reg.SWC.TBL_SELECT) 0 12)
include ht hi

/-- A commit past the end of its table is refused (R206, R212). -/
theorem State.tblCommit_past (past : tblSize t ≤ i) : s.tblCommit = s.put ⟨Reg.SWC.TBL_STATUS, 1, 3⟩ 1 := by
  subst ht hi
  exact if_pos past

/-- A commit of an address stages it (R212). -/
theorem State.tblCommit_address (inside : i < tblSize t) (address : 3 ≤ t) : s.tblCommit = s.tblStage t i := by
  subst ht hi
  exact (if_neg (Nat.not_le.2 inside)).trans (if_pos address)

/-- A commit of an entry installs it, or shows what its check finds (R206). -/
theorem State.tblCommit_entry (inside : i < tblSize t) (entry : t < 3) :
    s.tblCommit = if s.tblCheck t ≠ 0 then s.put ⟨Reg.SWC.TBL_STATUS, 1, 3⟩ (s.tblCheck t)
      else ((s.tblInstall t i).put ⟨Reg.SWC.TBL_STATUS, 1, 3⟩ 0).genInc := by
  subst ht hi
  exact (if_neg (Nat.not_le.2 inside)).trans (if_neg (Nat.not_le.2 entry))

end Commit

section Identity
variable {s : State} {p : Nat} (low : 2 ≤ p) (high : p ≤ 5) {board dev port devs smac : Nat}
include low high

/-- An identity frame that differs from the one held is held, and the port's topology is decided from it (R210). -/
theorem State.identity_new (linked : s.portUp p = true) (new : tget s.sw.ident p ≠ some (board, dev, port, devs, smac)) :
    s.identity p board dev port devs smac
      = (s.modSw fun w => { w with ident := tput w.ident p (board, dev, port, devs, smac) }).setTopo (p - 2)
          (s.topoResult (p - 2) board dev port devs) (board, dev, port, devs) := by
  have decides : ¬(p < 2 ∨ 5 < p ∨ ¬s.portUp p = true ∨ tget s.sw.ident p = some (board, dev, port, devs, smac)) := by
    simp [linked, new]; omega
  exact if_neg decides

omit low high in
/-- An identity frame equal to the one held changes nothing (R210). -/
theorem State.identity_held (held : tget s.sw.ident p = some (board, dev, port, devs, smac)) :
    s.identity p board dev port devs smac = s :=
  if_pos (Or.inr (Or.inr (Or.inr held)))

end Identity

/-- Settles O26: each command finds its entry, table, port or link in the state that its row names. -/
theorem switchTablesAndLinks : Obligations.SwitchTablesAndLinks := by
  unfold Obligations.SwitchTablesAndLinks
  intro s up
  have runs {o : Host.Outcome State Fault Refusal} : (if ¬ s.aon.coreUp then .next s else o) = o := coreGuard_of_coreUp up
  refine ⟨fun i valid dynamic => runs.trans ?ages, fun v => runs,
    fun t i ht hi => ⟨fun entry inside passes => runs.trans ?installs, fun entry inside fails => runs.trans ?refuses,
      fun entry past => runs.trans ?entryPast, fun address inside => runs.trans ?stages, fun address past => runs.trans ?addressPast⟩,
    fun p low high linked => ⟨runs.trans ?sends, fun board dev port devs smac new => runs.trans ?decides,
      fun board dev port devs smac held => runs.trans ?held⟩,
    fun p low high alone => runs.trans ?noPeer, fun p port enabled unsquelched phase normal => runs.trans ?comesUp,
    fun p u port linked hu => runs.trans ?goesDown⟩
  case ages => simp only [valid, dynamic, Bool.false_eq_true, not_false_eq_true, and_self, if_true]
  case installs => rw [← ht, if_pos entry, State.tblCommit_entry ht hi inside entry, if_neg (not_not_intro passes)]
  case refuses => rw [← ht, if_pos entry, State.tblCommit_entry ht hi inside entry, if_pos fails]
  case entryPast => rw [← ht, if_pos entry, State.tblCommit_past ht hi past]
  case stages => rw [← ht, if_pos address, State.tblCommit_address ht hi inside address]
  case addressPast => rw [← ht, if_pos address, State.tblCommit_past ht hi past]
  case sends => rw [if_pos ⟨low, high, linked⟩]
  case decides => rw [State.identity_new low high linked new]
  case held => rw [State.identity_held held]
  case noPeer => rw [if_pos ⟨low, high, alone⟩]
  case comesUp =>
    have goes : ¬(6 < p ∨ ¬s.flag (Fld.FAB_E.PORT_CFG.ENABLE p) = true ∨ s.aon.squelched = true ∨ s.boot.phase < 6 ∨ s.boot.phase = 9) := by
      simp [enabled, unsquelched, normal]; omega
    rw [if_neg goes]
  case goesDown =>
    have goes : ¬(6 < p ∨ ¬s.flag (Fld.FAB_E.PORT_STATUS.LINK_UP p) = true) := by simp [linked]; omega
    rw [if_neg goes, hu]

end Sys2Proof.Machine

/-! Packets and timers of a connection whose context is resident (R171, R175, R177, R182 to R186, R190, R192, R193; log entries 75 and
182). -/

namespace Sys2Proof.Machine
open Sys2Proof

/-! ### A context that is set -/

theorem State.qpcShow_registersOnly (s : State) : RegistersOnly s s.qpcShow :=
  (((((((RegistersOnly.refl s).put _ _).put _ _).put _ _).put _ _).put _ _).put _ _).put _ _

/-- Setting a context changes the table of contexts, and registers. -/
theorem State.setConn_eq (s : State) (k : Nat) (c : Conn) :
    ∃ r, s.setConn k c = { s with regs := r, fab := { s.fab with conns := tput s.fab.conns k c } } := by
  obtain ⟨r, shown⟩ := (s.modFab fun f => { f with conns := tput f.conns k c }).qpcShow_registersOnly
  exact ⟨r, shown⟩

theorem State.setConn_fab (s : State) (k : Nat) (c : Conn) : (s.setConn k c).fab = { s.fab with conns := tput s.fab.conns k c } := by
  obtain ⟨r, set⟩ := s.setConn_eq k c
  rw [set]

theorem State.setConn_fr (s : State) (k : Nat) (c : Conn) : (s.setConn k c).fr = s.fr := by
  obtain ⟨r, set⟩ := s.setConn_eq k c
  rw [set]

theorem State.setConn_now (s : State) (k : Nat) (c : Conn) : (s.setConn k c).now = s.now := by
  obtain ⟨r, set⟩ := s.setConn_eq k c
  rw [set]

theorem State.setConn_dram (s : State) (k : Nat) (c : Conn) : (s.setConn k c).dram = s.dram := by
  obtain ⟨r, set⟩ := s.setConn_eq k c
  rw [set]

theorem State.conn?_setConn_same (s : State) (k : Nat) (c : Conn) : (s.setConn k c).conn? k = some c := by
  rw [State.conn?, State.setConn_fab, tget_tput_same]

/-- A context that exists is changed by setting it anew. -/
theorem State.modConn_of_conn {s : State} {k : Nat} {c : Conn} (found : s.conn? k = some c) (f : Conn → Conn) :
    s.modConn k f = s.setConn k (f c) := by
  simp only [State.modConn, found]

/-- Setting a context shows in QPC and FAB.RD_POOL; a field of another register reads as before. -/
theorem State.get_setConn_other {f : FieldAt} (status : f.reg ≠ Reg.QPC.STATUS) (use : f.reg ≠ Reg.QPC.CONN_USE)
    (fetch : f.reg ≠ Reg.QPC.FETCH) (pool : f.reg ≠ Reg.FAB.RD_POOL) (s : State) (k : Nat) (c : Conn) :
    (s.setConn k c).get f = s.get f := by
  rw [State.setConn, State.qpcShow, State.get_put_other _ _ _ _ (by decide) (Or.inl pool), State.get_put_other _ _ _ _ (by decide) (Or.inl pool),
    State.get_put_other _ _ _ _ (by decide) (Or.inl fetch), State.get_put_other _ _ _ _ (by decide) (Or.inl use),
    State.get_put_other _ _ _ _ (by decide) (Or.inl use), State.get_put_other _ _ _ _ (by decide) (Or.inl status),
    State.get_put_other _ _ _ _ (by decide) (Or.inl status)]
  rfl

/-- The window sets do not depend on contexts. -/
theorem State.winSet_setConn (s : State) (k : Nat) (c : Conn) (gen : Nat) : (s.setConn k c).winSet gen = s.winSet gen := by
  have current : (s.setConn k c).get Fld.FAB.WIN_STATUS.GEN = s.get Fld.FAB.WIN_STATUS.GEN :=
    State.get_setConn_other (by decide) (by decide) (by decide) (by decide) s k c
  have inFlight : (s.setConn k c).flag Fld.FAB.WIN_STATUS.OLD_IN_FLIGHT = s.flag Fld.FAB.WIN_STATUS.OLD_IN_FLIGHT :=
    congrArg (· != 0) (State.get_setConn_other (by decide) (by decide) (by decide) (by decide) s k c)
  rw [State.winSet, current, inFlight, State.setConn_fab, State.winSet]

theorem State.winServe_setConn (s : State) (k : Nat) (c : Conn) (gen : Nat) (host : Option Nat) (wr : Bool) (key addr len : Nat) :
    (s.setConn k c).winServe gen host wr key addr len = s.winServe gen host wr key addr len := by
  unfold State.winServe State.host
  rw [State.winSet_setConn, State.setConn_fr]

theorem State.queue?_setConn (s : State) (k : Nat) (c : Conn) (id qid : Nat) : (s.setConn k c).queue? id qid = s.queue? id qid := by
  rw [State.queue?, State.setConn_fr, State.queue?]

/-! ### Arrival -/

/-- The state in which a packet of a resident connection is processed: its hit is counted (R190). -/
def State.hit (s : State) (c : Conn) : State := (s.add64 Reg.QPC.HITS_LO 1).count { code := 0x0D, n := 1, masters := c.masters }

theorem State.hit_fab (s : State) (c : Conn) : (s.hit c).fab = s.fab :=
  (((PathKept.refl s).add64 _ _).count _).fab

/-- A packet of a connection in the transport's normal state whose context is resident is processed at once (R190). -/
theorem State.pktIn_of_resident {s : State} {k : Nat} {c : Conn} (found : s.conn? k = some c) (normal : c.tr = 0) (notFetching : c.st ≠ 4)
    (notSpilled : c.st ≠ 5) (port : Nat) (h : HeldPkt) : s.pktIn k port h = (s.hit c).pktRun k h := by
  simp only [State.pktIn, found, normal, notFetching, notSpilled, ne_eq, not_true_eq_false, or_self, if_false, State.hit]

/-! A packet without an ECN-CE mark is answered by no CNP (R186). -/

theorem State.pktRun_req {p : RcPkt} (unmarked : p.ce = false) (s : State) (k gen : Nat) :
    s.pktRun k (.req p gen) = (s.reqIn k p gen).touch k := by
  simp [State.pktRun, HeldPkt.ce, unmarked]

theorem State.pktRun_ack (s : State) (k psn : Nat) : s.pktRun k (.ack psn false) = (s.ackIn k psn).touch k := rfl

theorem State.pktRun_nakSeq (s : State) (k psn : Nat) : s.pktRun k (.nakSeq psn false) = (s.nakSeqIn k psn).touch k := rfl

theorem State.pktRun_nakErr (s : State) (k kind : Nat) :
    s.pktRun k (.nakErr kind false) = ((s.satInc Fld.FAB.NAK_RCVD.V).connError k).touch k := rfl

theorem State.pktRun_rnr (s : State) (k psn : Nat) : s.pktRun k (.rnr psn false) = (s.rnrIn k psn).touch k := rfl

theorem State.pktRun_cnp (s : State) (k : Nat) : s.pktRun k .cnp = (s.cnpIn k).touch k := rfl

section Resident
variable {u : State} {k : Nat} {c : Conn} (found : u.conn? k = some c)
include found

/-! ### Requests (R184, R192, R193) -/

/-- A supported request at the expected PSN releases the resources of earlier PSNs and is executed. -/
theorem State.reqIn_expected {p : RcPkt} (supported : p.op ≠ .unsupported) (expected : p.psn % 2 ^ 24 = c.epsn) {d : Conn}
    (hd : d = { c with resp := c.resp.filter fun r => psnLe p.psn r.1 }) (gen : Nat) :
    u.reqIn k p gen = ((u.setConn k d).setConn k { d with nakSent := false }).reqRun k { d with nakSent := false } p gen := by
  subst hd
  simp only [State.reqIn, found, if_neg supported, if_pos expected]

end Resident

/-- The last packet of a SEND delivers its capsule to a queue with room (R175, R182). -/
theorem State.sendIn_last {v : State} {k id : Nat} {c : Conn} {p : RcPkt} {cap : Capsule} {q : Queue}
    (fits : c.sendLen + sendBytes p ≤ 16777216) (owner : c.cntlid = some id) (queue : v.queue? id c.qid = some q)
    (room : q.caps.length < q.depth) :
    v.sendIn k c p true cap = (((v.modQueue id c.qid fun x =>
      { x with caps := x.caps ++ [({ cap with cntlid := id, qid := c.qid }, false, v.now)] }).modConn k fun x =>
        { x with sendLen := 0 }).ackOwed k p 1 false) := by
  simp only [State.sendIn, State.capsuleIn, owner, queue, if_neg (Nat.not_lt.2 fits), if_neg (Nat.not_le.2 room), not_true_eq_false,
    if_false]

/-- A WRITE of one packet that a window serves (R192). -/
theorem State.winWrite_only {v : State} {k gen key addr i : Nat} {c : Conn} {p : RcPkt} {data : List Byte} {w : Win}
    (idle : c.wmsg = none) (fits : data.length ≤ 16777216) (served : v.winServe gen c.host true key addr data.length = some (i, w)) :
    v.winWrite k c p gen true true key addr data.length data
      = (((v.dramWrite ((winOf (v.winSet gen) i).base + addr) data).modConn k fun x => { x with wmsg := none }).ackOwed k p 1 false) := by
  simp only [State.winWrite, idle, if_neg (Nat.not_lt.2 fits), served, Nat.lt_irrefl, ne_eq, not_true_eq_false, and_false, or_self,
    if_false, if_true]

/-- A READ that a window serves (R192, R193). -/
theorem State.reqRun_read {v : State} {k psn gen key addr len i : Nat} {ack ce : Bool} {bytes : Nat} {c : Conn} {w : Win}
    (idle : c.wmsg = none) (fits : len ≤ 16777216) (served : v.winServe gen c.host false key addr len = some (i, w)) :
    v.reqRun k c ⟨psn, ack, ce, bytes, .readReq key addr len⟩ gen
      = ((((v.roce 0x30 k psn (packets c.pmtu len)).emit (.windowData k psn (v.dramRead (w.base + addr) len))).modConn k fun x =>
          { x with resp := x.resp ++ [(psn, gen)] }).ackOwed k ⟨psn, ack, ce, bytes, .readReq key addr len⟩ (packets c.pmtu len) true) := by
  simp only [State.reqRun, idle, Option.isSome_none, Nat.not_lt.2 fits, Bool.false_eq_true, or_self, if_false, State.winRead, served]

section Resident
variable {u : State} {k : Nat} {c : Conn} (found : u.conn? k = some c)
include found

/-! ### Answers (R177, R183, R185, R186) -/

/-- An acknowledgement of what is outstanding. -/
theorem State.ackIn_of_outstanding {psn : Nat} (outstanding : c.una ≠ []) (notOld : psnLe c.oldest psn = true)
    (sent : psnLe (psn + 1) c.spsn = true) :
    u.ackIn k psn = (c.readsDone psn).foldl State.dataAcked (u.setConn k { c with
      una := c.left psn,
      retries := (if c.left psn = c.una then c.retries else 0),
      rnr := (if c.left psn = c.una then c.rnr else 0),
      rnrWait := none,
      due := (if c.left psn = [] then none else some (u.now + u.ackTimeout)) }) := by
  have covers : ¬(c.una = [] ∨ ¬psnLe c.oldest psn = true ∨ ¬psnLe (psn + 1) c.spsn = true) := by simp [outstanding, notOld, sent]
  simp only [State.ackIn, found, if_neg covers]

/-- An acknowledgement of what is acknowledged already changes nothing. -/
theorem State.ackIn_of_old {psn : Nat} (old : psnLe c.oldest psn = false) : u.ackIn k psn = u := by
  have covers : c.una = [] ∨ ¬psnLe c.oldest psn = true ∨ ¬psnLe (psn + 1) c.spsn = true := Or.inr (Or.inl (by simp [old]))
  simp only [State.ackIn, found, if_pos covers]

/-- With a retry left the part goes back. -/
theorem State.goBack_retries (outstanding : c.una ≠ []) (left : c.retries < u.get Fld.FAB.RC_CFG.RETRY_CNT) (p : Nat) :
    u.goBack k p = (u.setConn k { c with retries := c.retries + 1 }).retransmit k p := by
  simp only [State.goBack, found, if_neg outstanding, if_neg (Nat.not_le.2 left)]

/-- With none left the connection fails. -/
theorem State.goBack_fails (outstanding : c.una ≠ []) (noneLeft : u.get Fld.FAB.RC_CFG.RETRY_CNT ≤ c.retries) (p : Nat) :
    u.goBack k p = u.connError k := by
  simp only [State.goBack, found, if_neg outstanding, if_pos noneLeft]

end Resident

/-- The PSN before the oldest one is acknowledged already. -/
theorem psnLe_pred {p : Nat} (_ : p < 2 ^ 24) : psnLe p (p + 0xFFFFFF) = false := by
  simp only [psnLe, decide_eq_false_iff_not]
  omega

theorem psnLe_refl (p : Nat) : psnLe p p = true := by
  simp only [psnLe, decide_eq_true_eq]
  omega

section Resident
variable {u : State} {k : Nat} {c : Conn} (found : u.conn? k = some c)
include found

/-- A NAK Sequence Error that names the oldest PSN goes back to it (R183). -/
theorem State.nakSeqIn_oldest {psn : Nat} {m : TxMsg} {r : List TxMsg} (una : c.una = m :: r) (oldest : m.psn = psn) (word : psn < 2 ^ 24)
    (sent : psnLe (psn + 1) c.spsn = true) (left : c.retries < u.get Fld.FAB.RC_CFG.RETRY_CNT) :
    u.nakSeqIn k psn
      = ((u.satInc Fld.FAB.NAK_RCVD.V).setConn k { c with retries := c.retries + 1 }).retransmit k psn := by
  have first : c.oldest = psn := by simp only [Conn.oldest, una, oldest]
  have counted : (u.satInc Fld.FAB.NAK_RCVD.V).conn? k = some c := found
  have retries : c.retries < (u.satInc Fld.FAB.NAK_RCVD.V).get Fld.FAB.RC_CFG.RETRY_CNT := by
    rwa [State.satInc, State.get_put_other _ _ _ _ (by decide) (by decide)]
  have names : psnLe c.oldest psn = true ∧ psnLe (psn + 1) c.spsn = true := ⟨by rw [first, psnLe_refl], sent⟩
  rw [State.nakSeqIn, State.ackIn_of_old counted (by rw [first, psnLe_pred word])]
  simp only [counted, if_pos names]
  exact State.goBack_retries counted (by simp [una]) retries psn

/-- An RNR NAK with a retry left waits (R177). -/
theorem State.rnrIn_waits (outstanding : c.una ≠ []) (left : u.get Fld.FAB.RC_CFG.RNR_RETRY = 7 ∨ c.rnr < u.get Fld.FAB.RC_CFG.RNR_RETRY)
    (psn : Nat) : u.rnrIn k psn = (u.satInc Fld.FAB.NAK_RCVD.V).setConn k { c with rnr := c.rnr + 1, rnrWait := some psn } := by
  have counted : (u.satInc Fld.FAB.NAK_RCVD.V).conn? k = some c := found
  have retries : ¬(u.get Fld.FAB.RC_CFG.RNR_RETRY ≠ 7 ∧ u.get Fld.FAB.RC_CFG.RNR_RETRY ≤ c.rnr) := by omega
  simp only [State.rnrIn, counted, if_neg outstanding, if_neg retries]

/-- A CNP halves the rate once its interval has passed (R186). -/
theorem State.cnpIn_halves (control : u.flag Fld.FAB.CC_CFG.ENABLE = true)
    (due : ∀ t : Nat, c.cnpCut = some t → t + 1000 * u.get Fld.FAB.CC_CFG.CNP_INTERVAL ≤ u.now) :
    u.cnpIn k = u.setConn k { c with rate := (if c.rate / 2 < 1000 then 1000 else c.rate / 2), cnpCut := some u.now } := by
  rw [State.cnpIn, if_pos control, State.modConn_of_conn found]
  cases cut : c.cnpCut with
  | none => rfl
  | some t => simp only [decide_eq_true_eq, if_neg (Nat.not_lt.2 (due t cut))]

end Resident

/-! ### Timers -/

section Resident
variable {s : State} {k : Nat} {c : Conn} (found : s.conn? k = some c) (normal : c.tr = 0) (notFetching : c.st ≠ 4) (notSpilled : c.st ≠ 5)
include found normal notFetching notSpilled

/-- What is owed is acknowledged at once (R184). -/
theorem State.sendOrWait_ack_of_owed (owed : c.owed ≠ 0) :
    s.sendOrWait k .ack = (s.setConn k { c with owed := 0 }).roce 0x20 k ((c.epsn + 0xFFFFFF) % 2 ^ 24) 0 := by
  simp [State.sendOrWait, found, normal, notFetching, notSpilled, WaitTx.isMsg, State.ackNow, owed]

/-- A retransmission goes out at once (R183, R189). -/
theorem State.sendOrWait_resend (p : Nat) : s.sendOrWait k (.resend p) = (s.retransmit k p).touch k := by
  simp [State.sendOrWait, found, normal, notFetching, notSpilled, WaitTx.isMsg]

end Resident

/-- Settles O27: a packet of a resident connection is processed in the state that counts its hit, and what it carries picks the
branch; a timer finds its connection, and what it waits for. -/
theorem connectionPackets : Obligations.ConnectionPackets := by
  unfold Obligations.ConnectionPackets
  intro s up
  have runs {o : Host.Outcome State Fault Refusal} : (if ¬ s.aon.coreUp then .next s else o) = o := coreGuard_of_coreUp up
  refine ⟨fun k c u found normal notFetching notSpilled hu => ?resident, fun k port p notMgt notRc => runs.trans ?notRc,
    fun k p => runs.trans ?mgt⟩
  case notRc => rw [if_neg notMgt, if_pos notRc]
  case mgt => rw [if_pos rfl]
  case resident =>
  obtain rfl : u = s.hit c := hu
  have resident : ¬(c.tr ≠ 0 ∨ c.st = 4 ∨ c.st = 5) := by simp [normal, notFetching, notSpilled]
  have hit : (s.hit c).conn? k = some c := by rw [State.conn?, s.hit_fab c, ← State.conn?, found]
  have enters (port : Nat) (h : HeldPkt) : s.pktIn k port h = (s.hit c).pktRun k h :=
    State.pktIn_of_resident found normal notFetching notSpilled port h
  have request {port : Nat} {p : RcPkt} (notMgt : port ≠ 6) (rc : p.op ≠ .notRc) :
      exec (.rcRequestReceive k port p) s = .next ((s.hit c).pktRun k (s.asReq p)).settle := by
    refine runs.trans ?_
    rw [if_neg notMgt, if_neg rc, enters]
  have answer {h : HeldPkt} : (if ¬ s.aon.coreUp then .next s else .next (s.pktIn k (s.portOf k) h).settle :
      Host.Outcome State Fault Refusal) = .next ((s.hit c).pktRun k h).settle := by
    rw [runs, enters]
  refine ⟨fun port id p cap q d notMgt op unmarked expected fits owner queue room hd => ?send,
    fun psn outstanding notOld sent => answer.trans ?acks, fun psn m r una oldest word sent left => answer.trans ?nakSeq,
    fun kind v hv => answer.trans ?nakErr, fun psn outstanding left => answer.trans ?rnr,
    fun psn key addr i ack data w d expected idle fits served hd => answer.trans ?winWrite,
    fun psn key addr len i w d expected idle fits served hd => answer.trans ?winRead, fun control due => runs.trans ?cnp,
    fun outstanding left => runs.trans ?retries, fun outstanding noneLeft => runs.trans ?gaveUp, fun owed => runs.trans ?coalesced,
    fun p waits => runs.trans ?rnrOver, fun control => runs.trans ?rate, fun port p notMgt rc => request notMgt rc,
    fun psn ce => answer, fun psn ce => answer, fun kind ce => answer, fun psn ce => answer,
    fun psn key addr len first last ack ce data => answer, fun psn key addr len ce => answer, runs.trans ?cnpRuns⟩
  case send =>
    rw [request notMgt (by simp [op]), State.asReq, State.pktRun_req unmarked, State.reqIn_expected hit (by simp [op]) expected hd, State.reqRun]
    simp only [op]
    rw [State.sendIn_last (by rw [hd]; exact fits) (by rw [hd]; exact owner)
      (by rw [State.queue?_setConn, State.queue?_setConn, hd]; exact queue) room, State.setConn_now, State.setConn_now, hd]
  case acks => rw [State.pktRun_ack, State.ackIn_of_outstanding hit outstanding notOld sent]
  case nakSeq => rw [State.pktRun_nakSeq, State.nakSeqIn_oldest hit una oldest word sent left]
  case nakErr =>
    have counted : ((s.hit c).satInc Fld.FAB.NAK_RCVD.V).conn? k = some c := hit
    rw [State.pktRun_nakErr, hv]
    cases owner : c.cntlid with
    | none => simp only [State.connError, counted, owner]
    | some id => simp only [State.connError, counted, owner]
  case rnr => rw [State.pktRun_rnr, State.rnrIn_waits hit outstanding left]
  case winWrite =>
    rw [State.asReq, State.pktRun_req rfl, State.reqIn_expected hit (by simp) expected hd, State.reqRun]
    dsimp only
    rw [State.winWrite_only (by rw [hd]; exact idle) fits (by rw [State.winServe_setConn, State.winServe_setConn, hd]; exact served),
      State.winSet_setConn, State.winSet_setConn]
  case winRead =>
    rw [State.asReq, State.pktRun_req rfl, State.reqIn_expected hit (by simp) expected hd,
      State.reqRun_read (by rw [hd]; exact idle) fits (by rw [State.winServe_setConn, State.winServe_setConn, hd]; exact served),
      State.dramRead, State.setConn_dram, State.setConn_dram, ← State.dramRead, hd]
  case cnp => rw [enters, State.pktRun_cnp, State.cnpIn_halves hit control due]
  case retries => simp only [found, if_neg resident, State.goBack_retries found outstanding left]
  case gaveUp => simp only [found, if_neg resident, State.goBack_fails found outstanding noneLeft]
  case coalesced =>
    simp only [found, if_neg owed]
    rw [State.sendOrWait_ack_of_owed found normal notFetching notSpilled owed]
  case rnrOver =>
    simp only [found, waits]
    rw [State.sendOrWait_resend (c := { c with rnrWait := none }) (State.conn?_setConn_same _ _ _) normal notFetching notSpilled]
  case rate => rw [if_pos control, State.modConn_of_conn found]
  case cnpRuns => rw [enters]

end Sys2Proof.Machine

/-! Connections coming and going, context fetches, windows, READ requests and responder resources (R176, R178, R179, R183, R187 to R193;
log entries 74 and 181). -/

namespace Sys2Proof.Machine
open Sys2Proof

/-! ### What marking a context as used leaves alone (R189) -/

theorem State.modConn_eq (s : State) (k : Nat) (f : Conn → Conn) : ∃ r g, s.modConn k f = { s with regs := r, fab := g } := by
  unfold State.modConn
  cases s.conn? k with
  | none => exact ⟨s.regs, s.fab, rfl⟩
  | some c =>
    obtain ⟨r, set⟩ := s.setConn_eq k (f c)
    exact ⟨r, _, set⟩

theorem State.touch_eq (s : State) (k : Nat) : ∃ r g, s.touch k = { s with regs := r, fab := g } :=
  (s.modFab fun f => { f with useSeq := f.useSeq + 1 }).modConn_eq k _

/-- The commands and the namespaces are not FAB's. -/
theorem State.cmd?_touch (s : State) (k t : Nat) : (s.touch k).cmd? t = s.cmd? t := by
  obtain ⟨r, g, touched⟩ := s.touch_eq k
  rw [touched]
  rfl

theorem State.ns?_touch (s : State) (k n : Nat) : (s.touch k).ns? n = s.ns? n := by
  obtain ⟨r, g, touched⟩ := s.touch_eq k
  rw [touched]
  rfl

theorem State.cmd?_setConn (s : State) (k : Nat) (c : Conn) (t : Nat) : (s.setConn k c).cmd? t = s.cmd? t := by
  rw [State.cmd?, State.setConn_fr, ← State.cmd?]

theorem State.ns?_setConn (s : State) (k : Nat) (c : Conn) (n : Nat) : (s.setConn k c).ns? n = s.ns? n := by
  obtain ⟨r, set⟩ := s.setConn_eq k c
  rw [set]
  rfl

theorem State.cmd?_setCmd_same (s : State) (t : Nat) (c : Cmd) : (s.setCmd t c).cmd? t = some c :=
  tget_tput_same _ _ _

/-- A command in use is changed by setting its record. -/
theorem State.modCmd_of_cmd {s : State} {t : Nat} {c : Cmd} (found : s.cmd? t = some c) (f : Cmd → Cmd) :
    s.modCmd t f = s.setCmd t (f c) := by
  simp only [State.modCmd, found]

/-! ### Read responses and read requests (R178, R179) -/

/-- The whole response of an outstanding READ of a running command enters the command. -/
theorem State.readResponse_of_running {s u : State} {k psn t off n cells : Nat} {bs : List HostBlk} {cn : Conn} {m : TxMsg} {c : Cmd}
    {io : IoCmd} {ns : Ns} (conn : s.conn? k = some cn) (outstanding : (cn.una.find? fun y => y.psn == psn) = some m)
    (read : m.kind = .readReq t off n cells) (whole : bs.length = n)
    (hu : u = (s.setConn k { cn with
      una := (cn.una.filter fun y => y.psn ≠ psn),
      retries := 0,
      due := (if (cn.una.filter fun y => y.psn ≠ psn) = [] then none else some (s.now + s.ackTimeout)) }).touch k)
    (cmd : u.cmd? t = some c) (running : c.st = .running) (unclaimed : c.claimed = false) (hio : c.io = some io)
    (hns : u.ns? io.nsid = some ns) :
    s.readResponse k psn bs = (u.setCmd t { c with rdOut := c.rdOut - 1 }).ingress t { c with rdOut := c.rdOut - 1 } io ns off bs := by
  obtain ⟨d, hd⟩ : ∃ d : Cmd, d = { c with rdOut := c.rdOut - 1 } := ⟨_, rfl⟩
  have running' : d.st = .running := by rw [hd, running]
  have unclaimed' : d.claimed = false := by rw [hd, unclaimed]
  have hio' : d.io = some io := by rw [hd, hio]
  have named : (u.setCmd t d).ns? io.nsid = some ns := hns
  simp only [State.readResponse, conn, outstanding, read, whole, State.modConn_of_conn conn, ← hu, State.modCmd_of_cmd cmd, ← hd,
    State.cmd?_setCmd_same, running', unclaimed', hio', named, ne_eq, not_true_eq_false, Bool.false_eq_true, not_false_eq_true, and_self,
    if_true, if_false]

/-- Within the responder's depth and the pool, a running command asks for its next blocks on a resident connection for which nothing
waits. -/
theorem State.rdmaRead_of_room {s : State} {t m cells : Nat} {c : Cmd} {io : IoCmd} {q : Queue} {ns : Ns} {k : Conn}
    (cmd : s.cmd? t = some c) (hio : c.io = some io) (queue : s.queue? c.cntlid c.qid = some q) (hns : s.ns? io.nsid = some ns)
    (conn : s.conn? q.conn = some k) (running : c.st = .running) (unclaimed : c.claimed = false) (zone : c.zone.isSome = true)
    (more : c.asked < c.total) (going : s.stopped = false) (normal : k.tr = 0) (notFetching : k.st ≠ 4) (notSpilled : k.st ≠ 5)
    (noneWaits : k.waitTx = []) (hm : m = min (c.total - c.asked) (131072 / (4096 + lbafMeta ns.lbaf)))
    (hcells : cells = (dataBytes ns m + 255) / 256) (depth : k.reads.length < min k.ird 16)
    (pool : cells ≤ s.get Fld.FAB.RD_POOL.CELLS_FREE) (out : s.get Fld.FAB.RD_POOL.REQ_OUT < 64) :
    s.rdmaRead t = ((s.setCmd t { c with asked := c.asked + m, rdOut := c.rdOut + 1 }).emit (.rdmaRead c.cntlid c.qid c.cid c.asked
      io.rkey (io.addr + dataBytes ns c.asked) (dataBytes ns m))).connSend q.conn (.readReq t c.asked m cells) := by
  have asks : (if c.total - c.asked < 131072 / (4096 + lbafMeta ns.lbaf) then c.total - c.asked
      else 131072 / (4096 + lbafMeta ns.lbaf)) = m := by rw [hm]; split <;> omega
  have cannot : ¬(c.st ≠ .running ∨ c.claimed ∨ c.zone.isNone ∨ c.total - c.asked = 0 ∨ s.stopped ∨ k.tr ≠ 0) := by
    have left : ¬ c.total - c.asked = 0 := by omega
    have named : ¬ c.zone.isNone = true := by simpa [Option.isSome_iff_ne_none] using zone
    simp [running, unclaimed, named, left, going, normal]
  have absent : ¬(k.st = 4 ∨ k.st = 5 ∨ k.waitTx ≠ []) := by simp [notFetching, notSpilled, noneWaits]
  have full : ¬((if k.ird < 16 then k.ird else 16) ≤ k.reads.length ∨ s.get Fld.FAB.RD_POOL.CELLS_FREE < cells
      ∨ 64 ≤ s.get Fld.FAB.RD_POOL.REQ_OUT) := by
    split <;> omega
  simp only [State.rdmaRead, cmd, hio, queue, hns, conn, asks, ← hcells, if_neg cannot, if_neg absent, if_neg full]

/-- Settles O28: a connection request is tested in the order of its answers; a commit, a release, a fetch and a timer act on the context
or the window set that they find; a READ's response and issue are the shared operations, which the two lemmas above follow. -/
theorem connectionsAndWindows : Obligations.ConnectionsAndWindows := by
  unfold Obligations.ConnectionsAndWindows
  intro s up
  have runs {o : Host.Outcome State Fault Refusal} : (if ¬ s.aon.coreUp then .next s else o) = o := coreGuard_of_coreUp up
  refine ⟨fun port peer pl rf hs ird ds pm psn h fabric => ?request, fun k => runs, fun k c found setup => runs.trans ?setupOver,
    fun k ns c found fetching quick => runs.trans ?fetched, runs, fun noOld => runs.trans ?switches, fun old => runs.trans ?pending,
    fun old unused noPending => runs.trans ?released, fun k psn c found => runs.trans ?resource, fun k psn bs => runs,
    fun k psn t off n cells bs cn m c io ns u conn outstanding read whole cmd running unclaimed hio hns hu => runs.trans ?response,
    fun t => runs,
    fun t m cells c io q ns k cmd hio queue hns conn running unclaimed zone more going normal notFetching notSpilled noneWaits hm hcells
      depth pool out => runs.trans ?issue⟩
  case request =>
    have notMgt : ¬ 5 < port := Nat.not_lt.2 fabric
    refine ⟨fun short => runs.trans ?short, fun long format => runs.trans ?format, fun long format busy => runs.trans ?busy,
      fun long format room none => runs.trans ?noDepth, fun long format room depth => ?accepted⟩
    case short => rw [if_neg notMgt, if_pos short]
    case format => rw [if_neg notMgt, if_neg (Nat.not_lt.2 long), if_pos format]
    case busy => rw [if_neg notMgt, if_neg (Nat.not_lt.2 long), if_neg (not_not_intro format), if_pos busy]
    case noDepth => rw [if_neg notMgt, if_neg (Nat.not_lt.2 long), if_neg (not_not_intro format), if_neg (Nat.not_le.2 room), if_pos none]
    case accepted =>
      refine ⟨(s.evict.fresh 8).2, ?k, ?c, ?arg, ?reply, ?holds⟩
      case reply =>
        refine runs.trans ?_
        rw [if_neg notMgt, if_neg (Nat.not_lt.2 long), if_neg (not_not_intro format), if_neg (Nat.not_le.2 room), if_neg depth]
      case holds => exact ⟨rfl, rfl, rfl, rfl, rfl, rfl, rfl⟩
  case setupOver => simp only [found, if_pos setup, State.connClose]
  case fetched => simp only [found, fetching, ne_eq, not_true_eq_false, if_false, if_neg (Nat.not_lt.2 quick)]
  case switches => simp only [State.winCommit, noOld, Bool.false_eq_true, if_false]
  case pending => simp only [State.winCommit, old, if_true]
  case released =>
    have inUse : ¬(¬ s.flag Fld.FAB.WIN_STATUS.OLD_IN_FLIGHT ∨ s.oldUsed (s.get Fld.FAB.WIN_STATUS.GEN)) := by simp [old, unused]
    have after : ((s.modFab fun f => { f with old := [] }).off Fld.FAB.WIN_STATUS.OLD_IN_FLIGHT).flag Fld.FAB.WIN_STATUS.PENDING = false := by
      rw [State.flag, State.off, State.get_put_other _ _ _ _ (by decide) (by decide)]
      exact noPending
    rw [if_neg inUse]
    simp only [after, Bool.false_eq_true, if_false]
  case resource => rw [State.modConn_of_conn found]
  case response =>
    rw [if_neg Bool.false_ne_true]
    rw [State.readResponse_of_running conn outstanding read whole hu (by rw [hu, State.cmd?_touch, State.cmd?_setConn, cmd]) running
      unclaimed hio (by rw [hu, State.ns?_touch, State.ns?_setConn, hns])]
  case issue =>
    rw [State.rdmaRead_of_room cmd hio queue hns conn running unclaimed zone more going normal notFetching notSpilled noneWaits hm hcells
      depth pool out]

end Sys2Proof.Machine

/-! PTP messages, PPS and setting the time (R214 to R219; log entries 67 and 129). -/

namespace Sys2Proof.Machine
open Sys2Proof

/-! ### Messages that the part drops or takes (R214, R216) -/

theorem State.ptpMessage_of_other (s : State) (n kind : Nat) (o : Option Int) (st : Option Nat) (parent : Nat) :
    s.ptpMessage n kind false o st parent = s.satInc ⟨Reg.PTP.RX_DROP, 0, 32⟩ := by
  rw [State.ptpMessage, if_pos Bool.false_ne_true]

/-- A message on an enabled port that brings a port state and no offset. -/
theorem State.ptpMessage_of_state {s : State} {n : Nat} (enabled : bit (bits (s.regN Reg.PTP.CFG) 8 7) n = true) (kind x parent : Nat) :
    s.ptpMessage n kind true none (some x) parent = (((if kind < 4 then s.modTg fun t =>
      { t with rxStamp := tput t.rxStamp n (s.ptpTime - s.phyLat n) } else s).ptpPort n x).ptpParent n parent).ptpAnswer n kind := by
  rw [State.ptpMessage, if_neg (not_not_intro rfl), if_neg (not_not_intro enabled)]

/-! ### Setting the time (R219) -/

/-- SET_GO is noted with PPS synchronisation, or while no port is a slave. -/
theorem State.setGo_of_free {s : State}
    (free : s.get Fld.PTP.PPS.IN_MODE = 2 ∨ ((List.range 7).any fun n => s.get (portState n) = 9) = false) :
    s.setGo = s.modTg fun t => { t with setGo := some (s.rd64 Reg.PTP.SET_TIME_LO) } := by
  have accepted : ¬((List.range 7).any (fun n => s.get (portState n) = 9) ∧ s.get Fld.PTP.PPS.IN_MODE ≠ 2) := by
    rintro ⟨slave, mode⟩
    rcases free with synchronised | noSlave
    · exact mode synchronised
    · exact Bool.false_ne_true (noSlave.symm.trans slave)
  rw [State.setGo, if_neg accepted]

/-- Settles O29: each command is guarded by the port, the mode or the servo state that the statement names, and then is the shared
operation. -/
theorem ptpAndPps : Obligations.PtpAndPps := by
  unfold Obligations.PtpAndPps
  intro s up
  have runs {o : Host.Outcome State Fault Refusal} : (if ¬ s.aon.coreUp then .next s else o) = o := coreGuard_of_coreUp up
  refine ⟨fun p kind par o st hp => runs.trans ?dropped, fun p kind x par hp enabled => runs.trans ?taken,
    fun locked => runs.trans (if_pos locked), fun p hp master => runs.trans (if_pos ⟨hp, master⟩), fun stamps => runs.trans ?edge,
    fun synchronises => runs.trans (if_pos synchronises), fun enabled second => runs.trans ?rise, runs, fun free => runs.trans ?noted,
    fun v noted => runs.trans ?set, fun p x hp slave other => runs.trans ?announce⟩
  case dropped => rw [if_pos hp, State.ptpMessage_of_other]
  case taken => rw [if_pos hp, State.ptpMessage_of_state enabled]
  case edge => simp [stamps]
  case rise => simp only [if_pos enabled, if_pos second]
  case noted => rw [State.setGo_of_free free]
  case set => simp only [noted]
  case announce => rw [if_pos ⟨hp, by simp [slave], other⟩]

end Sys2Proof.Machine

/-! The start of a gate list whose start time has passed (R223, R224; log entry 178). -/

namespace Sys2Proof.Machine
open Sys2Proof

/-! ### A list that starts -/

/-- The list started in state `s` stands where it would stand had it run from its start time (R224). -/
theorem State.listStart_of_pending {s : State} {l : Nat} {g : GSet} (port : l ≠ 7) (pending : (s.glist l).pending = some g)
    (due : (s.glist l).waitLock = false) :
    s.listStart l = (((((s.advTo g.start).modList l fun x => { x with
      pending := none, running := some g, pos := (g.position l (s.advTo g.start).ptpTime).1,
      cyc := (g.position l (s.advTo g.start).ptpTime).2 }).applyGates l).tgsStatus).event Fld.TGS.EVENT.LIST_STARTED 129) := by
  simp only [State.listStart, pending, due, Bool.false_eq_true, if_false, if_neg port]

theorem exec_listStart {s : State} (up : s.aon.coreUp = true) {l : Nat} (hl : l < 8) :
    exec (.listStart l) s = .next (s.listStart l).settle :=
  (coreGuard_of_coreUp up).trans (if_pos hl)

/-- An event whose time has come leaves the clock where it stands. -/
theorem State.advTo_of_past {s : State} {t : Nat} (past : t ≤ s.ptpTime) : s.advTo t = s := if_neg (Nat.not_lt.2 past)

/-- Before the members are known nothing follows from a command. -/
theorem State.settle_of_noLayout {s : State} (noLayout : s.lay = none) : s.settle = s := if_pos (Or.inr (by rw [noLayout]; rfl))

section Reacts
variable {o s : State} (h : Reacts o s)
include h

theorem Reacts.applyGates (l : Nat) : Reacts o (s.applyGates l) := by
  unfold State.applyGates
  exact .ite (h.put _ _) (.ite (h.put _ _) (((h.put _ _).put _ _).put _ _))

theorem Reacts.tgsStatus : Reacts o s.tgsStatus := (h.put _ _).put _ _

end Reacts

/-- What follows the start of a list, before the members are known, leaves the lists as they were. -/
theorem State.tg_started {s : State} (unknown : s.lay = none) (l : Nat) :
    (((s.applyGates l).tgsStatus).event Fld.TGS.EVENT.LIST_STARTED 129).settle.tg = s.tg := by
  have started := ((Reacts.refl s).applyGates l).tgsStatus.event Fld.TGS.EVENT.LIST_STARTED 129 0
  have noLayout : (((s.applyGates l).tgsStatus).event Fld.TGS.EVENT.LIST_STARTED 129).lay = none := (started.keeps State.lay).trans unknown
  rw [State.settle_of_noLayout noLayout]
  exact started.keeps State.tg

/-! ### A start that lies in the past -/

/-- A set of one entry of a microsecond, to start at 0. -/
def microsecondSet : GSet := ⟨0, 1000, [(0xFF, 1000)], 0, 0⟩

/-- A running core at PTP time 1,000 ns, one cycle after the start of list 0's pending set. -/
def cycleLate : State :=
  ((State.reset.modAon fun a => { a with coreUp := true }).wr64 Reg.PTP.TIME_LO 1000).modList 0
    fun x => { x with pending := some microsecondSet, waitLock := false }

theorem cycleLate_pending : (cycleLate.glist 0).pending = some microsecondSet := by decide +kernel

theorem cycleLate_due : (cycleLate.glist 0).waitLock = false := by decide +kernel

theorem cycleLate_ptpTime : cycleLate.ptpTime = 1000 := by decide +kernel

theorem cycleLate_stays : cycleLate.advTo microsecondSet.start = cycleLate := State.advTo_of_past (Nat.zero_le _)

/-- Refutes O30: a cycle after its start time the set starts in its cycle 1 (R224), and the statement starts it in cycle 0. -/
theorem not_gatesAndShapers : ¬ Obligations.GatesAndShapers := by
  unfold Obligations.GatesAndShapers
  intro claimed
  obtain ⟨-, -, -, starts, -⟩ := claimed cycleLate rfl
  have claims := starts 0 microsecondSet (by decide) cycleLate_pending cycleLate_due
  rw [exec_listStart rfl (by decide)] at claims
  have same := Host.Outcome.next.inj claims
  rw [State.listStart_of_pending (by decide) cycleLate_pending cycleLate_due, cycleLate_stays, cycleLate_ptpTime] at same
  have lists := congrArg State.tg same
  rw [State.tg_started rfl, State.tg_started rfl] at lists
  have cycles := congrArg (fun t : Tabor => (t.lists.getD 0 GList.reset).cyc) lists
  exact absurd cycles (by decide +kernel)

end Sys2Proof.Machine

/-! The DMA engine: doorbells, stops, resets, descriptors, bursts and peripheral lines (R232 to R235, R240, R242 to R251, R308; log entries
12 and 179). -/

namespace Sys2Proof.Machine
open Sys2Proof

/-! ### The channels' registers (R232, R246 to R248) -/

/-- Channels 8 to 31, and every channel for firmware, take the write. -/
theorem State.dmaGuard_of_open {n : Nat} (channel : n < 32) {p : Path} (isOpen : 8 ≤ n ∨ p = .fw) (s : State) (f : State → State) :
    s.dmaGuard p n f = f s := by
  have allowed : ¬(n < 8 ∧ p ≠ .fw) := by
    rintro ⟨low, other⟩
    rcases isOpen with high | firmware
    · omega
    · exact other firmware
  rw [State.dmaGuard, if_neg (Nat.not_le.2 channel), if_neg allowed]

/-- A channel of firmware takes no other path's write. -/
theorem State.dmaGuard_of_firmware {n : Nat} (low : n < 8) {p : Path} (other : p ≠ .fw) (s : State) (f : State → State) :
    s.dmaGuard p n f = s.event Fld.DMA.EVENT.FW_WRITE 1297 := by
  rw [State.dmaGuard, if_neg (by omega), if_pos ⟨low, other⟩]

/-- A doorbell starts an Idle channel of an engine that is not halted. -/
theorem State.doorbell_of_idle {s : State} {n : Nat} (channel : n < 32) (running : s.flag Fld.AES.STATUS.HALTED = false)
    (noDump : s.aon.dumpPhase = 0) (idle : s.dmaSt n = 0) :
    s.doorbell n = (s.put (Fld.DMA_C.DB_COUNT.V n) (s.get (Fld.DMA_C.DB_COUNT.V n) + 1)).dmaFetch n
      ((s.put (Fld.DMA_C.DB_COUNT.V n) (s.get (Fld.DMA_C.DB_COUNT.V n) + 1)).rd64 (Reg.DMA_C.HEAD_LO n)) := by
  have fits : (Fld.DMA_C.DB_COUNT.V n).fits := Nat.le_refl 32
  have stillRunning (v : Nat) : (s.put (Fld.DMA_C.DB_COUNT.V n) v).flag Fld.AES.STATUS.HALTED = false := by
    have elsewhere : Fld.AES.STATUS.HALTED.reg ≠ (Fld.DMA_C.DB_COUNT.V n).reg := by
      simp only [Fld.AES.STATUS.HALTED, Fld.DMA_C.DB_COUNT.V, Reg.AES.STATUS, Reg.DMA_C.DB_COUNT]
      omega
    rw [State.flag, State.get_put_other _ _ _ _ fits (Or.inl elsewhere), ← State.flag, running]
  have stillIdle (v : Nat) : (s.put (Fld.DMA_C.DB_COUNT.V n) v).dmaSt n = 0 := by
    have elsewhere : (Fld.DMA_C.STATUS.STATE n).reg ≠ (Fld.DMA_C.DB_COUNT.V n).reg := by
      simp only [Fld.DMA_C.STATUS.STATE, Fld.DMA_C.DB_COUNT.V, Reg.DMA_C.STATUS, Reg.DMA_C.DB_COUNT]
      omega
    rw [State.dmaSt, State.get_put_other _ _ _ _ fits (Or.inl elsewhere), ← State.dmaSt, idle]
  have goes (v : Nat) : ¬((s.put (Fld.DMA_C.DB_COUNT.V n) v).flag Fld.AES.STATUS.HALTED = true
      ∨ (s.put (Fld.DMA_C.DB_COUNT.V n) v).aon.dumpPhase ≠ 0) := by
    rw [stillRunning v]
    exact fun h => h.elim Bool.false_ne_true fun dumping => dumping noDump
  simp only [State.doorbell, if_neg (goes _), if_pos (stillIdle _)]

theorem State.dmaStop_of_atEnd {s : State} {n : Nat} (atEnd : s.dmaSt n = 5) :
    s.dmaStop n = (s.setDma n 0).event (Fld.DMA_C.EVENT.STOPPED n) (1232 + 2 * n) := by
  have busy : ¬(s.dmaSt n = 0 ∨ s.dmaSt n = 7) := by omega
  simp only [State.dmaStop, if_neg busy, if_pos atEnd]

theorem State.dmaReset_of_error {s : State} {n : Nat} (error : s.dmaSt n = 7) :
    s.dmaReset n = (((s.modDma n fun c => { c with
      jobs := [], bursts := [], fetch := none, stopping := false, want := none }).setDma n 0).put (Fld.DMA_C.BUF_USE.V n) 0).lineRelease n := by
  simp only [State.dmaReset, if_neg (not_not_intro error)]

/-! ### Descriptors (R245, R250, R251) -/

section Fetched
variable {s : State} {n a : Nat} (fetches : (s.dmaCh n).fetch = some a) (fetching : s.dmaSt n = 1)
include fetches fetching

theorem State.descFetched_misaligned (misaligned : a % 64 ≠ 0) : s.descFetched n false = s.dmaRefuse n a 0x11 (decodeDesc []) := by
  simp only [State.descFetched, fetches, if_neg (not_not_intro fetching), if_pos misaligned]

/-- What is read of DRAM is checked. -/
theorem State.descFetched_inside (aligned : a % 64 = 0) (inside : a + 64 ≤ s.dramTop) :
    s.descFetched n false = if s.descCheck n (decodeDesc (s.dramRead a 64)) = 0 then s.dmaAccept n a (decodeDesc (s.dramRead a 64))
      else s.dmaRefuse n a (s.descCheck n (decodeDesc (s.dramRead a 64))) (decodeDesc (s.dramRead a 64)) := by
  have whole : ¬(false = true ∨ s.dramTop < a + 64) := by simp [Nat.not_lt.2 inside]
  simp only [State.descFetched, fetches, if_neg (not_not_intro fetching), if_neg (not_not_intro aligned), if_neg whole]

end Fetched

/-- The tail is still the end. -/
theorem State.tailRefetched_of_end {s : State} {n : Nat} (refetches : s.dmaSt n = 6) (going : (s.dmaCh n).stopping = false)
    (sound : chainEnded (s.dmaCh n).jobs = false) (isEnd : (decodeDesc (s.dramRead (s.rd64 (Reg.DMA_C.CUR_DESC_LO n)) 64)).isEnd = true) :
    s.tailRefetched n false = s.dmaAtEnd n := by
  have reads : ¬(s.dmaSt n ≠ 6 ∨ (s.dmaCh n).stopping ∨ chainEnded (s.dmaCh n).jobs) := by simp [refetches, going, sound]
  simp only [State.tailRefetched, if_neg reads, Bool.false_eq_true, if_false, isEnd, if_true]

/-! ### Bursts and lines (R233, R242, R244) -/

/-- With bus mastering enabled a burst without error is written. -/
theorem State.writeGrant_of_master {s : State} (master : bit s.ep.command 2 = true) (n : Nat) : s.writeGrant n 0 = s.dmaWrite1 n := by
  simp [State.writeGrant, master]

section Line
variable {s : State} {l : Nat}

theorem State.lineChange_of_free (free : tget s.dma.owner l = none) (up : Bool) :
    s.lineChange l up = s.setN Reg.DMA.LINES (putBit (s.regN Reg.DMA.LINES) l up) := by
  have still : tget (s.setN Reg.DMA.LINES (putBit (s.regN Reg.DMA.LINES) l up)).dma.owner l = none := free
  simp only [State.lineChange, still]

/-- The owner that waits on the line runs. -/
theorem State.lineChange_of_waiting {n : Nat} {u : State} (owned : tget s.dma.owner l = some n)
    (hu : u = s.setN Reg.DMA.LINES (putBit (s.regN Reg.DMA.LINES) l true)) (waits : u.dmaSt n = 4)
    (wants : (u.dmaCh n).want = some l) : s.lineChange l true = u.setDma n 3 := by
  have still : tget u.dma.owner l = some n := by rw [hu]; exact owned
  simp only [State.lineChange, ← hu, still, waits, wants, and_self, if_true]

/-- A final request that no grant waits for stays at its line. -/
theorem State.finalRequest_of_elsewhere {n cnt : Nat} {j : Job} {data : List Byte} (newest : (s.dmaCh n).jobs.getLast? = some j)
    (receives : j.d.sspace = 2) (names : j.d.line = l) (isOpen : j.closed = false) (notActive : s.dmaSt n ≠ 3)
    (notWaiting : s.dmaSt n ≠ 4) :
    s.finalRequest n l cnt data = s.modDmac fun d => { d with finals := tput d.finals l (fitBytes cnt data) } := by
  have meets : j.d.sspace = 2 ∧ j.d.line = l ∧ ¬j.closed := ⟨receives, names, by simp [isOpen]⟩
  have idle : ¬((s.modDmac fun d => { d with finals := tput d.finals l (fitBytes cnt data) }).dmaSt n = 3
      ∨ (s.modDmac fun d => { d with finals := tput d.finals l (fitBytes cnt data) }).dmaSt n = 4) :=
    fun h => h.elim notActive notWaiting
  simp only [State.finalRequest, newest, if_pos meets, if_neg idle]

end Line

/-- Settles O31: the guard of the channels opens or refuses; each shared operation then takes the branch of the channel's state, of the
fetched descriptor, of the granted burst or of the line's owner. -/
theorem dmaCommands : Obligations.DmaCommands := by
  unfold Obligations.DmaCommands
  intro s up
  have runs {o : Host.Outcome State Fault Refusal} : (if ¬ s.aon.coreUp then .next s else o) = o := coreGuard_of_coreUp up
  refine ⟨fun p n channel isOpen => ⟨fun running noDump idle => runs.trans ?rings, fun atEnd => runs.trans ?stops,
      fun error => runs.trans ?resets⟩,
    fun p n low other => ⟨runs.trans ?refused1, runs.trans ?refused2, runs.trans ?refused3⟩,
    fun n a fetches fetching => ⟨fun aligned inside good => runs.trans ?accepted, fun aligned inside bad => runs.trans ?refusedCode,
      fun misaligned => runs.trans ?misaligned⟩,
    fun n hi j data err u hu running picked newest => runs.trans ?readBurst,
    fun n a hi b r u hu running picked bursts master => runs.trans ?writeBurst,
    fun n j rest jobs closed written => runs.trans ?completes, fun n refetches going sound isEnd => runs.trans ?tail,
    fun l up hl free => runs.trans ?lineFree, fun l n u hl owned hu waits wants => runs.trans ?lineWaits,
    fun l n cnt j data owned newest receives names isOpen notActive notWaiting => runs.trans ?final, fun n channel => runs.trans ?timeout⟩
  case rings => rw [State.dmaGuard_of_open channel isOpen, State.doorbell_of_idle channel running noDump idle]
  case stops => rw [State.dmaGuard_of_open channel isOpen, State.dmaStop_of_atEnd atEnd]
  case resets => rw [State.dmaGuard_of_open channel isOpen, State.dmaReset_of_error error]
  case refused1 => rw [State.dmaGuard_of_firmware low other]
  case refused2 => rw [State.dmaGuard_of_firmware low other]
  case refused3 => rw [State.dmaGuard_of_firmware low other]
  case accepted => rw [State.descFetched_inside fetches fetching aligned inside, if_pos good]
  case refusedCode => rw [State.descFetched_inside fetches fetching aligned inside, if_neg bad]
  case misaligned => rw [State.descFetched_misaligned fetches fetching misaligned]
  case readBurst => simp only [running, Bool.false_eq_true, if_false, ← hu, picked, newest]
  case writeBurst =>
    have grants := State.writeGrant_of_master (s := u.modDmac fun d => { d with
      rrWrite := if hi then (n, u.dma.rrWrite.2) else (u.dma.rrWrite.1, n) }) master n
    simp only [running, Bool.false_eq_true, if_false, ← hu, picked, grants]
  case completes => simp only [jobs, if_pos (And.intro closed written)]
  case tail => rw [State.tailRefetched_of_end refetches going sound isEnd]
  case lineFree => rw [if_pos hl, State.lineChange_of_free free]
  case lineWaits => rw [if_pos hl, State.lineChange_of_waiting owned hu waits wants]
  case final => simp only [owned, State.finalRequest_of_elsewhere newest receives names isOpen notActive notWaiting]
  case timeout => rw [if_pos channel]

end Sys2Proof.Machine

/-! Key imports, zeroises, tamper alarms and the pipelines' window (R253, R260 to R266; log entries 66 and 69). -/

namespace Sys2Proof.Machine
open Sys2Proof

/-! ### Zeroises beside an import (R263, R264) -/

theorem State.zeroise_alone {s : State} (noImport : s.keys.imp = none) (n : Option Nat) : s.zeroise n = s.zeroNow n := by
  simp only [State.zeroise, noImport]

section Import
variable {s : State} {ctrl : Nat} {d e : List Byte} (imports : s.keys.imp = some (ctrl, d, e))
include imports

/-- A zeroise that touches the import's slot ends the import. -/
theorem State.zeroise_of_target {n : Option Nat} (target : n = none ∨ n = some (ctrl % 4096)) :
    s.zeroise n = ((s.importEnd 8).event Fld.KEY.EVENT.IMPORT_FAILED 1329).zeroNow n := by
  simp only [State.zeroise, imports, if_pos target]

theorem State.zeroise_of_other {n : Nat} (other : n ≠ ctrl % 4096) :
    s.zeroise (some n) = { s with keys := { s.keys with waiting := s.keys.waiting ++ [some n] } } := by
  have notTarget : ¬(some n = none ∨ some n = some (ctrl % 4096)) := by simp [other]
  simp only [State.zeroise, imports, if_neg notTarget, State.modKeys]

end Import

/-- Settles O32: a zeroise finds no import, another slot's or its own; every other command finds what its statement names. -/
theorem keyStoreCommands : Obligations.KeyStoreCommands := by
  unfold Obligations.KeyStoreCommands
  intro s up
  have runs {o : Host.Outcome State Fault Refusal} : (if ¬ s.aon.coreUp then .next s else o) = o := coreGuard_of_coreUp up
  have slot {n : Nat} (hn : n < 4096) : exec (.keyZeroiseSlot n) s = .next (s.zeroise (some n)).settle := by
    refine runs.trans ?_
    rw [Nat.mod_eq_of_lt hn]
  refine ⟨fun idle => runs.trans ?imports, fun _ => runs, fun n hn noImport => (slot hn).trans ?slotNow, fun noImport => runs.trans ?allNow,
    fun ctrl d e imports => ⟨fun n hn other => (slot hn).trans ?waits, fun n target => ?ends, runs.trans ?endsAll⟩,
    fun zeroising => runs.trans ?zeroised, fun d detector => congrArg Host.Outcome.next (if_pos ⟨detector, up⟩), runs⟩
  case imports => simp only [State.keyImport, idle, Bool.false_eq_true, if_false, State.modKeys]
  case slotNow => rw [State.zeroise_alone noImport]
  case allNow => rw [State.zeroise_alone noImport]
  case waits => rw [State.zeroise_of_other imports other]
  case ends =>
    have hn : n < 4096 := target ▸ Nat.mod_lt _ (by decide)
    rw [slot hn, State.zeroise_of_target imports (Or.inr (congrArg some target))]
  case endsAll => rw [State.zeroise_of_target imports (Or.inl rfl)]
  case zeroised => rw [if_pos zeroising]

end Sys2Proof.Machine

/-! A drive port from reset to Up, and out of it (R109, R147, R148, R268 to R273; log entries 145, 164 and 167). -/

namespace Sys2Proof.Machine
open Sys2Proof

theorem State.onSlot_of_noCol {s : State} {n : Nat} (unmapped : s.colOfSlot n = none) (f : State → Nat → State) : s.onSlot n f = s := by
  simp only [State.onSlot, unmapped]

/-- Settles O33: each command finds the port in the state that its step names; after a recovery that fails, the column of the slot decides
what follows. -/
theorem drivePortLink : Obligations.DrivePortLink := by
  unfold Obligations.DrivePortLink
  intro s n up slot
  have runs {o : Host.Outcome State Fault Refusal} : (if ¬ s.aon.coreUp then .next s else o) = o := coreGuard_of_coreUp up
  have acts {p : Prop} [Decidable p] {t : State} (met : p) : (if ¬ s.aon.coreUp then .next s else .next (if p then t else s) :
      Host.Outcome State Fault Refusal) = .next t := rowGuard_of_met up met
  refine ⟨fun reset good => acts ⟨reset, good⟩, fun sp w u trains hu => ⟨fun fast wide => (acts trains).trans ?full,
      fun degraded => (acts trains).trans ?degraded⟩,
    fun trains first => runs.trans ?retries, fun trains again => runs.trans ?fails, fun w configuring => acts configuring,
    fun isUp => acts isUp, fun u recovering hu => ?recovery, fun quiescing asserted => acts ⟨quiescing, by simp [asserted]⟩,
    fun isUp first => acts ⟨isUp, by simp [first]⟩, fun tried => acts tried⟩
  case full =>
    have sound : ¬(sp < 4 ∨ w < s.fullWidth) := fun h => h.elim (Nat.not_lt.2 fast) (Nat.not_lt.2 wide)
    simp only [if_neg sound, hu]
  case degraded => simp only [if_pos degraded, hu]
  case retries => rw [if_neg (not_not_intro trains), if_pos first]
  case fails => rw [if_neg (not_not_intro trains), if_neg again]
  case recovery =>
    have offs : exec (.recoveryTimeout n) s
        = .next (u.onSlot n fun s c => if (s.power c).ps = 6 then s.wakeFail c else (s.absentColumn c).awaitAbsent n c).settle := by
      rw [hu]
      exact acts recovering
    refine ⟨fun unmapped => offs.trans ?unmapped, fun c mapped waking => offs.trans ?waking, fun c mapped awake => offs.trans ?absent⟩
    case unmapped => rw [State.onSlot_of_noCol unmapped]
    case waking => rw [State.onSlot_of_col mapped, if_pos waking]
    case absent => rw [State.onSlot_of_col mapped, if_neg awake]

end Sys2Proof.Machine

/-! Member requests on a drive port (R142, R148, R270, R273, R274, R277, R278; log entries 90 and 189). -/

namespace Sys2Proof.Machine
open Sys2Proof

/-- The request that a port's order picks, checked when it is a write, takes the lowest free tag and goes out (R273). -/
theorem State.reqIssue_of_picked {s : State} {n t : Nat} {r : MReq} {wrr : Nat × Nat} (going : s.stopped = false) (isUp : s.pt n = ptUp)
    (room : (s.port n).live < 1024)
    (picked : s.pickReq { s.port n with reqs := ((s.port n).reqs.filter fun q => !s.heldBack q) } = some (r, wrr))
    (free : ((List.range 2048).find? fun y => (tget (s.port n).tags y).isNone) = some t) (checked : r.write = true → s.writeCheck r = []) :
    s.reqIssue n = (((if r.write then (s.modPort n fun p => { p with
      reqs := (p.reqs.filter fun q => q.id ≠ r.id), tags := (tput p.tags t ⟨r, false, s.now, [], 0⟩), wrr := wrr }).mzoneWrite r.col r.stripe
        r.lba else s.modPort n fun p => { p with
      reqs := (p.reqs.filter fun q => q.id ≠ r.id), tags := (tput p.tags t ⟨r, false, s.now, [], 0⟩), wrr := wrr }).cmdOut n t r 0).usedNow
        r.col).tagsShow n := by
  have issues : ¬(s.stopped ∨ s.pt n ≠ ptUp ∨ 1024 ≤ (s.port n).live) := by simp [going, isUp, Nat.not_le.2 room]
  have sound : (if r.write then s.writeCheck r else []) = [] := by
    split
    · exact checked ‹_›
    · rfl
  simp only [State.reqIssue, if_neg issues, picked, free, if_neg (not_not_intro sound)]

/-! ### Completions (R274, R278) -/

theorem State.memberDone_of_noTag {s : State} {n t : Nat} (unused : tget (s.port n).tags t = none) (st : Nat) (bs : List Blk) :
    s.memberDone n t st bs = (s.satInc (Fld.DRP_P.LATE_CPL.V n)).detail 0x21 (drpSrc n 5) (n + 2 ^ 16 * t) 0 0 := by
  simp only [State.memberDone, unused]

section Live
variable {s : State} {n t : Nat} {x : PTag} (inUse : tget (s.port n).tags t = some x) (live : x.quarantined = false) (bs : List Blk)
include inUse live

/-- More of the request's commands are to go out under the tag. -/
theorem State.memberDone_of_more (more : x.moved + s.cmdBlks n x.req < x.req.n) :
    s.memberDone n t 0 bs = (s.modPort n fun p => { p with
      tags := tput p.tags t { x with moved := x.moved + s.cmdBlks n x.req, at_ := s.now } }).cmdOut n t x.req
        (x.moved + s.cmdBlks n x.req) := by
  simp only [State.memberDone, inUse, live, Bool.false_eq_true, if_false, true_and, if_pos more]

/-- The last command of the request has ended: the tag is free again, and the request ends. -/
theorem State.memberDone_of_last (last : x.req.n ≤ x.moved + s.cmdBlks n x.req) {u : State}
    (hu : u = (((s.modPort n fun p => { p with tags := tdel p.tags t }).memberCount n x.req true ((s.now - x.at_) / 1000)).tagFreed n)) :
    s.memberDone n t 0 bs = if x.req.write then (u.writeOver x.req.own x.req.stripe x.req.pos).relCheck.finishAll
      else u.readEnd x.req true bs := by
  simp only [State.memberDone, inUse, live, Bool.false_eq_true, if_false, true_and, if_neg (Nat.not_lt.2 last), beq_self_eq_true, if_true, ← hu]

end Live

/-- Settles O34: the port issues what its order picks; an ended command finds its tag live, quarantined or not in use; an access of the
drive's finds the tag of its buffer. -/
theorem driveRequests : Obligations.DriveRequests := by
  unfold Obligations.DriveRequests
  intro s up
  have runs {o : Host.Outcome State Fault Refusal} : (if ¬ s.aon.coreUp then .next s else o) = o := coreGuard_of_coreUp up
  have completed {n t : Nat} (hn : n < 48) (ht : t < 2048) (st : Nat) (bs : List Blk) :
      exec (.memberCompletion n t st bs) s = .next (s.memberDone n t st bs).settle := rowGuard_of_met up ⟨hn, ht⟩
  refine ⟨fun n going isUp room => ⟨runs, fun r wrr t u picked free checked hu => runs.trans ?issued⟩,
    fun n t x bs hn ht inUse live more => (completed hn ht 0 bs).trans ?more, fun n t x bs u hn ht inUse live last hu => ?ended,
    fun n t st bs hn ht unused => (completed hn ht st bs).trans ?late, fun n t x inUse live => runs,
    fun n t x inUse quarantined => runs.trans ?released, fun n a x bs inUse live fits => runs.trans ?stored,
    fun n a x bs inUse quarantined => runs.trans ?lateData, fun n a len x inUse => ⟨fun live fits => runs.trans ?read,
      fun outside => runs.trans ?unsupported⟩, fun n a len unused => runs.trans ?noTag, fun n w isUp => rowGuard_of_met up isUp⟩
  case issued => rw [State.reqIssue_of_picked going isUp room picked free checked, ← hu]
  case more => rw [State.memberDone_of_more inUse live bs more]
  case ended =>
    refine ⟨fun read => (completed hn ht 0 bs).trans ?_, fun write => (completed hn ht 0 bs).trans ?_⟩
    · rw [State.memberDone_of_last inUse live bs last hu, if_neg (by simp [read])]
    · rw [State.memberDone_of_last inUse live bs last hu, if_pos write]
  case late => rw [State.memberDone_of_noTag unused]
  case released => simp only [inUse, if_pos quarantined]
  case stored => simp only [inUse, live, Bool.false_eq_true, if_false, if_pos fits]
  case lateData => simp only [inUse, if_pos quarantined]
  case read =>
    have inside : ¬(x.quarantined ∨ tagBytes < a % tagBytes + len) := by simp [live, Nat.not_lt.2 fits]
    simp only [inUse, if_neg inside]
  case unsupported => simp only [inUse, if_pos outside]
  case noTag => simp only [unused]

end Sys2Proof.Machine

/-! Presence, buttons, removal, NVMe-MI polls, port enables and configuration accesses (R271, R279 to R287, R401; log entries 55, 92
and 94). -/

namespace Sys2Proof.Machine
open Sys2Proof

/-! ### Presence (R279) -/

/-- A slot that was not shown present is, and from phase 7 on it may await its probe. -/
theorem State.presenceChange_of_new {s u v : State} {n : Nat} (absent : s.flag (Fld.DRP_P.SLOT_STATUS.PRESENT n) = false)
    (hu : u = (((s.modPort n fun p => { p with rawAbsent := false }).putBit64 Reg.DRP.PRESENT_LO n true).on
      (Fld.DRP_P.SLOT_STATUS.PRESENT n)).eventHeld Fld.DRP.EVENT.PRESENCE (drpSrc n 0))
    (hv : v = u.event (Fld.DRP_P.SLOT_STATUS.PRESENCE_CHANGED n) (drpSrc n 0)) :
    s.presenceChange n true = if v.boot.phase < 7 then v else v.awaitProbe n := by
  subst hv hu
  simp only [State.presenceChange, if_true, absent, Bool.false_eq_true, if_false, Bool.not_true]

theorem State.presenceChange_of_shown {s : State} {n : Nat} (present : s.flag (Fld.DRP_P.SLOT_STATUS.PRESENT n) = true) :
    s.presenceChange n true = s.modPort n fun p => { p with rawAbsent := false } := by
  simp only [State.presenceChange, if_true, present, Bool.not_true]

/-! ### Configuration accesses (R286, R287) -/

section Access
variable {s : State} {n : Nat} (idle : s.flag (Fld.DRP_P.CFG_STATUS.BUSY n) = false)
  (settled : s.flag (Fld.DRP_P.STATUS.PENDING n) = false) (linked : s.pt n = ptUp ∨ s.pt n = ptConfiguring)
include idle settled linked

/-- An access that may be made is sent. -/
theorem State.cfgStart_of_open {op : Nat} (allowed : op = 2 → s.cfgWritable n = true) :
    s.cfgStart n op = ((s.on (Fld.DRP_P.CFG_STATUS.BUSY n)).modPort n fun p => { p with cfgOp := op }).emit
      (.member n 0 (10 + op) (s.get (Fld.DRP_P.CFG_ADDR.V n)) (if op = 2 then s.get (Fld.DRP_P.CFG_DATA.V n) else 0) []) := by
  have permitted : ¬(op = 2 ∧ ¬s.cfgWritable n = true) := fun h => h.2 (allowed h.1)
  simp only [State.cfgStart, idle, settled, Bool.false_eq_true, if_false, if_neg permitted, if_neg (not_not_intro linked)]

end Access

/-- Settles O35: presence, an open window, a chain, a port and an access under way are each found as the statement names them. -/
theorem presenceAndSideband : Obligations.PresenceAndSideband := by
  unfold Obligations.PresenceAndSideband
  intro s n up used
  have runs {o : Host.Outcome State Fault Refusal} : (if ¬ s.aon.coreUp then .next s else o) = o := coreGuard_of_coreUp up
  have acts {p : Prop} [Decidable p] {t : State} (met : p) : (if ¬ s.aon.coreUp then .next s else .next (if p then t else s) :
      Host.Outcome State Fault Refusal) = .next t := rowGuard_of_met up met
  refine ⟨fun u v absent hu hv => (acts used).trans ?appears, fun present => (acts used).trans ?shown, acts used, fun present => acts present,
    fun isOpen => acts isOpen, acts used, fun v hv powered free idle => ?poll,
    fun k hk => ⟨runs.trans ?freed, runs.trans ?stuck, runs⟩, fun v => acts used,
    fun idle settled linked => ⟨runs.trans ?reads, fun writable => runs.trans ?writes⟩,
    fun d busy => ⟨fun read => (acts busy).trans ?readDone, fun write => (acts busy).trans ?writeDone⟩,
    fun k hk off => acts ⟨hk, ?stops⟩⟩
  case appears => rw [State.presenceChange_of_new absent hu hv]
  case shown => rw [State.presenceChange_of_shown present]
  case poll =>
    have polls : ¬(s.pt n = ptOff ∨ bit s.mb.chainsStuck (s.chainOf n) ∨ bit (s.get Fld.SIO.STATUS.V) (s.chainOf n)) := by
      simp [powered, free, idle]
    refine ⟨runs.trans ?_, fun w temp life => runs.trans ?_⟩
    · simp only [if_neg polls, hv]
    · simp only [if_neg polls, hv]
  case freed => simp [Nat.not_le.2 hk]
  case stuck => simp only [if_neg (Nat.not_le.2 hk), not_true_eq_false, if_false]
  case reads => exact congrArg _ (State.cfgStart_of_open idle settled linked fun isWrite => absurd isWrite (by decide))
  case writes => exact congrArg _ (State.cfgStart_of_open idle settled linked fun _ => writable)
  case readDone => simp only [read, and_self, if_true]
  case writeDone => simp only [write, false_and, if_false]
  case stops =>
    simp only [List.all_eq_true, List.mem_filter, List.mem_range, Bool.and_eq_true, Bool.not_eq_true', bne_iff_ne, beq_iff_eq]
    exact fun m ⟨hm, mine⟩ => off m hm mine

end Sys2Proof.Machine

/-! Slot-power channels: demand, ramp, current limit and temperature (R271, R289, R291, R293 to R298, R305; log entries 11 and 30). -/

namespace Sys2Proof.Machine
open Sys2Proof

/-! ### Ramps (R295, R297) -/

/-- The channel at the head of the queue ramps when a place is free and its sense voltage is low. -/
theorem State.rampGrant_of_head {s u : State} {n mv : Nat} (powers : s.slotOk n = true) (queued : s.ch n = chQueued)
    (demands : s.demandCounts n = true) (first : s.rampHead n = true)
    (place : s.get Fld.SLP.STATUS.RAMPING < s.get Fld.SLP.CFG.RAMP_MAX) (closed : mv ≤ 200)
    (hu : u = ((s.setCh n chRamping).modChan n fun c => { c with bad := 0 })) :
    s.rampGrant n mv = u.setN Reg.DRP.DCLK_EN (setBit (u.regN Reg.DRP.DCLK_EN) (s.dclkOf n)) := by
  subst hu
  simp only [State.rampGrant, if_pos (And.intro powers (And.intro queued (And.intro demands (And.intro first place)))),
    if_neg (Nat.not_lt.2 closed)]

section Ramping
variable {s : State} {n : Nat} (ramping : s.ch n = chRamping) (us : Nat)
include ramping

theorem State.rampComplete_good :
    s.rampComplete n us false = (((s.put (Fld.SLP_C.LAST_RAMP.V n) us).setCh n chOn).pgGive n).portPg n := by
  simp only [State.rampComplete, if_pos ramping, Bool.false_eq_true, if_false]

theorem State.rampComplete_bad :
    s.rampComplete n us true = ((s.put (Fld.SLP_C.LAST_RAMP.V n) us).setCh n chOverload).modChan n fun c => { c with bad := 1 } := by
  simp only [State.rampComplete, if_pos ramping, if_true]

end Ramping

/-- A fast trip while the gate is driven is a slot fault (R291). -/
theorem State.fastTrip_of_driven {s : State} {n : Nat} (driven : s.ch n ≠ chShut) :
    s.fastTrip n = (s.satInc (Fld.SLP_C.TRIPS.V n)).slotFault n 1 (Fld.SLP_C.EVENT.FAST_TRIP n) := by
  simp only [State.fastTrip, if_neg driven]

/-! ### Temperature and samples (R293, R296) -/

/-- A pole with a time constant advances and takes no free value. -/
theorem State.pole_of_tau {tau : Nat} (constant : tau ≠ 0) (s : State) (d : Rat) (pw r : Nat) :
    s.pole d pw r tau = (d + ((pw : Rat) / 1000 * ((r : Rat) / 100) - d) / (10 * (tau : Rat)), s) := if_neg constant

/-- A sample at or above the power-good voltage without current limiting is good; showing it leaves the threshold as it was. -/
theorem State.badSample_of_good {s : State} {n mv : Nat} (good : 100 * s.get (Fld.SLP_C.TIMER.PG_V n) ≤ mv) (ma : Nat) :
    (((s.put (Fld.SLP_C.MEAS.CURRENT n) ma).put (Fld.SLP_C.MEAS.VOUT n) mv).putB (Fld.SLP_C.STATUS.LIMITING n) false).badSample n mv false
      = false := by
  have measured : (Fld.SLP_C.TIMER.PG_V n).reg ≠ (Fld.SLP_C.MEAS.CURRENT n).reg := by
    simp only [Fld.SLP_C.TIMER.PG_V, Fld.SLP_C.MEAS.CURRENT, Reg.SLP_C.TIMER, Reg.SLP_C.MEAS]
    omega
  have status : (Fld.SLP_C.TIMER.PG_V n).reg ≠ (Fld.SLP_C.STATUS.LIMITING n).reg := by
    simp only [Fld.SLP_C.TIMER.PG_V, Fld.SLP_C.STATUS.LIMITING, Reg.SLP_C.TIMER, Reg.SLP_C.STATUS]
    omega
  have threshold : (((s.put (Fld.SLP_C.MEAS.CURRENT n) ma).put (Fld.SLP_C.MEAS.VOUT n) mv).putB (Fld.SLP_C.STATUS.LIMITING n) false).get
      (Fld.SLP_C.TIMER.PG_V n) = s.get (Fld.SLP_C.TIMER.PG_V n) := by
    rw [State.putB, State.get_put_other _ _ _ _ (Nat.le_of_ble_eq_true rfl) (Or.inl status),
      State.get_put_other _ (Fld.SLP_C.MEAS.VOUT n) _ _ (Nat.le_of_ble_eq_true rfl) (Or.inl measured),
      State.get_put_other _ _ _ _ (Nat.le_of_ble_eq_true rfl) (Or.inl measured)]
  rw [State.badSample, threshold, decide_eq_false (Nat.not_lt.2 good), Bool.false_and, Bool.or_false]

/-- Settles O36: each command finds the channel in the state that the statement names; a good sample changes only what shows it. -/
theorem slotPowerRamps : Obligations.SlotPowerRamps := by
  unfold Obligations.SlotPowerRamps
  intro s n up slot
  have runs {o : Host.Outcome State Fault Refusal} : (if ¬ s.aon.coreUp then .next s else o) = o := coreGuard_of_coreUp up
  refine ⟨runs, fun mv u powers queued demands first place closed hu => runs.trans ?ramps,
    fun us ramping => ⟨runs.trans ?good, runs.trans ?bad⟩, fun ramping => runs.trans (if_pos ramping), fun driven => runs.trans ?trips,
    fun overload => ⟨runs.trans (if_pos overload), runs.trans (if_pos overload)⟩,
    fun t diode sound low high => runs.trans ?measured, fun t diode sound outside => runs.trans ?faulty,
    fun pw tau1 tau2 active => runs.trans ?thermal, fun ma mv good => runs.trans ?sample⟩
  case ramps => rw [State.rampGrant_of_head powers queued demands first place closed hu]
  case good => rw [State.rampComplete_good ramping]
  case bad => rw [State.rampComplete_bad ramping]
  case trips =>
    have notShut : s.ch n ≠ chShut := by rcases driven with h | h | h <;> rw [h] <;> decide
    have mayTrip : s.ch n = chRamping ∨ s.ch n = chOn ∨ s.ch n = chOverload ∨ s.ch n = chShut := driven.imp_right (Or.imp_right Or.inl)
    rw [if_pos mayTrip, State.fastTrip_of_driven notShut]
  case measured =>
    have inside : ¬(t < -640 ∨ 3200 < t) := by omega
    rw [if_pos ⟨slot, diode, by simp [sound]⟩, if_neg inside]
  case faulty => rw [if_pos ⟨slot, diode, by simp [sound]⟩, if_pos outside]
  case thermal =>
    have shown (f : Chan → Chan) : (s.modChan n f).flag (Fld.SLP_C.STATUS.TSRC_ACTIVE n) = true := active
    simp only [if_pos slot, State.pole_of_tau tau1, State.pole_of_tau tau2, shown, if_true]
  case sample =>
    simp only [if_pos slot, State.badSample_of_good good, Bool.false_eq_true, not_false_eq_true, if_true]

end Sys2Proof.Machine

/-! Slot-power channels: back-off, minimum off time, clearing, open sense and the gate supply (R286, R294, R298, R300, R301, R305). -/

namespace Sys2Proof.Machine
open Sys2Proof

/-! ### A demand that ends (R272, R286, R300) -/

theorem State.demandOver_of_quiet {s : State} {n : Nat} (quiet : s.portCalls n = false)
    (nothing : s.flag (Fld.DRP_P.STATUS.PENDING n) = false) :
    s.demandOver n = (s.modChan n fun c => { c with demand := false }).demandGone n := by
  simp only [State.demandOver, quiet, nothing, Bool.false_eq_true, false_and, if_false]

/-- The port has latched a new request meanwhile. -/
theorem State.demandOver_of_calling {s : State} {n : Nat} (calls : s.portCalls n = true)
    (latched : s.flag (Fld.DRP_P.STATUS.PENDING n) = true) (allowed : s.flag (Fld.SLP_C.CTRL.FORCE_OFF n) = false) :
    s.demandOver n = ((s.modChan n fun c => { c with demand := true }).demandGone n).slotDemand n := by
  simp only [State.demandOver, calls, latched, allowed, Bool.false_eq_true, not_false_eq_true, and_self, if_true]

/-! ### Clearing and open sense (R294, R305) -/

theorem State.slotClear_of_latched {s : State} {n : Nat} (latched : s.ch n = chLatched) :
    s.slotClear n = (s.setCh n chMinOff).put (Fld.SLP_C.STATUS.ATTEMPT n) 0 := if_pos latched

theorem State.openSense_of_powered {s : State} {n : Nat} (notOff : s.ch n ≠ chOff) (notLatched : s.ch n ≠ chLatched) :
    s.openSense n = ((s.put (Fld.SLP_C.STATUS.CAUSE n) 5).event (Fld.SLP_C.EVENT.OPEN_SENSE n) (slpSrc n 4)).latchCh n :=
  if_neg fun h => h.elim notOff notLatched

/-- Settles O37: a timer, a clear and a sense find the channel in the state that the statement names; a demand ends with or without a
request latched meanwhile. -/
theorem slotPowerOffAndFaults : Obligations.SlotPowerOffAndFaults := by
  unfold Obligations.SlotPowerOffAndFaults
  intro s n up slot
  have runs {o : Host.Outcome State Fault Refusal} : (if ¬ s.aon.coreUp then .next s else o) = o := coreGuard_of_coreUp up
  refine ⟨fun backsOff demands cool => runs.trans (if_pos ⟨backsOff, demands, cool⟩), fun good => runs.trans (if_pos good),
    fun demand quiet off nothing => runs.trans ?ends, fun demand calls off latched allowed => runs.trans ?again,
    fun shut => runs.trans (if_pos shut), fun minOff => runs.trans (if_pos minOff), fun latched => runs.trans ?clears,
    fun mv high notOff notLatched => runs.trans ?opens, runs, runs⟩
  case ends => rw [if_pos ⟨slot, demand, Or.inl ⟨Or.inl (by simp [quiet]), off⟩⟩, State.demandOver_of_quiet quiet nothing]
  case again => rw [if_pos ⟨slot, demand, Or.inl ⟨Or.inr latched, off⟩⟩, State.demandOver_of_calling calls latched allowed]
  case clears => rw [State.slotClear_of_latched latched]
  case opens =>
    simp only [List.foldl_cons, List.foldl_nil, if_pos (And.intro slot high), State.openSense_of_powered notOff notLatched]

end Sys2Proof.Machine

/-! The feed selector and the shelf-stop (R302 to R306; log entry 29). -/

namespace Sys2Proof.Machine
open Sys2Proof

/-- Settles O38: the condition of each row is the one that its clause states. -/
theorem feedsAndShelfStop : Obligations.FeedsAndShelfStop := by
  unfold Obligations.FeedsAndShelfStop
  intro s up
  have runs {o : Host.Outcome State Fault Refusal} : (if ¬ s.aon.coreUp then .next s else o) = o := coreGuard_of_coreUp up
  have acts {p : Prop} [Decidable p] {a b : Host.Outcome State Fault Refusal} (met : p) :
      (if ¬ s.aon.coreUp then .next s else if p then a else b) = a := runs.trans (if_pos met)
  have unset {b : Bool} (h : b = false) : ¬b = true := Bool.eq_false_iff.1 h
  refine ⟨fun f mv hf => ⟨fun usable => acts ⟨hf, usable⟩,
      fun forward wired selected => (acts ⟨hf, unset forward, unset wired⟩).trans ?keeps,
      fun forward wired noneSelected => (acts ⟨hf, unset forward, unset wired⟩).trans ?selects, fun negative => acts ⟨hf, negative⟩,
      acts hf⟩,
    fun switching going => acts ⟨switching, unset going⟩, fun switching driven => acts ⟨switching, driven⟩,
    fun settled => runs.trans (if_neg (unset settled)),
    fun reverts usable selected other settled => acts ⟨reverts, usable, selected, other, unset settled⟩, runs, runs⟩
  case keeps => exact congrArg _ (if_neg selected)
  case selects => exact congrArg _ (if_pos noneSelected)

end Sys2Proof.Machine

/-! The endpoint's link, resets and configuration requests (R309, R314 to R318; log entry 105). -/

namespace Sys2Proof.Machine
open Sys2Proof

/-- A Function Level Reset of a Ready function keeps the link (R317). -/
theorem State.flr_of_ready {s : State} (ready : s.epState = epReady) :
    s.flr = ((s.setEp epResetting).modEp fun e => { e with linkKept := true }).funcClear := by
  rw [State.flr, if_neg (not_not_intro ready)]

/-- Settles O39: each row finds the function in the state that its clause names; a Ready function answers by the shared read and write. -/
theorem endpointLink : Obligations.EndpointLink := by
  unfold Obligations.EndpointLink
  intro s up
  have runs {o : Host.Outcome State Fault Refusal} : (if ¬ s.aon.coreUp then .next s else o) = o := coreGuard_of_coreUp up
  have acts {p : Prop} [Decidable p] {t : State} (met : p) : (if ¬ s.aon.coreUp then .next s else .next (if p then t else s) :
      Host.Outcome State Fault Refusal) = .next t := rowGuard_of_met up met
  have perst {high : Bool} (changes : s.aon.epPerst ≠ high) : exec (.epPerstChange high) s = .next (s.epPerst high).settle :=
    congrArg Host.Outcome.next ((if_neg changes).trans (if_pos up))
  refine ⟨fun low => perst (by simp [low]), fun high => perst (by simp [high]), fun sp w u trains connected hu => runs.trans ?linkUp,
    fun serves => runs.trans (congrArg Host.Outcome.next (if_pos serves)), fun resets => runs.trans ?linkLost,
    fun ready => runs.trans ?functionReset, fun v => congrArg Host.Outcome.next (if_pos up), fun resets => acts resets,
    fun off v retries w => runs.trans (congrArg Host.Outcome.next (if_pos retries)), fun off v ready => ?request⟩
  case linkUp =>
    have links : ¬(s.epState ≠ epTraining ∨ s.aon.squelched) := by simp [trains, connected]
    simp only [if_neg links, hu]
  case linkLost =>
    have notServing : ¬(s.epState = epReady ∨ s.epState = epNotReady) := by rw [resets]; decide
    rw [if_neg notServing, if_pos resets]
  case functionReset => rw [State.flr_of_ready ready]
  case request =>
    have answers : ¬(s.epState = epNotReady ∨ (s.epState = epResetting ∧ s.ep.linkKept)) := by
      rw [ready]
      exact fun h => h.elim (by decide) fun h => absurd h.1 (by decide)
    refine ⟨runs.trans ?_, runs.trans ?_⟩
    · simp only [if_neg answers, if_neg (not_not_intro ready), if_true]
    · simp only [if_neg answers, if_neg (not_not_intro ready), Bool.false_eq_true, if_false]

end Sys2Proof.Machine

/-! BAR2 reads and writes of DRAM, and MSI-X table writes (R310, R312, R313, R353, R367, R398; log entry 106). -/

namespace Sys2Proof.Machine
open Sys2Proof

section Memory
variable {s : State} (up : s.aon.coreUp = true) (taken : s.epMemOk = true)
include taken

/-- A function that takes memory requests is Ready. -/
theorem State.epState_of_epMemOk : s.epState = epReady := by
  simp only [State.epMemOk, Bool.and_eq_true, beq_iff_eq] at taken
  exact taken.1.1

/-- An access inside BAR2's window is taken. -/
theorem State.bar2_taken {n : Nat} (window : n ≤ 2 ^ s.get Fld.EPF.BAR2_CFG.LOG2) :
    ¬(¬s.epMemOk ∨ 2 ^ s.get Fld.EPF.BAR2_CFG.LOG2 < n) := not_or.2 ⟨not_not_intro taken, Nat.not_lt.2 window⟩

include up

/-- A read of a trained DRAM inside the window: what lies in the fitted DRAM is answered unless its line is uncorrectable. -/
theorem exec_bar2Read_of_trained (trained : s.flag Fld.DDC.STATUS.TRAINED = true) {off len : Nat}
    (window : off + len ≤ 2 ^ s.get Fld.EPF.BAR2_CFG.LOG2) (u : Bool) :
    exec (.bar2Read off len u) s = .next
      (if s.get Fld.TOP.DRAM_FITTED.V * 2 ^ 20 < s.rd64 Reg.EPF.BAR2_MAP_LO + off + len then
        ((s.emit (.pcie 1 [])).event Fld.EPF.EVENT.BAR2_RANGE 1346).settle
      else if u then s.emit (.pcie 2 [])
      else (s.emit (.pcie 0 (s.dramRead (s.rd64 Reg.EPF.BAR2_MAP_LO + off) len))).bwAdd 56 0 len) := by
  have serves : ¬(s.epState ≠ epReady ∧ s.epState ≠ epNotReady) := fun h => h.1 (State.epState_of_epMemOk taken)
  refine (coreGuard_of_coreUp up).trans (congrArg Host.Outcome.next ?_)
  exact (if_neg serves).trans <| (if_neg (State.bar2_taken taken window)).trans <| if_neg (not_not_intro trained)

/-- A write inside the window is counted; a sound one of a trained DRAM then meets the fitted size and the required budget. -/
theorem exec_bar2Write_of_trained (trained : s.flag Fld.DDC.STATUS.TRAINED = true) {off : Nat} {bytes : List Byte}
    (window : off + bytes.length ≤ 2 ^ s.get Fld.EPF.BAR2_CFG.LOG2) :
    exec (.bar2Write off bytes false) s = .next
      (if s.get Fld.TOP.DRAM_FITTED.V * 2 ^ 20 < s.rd64 Reg.EPF.BAR2_MAP_LO + off + bytes.length then
        ((s.bwAdd 56 bytes.length 0).event Fld.EPF.EVENT.BAR2_RANGE 1346).settle
      else if s.rd64 Reg.EPF.BAR2_MAP_LO + off < s.get Fld.TOP.DRAM_REQUIRED.V * 2 ^ 20
          ∧ ¬s.inSampleRing (s.rd64 Reg.EPF.BAR2_MAP_LO + off) bytes.length then
        (((s.bwAdd 56 bytes.length 0).satInc Fld.EPF.BAR2_DISCARDS.BAR2).event Fld.EPF.EVENT.BAR2_PROTECTED 1345).settle
      else (s.bwAdd 56 bytes.length 0).dramWrite (s.rd64 Reg.EPF.BAR2_MAP_LO + off) bytes) := by
  refine (coreGuard_of_coreUp up).trans (congrArg Host.Outcome.next ?_)
  exact (if_neg (State.bar2_taken taken window)).trans <| (if_neg Bool.false_ne_true).trans <| if_neg (not_not_intro trained)

/-- Before DRAM is trained a write inside the first 32 MiB goes to the staging buffer (R367). -/
theorem exec_bar2Write_of_untrained (untrained : s.flag Fld.DDC.STATUS.TRAINED = false) {off : Nat} {bytes : List Byte}
    (window : off + bytes.length ≤ 2 ^ s.get Fld.EPF.BAR2_CFG.LOG2) (staged : off + bytes.length ≤ 2 ^ 25) :
    exec (.bar2Write off bytes false) s
      = .next ((s.bwAdd 56 bytes.length 0).modBoot fun b => { b with buffer := memPutAll b.buffer off bytes }) := by
  refine (coreGuard_of_coreUp up).trans (congrArg Host.Outcome.next ?_)
  exact (if_neg (State.bar2_taken taken window)).trans <| (if_neg Bool.false_ne_true).trans <|
    (if_pos (Bool.eq_false_iff.1 untrained)).trans (if_pos staged)

/-- A poisoned write sets its bit of the AER status and stores nothing. -/
theorem exec_bar2Write_of_poisoned {off : Nat} {bytes : List Byte} (window : off + bytes.length ≤ 2 ^ s.get Fld.EPF.BAR2_CFG.LOG2) :
    exec (.bar2Write off bytes true) s = .next ((s.bwAdd 56 bytes.length 0).modEp fun e => { e with aer := setBit e.aer 12 }) := by
  refine (coreGuard_of_coreUp up).trans (congrArg Host.Outcome.next ?_)
  exact (if_neg (State.bar2_taken taken window)).trans (if_pos rfl)

end Memory

/-- Settles O40: an access inside the window meets the fitted size, then the required budget; counting its bytes changes neither. -/
theorem bar2AndMsix : Obligations.Bar2AndMsix := by
  unfold Obligations.Bar2AndMsix
  intro s up taken
  refine ⟨fun trained => ⟨fun off len window => ⟨fun fitted => ?reads, fun past u => ?pastRead⟩,
      fun off bs window => ⟨fun fitted free => exec_bar2Write_of_stored up taken trained window fitted free,
        fun fitted reserved outside => ?guarded, fun past => ?pastWrite, exec_bar2Write_of_poisoned up taken window⟩⟩,
    fun untrained off bs window staged => exec_bar2Write_of_untrained up taken untrained window staged,
    fun off v inside => rowGuard_of_met up ⟨taken, inside⟩⟩
  case reads =>
    constructor
    · rw [exec_bar2Read_of_trained up taken trained window, if_neg (Nat.not_lt.2 fitted), if_neg Bool.false_ne_true]
    · rw [exec_bar2Read_of_trained up taken trained window, if_neg (Nat.not_lt.2 fitted), if_pos rfl]
  case pastRead => rw [exec_bar2Read_of_trained up taken trained window, if_pos past]
  case guarded =>
    rw [exec_bar2Write_of_trained up taken trained window, if_neg (Nat.not_lt.2 fitted),
      if_pos ⟨reserved, Bool.eq_false_iff.1 outside⟩]
  case pastWrite => rw [exec_bar2Write_of_trained up taken trained window, if_pos past]

end Sys2Proof.Machine

/-! TOCSIN, the pending registers, first-fault clearing and firmware's sources (R322, R325, R328, R337, R338; log entries 25 and 26). -/

namespace Sys2Proof.Machine
open Sys2Proof

/-! ### TOCSIN (R337, R338) -/

/-- With a level set TOCSIN returns to it at the end of a pulse. -/
theorem State.pulseEnd_of_level {s u : State} (level : s.aon.levelSet = true) (hu : u = s.off Fld.FLT.STATUS.PULSING) :
    s.pulseEnd = u.put Fld.FLT.STATUS.TOCSIN (u.get Fld.FLT.TOCSIN_CTRL.LEVEL) := by
  subst hu
  exact congrArg (State.put _ _) (if_pos level)

theorem State.pulseEnd_of_noLevel {s : State} (none : s.aon.levelSet = false) :
    s.pulseEnd = (s.off Fld.FLT.STATUS.PULSING).put Fld.FLT.STATUS.TOCSIN 0 :=
  congrArg (State.put _ _) (if_neg (Bool.eq_false_iff.1 none))

theorem State.tocsinRestart_of_alive {s : State} (mode : s.get Fld.FLT.CFG.TOCSIN_MODE = 1) (quiet : s.tocsinPending = false) :
    s.tocsinRestart = (s.on Fld.FLT.STATUS.ALIVE).modAon fun a => { a with tocsinHold := false } :=
  if_pos ⟨mode, Bool.eq_false_iff.1 quiet⟩

/-- Settles O43: each row finds the pulse, the mode or the wave as its clause names it; the pending registers and the first fault are
cleared by the shared operations. -/
theorem tocsinAndFirstFault : Obligations.TocsinAndFirstFault := by
  unfold Obligations.TocsinAndFirstFault
  intro s up
  have runs {o : Host.Outcome State Fault Refusal} : (if ¬ s.aon.coreUp then .next s else o) = o := coreGuard_of_coreUp up
  refine ⟨fun pulses noLevel => runs.trans ?low, fun u pulses level hu => runs.trans ?level, fun mode quiet => runs.trans ?restarts,
    fun alive low => runs.trans ?rises, fun alive high noHold => runs.trans ?falls, fun alive high hold => runs.trans ?ends,
    fun m v hm => if_pos ⟨hm, up⟩, runs, fun n low high => if_pos ⟨low, high, up⟩⟩
  case low => rw [if_pos pulses, State.pulseEnd_of_noLevel noLevel]
  case level => rw [if_pos pulses, State.pulseEnd_of_level level hu]
  case restarts => rw [State.tocsinRestart_of_alive mode quiet]
  case rises => rw [if_pos alive, if_neg (Bool.eq_false_iff.1 low)]
  case falls => exact (if_pos alive).trans <| (if_pos high).trans <| if_neg (Bool.eq_false_iff.1 noHold)
  case ends => exact (if_pos alive).trans <| (if_pos high).trans <| if_pos hold

end Sys2Proof.Machine

/-! Carillon's records and freezes, and the performance counters' clears and window (R340 to R345, R349, R353; log entries 10, 28
and 191). -/

namespace Sys2Proof.Machine
open Sys2Proof

/-! ### Freezes and latches (R343, R345) -/

/-- A write of 1 with no new time freezes. -/
theorem State.freezeWrite_one (s : State) : s.freezeWrite 1 = (s.on Fld.EVR.CTRL.FREEZE).on Fld.EVR.STATUS.FROZEN := rfl

/-- A write of 0 releases what is held. -/
theorem State.freezeWrite_zero {s : State} (frozen : s.flag Fld.EVR.CTRL.FREEZE = true) : s.freezeWrite 0 = s.unfreeze := if_pos frozen

theorem State.recordLatch_of_record {s : State} {n : Nat} {r : CarRec} (slot : n < 65536) (found : tget s.nv.carillon n = some r) :
    s.recordLatch n = (s.setN Reg.EVR.RSEL n).putRdata (carBytes r) := by
  simp only [State.recordLatch, Nat.mod_eq_of_lt slot, found]

/-- Settles O44: each row finds the freeze, the record or the window as its clause names it. -/
theorem carillonAndCounters : Obligations.CarillonAndCounters := by
  unfold Obligations.CarillonAndCounters
  intro s up
  have runs {o : Host.Outcome State Fault Refusal} : (if ¬ s.aon.coreUp then .next s else o) = o := coreGuard_of_coreUp up
  refine ⟨fun ready free => runs.trans ?writes, runs.trans ?freezes, fun frozen => ⟨runs.trans ?releases, runs.trans (if_pos frozen)⟩,
    fun p => runs, fun tag => runs, fun n r slot found => runs.trans ?latches, runs, runs, fun fresh => runs.trans (if_pos fresh),
    fun running => runs.trans (if_neg (Bool.eq_false_iff.1 running))⟩
  case writes =>
    have sound (t : State) : ¬(false = true ∧ t.regN Reg.EVR.NEXT_SEQ ≠ s.regN Reg.EVR.NEXT_SEQ) := fun h => Bool.false_ne_true h.1
    exact (if_pos ⟨ready, Bool.eq_false_iff.1 free⟩).trans (congrArg Host.Outcome.next (if_neg (sound _)))
  case freezes => rw [State.freezeWrite_one]
  case releases => rw [State.freezeWrite_zero frozen]
  case latches => rw [State.recordLatch_of_record slot found]

end Sys2Proof.Machine

/-! DRAM errors, the patrol, refresh, and management's sideband transfers (R397 to R401, R419; log entries 113 and 114). -/

namespace Sys2Proof.Machine
open Sys2Proof

theorem mem_addNewZ_self (l : List (Nat × Nat)) (e : Nat × Nat) : e ∈ addNewZ l e := by
  by_cases held : e ∈ l
  · rw [addNewZ, if_pos held]
    exact held
  · simp [addNewZ, held]

/-- The command that needs a page waits for it (R398). -/
theorem State.pageHeld_pageNeeded {s : State} {t : Nat} {c : Cmd} (found : s.cmd? t = some c) (page : Nat) :
    (s.pageNeeded t (some page)).pageHeld c = true := by
  have waits : (s.pageNeeded t (some page)).acc.pageWait = addNewZ s.acc.pageWait (c.order, page) := by
    simp only [State.pageNeeded, found, State.modAcc]
  rw [State.pageHeld, waits, List.any_eq_true]
  exact ⟨_, mem_addNewZ_self _ _, beq_self_eq_true _⟩

/-- Settles O45: with DRAM trained and a channel of the part every error and pass is taken; the requester of an uncorrectable one
decides what follows. -/
theorem dramAndSideband : Obligations.DramAndSideband := by
  unfold Obligations.DramAndSideband
  intro s ch up trained channel
  have runs {o : Host.Outcome State Fault Refusal} : (if ¬ s.aon.coreUp then .next s else o) = o := coreGuard_of_coreUp up
  have acts {p : Prop} [Decidable p] {t : State} (met : p) : (if ¬ s.aon.coreUp then .next s else .next (if p then t else s) :
      Host.Outcome State Fault Refusal) = .next t := rowGuard_of_met up met
  have taken : ¬(2 ≤ ch ∨ ¬s.flag Fld.DDC.STATUS.TRAINED) := not_or.2 ⟨Nat.not_le.2 channel, not_not_intro trained⟩
  refine ⟨fun addr devs => runs.trans (congrArg Host.Outcome.next (if_neg taken)), fun addr devs r engine => runs.trans ?engine,
    fun addr devs r table => runs.trans ?table, fun t page c found => State.pageHeld_pageNeeded found page, fun page => runs,
    fun patrols => runs.trans ?passes, fun temp hot => acts ⟨channel, hot⟩, fun temp cool => acts ⟨channel, cool⟩,
    fun k hk => congrArg Host.Outcome.next (if_pos ⟨hk, up⟩), fun k x r bs found code => runs.trans ?ends⟩
  case engine => exact congrArg Host.Outcome.next ((if_neg taken).trans (if_pos engine))
  case table => exact congrArg Host.Outcome.next ((if_neg taken).trans (if_neg (Nat.not_lt.2 table)))
  case passes =>
    have due : ¬(2 ≤ ch ∨ s.get (Fld.DDC_C.PATROL_CFG.HOURS ch) = 0 ∨ ¬s.flag Fld.DDC.STATUS.TRAINED) :=
      not_or.2 ⟨Nat.not_le.2 channel, not_or.2 ⟨patrols, not_not_intro trained⟩⟩
    exact congrArg Host.Outcome.next (if_neg due)
  case ends => simp only [found, if_pos code]

end Sys2Proof.Machine
